-- ==== Sys2Proof/Parts/Arch.lean ====
section
/-! DEFINITION. Module architecture (chapter 1): interconnect, placement, merge point. State as plain data; spec/01_architecture.md.
Each field says the rules and objects that name it; its width; its reset value (spec: stated; DC: a design choice of
log entry 1; NV: kept in nonvolatile memory). -/

namespace Sys2Proof.Machine

/-- One result as the merge point accepted it (R30). -/
structure Merged where
  /-- R30; U32; spec 0 results. Placement generation under which the task ran. -/
  gen : Nat
  /-- R30; U64; -. Epoch the result belongs to. -/
  epoch : Nat
  /-- R30; -; -. The result's value, as handed to the merge point. -/
  value : Int
  deriving DecidableEq, Repr

/-- Module architecture (chapter 1): interconnect, placement, merge point, memory tests. -/
structure Arch where
  /-- R27, R32, 0x2000.01-08; 8 flags; spec 0 ACTIVE. Almond cores LOST, held in reset. -/
  lost : List Nat := []
  /-- R28, R32, 0x2001.00; U32; spec 1. Placement generation. -/
  gen : Nat := 1
  /-- R26, R32, 0x2002.01-08; 8 core indexes; spec i hosts Pi. Partition hosts. -/
  host : List Nat := [0, 1, 2, 3, 4, 5, 6, 7]
  /-- R26, R32, 0x2002.09; core index; spec 7. Dispatch host. -/
  dispatchHost : Nat := 7
  /-- R31; 8 flags; spec none. Partitions whose step restarted on a new host this slow epoch. -/
  restarted : List Nat := []
  /-- R30, R31; 9 results; DC. Accepted result per partition 0-7 and dispatch 8. -/
  accepted : List (Nat × Merged) := []
  /-- R30, R32, 0x2003.00; U32; spec 0. Stale results discarded, saturating. -/
  stale : Nat := 0
  /-- R25, R32, 0x2006.01-05; U32 each; spec 0. Regulator holds, class 1-5, saturating. -/
  holds : List (Nat × Nat) := []
  /-- R25; U32 each; spec 0. Requests held, per master index. -/
  masterHolds : List (Nat × Nat) := []
  /-- R22, R24; grant times per class; spec empty. Last two grant times of class 1-4, newest first, ns. -/
  grants : List (Nat × List Nat) := []
  /-- R21; U64 ns; spec idle. End of the transaction granted last: none is granted before it. -/
  busyTo : Nat := 0
  /-- R21; beats per master; spec none. What a master's transfer has left for its further transactions. -/
  left : List (Nat × Nat) := []
  /-- R25, R32, 0x2007.01-05; U32 ns each; spec 0. Worst observed blocking, class 1-5. -/
  worst : List (Nat × Nat) := []
  /-- R25, R33, 0x2008.00; 5 bits; spec 0. BOUND_CLASS bits. -/
  boundClass : List Nat := []
  /-- R29; 1 bit; spec 0. Re-entry to DISPATCH, BUS_FORM, MAINTAIN is refused until processor-domain reset (model rate was 0). -/
  rateBlocked : Bool := false
  deriving DecidableEq, Repr

end Sys2Proof.Machine
end

