-- ==== Sys2Proof/Parts/Bal.lean ====
section
/-! DEFINITION. Cell balancing (chapter 7). State as plain data; spec/07_balancing.md.
Each field says the rules and objects that name it; its width; its reset value (spec: stated; DC: a design choice of
log entry 1; NV: kept in nonvolatile memory). -/

namespace Sys2Proof.Machine

/-- Cell balancing (chapter 7). -/
structure Bal where
  /-- R167, 0x2500.02; 27 x BITS16; spec 0. Masks in force, by pod address. -/
  masks : List (Nat × Nat) := []
  /-- R167; 27 x BITS16; spec 0. Masks of the last decision, before exclusions. -/
  decided : List (Nat × Nat) := []
  /-- R169, R174; 1 bit; spec 0. DEFERRED: masks held during a bin window. -/
  deferred : Bool := false
  /-- R169; 27 x BITS16; DC. Masks held at the window start. -/
  held : List (Nat × Nat) := []
  /-- R172, R174; 1 bit; spec 0. FOLLOWING. -/
  following : Bool := false
  /-- R172; option masks; DC. Masks last received from the lead. -/
  leadMasks : List (Nat × Nat) := []
  /-- R165, 0x2500.03; U32 mAh; DC. Balance target of the last decision. -/
  target : Nat := 0
  /-- R165, 0x2502.00; S32 mAh per group; DC. Group excess of the last decision. -/
  excess : List (Nat × Int) := []
  /-- R173, 0x2502.01; uC per group; NV DC. Group bleed charge. -/
  bleed : List (Nat × Nat) := []
  /-- R166; groups; DC. Groups excluded at the last evaluation. -/
  excluded : List Nat := []
  /-- R166, R174; 1 bit; spec 0. POD_HOT. -/
  podHot : Bool := false
  /-- R166, R174; 1 bit; spec 0. BOUND_HIGH. -/
  boundHigh : Bool := false
  /-- R166, R174; 1 bit; spec 0. EXCLUDED. -/
  exclFlag : Bool := false
  /-- R174; 1 bit; spec 0. WDT_SEEN. -/
  wdtSeen : Bool := false
  /-- R170; 1 bit; spec 0. Masks have become 0: a BLEED is due in the first non-sweep window. -/
  zeroDue : Bool := false
  /-- R173, 0x2503.01; U32; spec 0. Decisions, saturating. -/
  nDecisions : Nat := 0
  /-- R169, 0x2503.02; U32; spec 0. Masks deferred, saturating. -/
  nDeferred : Nat := 0
  /-- R166, 0x2503.03; U32; spec 0. Group exclusions, saturating. -/
  nExcl : Nat := 0
  deriving DecidableEq, Repr

end Sys2Proof.Machine
end

