-- ==== Sys2Proof/Parts/Can.lean ====
section
/-! DEFINITION. CAN FD channels (chapter 19). State as plain data; spec/19_can_fd.md.
Each field says the rules and objects that name it; its width; its reset value (spec: stated; DC: a design choice of
log entry 1; NV: kept in nonvolatile memory). -/

namespace Sys2Proof.Machine

/-- A CAN frame, as received or sent (R436). -/
structure CanFrame where
  /-- R436; 29 bits; -. Identifier. -/
  id : Nat
  /-- R431; 1 bit; -. IDE. -/
  ide : Bool
  /-- R436; 1 bit; -. FDF. -/
  fdf : Bool
  /-- R436; 1 bit; -. BRS. -/
  brs : Bool
  /-- R436; 1 bit; -. ESI. -/
  esi : Bool
  /-- R436; 1 bit; -. RTR. -/
  rtr : Bool
  /-- R436; 0-15; -. DLC. -/
  dlc : Nat
  /-- R436; up to 64 bytes; -. Data. -/
  data : List Nat
  /-- R436; U64 ns; -. Time stamp of the SOF edge. -/
  time : Nat
  /-- R437; 1 bit; -. Sent by this module. -/
  own : Bool
  deriving DecidableEq, Repr

/-- How an attempt to send a frame ends (R434, R438 to R440). -/
inductive TxOutcome where
  /-- Acknowledged; the loop delay measured on it, in ns. -/
  | sent (loop : Nat)
  /-- No acknowledgement; whether a dominant bit was seen during a passive error flag. -/
  | noAck (dominant : Bool)
  /-- A bit error outside arbitration (R440). -/
  | bitError
  /-- Arbitration lost. -/
  | lost
  /-- Another error. -/
  | error
  deriving DecidableEq, Repr

/-- Buffer and status of a message object (R433, R437, R442). -/
structure CanObj where
  /-- R442, 0x3011; up to 64 bytes; spec 0. Data buffer. -/
  data : List Nat := []
  /-- R442, 0x3012; U64; spec 0. Time of the last frame. -/
  time : Nat := 0
  /-- R442, 0x3012; U32; spec 0. Frame count. -/
  count : Nat := 0
  /-- R442, 0x3012; U8; spec 0. DLC of the last frame. -/
  dlc : Nat := 0
  /-- R437; 1 bit; DC. The last frame was a remote frame. -/
  rtr : Bool := false
  /-- R433; 1 bit; spec 0. PENDING. -/
  pending : Bool := false
  /-- R440; 1 bit; spec 0. SUSPENDED. -/
  suspended : Bool := false
  /-- R440, 0x3012; U8; spec 0. Bit errors outside arbitration since the last success. -/
  bitErr : Nat := 0
  /-- R433; up to 64 bytes; DC. Data of the pending frame (SOURCE MAP and MODULE). -/
  next : List Nat := []
  /-- R419, R433; up to 64 bytes; DC. Bytes of the mapped object in the last capture (SOURCE MAP). -/
  mapped : List Nat := []
  /-- R434; count; DC. Attempts of the pending frame. -/
  attempts : Nat := 0
  deriving DecidableEq, Repr

/-- One CAN channel (R428, R436, R438). -/
structure CanChan where
  /-- R428; ENUM8; spec STOPPED. Mode in force: 0 OFF, 1 NORMAL, 2 LISTEN_ONLY. -/
  mode : Nat := 0
  /-- R428, R443; 1 bit; spec 0. Integrated: 11 recessive bits seen. -/
  integrated : Bool := false
  /-- R438, 0x3006; 1 bit; spec 0. BUS_OFF. -/
  busOff : Bool := false
  /-- R438; U64 ns; DC. Time of bus-off. -/
  busOffAt : Nat := 0
  /-- R438, 0x3007; U16; spec 0. Transmit error counter. -/
  tec : Nat := 0
  /-- R438, 0x3007; U8; spec 0. Receive error counter. -/
  rec_ : Nat := 0
  /-- R439; count; spec 0. Consecutive acknowledge errors. -/
  ackRun : Nat := 0
  /-- R439, R443; 1 bit; spec 0. ALONE. -/
  alone : Bool := false
  /-- R436; 256 frames; spec empty. Receive queue, oldest first. -/
  queue : List CanFrame := []
  /-- R436, R443; option U64 ns; spec none. QUEUE_OVERFLOW: time of the last drop. -/
  overflow : Option Nat := none
  /-- R430, 0x3007.03; U16 ns; spec 0. Measured loop delay. -/
  loop : Nat := 0
  /-- R442, 0x3008; 8 x U32; spec 0. Counters: received, sent, drops, unmatched, ack errors, bus-offs, abandoned, overruns. -/
  cnt : List Nat := [0, 0, 0, 0, 0, 0, 0, 0]
  deriving DecidableEq, Repr

/-- CAN FD channels (chapter 19). -/
structure Can where
  /-- R428; 2 channels; spec STOPPED. CAN1, CAN2. -/
  chans : List CanChan := [{}, {}]
  /-- R431; 128 objects; spec empty buffers. Message objects, by number. -/
  objs : List (Nat × CanObj) := []
  /-- R428, R435; 2 bits; spec 0. A change of mode or bit timing restarts the channel at the next boundary. -/
  restart : List Bool := [false, false]
  deriving DecidableEq, Repr

end Sys2Proof.Machine
end

