-- ==== Sys2Proof/Parts/Chain.lean ====
section
/-! DEFINITION. The cell chain and alarm loop (chapter 3). State as plain data; spec/03_cell_chain.md.
Each field says the rules and objects that name it; its width; its reset value (spec: stated; DC: a design choice of
log entry 1; NV: kept in nonvolatile memory). -/

namespace Sys2Proof.Machine

/-- The payload of a DATA reply (R69), decoded. -/
structure PodReply where
  /-- R69; BITS16; -. POD_STATUS. -/
  status : Nat
  /-- R69; U16; -. SAMPLE_ID. -/
  sampleId : Nat
  /-- R69; 16 x S24 10 uV; -. Fine-path group voltages. -/
  fine : List Int
  /-- R69; 16 x 10 bit, 5 mV; -. Coarse readings. -/
  coarse : List Nat
  /-- R69; 3 x S16 0.01 C; -. NTC temperatures. -/
  ntc : List Int
  /-- R69; BITS16; -. BLEED_STATE. -/
  bleed : Nat
  /-- R69; BITS16; -. CMP_FLAGS. -/
  cmp : Nat
  /-- R69; U8; -. OW_WIRE. -/
  owWire : Nat
  /-- R69; U8; -. FILTER. -/
  filter : Nat
  /-- R69; S16 mV; -. OW_DELTA_LO. -/
  owLo : Int
  /-- R69; S16 mV; -. OW_DELTA_HI. -/
  owHi : Int
  /-- R69; U16 mV; -. LIMIT_OV. -/
  limitOv : Nat
  /-- R69; U16 mV; -. LIMIT_UV. -/
  limitUv : Nat
  /-- R69; U16 10 ms; -. WDT_TIMEOUT. -/
  wdt : Nat
  /-- R69; U32; -. CONFIG_CRC. -/
  configCrc : Nat
  deriving DecidableEq, Repr

/-- One pod's place in a sweep: a reply, or an absence record (R75). -/
structure SweepPod where
  /-- R75, R97; 1 bit; -. MISSING: the entry is an absence record. -/
  missing : Bool
  /-- R67; 1 or 2; -. Chain port whose copy is kept. -/
  port : Nat
  /-- R69; reply; -. The readings. -/
  data : PodReply
  deriving DecidableEq, Repr

/-- Open-wire test state of one pod (R83). -/
structure OwState where
  /-- R83; option 0-16; DC none. confirm_pending. -/
  confirm : Option Nat := none
  /-- R83; 1 bit; DC 0. named: the retest has been named in a SAMPLE. -/
  named : Bool := false
  /-- R83; FIFO of wires; DC empty. retest_queue. -/
  queue : List Nat := []
  /-- R82; 0-16; DC. Next wire of the rotation. -/
  next : Nat := 0
  /-- R83; count per wire; DC. pass_count. -/
  passes : List (Nat × Nat) := []
  /-- R83, R84; set of wires; DC none. wire_open. -/
  opened : List Nat := []
  /-- R57 C4; set of wires; DC none. Wires whose test result has come in since commissioning step C4 began. -/
  tested : List Nat := []
  deriving DecidableEq, Repr

/-- What one pod holds of what the module sent it (R68, R76, R81, R94). -/
structure PodUnit where
  /-- R69, R81; 1 bit; spec unconfigured at pod power-up. Configured since pod power-up. -/
  configured : Bool := false
  /-- R77; code; DC. Filter code in force. -/
  filter : Nat := 0
  /-- R81; mV; spec 4,350. LIMIT_OV in force. -/
  limitOv : Nat := 4350
  /-- R81; mV; spec 2,300. LIMIT_UV in force. -/
  limitUv : Nat := 2300
  /-- R94; 10 ms; spec 200. Watchdog timeout in force. -/
  wdt : Nat := 200
  /-- R94; U64 ns; DC. Time of the last valid frame for it. -/
  lastFrame : Nat := 0
  /-- R94; 1 bit; spec 1 expired at pod power-up. Watchdog expired state. -/
  expired : Bool := true
  /-- R76; BITS16; DC. Masks received, to apply 1 ms after the next latch. -/
  waiting : Nat := 0
  /-- R76, R94; BITS16; DC. Masks that bleed. -/
  masks : Nat := 0
  /-- R68; option U16; DC. SAMPLE_ID last latched. -/
  latched : Option Nat := none
  /-- R67; 1 bit; spec 0 at pod power-up. Holds an address (ASSIGN, until RESET_ADDR or its own power-up). -/
  addressed : Bool := false
  deriving DecidableEq, Repr

/-- Runs of the plausibility rule for one group (R78). -/
structure Plaus where
  /-- R78; count; DC 0. Consecutive compared sweeps above 25 mV. -/
  bad : Nat := 0
  /-- R78; count; DC 0. Consecutive compared sweeps at or below 20 mV. -/
  good : Nat := 0
  /-- R78; 1 bit; spec 0. PLAUSIBILITY. -/
  set : Bool := false
  deriving DecidableEq, Repr

/-- The cell chain (chapter 3). -/
structure Chain where
  /-- R70, R95, 0x2102; 2-27 x U64; DC. Pod serials by address, 0 where none answers. -/
  serials : List Nat := []
  /-- R70; set of addresses; DC. Addresses answered from the master's end at enumeration. -/
  nearCount : Nat := 0
  /-- R71, 0x2103; U16 ns each; DC. Forward delays c_k. -/
  fwd : List Nat := []
  /-- R71, 0x2104; U16 ns each; DC. Reverse delays c'_k. -/
  rev : List Nat := []
  /-- R70; 1 bit; DC. Closure seen at enumeration. -/
  closure : Bool := false
  /-- R71; address; DC. Pod whose delay is remeasured next. -/
  delayNext : Nat := 1
  /-- R71; option U64 ns; DC. Time of the last remeasurement of a delay. -/
  echoAt : Option Nat := none
  /-- R70, R59; 1 bit; DC. The check of the pod list from the far end agreed at enumeration. -/
  checkOk : Bool := false
  /-- R65; U8; DC. SEQ of CQ1. -/
  seq1 : Nat := 0
  /-- R65; U8; DC. SEQ of CQ2. -/
  seq2 : Nat := 0
  /-- R68, R75; U64; DC. Slow epoch of the sweep in progress. -/
  epoch : Nat := 0
  /-- R73; 1 bit; DC. A sweep is in progress (SAMPLE sent, not closed). -/
  inSweep : Bool := false
  /-- R69, R16; reply per address; DC. Replies of the sweep in progress, in both memories. -/
  cur : List (Nat × SweepPod) := []
  /-- R75; count per address; DC. READ_ONE attempts of the sweep in progress. -/
  tries : List (Nat × Nat) := []
  /-- R16, R95; reply per address; DC. Last complete or closed sweep in shared SRAM. -/
  shared : List (Nat × SweepPod) := []
  /-- R16, R73; 1 bit; DC. The sweep in progress is complete: every reply is in both memories. -/
  delivered : Bool := false
  /-- R16; reply per address; DC. Last complete sweep in Walnut's memory. -/
  walnut : List (Nat × SweepPod) := []
  /-- R16; U64; DC. Slow epoch of the last complete sweep, in shared SRAM and in Walnut's memory. -/
  walnutEpoch : Nat := 0
  /-- R318; option U64; DC. Slow epoch of the sweep Walnut last evaluated. -/
  evaluated : Option Nat := none
  /-- R95, 0x2107.01; U64; DC. Last sweep epoch closed. -/
  lastEpoch : Nat := 0
  /-- R79; reply per address; DC. Last valid reply of each pod. -/
  lastGood : List (Nat × PodReply) := []
  /-- R80; count per address; DC. Consecutive sweeps in which the pod was MISSING. -/
  missRun : List (Nat × Nat) := []
  /-- R70, R80; set of addresses; DC. Pods that CHAIN_MISMATCH reports missing from both ends. -/
  absent : List Nat := []
  /-- R78; per group; spec 0. Plausibility as Almond evaluates it (group flags). -/
  plausA : List (Nat × Plaus) := []
  /-- R78; per group; spec 0. Plausibility as Walnut evaluates it. -/
  plausW : List (Nat × Plaus) := []
  /-- R83; per pod; DC. Open-wire test state. -/
  ow : List (Nat × OwState) := []
  /-- R82, R83; wire per address; DC. Wires that the sample of the sweep in progress names. -/
  wires : List (Nat × Nat) := []
  /-- R67, R83; per pod; DC. Open-wire test state before the reply of the sweep in progress was judged. -/
  owBefore : List (Nat × OwState) := []
  /-- R81; set of addresses; spec none. Pods whose configuration the CQs rewrite in the next non-sweep window. -/
  reconfig : List Nat := []
  /-- R81, R513; set of addresses; spec none. Pods whose last reply echoed other limits than the profile's. -/
  echoBad : List Nat := []
  /-- R77, R94; 1 bit; DC. A CONFIG to all pods is due (filter code or timeout changed). -/
  configDue : Bool := false
  /-- R68, R76, R94; per address; spec as R94 power-up. What the pods hold. -/
  pods : List (Nat × PodUnit) := []
  /-- R87, R95, 0x2107.03; option 0-27; spec none (0xFF). Break segment while a break is located. -/
  brk : Option Nat := none
  /-- R87, R96; 1 bit; spec 0. MULTIPLE_BREAK. -/
  multiple : Bool := false
  /-- R87, 0x2107.02; U16 us; spec 0. Reverse skew of the last PARTIAL_REVERSED sweep. -/
  skew : Nat := 0
  /-- R87; 1 bit; DC. A pod latched on a reverse SAMPLE in the sweep in progress. -/
  reversedCur : Bool := false
  /-- R87, R96; 1 bit; spec 0. Last closed sweep PARTIAL_REVERSED. -/
  reversed : Bool := false
  /-- R75, R96; 1 bit; spec 0. Last closed sweep INCOMPLETE. -/
  incomplete : Bool := false
  /-- R85, R96; 1 bit; spec 0. CLOSED: SAMPLE reached the far end in the last sweep. -/
  closed : Bool := false
  /-- R85; option U64; DC. Slow epoch of the last reverse SAMPLE. -/
  reverseEpoch : Option Nat := none
  /-- R88; 1 bit; DC. Reverse traffic runs. -/
  reverseOn : Bool := false
  /-- R90, R96; 1 bit; spec 0. TAKEN_OVER: module B is line master. -/
  takenOver : Bool := false
  /-- R90; option U64; DC. Slow epoch of the last SAMPLE that this module sent or that reached it. -/
  sampleSeen : Option Nat := none
  /-- R90; count; DC. Consecutive slow epochs in which no SAMPLE from A reached this module. -/
  noSample : Nat := 0
  /-- R92, R96; 1 bit; spec 0. LOOP_SOURCE. -/
  loopSource : Bool := false
  /-- R92; 1 bit; DC. The role was fixed at step 2 (Foxglove domain). -/
  loopSet : Bool := false
  /-- R93, R96; 1 bit; spec 0. LOOP_BROKEN. -/
  loopBroken : Bool := false
  /-- R95, 0x2110.01; U32; spec 0. Frames discarded CH1, saturating. -/
  disc1 : Nat := 0
  /-- R95, 0x2110.02; U32; spec 0. Frames discarded CH2, saturating. -/
  disc2 : Nat := 0
  /-- R95, 0x2110.03; U32; spec 0. READ_ONE retries, saturating. -/
  nRetry : Nat := 0
  /-- R95, 0x2110.04; U32; spec 0. Absence records, saturating. -/
  nAbsence : Nat := 0
  /-- R95, 0x2110.05; U32; spec 0. Reverse SAMPLEs, saturating. -/
  nReverse : Nat := 0
  /-- R95, 0x2110.06; U32; spec 0. Copy mismatches, saturating. -/
  nMismatch : Nat := 0
  /-- R95, 0x2110.07; U32; spec 0. Open-wire declarations, saturating. -/
  nOpen : Nat := 0
  deriving DecidableEq, Repr

end Sys2Proof.Machine
end

