-- ==== Sys2Proof/Parts/Clk.lean ====
section
/-! DEFINITION. Clocks, resets and supply (chapter 21). State as plain data; spec/21_clocks_reset_power.md.
Each field says the rules and objects that name it; its width; its reset value (spec: stated; DC: a design choice of
log entry 1; NV: kept in nonvolatile memory). -/

namespace Sys2Proof.Machine

/-- The reset cause codes of R467. -/
inductive RCause where
  | powerOn | resetButton | resetN | stuckRelease | watchdog | clockFail | activation | request
  deriving DecidableEq, Repr

/-- Clocks, resets and supply (chapter 21); the Foxglove-domain part keeps over a processor-domain reset. -/
structure Clk where
  /-- R14, R54 step 3, R467; 1 bit; spec 0 at power-on reset release. The processor domain runs. -/
  procRunning : Bool := false
  /-- R475; 1 bit; spec 1 at release. The module is powered (no power-on reset asserted). -/
  powered : Bool := true
  /-- R54, R103; 1 bit; spec 1 at release. The processor domain has not run since power-on. -/
  firstBoot : Bool := true
  /-- R477, 0x3201.00; ENUM8; spec 0 POWER_ON. Last reset cause. -/
  lastCause : RCause := .powerOn
  /-- R477, 0x3201.01; U32; NV DC. Processor-domain resets, saturating. -/
  resets : Nat := 0
  /-- R467, 0x3201.02; 1 bit; spec 0. A reset request stands. -/
  resetReq : Bool := false
  /-- R466, R478; 1 bit; DC. PLL_LOCKED. -/
  pllLocked : Bool := false
  /-- R466; 1 bit; spec 0. CLOCK_FAIL holds the processor domain in reset. -/
  clockFail : Bool := false
  /-- R466, R478; 1 bit; spec 0. FOXGLOVE_RC. -/
  foxRc : Bool := false
  /-- R469; 2 inputs; DC. Reset inputs pressed: option time of the press, front button. -/
  button : Option Nat := none
  /-- R469; option U64 ns; DC. Time of the press of RESET_N. -/
  resetN : Option Nat := none
  /-- R469 step 2, R471; 2 bits; spec 0. The button, RESET_N hold the processor domain in reset. -/
  buttonHeld : Bool := false
  /-- R469 step 2; 1 bit; spec 0. RESET_N holds the processor domain in reset. -/
  resetNHeld : Bool := false
  /-- R470, R478; 1 bit; spec 0. RESET_STUCK. -/
  buttonStuck : Bool := false
  /-- R470, R478; 1 bit; spec 0. RESET_N_STUCK. -/
  resetNStuck : Bool := false
  /-- R470; option U64 ns; DC. Time from which the stuck button has been seen open. -/
  buttonOpen : Option Nat := none
  /-- R470; option U64 ns; DC. Time from which the stuck RESET_N has been seen high. -/
  resetNOpen : Option Nat := none
  /-- R471; option; spec none. Qualified presses deferred by the brown-out warning: input (0 button,
  1 RESET_N) and time. -/
  deferred : List (Nat × Nat) := []
  /-- R470; count; spec 0. Inputs classified stuck and not yet counted: the next BOOT counts them. -/
  stuckNew : Nat := 0
  /-- R48, R458; 1 bit; DC. Foxglove notes that the last reset came from a qualifying press. -/
  qualifying : Bool := false
  /-- R48, R49, 0x2016.00; option U64 ns; spec none. Lockout-clear arm: time of the write. -/
  arm : Option Nat := none
  /-- R458; option U64 ns; spec none. Bootstrap window after a qualifying press: its start. -/
  bootstrap : Option Nat := none
  /-- R472, R473, R478; 1 bit; spec 0. BROWNOUT_WARNING. -/
  warning : Bool := false
  /-- R474; U64 ns; DC. Time of the brown-out warning. -/
  warnAt : Nat := 0
  /-- R474; 10 mV; DC. Lowest supply during the dip. -/
  dipLow : Nat := 0
  /-- R473; 1 bit; spec 0. The converter cap is in force (CURRENT_CAPPED). -/
  capped : Bool := false
  /-- R473; mA; DC. |i_ref| at the warning. -/
  capRef : Rat := 0
  /-- R473; mA; DC. Envelope lo at the warning. -/
  capLo : Rat := 0
  /-- R473; mA; DC. Envelope hi at the warning. -/
  capHi : Rat := 0
  /-- R472, R478; 1 bit; spec 0. SUPPLY_HIGH. -/
  supplyHigh : Bool := false
  /-- R477, 0x3200.01; U16 10 mV; DC. Auxiliary supply, mean over the last fast epoch. -/
  supply : Nat := 0
  /-- R477, 0x3200.02; U16 10 mV; DC. Lowest supply since processor-domain reset. -/
  supplyLow : Nat := 0
  /-- R477, 0x3200.03; U16 10 mW; DC. Input power at J1, coil supply excluded. -/
  inPower : Nat := 0
  /-- R464, R477; 0.01 %; spec 0. Spread depth in force (SPREADING when above 0). -/
  spread : Nat := 0
  /-- R477, 0x3203.01; U32; NV DC. Supply dips, saturating. -/
  nDips : Nat := 0
  /-- R470, 0x3203.02; U32; NV DC. Stuck reset inputs, saturating. -/
  nStuck : Nat := 0
  /-- R477, 0x3203.03; U32; NV DC. Watchdog resets, saturating. -/
  nWatchdog : Nat := 0
  /-- R466, 0x3203.04; U32; NV DC. Clock failures, saturating. -/
  nClock : Nat := 0
  deriving DecidableEq, Repr

end Sys2Proof.Machine
end

