-- ==== Sys2Proof/Parts/Conv.lean ====
section
/-! DEFINITION. Converter control loops (chapter 9). State as plain data; spec/09_converter_control.md.
Each field says the rules and objects that name it; its width; its reset value (spec: stated; DC: a design choice of
log entry 1; NV: kept in nonvolatile memory). -/

namespace Sys2Proof.Machine

/-- Outer loop modes of R204. -/
inductive LoopMode where
  | none | current | power | voltage | precharge
  deriving DecidableEq, Repr

/-- Causes of a target, which fix the slew rate (R209). -/
inductive SlewCause where
  | reference | stop | voltage
  deriving DecidableEq, Repr

/-- Precharge stages of R216 with the contactor steps between them (R337). -/
inductive PreStage where
  | none | kNeg | p1 | kPre | p2 | kPos | kPosHold | kPreDrop
  deriving DecidableEq, Repr

/-- Converter control loops (chapter 9). Currents in mA, voltages in 10 mV, as exact rationals. -/
structure Conv where
  /-- R204, 0x2700.01; ENUM8; spec 0 NONE. Outer loop mode. -/
  loop : LoopMode := .none
  /-- R204, 0x2700.04; S32 mA; spec 0. Target. -/
  target : Rat := 0
  /-- R209; cause; DC. Cause of the target. -/
  cause : SlewCause := .reference
  /-- R205, 0x2700.03; S32 mA; spec 0. r_cmd. -/
  rCmd : Rat := 0
  /-- R205, 0x2700.02; S32 mA; spec 0. i_ref of the last outer period. -/
  iRef : Rat := 0
  /-- R205, 0x2700.06; S32 mA; spec 0. hi. -/
  hi : Rat := 0
  /-- R205, 0x2700.07; S32 mA; spec 0. lo. -/
  lo : Rat := 0
  /-- R205, 0x2700.08; U32 mA; spec 0. cap. -/
  cap : Rat := 0
  /-- R205, 0x2700.09; U8; spec 0. n_act. -/
  nAct : Nat := 0
  /-- R208; 12 bits; DC none. Phases counted in n_act in the last outer period. -/
  active : List Nat := []
  /-- R208; 12 x ENUM8; DC ABSENT. Phase states of the partner as last received. -/
  pPhases : List Nat := [0, 0, 0, 0, 0, 0, 0, 0, 0, 0, 0, 0]
  /-- R205; mA; spec cleared at RUN. Outer integrator integ. -/
  integ : Rat := 0
  /-- R205; mA; spec 0. i_ph_ref. -/
  iPhRef : Rat := 0
  /-- R205, R302; mA; DC. What i_ph_ref shares out: the string current asked for, in PRECHARGE the sum over the phases. -/
  need : Rat := 0
  /-- R205, R307; U8; DC. Number of the last outer period in its fast epoch. -/
  outerK : Nat := 0
  /-- R205; -; DC. Weight w of the last outer period. -/
  w : Rat := 1
  /-- R206, R224; 1 bit; spec 0. INTEGRATOR_FROZEN. -/
  frozen : Bool := false
  /-- R206, R302; 1 bit; DC. A takeover freezes the outer integrator for the next outer period. -/
  actChange : Bool := false
  /-- R224; 1 bit; spec 0. CAPACITY_LIMITED. -/
  capLimited : Bool := false
  /-- R224; 1 bit; spec 0. LIMITED. -/
  limited : Bool := false
  /-- R210, R224; option mA; spec none. SOFT_START: the ceiling on |i_ref|. -/
  ceiling : Option Rat := none
  /-- R210; option U64 ns; spec none. End of the start delay: the phases enter RUN after it. -/
  startAt : Option Nat := none
  /-- R211, R224; 1 bit; spec 0. SOFT_STOP. -/
  softStop : Bool := false
  /-- R211; U64 ns; DC. Start of the soft stop, for the stop delay. -/
  stopAt : Nat := 0
  /-- R212, 0x2700.05; U32 10 mV; spec 0. Bus voltage set-point in force. -/
  vSet : Rat := 0
  /-- R212; W; DC. Integrator of the voltage loop. -/
  vInteg : Rat := 0
  /-- R213; 10 mV; DC. Dip reference held by the isolated section. -/
  dipRef : Rat := 0
  /-- R213; sums; DC. Bus voltage means of the last 100 fast epochs, newest first. -/
  busMeans : List Nat := []
  /-- R213; 2 x; DC. Slope and deviation threshold written to the isolated section. -/
  dipTh : Nat × Nat := (0, 0)
  /-- R215, R224; 1 bit; spec 0. DIP_ACTIVE: the floor is in force. -/
  dipHold : Bool := false
  /-- R215; mA; DC. i_dip. -/
  iDip : Rat := 0
  /-- R215; 1 bit; DC. The floor is to be applied at the next outer period (integrator preload). -/
  dipEdge : Bool := false
  /-- R215; option fabric time in ns; spec none. Time at which BUS_DIP deasserted while the floor stands. -/
  dipOff : Option Nat := none
  /-- R214; option fabric time in ns; DC none. Time at which BUS_DIP last deasserted. -/
  dipFell : Option Nat := none
  /-- R214, R224; 1 bit; spec 0. DIP_BURST. -/
  burst : Bool := false
  /-- R214; option fabric time in ns; DC. Start of the last burst. -/
  burstAt : Option Nat := none
  /-- R216, R224; stage; spec none. Precharge stage and contactor step. -/
  stage : PreStage := .none
  /-- R216; 10 mV; DC. Link estimate. -/
  link : Rat := 0
  /-- R216; option U64 ns; DC. Time from which |I_s| <= done current has held. -/
  doneSince : Option Nat := none
  /-- R337; U64 ns; DC. Start of the present contactor step. -/
  stepAt : Nat := 0
  /-- R217, R224; 1 bit; spec 0. DEAD_BUS_PRECHARGE. -/
  deadBus : Bool := false
  /-- R218, R224; 1 bit; spec 0. RESTART_PENDING. -/
  restart : Bool := false
  /-- R218; 1 bit; spec 0. The restart has been ordered: PQ requests the rearm. -/
  rearmOrdered : Bool := false
  /-- R209, R218; 1 bit; DC. The soft start under way keeps r_cmd. -/
  keepCmd : Bool := false
  /-- R211; 1 bit; DC. The stop delay has run: r_cmd moves to 0 at the stop ramp. -/
  ramping : Bool := false
  /-- R222, R224; 1 bit; spec 0. SENSE_UNRESOLVED. -/
  unresolved : Bool := false
  /-- R222; U64 ns; DC. Start of the unresolved mismatch. -/
  unresAt : Nat := 0
  /-- R219, 0x270B.00; S32 mA; spec 0. Sense residual of the last evaluation. -/
  residual : Int := 0
  /-- R221; U64 ns; DC. Time of entry into STANDBY, for the re-enable of DISABLED phases. -/
  standbyAt : Nat := 0
  /-- R223, 0x270A.01; U32; spec 0. Phase disables, saturating. -/
  nDis : Nat := 0
  /-- R223, 0x270A.02; U32; spec 0. Dip responses, saturating. -/
  nDip : Nat := 0
  /-- R223, 0x270A.03; U32; spec 0. Fast-trip restarts, saturating. -/
  nRestart : Nat := 0
  /-- R222, 0x270A.04; U32; spec 0. Unresolved mismatches, saturating. -/
  nUnres : Nat := 0
  deriving DecidableEq, Repr

end Sys2Proof.Machine
end

