-- ==== Sys2Proof/Parts/Est.lean ====
section
/-! DEFINITION. State estimation (chapter 6). State as plain data; spec/06_estimation.md.
Each field says the rules and objects that name it; its width; its reset value (spec: stated; DC: a design choice of
log entry 1; NV: kept in nonvolatile memory). -/

namespace Sys2Proof.Machine

/-- A capacity anchor (R157). -/
structure Anchor where
  /-- R157; %; NV. Corrected state of charge. -/
  s : Rat
  /-- R157; uC; NV. Net charge counter (discharge positive, bleed charge included). -/
  net : Int
  /-- R157; U64 ns; NV. Time. -/
  time : Nat
  deriving DecidableEq, Repr

/-- The estimator's model of one group (R144, R146, R149, R150, R157). -/
structure GroupEst where
  /-- R144; %; NV DC. Internal estimate s_int. -/
  s : Rat := 0
  /-- R144; V; NV DC. Fast polarisation v1. -/
  v1 : Rat := 0
  /-- R144; V; NV DC. Slow polarisation v2. -/
  v2 : Rat := 0
  /-- R144; -1 to 1; NV DC. Hysteresis h. -/
  h : Rat := 0
  /-- R144, 0x2404.00; C; NV DC. Core temperature. -/
  tc : Rat := 0
  /-- R146; 4 x 4 covariance of s, v1, v2, h by rows; NV DC. Filter covariance. -/
  p : List Rat := []
  /-- R149; %; NV DC. Uncertainty bound u. -/
  u : Rat := 100
  /-- R150; %; NV DC. Reported value s_rep. -/
  sRep : Rat := 0
  /-- R157, 0x2402.00; uC; NV DC. Learned capacity. -/
  c : Rat := 0
  /-- R157; option; NV none. Capacity anchor held. -/
  anchor : Option Anchor := none
  /-- R157; uC; NV DC. Net charge counter. -/
  net : Int := 0
  /-- R31, R150; 1 bit; DC. The group's outputs keep their previous values, stale. -/
  stale : Bool := false
  deriving DecidableEq, Repr

/-- What the estimation lead publishes (R155). -/
structure LeadValues where
  /-- R156; U64; -. Slow epoch of the values. -/
  epoch : Nat
  /-- R155; %; -. Reported values per group. -/
  sRep : List (Nat × Rat)
  /-- R155; %; -. Reported bounds per group. -/
  uRep : List (Nat × Rat)
  /-- R155; %; -. Reported string value. -/
  str : Rat
  /-- R155; %; -. String bound. -/
  bound : Rat
  /-- R155; mA, W; -. Estimation limits: discharge and charge current, discharge and charge power. -/
  limits : Nat × Nat × Nat × Nat
  /-- R352; %; -. Cooling demand D. -/
  cooling : Rat
  deriving DecidableEq, Repr

/-- State estimation (chapter 6). -/
structure Est where
  /-- R515; 1 bit; NV DC. The estimator runs (initialised, or restored from the store). -/
  running : Bool := false
  /-- R515; 1 bit; DC. C5 has accepted the parameters: the next sweep initialises every present group. -/
  initDue : Bool := false
  /-- R144; per group; NV empty. Group models, key the group number. -/
  groups : List (Nat × GroupEst) := []
  /-- R146; nC; DC. Discharge charge used up to the last step. -/
  usedD : Nat := 0
  /-- R146; nC; DC. Charge charge used up to the last step. -/
  usedC : Nat := 0
  /-- R146, R103; nC; DC. Net charge counted before a section restart that no step has used yet. -/
  carry : Int := 0
  /-- R31, R146; per partition: nC, mA² x slow epochs, slow epochs; DC. Net charge, squared rms current times time, and time of
  the steps that a moved partition has missed, which its next step covers. -/
  behind : List (Nat × Int × Nat × Nat) := []
  /-- R146; U64; DC. Slow epoch of the last model step. -/
  lastStep : Nat := 0
  /-- R150; %; NV DC. Reported string value. -/
  strRep : Rat := 0
  /-- R150; %; NV DC. Internal string value. -/
  strInt : Rat := 0
  /-- R151, R515, 0x2405.01; U64 ns; NV DC. Last rest correction, or the initialisation before the first one. -/
  lastRest : Nat := 0
  /-- R151, 0x2405.02; U64 ns; NV DC. Last rest correction. -/
  lastCorr : Nat := 0
  /-- R151; option U64 ns; spec none. Time from which the rest conditions have held. -/
  restFrom : Option Nat := none
  /-- R151, R163; 1 bit; spec 0. The present rest qualifies (REST_ACTIVE). -/
  restActive : Bool := false
  /-- R152, R163; 1 bit; spec 0. REST_REQUEST. -/
  restRequest : Bool := false
  /-- R153, R163; 1 bit; NV DC. REFERENCE_AGED. -/
  refAged : Bool := false
  /-- R154, R163; 1 bit; spec 0. ESTIMATE_BRIDGED. -/
  bridged : Bool := false
  /-- R155, R163; 1 bit; spec 0. FOLLOWER. -/
  follower : Bool := false
  /-- R155, R156; option; DC. Last values received from the lead. -/
  lead : Option LeadValues := none
  /-- R156; option list; DC. Full state received from the lead, taken at the next slow-epoch boundary. -/
  leadState : Option (List (Nat × GroupEst)) := none
  /-- R154, R156; 1 bit; spec 0. A gap of this module is to be closed by the partner's full state. -/
  importDue : Bool := false
  /-- R161, 0x2409.00; U32 mA; spec 0. Discharge current limit. -/
  iDis : Nat := 0
  /-- R161, 0x2409.01; U32 mA; spec 0. Charge current limit. -/
  iChg : Nat := 0
  /-- R161, 0x2409.02; U32 W; spec 0. Discharge power limit. -/
  pDis : Nat := 0
  /-- R161, 0x2409.03; U32 W; spec 0. Charge power limit. -/
  pChg : Nat := 0
  /-- R160, 0x2400.07; U64 uC; NV DC. Throughput. -/
  throughput : Nat := 0
  /-- R160; U64 uC; NV DC. Throughput at the last commit. -/
  thrCommit : Nat := 0
  /-- R160; U64 uC; DC. Q_D + Q_C of the last counts frame added to the throughput. -/
  thrCounts : Nat := 0
  /-- R160; parts of a uC; DC. What the scaling of the throughput has left below 1 uC. -/
  thrRem : Nat := 0
  /-- R156; U64 ns; DC. Time of the last full state sent to the follower. -/
  sentAt : Nat := 0
  /-- R402; U64 ns; DC. Time of the last commit of the estimator state. -/
  commitAt : Nat := 0
  /-- R162, 0x2410.01; U32; NV DC. Qualifying rests, saturating. -/
  nRests : Nat := 0
  /-- R157, 0x2410.02; U32; NV DC. Capacity updates, saturating. -/
  nCap : Nat := 0
  /-- R157, 0x2410.03; U32; NV DC. Capacity measurements rejected, saturating. -/
  nCapRej : Nat := 0
  /-- R154, 0x2410.04; U32; NV DC. Charge gaps bridged, saturating. -/
  nBridged : Nat := 0
  deriving DecidableEq, Repr

/-- The estimator state as the store holds it (R402). -/
structure EstStored where
  /-- R144; per group; -. Group models. -/
  groups : List (Nat × GroupEst)
  /-- R150; %; -. Reported string value. -/
  strRep : Rat
  /-- R150; %; -. Internal string value. -/
  strInt : Rat
  /-- R151, R515; U64 ns; -. Last rest correction, or the initialisation. -/
  lastRest : Nat
  /-- R151; U64 ns; -. Last rest correction. -/
  lastCorr : Nat
  /-- R153; 1 bit; -. REFERENCE_AGED. -/
  refAged : Bool
  /-- R146; nC; -. Discharge charge used. -/
  usedD : Nat
  /-- R146; nC; -. Charge charge used. -/
  usedC : Nat
  /-- R146; nC; -. Net charge carried over a section restart. -/
  carry : Int
  /-- R173; uC per group; -. Charge removed by bleeding. -/
  bleed : List (Nat × Nat)
  deriving DecidableEq, Repr

end Sys2Proof.Machine
end

