-- ==== Sys2Proof/Parts/Fab.lean ====
section
/-! DEFINITION. The Uapor fabric and safe connections (chapter 10). State as plain data; spec/10_uapor_fabric.md.
Each field says the rules and objects that name it; its width; its reset value (spec: stated; DC: a design choice of
log entry 1; NV: kept in nonvolatile memory). -/

namespace Sys2Proof.Machine

/-- Port states of 0x2801 (R230, R231). -/
inductive PortState where
  | empty | rejected | noLock | hello | delay | up | miswired | heldDown
  deriving DecidableEq, Repr

/-- One fabric port P0-P3. -/
structure Port where
  /-- R230, 0x2801; ENUM8; spec 0 EMPTY. Port state. -/
  state : PortState := .empty
  /-- R230; 1 bit; spec asserted. TX_DISABLE. -/
  txDisable : Bool := true
  /-- R237; U64; DC 0 none heard. Neighbour serial last heard. -/
  peer : Nat := 0
  /-- R237, 0x2802; U16; spec 0xFFFF. Neighbour address. -/
  addr : Nat := 0xFFFF
  /-- R237; 0-3; DC. Neighbour's port. -/
  peerPort : Nat := 0
  /-- R237; ENUM8; DC. Neighbour's role. -/
  peerRole : Nat := 0
  /-- R237; U64; DC. PEER_SERIAL the neighbour last reported. -/
  peerSeesMe : Nat := 0
  /-- R231; count; DC. Fast-epoch boundaries since the last HELLO received. -/
  missed : Nat := 0
  /-- R252, 0x2803; up to 16 values, 2^-16 ns; spec 0. Link delays of the last PDELAY exchanges, newest first. -/
  delays : List Int := []
  /-- R252; U16; DC. PSEQ. -/
  pseq : Nat := 0
  /-- R252; option; DC. Outstanding PDELAY request: PSEQ and t1 (2^-16 ns). -/
  t1 : Option (Nat × Nat) := none
  /-- R231; times; spec empty. Departures from UP within 60 s, newest first. -/
  downs : List Nat := []
  /-- R231; U64 ns; DC. Start of the hold-down. -/
  heldAt : Nat := 0
  /-- R259, 0x2808; U32; spec 0. FCS errors, saturating. -/
  nFcs : Nat := 0
  /-- R235, 0x2809; U32; spec 0. Stomped frames, saturating. -/
  nStomp : Nat := 0
  /-- R231, 0x280A; U32; spec 0. Link downs, saturating. -/
  nDown : Nat := 0
  /-- R259, 0x280B; U16 0.1 uW; spec 0. Received optical power. -/
  rxPower : Nat := 0
  deriving DecidableEq, Repr

/-- A stored LSA (R240). -/
structure LsaRec where
  /-- R240; U64; -. Originator serial. -/
  serial : Nat
  /-- R240; U16; -. Originator address. -/
  addr : Nat
  /-- R240; U32; -. LSA_SEQ. -/
  seq : Nat
  /-- R240; list; -. Links: neighbour address, local port, remote port. -/
  links : List (Nat × Nat × Nat)
  /-- R240; U64 ns; -. Time of the last refresh. -/
  at_ : Nat
  deriving DecidableEq, Repr

/-- Address tiers of R237, R238. -/
inductive Tier where
  | auto | hint | stored | established
  deriving DecidableEq, Repr

/-- Steps of the claim procedure of R238. -/
inductive ClaimStep where
  | idle | listen | wait | held
  deriving DecidableEq, Repr

/-- Time states of R253. -/
inductive TimeState where
  | unsync | acquiring | synced | holdover | grandmaster
  deriving DecidableEq, Repr

/-- A safe connection at its consumer (R257, R344). -/
structure SafeConn where
  /-- R255, R342; U16; -. CONN. -/
  conn : Nat
  /-- R255; U16; -. Sender address. -/
  src : Nat
  /-- R257; option U32; -. SSEQ last accepted, none before the first. -/
  last : Option Nat
  /-- R257; U64 ns; -. Local time of the last accepted message. -/
  at_ : Nat
  /-- R257; payload; -. Payload of the last accepted message, for the second copy. -/
  copy : List Nat
  /-- R257; 1 or 2 planes; -. Plane on which the first copy came, and whether the second has come. -/
  plane : Nat
  /-- R257; 1 bit; -. The second copy of the last message has arrived, or was counted missing. -/
  both : Bool
  /-- R257; ENUM; -. 0 live, 1 TIMED_OUT, 2 ERROR. -/
  state : Nat
  /-- R344; count; -. Further consecutive messages accepted since rearming. -/
  rearm : Nat
  deriving DecidableEq, Repr

/-- A frame as FQ receives it on a port (R232 to R235, R244). -/
structure FabFrame where
  /-- R233; 4 bits; -. Version. -/
  ver : Nat
  /-- R234; 4 bits; -. Frame type. -/
  type : Nat
  /-- R233; 2 bits; -. Priority class. -/
  cls : Nat
  /-- R233; 1 bit; -. LOCAL. -/
  local_ : Bool
  /-- R233; 1 bit; -. BCAST. -/
  bcast : Bool
  /-- R233; U16; -. Destination address. -/
  dst : Nat
  /-- R233; U16; -. Source address. -/
  src : Nat
  /-- R233; U8; -. TTL. -/
  ttl : Nat
  /-- R233; U16; -. LEN. -/
  len : Nat
  /-- R232; bytes; -. Frame length on the wire. -/
  size : Nat
  /-- R233; U16; -. SEQ. -/
  seq : Nat
  /-- R235; U64; -. Originator serial of a flood (LSA, CLAIM, SYNC, ANNOUNCE). -/
  serial : Nat
  /-- R233; 1 bit; -. HCRC correct. -/
  hcrcOk : Bool
  /-- R232; 1 bit; -. FCS correct. -/
  fcsOk : Bool
  /-- R235; 1 bit; -. FCS stomped. -/
  stomped : Bool
  deriving DecidableEq, Repr

/-- A candidate grandmaster as announced (R250). -/
structure GmRank where
  /-- R250; U8; -. SOURCE. -/
  source : Nat
  /-- R250; U8; -. PRIORITY. -/
  prio : Nat
  /-- R250; U64; -. SERIAL. -/
  serial : Nat
  /-- R250; U16; -. ADDR. -/
  addr : Nat
  deriving DecidableEq, Repr

/-- The Uapor fabric (chapter 10). -/
structure Fab where
  /-- R236; 4 bits; DC. SW4. -/
  sw4 : Nat := 0
  /-- R236; 6 bits; DC. SW5. -/
  sw5 : Nat := 0
  /-- R237; U64; DC. Own serial number (factory). -/
  serial : Nat := 0
  /-- R230; 4 ports; spec EMPTY. P0-P3. -/
  ports : List Port := [{}, {}, {}, {}]
  /-- R238, 0x2800.01; U16; spec 0xFFFF. Address held. -/
  addr : Nat := 0xFFFF
  /-- R238, 0x2800.02; ENUM8; spec 0 AUTO. Address tier. -/
  tier : Tier := .auto
  /-- R238, 0x2800.04; U16; NV spec 0xFFFF. Stored address. -/
  storedAddr : Nat := 0xFFFF
  /-- R236; U16; DC. Hint read at the last claim. -/
  hint : Nat := 0
  /-- R238, R260; step; spec idle. Claim procedure (CLAIMING). -/
  claim : ClaimStep := .idle
  /-- R238; addresses; spec empty. Addresses taken: claimed or defended. -/
  taken : List Nat := []
  /-- R239; addresses; spec empty. Former addresses excluded as candidates. -/
  excludedAddr : List Nat := []
  /-- R238; U16, tier; DC. Candidate. -/
  cand : Nat × Tier := (0xFFFF, .auto)
  /-- R238; 1 bit; DC. A winning claim or defence for the candidate has arrived. -/
  lost : Bool := false
  /-- R238; U64 ns; DC. Start of the present claim step, or time the address was taken. -/
  claimAt : Nat := 0
  /-- R239, R260; 1 bit; spec 0. ADDRESS_CONFLICT. -/
  conflict : Bool := false
  /-- R240; U32 each plane; DC. Own LSA_SEQ, planes A and B. -/
  lsaSeq : Nat × Nat := (0, 0)
  /-- R240; LSAs; spec empty. LSA database of plane A. -/
  dbA : List LsaRec := []
  /-- R240; LSAs; spec empty. LSA database of plane B. -/
  dbB : List LsaRec := []
  /-- R241, 0x2805.01; 1,024 entries; spec unreachable. Route table plane A: address to egress port and hops. -/
  routesA : List (Nat × Nat × Nat) := []
  /-- R241, 0x2805.02; 1,024 entries; spec unreachable. Route table plane B. -/
  routesB : List (Nat × Nat × Nat) := []
  /-- R243, 0x2804.03; U8; spec 0. Diameter plane A. -/
  diamA : Nat := 0
  /-- R243, 0x2804.04; U8; spec 0. Diameter plane B. -/
  diamB : Nat := 0
  /-- R243, R260; 1 bit; spec 0. DIAMETER_EXCEEDED. -/
  diamBad : Bool := false
  /-- R235; keys; DC. Floods already forwarded: type, originator serial, SEQ, newest first. -/
  flooded : List (Nat × Nat × Nat) := []
  /-- R233; U16 per type; DC. Own frame counters SEQ of the flooded types. -/
  seqs : List (Nat × Nat) := []
  /-- R253, 0x2806.00; ENUM8; spec 0 UNSYNC. Time state. -/
  time : TimeState := .unsync
  /-- R253; 1 bit; spec 0. The node has been SYNCED since reset. -/
  wasSynced : Bool := false
  /-- R249; 1 bit; spec 0. A time has been acquired since reset. -/
  acquired : Bool := false
  /-- R249, R260; 1 bit; DC. TIME_UNTRACEABLE. -/
  untraceable : Bool := false
  /-- R259, 0x2806.01; U16; spec 0xFFFF. Grandmaster address. -/
  gm : Nat := 0xFFFF
  /-- R250; option rank; spec none. Present grandmaster's rank as last announced. -/
  gmRank : Option GmRank := none
  /-- R250; option U64 ns; spec none. Time of the last ANNOUNCE of the grandmaster. -/
  gmAt : Option Nat := none
  /-- R250; option U64 ns; spec none. Time of the last better-ranked ANNOUNCE. -/
  betterAt : Option Nat := none
  /-- R250; option rank; spec none. Rank of the last better-ranked ANNOUNCE. -/
  better : Option GmRank := none
  /-- R250; option U64 ns; DC. Time at which the first port came UP. -/
  firstUp : Option Nat := none
  /-- R252, 0x2806.02; S32 0.1 ns; spec 0. Offset from the grandmaster. -/
  offset : Int := 0
  /-- R249, 0x2806.03; S32 0.001 ppm; spec 0. Frequency steer. -/
  steer : Int := 0
  /-- R259, 0x2806.04; U8; spec 0. Hops to the grandmaster. -/
  hops : Nat := 0
  /-- R253, 0x2806.05; ENUM8; spec 0 A. Time plane (0 A, 1 B). -/
  timePlane : Nat := 0
  /-- R253; count; spec 0. Consecutive SYNCs within 40 ns. -/
  goodRun : Nat := 0
  /-- R253; count; spec 0. Consecutive SYNCs beyond 100 ns while SYNCED. -/
  badRun : Nat := 0
  /-- R253; count per plane; spec 0. Fast epochs without a valid SYNC, planes A and B. -/
  missA : Nat := 0
  /-- R253; count; spec 0. Fast epochs without a valid SYNC on plane B. -/
  missB : Nat := 0
  /-- R251; ENUM; spec free. PTP source: 0 locked, 1 lost within the hour, 2 free. -/
  ptp : Nat := 2
  /-- R250; U64 ns; DC. Time at which the PTP source was lost. -/
  ptpLost : Nat := 0
  /-- R251; S64 ns; DC. Offset of the grandmaster from its PTP source. -/
  ptpOffset : Int := 0
  deriving DecidableEq, Repr

/-- Safe connections and fabric counters (R255-R259). -/
structure Safe where
  /-- R257; connections; spec none live. Connections consumed. -/
  conns : List SafeConn := []
  /-- R256; U32 per connection; DC. SSEQ of the messages sent. -/
  sseq : List (Nat × Nat) := []
  /-- R257; count per check; DC. Copies discarded by checks 1 to 3. -/
  nChecks : List (Nat × Nat) := []
  /-- R235, 0x280C.01; U32; spec 0. Frames discarded, saturating. -/
  nDisc : Nat := 0
  /-- R245, 0x280C.02; U32; spec 0. Queue drops, saturating. -/
  nDrops : Nat := 0
  /-- R239, 0x280C.03; U32; spec 0. Address conflicts, saturating. -/
  nConf : Nat := 0
  /-- R257, 0x280D.01; U32; spec 0. Safe copies missing plane A, saturating. -/
  nMissA : Nat := 0
  /-- R257, 0x280D.02; U32; spec 0. Safe copies missing plane B, saturating. -/
  nMissB : Nat := 0
  /-- R257, 0x280D.03; U32; spec 0. Safe copy mismatches, saturating. -/
  nMism : Nat := 0
  /-- R257, 0x280D.04; U32; spec 0. Safe sequence errors, saturating. -/
  nSeqErr : Nat := 0
  /-- R257, 0x280D.05; U32; spec 0. Safe messages lost, saturating. -/
  nLost : Nat := 0
  deriving DecidableEq, Repr

end Sys2Proof.Machine
end

