-- ==== Sys2Proof/Parts/Fact.lean ====
section
/-! DEFINITION. What the factory fixes in the module (chapters 18 and 20), and what a BOOT finds when it tests the module
(chapter 2). State as plain data; spec/18_host_mailbox.md, spec/20_update_security.md, spec/02_operating_modes.md. -/

namespace Sys2Proof.Machine

/-- Factory identity. -/
structure Factory where
  /-- R426, 0x1000.01; STR(16), bytes; factory DC. Part number. -/
  part : List Nat := []
  /-- R426, 0x1000.04; U32; factory DC. Manufacture date. -/
  date : Nat := 0
  /-- R426, 0x1000.06; U16; factory DC. Boot ROM version. -/
  rom : Nat := 0
  /-- R426, 0x1000.09; U8; factory DC. Foxglove revision. -/
  foxRev : Nat := 0
  /-- R426, 0x1400.06; 6 bytes; factory DC. MAC address. -/
  mac : Nat := 0
  /-- R444, R461, 0x3110.02; bytes; factory DC. Device certificate, DER. -/
  cert : List Nat := []
  deriving DecidableEq, Repr

/-- What the power-up ladder finds (R54 steps 4 to 7; operand of PROCESSOR_DOMAIN_RELEASE). -/
structure BootReport where
  /-- R54 step 4; 1 bit; -. Slot A authenticates. -/
  authA : Bool
  /-- R54 step 4; 1 bit; -. Slot B authenticates. -/
  authB : Bool
  /-- R61; bits of 0x2010.00; -. Results of the tests of steps 5 and 6: bits 0 to 6. -/
  tests : Nat
  /-- R403; keys; -. Base sections whose CRC fails at replay. -/
  badKeys : List Nat
  /-- R397; RSEQs; -. Journal transactions whose CRC fails at replay. -/
  badTxns : List Nat
  /-- R384; SEQs; -. Vault records whose CRC fails. -/
  badVault : List Nat
  /-- R384; SEQs; -. Ring records whose CRC fails. -/
  badRing : List Nat
  /-- R384; LSEQs; -. Ledger entries whose CRC fails. -/
  badLedger : List Nat
  /-- R384, R386; slots; -. Snapshot slots whose CRC fails. -/
  badSnaps : List Nat
  /-- R103; U64 ns; -. After a power-on, the interval since the last counts committed to the store. -/
  gap : Nat
  /-- R113; 1 bit; -. The injector's self-test passes. -/
  injOk : Bool := true
  /-- R394; 2 bits; -. Superblock copies whose CRC fails, bit 0 A, bit 1 B; not both (log entry 169). -/
  badSuper : Nat := 0
  deriving DecidableEq, Repr

end Sys2Proof.Machine
end

