-- ==== Sys2Proof/Parts/Flt.lean ====
section
/-! DEFINITION. Fault collector (chapter 15). State as plain data; spec/15_fault_collection.md.
Each field says the rules and objects that name it; its width; its reset value (spec: stated; DC: a design choice of
log entry 1; NV: kept in nonvolatile memory). -/

namespace Sys2Proof.Machine

/-- The fault sources of R374. A name that stands for several faults of one ID is one source. -/
inductive Src where
  | busBound | sramUncorrected | tcmUncorrected | almondCoreLost | bootU | bootF
  | prechargeTimeout | shutdownTimeout | sweepStale | limitEchoMismatch | isolatedStreamLoss
  | pwmCommandStale | fastTripLocked | phaseDisabled | phaseSenseMismatch | addressConflict
  | diameterExceeded | safeCopyMismatch | plantDiverged | pairRoleConflict | pairHbLine
  | alarmLoopBroken | contactorForcedOpen | siTestFail | siDiscrepancy | contactorPickup
  | contactorDropout | contactorLost | pairProfileMismatch | plantStopDegraded | coilSwitchFail
  | weldedContact
  | chainPlausibility | hallPlausibility | stringSumMismatch | impedancePod | pwmInterlock
  | fastTrip | linkDown | ptSensor | fanLost | coolantUnitLost
  | eccCorrected | streamFrame
  deriving DecidableEq, Repr

/-- The three classes of R362. -/
inductive FClass where
  | c | u | f
  deriving DecidableEq, Repr

/-- One pending source: its raise stored against it (R364). -/
structure Raise where
  /-- R364; source; -; the source raised. -/
  src : Src
  /-- R364, R366; class; -; class of the raise, F where escalated. -/
  cls : FClass
  /-- R364, 0x2D02.03; U32; -; fault sequence number of the raise. -/
  seq : Nat
  /-- R364; U64 ns; -; fabric time of the raise. -/
  time : Nat
  /-- R364, R366; 10 bytes; -; parameter bytes, 8-9 the unacknowledged source of an escalation. -/
  params : List Nat
  /-- R366; 1 bit; -; the raise was escalated from U to F. -/
  escalated : Bool
  /-- R368, 0x2D02.02; 1 bit; -; acknowledged by the host. -/
  acked : Bool
  deriving DecidableEq, Repr

/-- A running fault injection (R372). -/
structure Injection where
  /-- R371; source; -; the injected source. -/
  src : Nat
  /-- R371; ENUM8; -; 0 Walnut, 1 Foxglove: the masked channel. -/
  chan : Nat
  /-- R371; U16 us; -; duration. -/
  dur : Nat
  /-- R372; U64 ns; -; fabric time of its start. -/
  start : Nat
  /-- R372; option U16 us; -; time to the masked demand, once it appeared. -/
  response : Option Nat
  deriving DecidableEq, Repr

/-- The fault collector (chapter Fault Collection). -/
structure Flt where
  /-- R362, R364, 0x2D02.00; set of sources; spec none (R369). Pending raises in order of sequence. -/
  pending : List Raise := []
  /-- R364, 0x2D00.01-05; one raise; spec empty (R369). The latch. -/
  latch : Option Raise := none
  /-- R364, R376; 1 bit; spec 0. OVERFLOW. -/
  overflow : Bool := false
  /-- R364, R369; U32; spec 1. The next fault sequence number. -/
  nextSeq : Nat := 1
  /-- R362, R513, 0x2D02.01; bit per source; spec 0. Live bits that a detector holds at 1. -/
  live : List Src := []
  /-- R365, 0x2D02.04; U32 per source; spec 0. Event counts, saturating. -/
  counts : List (Nat × Nat) := []
  /-- R363; times per counting source; spec empty (R369). Event histories, newest first. -/
  hist : List (Nat × List Nat) := []
  /-- R363; time per counting source; spec none (R369). Time of the last event, for the live bit. -/
  lastEvent : List (Nat × Nat) := []
  /-- R370, R376; 1 bit; spec 0. COLLECTOR_SELF. -/
  selfFault : Bool := false
  /-- R368, 0x2D01.02; ENUM8; spec 0. Result of the last clear. -/
  clearResult : Nat := 0
  /-- R371, R372; option; spec none. The injection that is running. -/
  inj : Option Injection := none
  /-- R372, 0x2D05.01; ENUM8; spec 0. Injection result. -/
  injResult : Nat := 0
  /-- R372, 0x2D05.02; U16 us; spec 0. Injection response. -/
  injResponse : Nat := 0
  /-- R371; option U64 ns; DC. Fabric time at which the last injection ended. -/
  injEnd : Option Nat := none
  /-- R371, 0x2D05.00; OCTETS(6); spec 0. Injection request as written. -/
  injRequest : Nat := 0
  /-- R375, 0x2D06.01; U32; spec 0. Raises of class C, saturating. -/
  raisesC : Nat := 0
  /-- R375, 0x2D06.02; U32; spec 0. Raises of class U, saturating. -/
  raisesU : Nat := 0
  /-- R375, 0x2D06.03; U32; spec 0. Raises of class F, saturating. -/
  raisesF : Nat := 0
  /-- R366, 0x2D06.04; U32; spec 0. Escalations, saturating. -/
  escalations : Nat := 0
  /-- R375, 0x2D06.05; U32; spec 0. Injections, saturating. -/
  injections : Nat := 0
  /-- R373, 0x2D06.06; U32; spec 0. Injections aborted, saturating. -/
  injAborted : Nat := 0
  deriving DecidableEq, Repr

end Sys2Proof.Machine
end

