-- ==== Sys2Proof/Parts/Imp.lean ====
section
/-! DEFINITION. Impedance spectrometer and Impedance Map (chapter 5). State as plain data; spec/05_impedance.md.
Each field says the rules and objects that name it; its width; its reset value (spec: stated; DC: a design choice of
log entry 1; NV: kept in nonvolatile memory). -/

namespace Sys2Proof.Machine

/-- An Impedance Map entry as stored (R132, R133). -/
structure ZEntry where
  /-- R132; U8; spec 0. QUALITY. -/
  q : Nat := 0
  /-- R132; S24 0.1 uOhm; spec 0. IMAG. -/
  im : Int := 0
  /-- R132; S24 0.1 uOhm; spec 0. REAL. -/
  re : Int := 0
  /-- R133; option U64 ns; spec never written. Fabric time of acceptance. -/
  time : Option Nat := none
  deriving DecidableEq, Repr

/-- A model fit record (R137). -/
structure Fit where
  /-- R137; U32; DC. R_OHM. -/
  rOhm : Nat := 0
  /-- R137; U32; DC. R_CT. -/
  rCt : Nat := 0
  /-- R137; U32; DC. C_DL. -/
  cDl : Nat := 0
  /-- R137; U16; DC. L_S. -/
  lS : Nat := 0
  /-- R137; U16; DC. SIGMA. -/
  sigma : Nat := 0
  /-- R137; U8; DC. RESIDUAL. -/
  residual : Nat := 0
  /-- R137; ENUM8; DC. STATUS. -/
  status : Nat := 0
  /-- R144, R148; U64 ns; DC. Time of the fit. -/
  time : Nat := 0
  /-- R144; 0.01 C; DC. Temperature of the fit. -/
  temp : Int := 0
  deriving DecidableEq, Repr

/-- Kind of the pass that runs (R120, R122). -/
inductive PassKind where
  | normal | maintain | baseline
  deriving DecidableEq, Repr

/-- A bin measurement in progress (R119). -/
structure BinRun where
  /-- R119; 0-15; -. Bin. -/
  bin : Nat
  /-- R126; U16; -. EXC_ID. -/
  excId : Nat
  /-- R119, R121; U64; -. Slow epoch T_s of the latch at which the lead-in starts. -/
  start : Nat
  /-- R121; mA; -. Amplitude A, constant for the bin. -/
  amp : Nat
  /-- R125; 1 bit; -. Discarded: the bin is counted and no entry written. -/
  discarded : Bool
  /-- R125; 1 bit; -. Discarded because the excitation was narrowed. -/
  clipped : Bool
  /-- R125; groups; -. Groups rejected for the bin. -/
  rejected : List Nat
  /-- R125; pods; -. Pods whose 16 entries are rejected. -/
  rejectedPods : List Nat
  /-- R129; nA, count; spec 0. Sum of i[n] e^(-j phi) over the first half of the window, and its samples. -/
  sumA : Int × Int × Nat := (0, 0, 0)
  /-- R129; nA, count; spec 0. The same over the second half. -/
  sumB : Int × Int × Nat := (0, 0, 0)
  deriving DecidableEq, Repr

/-- One correlation reply as kept until the bin is written (R127, R129). -/
structure Corr where
  /-- R127; address; -. Pod. -/
  pod : Nat
  /-- R127; U32; -. SAMPLES. -/
  samples : Nat
  /-- R127; 16 x 4 S24 0.1 uV; -. A_I, A_Q, B_I, B_Q per group. -/
  vals : List (Int × Int × Int × Int)
  deriving DecidableEq, Repr

/-- A bin whose window has ended and whose pods are being read (R128, R134). -/
structure BinRead where
  /-- R128; bin run; -. The bin measurement that ended. -/
  run : BinRun
  /-- R128; U64; -. Slow epoch of the latch that ended the bin. -/
  endEpoch : Nat
  /-- R129; 2 x uA; -. Shunt phasor I_a of the first half (real, imaginary). -/
  ia : Int × Int
  /-- R129; 2 x uA; -. Shunt phasor I_b of the second half. -/
  ib : Int × Int
  /-- R128; list; -. Replies received with STATUS 0. -/
  got : List Corr
  /-- R128; per pod; -. Failed reads so far. -/
  fails : List (Nat × Nat)
  /-- R128; pods; -. Pods rejected for the bin. -/
  bad : List Nat
  /-- R128; U64 per pod; -. Slow epoch of the last CORR_READ of each pod asked. -/
  asked : List (Nat × Nat)
  deriving DecidableEq, Repr

/-- The impedance spectrometer and the Impedance Map (chapter 5). -/
structure Imp where
  /-- R119, R143; option; spec none. Bin measurement in progress (RUNNING). -/
  run : Option BinRun := none
  /-- R128; option; spec none. Bin being read out. -/
  read : Option BinRead := none
  /-- R126, 0x2300.02; U16; spec 0. EXC_ID of the last bin started. -/
  excId : Nat := 0
  /-- R120; kind; DC. Kind of the pass. -/
  kind : PassKind := .normal
  /-- R120; option; spec none. Bins still to run in the pass, the next first; none between passes. -/
  queue : Option (List Nat) := none
  /-- R120; option; spec none. Bins left of a normal pass that a MAINTAIN pass or a baseline interrupts. -/
  saved : Option (List Nat) := none
  /-- R120; option U64 ns; DC. End of the last pass, for the idle interval. -/
  passEnd : Option Nat := none
  /-- R142, 0x2300.03; U32; spec 0. Passes completed, saturating. -/
  passes : Nat := 0
  /-- R126; option: bin, U16; spec none. Bin and EXC_ID that EXCITE_REF has announced for the next latch. -/
  announced : Option (Nat × Nat) := none
  /-- R123, R143; 1 bit; spec 0. HEADROOM_WAIT. -/
  headroomWait : Bool := false
  /-- R123, R143; 1 bit; spec 0. REST_WAIT. -/
  restWait : Bool := false
  /-- R125, R143; 1 bit; spec 0. CLIPPED. -/
  clipped : Bool := false
  /-- R74, R125; option U16; spec none. EXC_ID of a stop frame that waits for the non-sweep window. -/
  stopDue : Option Nat := none
  /-- R136, R143; 1 bit; spec 0. BASELINE_FAILED. -/
  blFailed : Bool := false
  /-- R136; 0-4; spec 0. Stage of a running baseline: 1, 2 first and second pass, 3, 4 reruns. -/
  blStage : Nat := 0
  /-- R136; per entry; DC. Results of each entry's measurement before the last. -/
  blFirst : List (Nat × ZEntry) := []
  /-- R136; per entry; DC. Results of each entry's last measurement. -/
  blSecond : List (Nat × ZEntry) := []
  /-- R136, 0x2341.00; 1 bit; spec 0. Baseline request. -/
  blRequest : Bool := false
  /-- R132, 0x2310.00; 6,912 entries; NV empty. The Impedance Map, key 16 (g - 1) + k. -/
  map : List (Nat × ZEntry) := []
  /-- R134, 0x2312.00; 16 x U64 ns; NV DC. Bin completion times. -/
  binTimes : List (Nat × Nat) := []
  /-- R30, R134; 16 x U16, U64; spec none. EXC_ID and slow epoch that tag each bin's accepted entries at the merge point. -/
  binTags : List (Nat × Nat × Nat) := []
  /-- R135; option U64 ns; NV DC. Time of the last map commit. -/
  mapCommit : Option Nat := none
  /-- R136, 0x2311.00; 6,912 entries; NV empty. The reference copy. -/
  ref : List (Nat × ZEntry) := []
  /-- R136, 0x2311.01; U64 ns; NV 0. Reference time. -/
  refTime : Nat := 0
  /-- R136, 0x2311.02; S16 0.01 C per group; NV DC. T_ref. -/
  refTemp : List (Nat × Int) := []
  /-- R136, 0x2311.03; U32 0.001 %; NV DC. Reference state of charge. -/
  refSoc : Nat := 0
  /-- R136; per group; NV DC. Fit of the reference copy. -/
  refFit : List (Nat × Fit) := []
  /-- R136; per entry; DC. Entries of the baseline that are stored so far. -/
  blStored : List (Nat × ZEntry) := []
  /-- R136; sums per pod; DC. NTC readings summed over the baseline and their count. -/
  blNtc : List (Nat × Int × Nat) := []
  /-- R137, 0x2320.00; 18 bytes per group; DC. Model fits. -/
  fits : List (Nat × Fit) := []
  /-- R144; per group; DC none. The last fit with STATUS 0. -/
  okFits : List (Nat × Fit) := []
  /-- R138, 0x2321.00; U16 pairs per group; DC. Growth ratios g_Ohm, g_ct, 0.001. -/
  growth : List (Nat × Nat × Nat) := []
  /-- R140, 0x2322.00; U16 0.0001 per group; NV spec 10,000. Ageing factors (unlisted 10,000). -/
  ageing : List (Nat × Nat) := []
  /-- R140; U64 ns per group; NV DC. Time of the last ageing update. -/
  ageingAt : List (Nat × Nat) := []
  /-- R140; U64 ns per pod; DC. Start of thermal equilibrium. -/
  equil : List (Nat × Nat) := []
  /-- R139, 0x2330.00; S16 0.01 C per group; DC none. Internal temperatures (unlisted: no value). -/
  tInt : List (Nat × Int) := []
  /-- R142, 0x2340.01; U32; spec 0. Bins completed, saturating. -/
  nDone : Nat := 0
  /-- R125, 0x2340.02; U32; spec 0. Bins aborted, saturating. -/
  nAborted : Nat := 0
  /-- R125, 0x2340.03; U32; spec 0. Bins discarded, saturating. -/
  nDiscarded : Nat := 0
  /-- R130, 0x2340.04; U32; spec 0. Entries rejected by conditions, saturating. -/
  nRejC : Nat := 0
  /-- R130, 0x2340.05; U32; spec 0. Entries rejected by quality, saturating. -/
  nRejQ : Nat := 0
  /-- R128, 0x2340.06; U32; spec 0. Pod correlation failures, saturating. -/
  nPod : Nat := 0
  deriving DecidableEq, Repr

end Sys2Proof.Machine
end

