-- ==== Sys2Proof/Parts/Mbx.lean ====
section
/-! DEFINITION. Host mailbox (chapter 18). State as plain data; spec/18_host_mailbox.md.
Each field says the rules and objects that name it; its width; its reset value (spec: stated; DC: a design choice of
log entry 1; NV: kept in nonvolatile memory). -/

namespace Sys2Proof.Machine

/-- Session roles, in ascending order of rights (R412). -/
inductive Role where
  | observer | operator | engineer | service
  deriving DecidableEq, Repr

/-- What the module reads of a frame of a session (R409, R413), decrypted. -/
structure MbxFrame where
  /-- R413; 1 bit; -. The tag verifies. -/
  tagOk : Bool
  /-- R409; U16; -. SID. -/
  sid : Nat
  /-- R408; 0 direct, 1 relayed; -. Interface it came on. -/
  iface : Nat
  /-- R409; U32; -. TSEQ. -/
  tseq : Nat
  /-- R409; U16; -. SEG; of an ACK the segment acknowledged. -/
  seg : Nat
  /-- R409; U16; -. LEN. -/
  len : Nat
  /-- R409; 1 bit; -. MORE: further segments of the request follow; its operands come with the last one. -/
  more : Bool
  /-- R408; U16; -. RELAY_ID under which a relayed frame came. -/
  relayId : Nat := 0
  deriving DecidableEq, Repr

/-- One value of a WRITE or WRITE_SET (R411). -/
structure WriteVal where
  /-- R411; U16; -. INDEX. -/
  idx : Nat
  /-- R411; U8; -. SUB. -/
  sub : Nat
  /-- R411; U32; -. LEN: bytes of the value. -/
  len : Nat
  /-- R411; LEN bytes; -. The value, little-endian. -/
  value : Nat
  /-- R447; 3 bits; -. Of an image header: the signer's hash equals the fused one, the signature verifies, the key unwraps. -/
  crypto : Nat := 0
  deriving DecidableEq, Repr

/-- A host certificate as the handshake presents it (R456, R458). -/
structure HostCert where
  /-- R456; 1 bit; -. P-384, signed by one of the plant trust anchors. -/
  anchored : Bool
  /-- R458; 1 bit; -. Self-signed. -/
  selfSigned : Bool
  /-- R456; 16 bytes; -. First 16 bytes of the SHA-384 of its DER encoding. -/
  digest : Nat
  /-- R456; U64 ns; -. notBefore, in fabric time. -/
  notBefore : Nat
  /-- R456; U64 ns; -. notAfter, in fabric time. -/
  notAfter : Nat
  /-- R456; option role; -. Role its subject organisational unit reads. -/
  role : Option Role
  /-- R456; 1 bit; -. HOST_SIG verifies. -/
  sigOk : Bool
  deriving DecidableEq, Repr

/-- A frame the module sends (R409): to a session, encrypted. -/
structure MbxOut where
  /-- R409; U16; -. SID. -/
  sid : Nat
  /-- R410; U8; -. CMD. -/
  cmd : Nat
  /-- R424; U8; -. STATUS. -/
  status : Nat
  /-- R409; U32; -. TSEQ. -/
  tseq : Nat
  /-- R409; U16; -. SEG. -/
  seg : Nat
  /-- R409; 1 bit; -. FIRST. -/
  first : Bool
  /-- R409; 1 bit; -. MORE. -/
  more : Bool
  /-- R409; bytes; -. Body. -/
  body : List Nat
  /-- R407; address; -. Host it answers. -/
  target : Nat
  /-- R408; option; -. Of a relayed session the relay's node address and the RELAY_ID. -/
  via : Option (Nat × Nat)
  deriving DecidableEq, Repr

/-- A response transfer (R411, R417). -/
structure Resp where
  /-- R410; U8; -. CMD answered. -/
  cmd : Nat
  /-- R424; U8; -. STATUS. -/
  status : Nat
  /-- R411; bytes; -. Transfer bytes after TOTAL, as captured; empty for a streamed object. -/
  body : List Nat
  /-- R420; option; -. A streamed object: index, OFFSET and length; its bytes are formed per segment. -/
  streamed : Option (Nat × Nat × Nat)
  deriving DecidableEq, Repr

/-- A read request that waits for its capture (R419, R420). -/
structure ReadReq where
  /-- R410; U8; -. CMD: READ or READ_SET. -/
  cmd : Nat
  /-- R411; entries; -. Objects asked for: index, sub-index. -/
  objs : List (Nat × Nat)
  /-- R411; U32; -. OFFSET of a READ. -/
  offset : Nat
  /-- R411; U32; -. LENGTH of a READ. -/
  length : Nat
  /-- R420; U64 ns; -. Time of acceptance. -/
  at_ : Nat
  /-- R419; U64; -. Fast epoch of acceptance. -/
  epoch : Nat
  deriving DecidableEq, Repr

/-- An open session and its mailbox (R412-R417). -/
structure Session where
  /-- R409, R412; U16; -. SID. -/
  sid : Nat
  /-- R412; role; -. Role of the host certificate. -/
  role : Role := .observer
  /-- R408; 0 direct, 1 relayed; -. IFACE. -/
  iface : Nat
  /-- R412; U16; -. Mailbox size. -/
  size : Nat
  /-- R426; U16; -. Relay node, 0xFFFF if direct. -/
  relay : Nat
  /-- R408; U16; -. RELAY_ID of its last frame. -/
  relayId : Nat := 0
  /-- R460; address; -. Source address of the host. -/
  source : Nat
  /-- R426; 4 bytes; 0 before FINISH. Certificate fingerprint. -/
  cert : Nat := 0
  /-- R455; 1 bit; 0. FINISH has been accepted: the session is open. -/
  opened : Bool := false
  /-- R458; 1 bit; 0. Bootstrap session. -/
  bootstrap : Bool := false
  /-- R413; U32; 0. Last TSEQ accepted from the host. -/
  rx : Nat := 0
  /-- R409; U32; 0. Last TSEQ sent. -/
  tx : Nat := 0
  /-- R414; U64 ns; -. Time of the last frame accepted. -/
  last : Nat
  /-- R415; option U64 ns; none. Expert unlock: time of unlock or of the last RWE write. -/
  unlock : Option Nat := none
  /-- R416; count; 0. Segments of the request in progress received. -/
  rxSegs : Nat := 0
  /-- R417; U64 ns; 0. Time of the module's last ACK of a request segment. -/
  rxAt : Nat := 0
  /-- R419; option; none. Read waiting for its capture. -/
  wait : Option ReadReq := none
  /-- R417; option; none. Response in transfer or kept until the next request. -/
  resp : Option Resp := none
  /-- R417; count; 0. Segments of the response sent. -/
  txSeg : Nat := 0
  /-- R416; 1 bit; 0. A request is being answered: its last response segment has not been sent. -/
  sending : Bool := false
  /-- R417; 1 bit; 0. The last segment sent has no ACK yet. -/
  unacked : Bool := false
  /-- R417; U64 ns; 0. Time of first transmission of the last segment sent. -/
  txAt : Nat := 0
  /-- R420; bytes; 0. Pool space its capture holds. -/
  pool : Nat := 0
  deriving DecidableEq, Repr

/-- A relay table entry (R408). -/
structure RelayEntry where
  /-- R408; U16; -. RELAY_ID. -/
  id : Nat
  /-- R408; address; -. Host address. -/
  host : Nat
  /-- R408; U16; -. Host port. -/
  port : Nat
  /-- R408; U16; -. TARGET. -/
  target : Nat
  /-- R408; U64 ns; -. Time of the last traffic. -/
  last : Nat
  deriving DecidableEq, Repr

/-- An accepted write that waits for its boundary (R423). -/
structure PendWrite where
  /-- R415, R423; U16; -. SID of the session that wrote it. -/
  sid : Nat
  /-- R423; U16; -. Index. -/
  idx : Nat
  /-- R423; U8; -. Sub-index. -/
  sub : Nat
  /-- R423; value; -. Value, little-endian. -/
  value : Nat
  /-- R423; U64; -. Fast epoch of effect. -/
  effect : Nat
  deriving DecidableEq, Repr

/-- The host mailbox (chapter 18). -/
structure Mbx where
  /-- R412; up to 16; spec none. Sessions, one mailbox each. -/
  sessions : List Session := []
  /-- R412; U16; DC. SID last assigned. -/
  sidNext : Nat := 0
  /-- R408; 32 entries; spec empty. Relay table. -/
  relay : List RelayEntry := []
  /-- R408; U16; DC. RELAY_ID last assigned. -/
  relayNext : Nat := 0
  /-- R423; FIFO; spec empty. Accepted writes waiting for their boundary. -/
  writes : List PendWrite := []
  /-- R425, 0x1100.01; U8; spec 0xFF. Last mode code accepted. -/
  modeReq : Nat := 0xFF
  /-- R425, 0x1100.02; U8; spec 0. Mode request status. -/
  modeStatus : Nat := 0
  /-- R425, 0x1100.03; U64; spec 0. Mode request effect. -/
  modeEffect : Nat := 0
  /-- R426; option U64 ns; spec none. A changed address configuration takes effect 1 s after its commit: time of commit. -/
  addrAt : Option Nat := none
  /-- R426, 0x1400.05; 4 bytes; spec 0. IPv4 address in force. -/
  ipv4 : Nat := 0
  /-- R426, 0x1400.07; 1 bit; spec 0 DOWN. Host port link. -/
  link : Bool := false
  /-- R407; sets; spec none. Fragment sets in reassembly: key and time of the first fragment. -/
  frags : List (Nat × Nat) := []
  /-- R426, 0x1500.01; U32; spec 0. Frames discarded, saturating. -/
  nDisc : Nat := 0
  /-- R426, 0x1500.02; U32; spec 0. Sessions refused, saturating. -/
  nRefused : Nat := 0
  /-- R417, 0x1500.03; U32; spec 0. Transfers abandoned, saturating. -/
  nAband : Nat := 0
  /-- R426, 0x1500.04; U32; spec 0. Transfers aborted by host, saturating. -/
  nAbort : Nat := 0
  /-- R408, 0x1500.05; U32; spec 0. Frames relayed, saturating. -/
  nRelay : Nat := 0
  /-- R408, 0x1500.06; U32; spec 0. Relay refusals, saturating. -/
  nRelRef : Nat := 0
  deriving DecidableEq, Repr

end Sys2Proof.Machine
end

