-- ==== Sys2Proof/Parts/Meas.lean ====
section
/-! DEFINITION. String measurement and insulation monitoring (chapter 4). State as plain data; spec/04_string_measurement.md.
Each field says the rules and objects that name it; its width; its reset value (spec: stated; DC: a design choice of
log entry 1; NV: kept in nonvolatile memory). -/

namespace Sys2Proof.Machine

/-- Injector states of 0x2203.03. -/
inductive InjState where
  | idle | injecting | paused | backoff | selfTestFail
  deriving DecidableEq, Repr

/-- String measurement and insulation (chapter 4). Charge counts and section state are not reset by a processor-domain reset (R17). -/
structure Meas where
  /-- R101, R117, 0x2200.00; S32 mA; DC. Shunt current, mean over the last fast epoch. -/
  iShunt : Int := 0
  /-- R105, R117, 0x2200.01; S32 mA; DC. Hall current, mean over the last fast epoch. -/
  iHall : Int := 0
  /-- R104, R117, 0x2200.02; S32 mA; DC. Latch current of the last closed sweep. -/
  iLatch : Int := 0
  /-- R101; S32 mA; DC. Last shunt sample. -/
  sShunt : Int := 0
  /-- R105; S32 mA; DC. Last Hall sample. -/
  sHall : Int := 0
  /-- R108; U32 10 mV; DC. Last string voltage sample. -/
  sStr : Nat := 0
  /-- R108; U32 10 mV; DC. Last bus voltage sample. -/
  sBus : Nat := 0
  /-- R104; S32 mA; DC. Sample whose interval holds the last latch instant T; where it was lost the last one before (log entry
  155). -/
  latchI : Int := 0
  /-- R108; U32 10 mV; DC. String voltage sample at the last latch instant T. -/
  latchStr : Nat := 0
  /-- R386; 64 x S32 mA; DC. The last 64 shunt samples, oldest first. -/
  iHist : List Int := []
  /-- R106; sums over the running fast epoch; DC. Sum of shunt samples. -/
  accShunt : Int := 0
  /-- R106; sum; DC. Sum of Hall samples of the running fast epoch. -/
  accHall : Int := 0
  /-- R117; sum; DC. Sum of string voltage samples of the running fast epoch. -/
  accStr : Nat := 0
  /-- R117; sum; DC. Sum of bus voltage samples of the running fast epoch. -/
  accBus : Nat := 0
  /-- R117; count; DC. Samples of the running fast epoch. -/
  accN : Nat := 0
  /-- R117, 0x2202.00; U32 10 mV; DC. String voltage, mean over the last fast epoch. -/
  vStr : Nat := 0
  /-- R117, 0x2202.01; U32 10 mV; DC. Bus voltage, mean over the last fast epoch. -/
  vBus : Nat := 0
  /-- R106; count; DC. Hall samples of the running fast epoch. -/
  accHallN : Nat := 0
  /-- R101, R118; 1 bit; spec 0. The shunt saturated in the running fast epoch. -/
  overNow : Bool := false
  /-- R101, R118; 1 bit; spec 0. OVERRANGE, of the last fast epoch. -/
  overrange : Bool := false
  /-- R102, R103; U64 uC; spec 0 at power-on. Q_D as the isolated section holds it. -/
  qd : Nat := 0
  /-- R102, R103; U64 uC; spec 0 at power-on. Q_C as the isolated section holds it. -/
  qc : Nat := 0
  /-- R102; 0-999 nC; spec 0. Part of the discharge sum below 1 uC. -/
  subD : Nat := 0
  /-- R102; 0-999 nC; spec 0. Part of the charge sum below 1 uC. -/
  subC : Nat := 0
  /-- R102, R146; U64 uC; spec 0. Q_D of the last counts frame, unscaled. -/
  cntD : Nat := 0
  /-- R102, R146; U64 uC; spec 0. Q_C of the last counts frame, unscaled. -/
  cntC : Nat := 0
  /-- R146; nC; spec 0. Discharge samples received since that frame. -/
  addD : Nat := 0
  /-- R146; nC; spec 0. Charge samples received since that frame. -/
  addC : Nat := 0
  /-- R117, 0x2201.00; U64 uC; spec 0. Q_D as last received. -/
  rxD : Nat := 0
  /-- R117, 0x2201.01; U64 uC; spec 0. Q_C as last received. -/
  rxC : Nat := 0
  /-- R117, 0x2201.02; U64 ns; DC. Counts time. -/
  rxTime : Nat := 0
  /-- R103, 0x2201.03; U64 ns; NV DC. Last charge gap. -/
  gap : Nat := 0
  /-- R103, R118; 1 bit; spec 0. CHARGE_GAP. -/
  chargeGap : Bool := false
  /-- R103, R118; 1 bit; spec 0. SECTION_RESTART. -/
  restarted : Bool := false
  /-- R103; 1 bit; spec branch. The section runs on its own oscillator (isolated section). -/
  ownOsc : Bool := false
  /-- R103; U64 ns; DC. Start of the run on the own oscillator. -/
  oscFrom : Nat := 0
  /-- R103; U64 uC; DC. Q_D + Q_C at the start of that run. -/
  oscQ : Nat := 0
  /-- R103, 0x2201.04; U64 ns; NV DC. Last section clock holdover interval. -/
  oscLast : Nat := 0
  /-- R118; option U64 ns; spec none. SECTION_CLOCK_HOLDOVER: end of the last run, cleared 60 s after it. -/
  oscEnd : Option Nat := none
  /-- R103, R154; option U64 ns; spec none. Local time of the last frame before a section restart whose gap runs or waits for
  its bridge. -/
  gapFrom : Option Nat := none
  /-- R103, R154; option U64 ns; spec none. Local time of the first frame after that restart. -/
  gapTo : Option Nat := none
  /-- R103, R154; option (ns, uC); spec none. A run on the own oscillator that ended while that domain was held: its interval
  and charge, to be bridged. -/
  heldOsc : Option (Nat × Nat) := none
  /-- R99; count; spec 0. Consecutive stream frames lost. -/
  lostRun : Nat := 0
  /-- R99; count; spec 0. Consecutive valid frames since the loss. -/
  goodRun : Nat := 0
  /-- R99, R118; 1 bit; spec 0. STREAM_LOST. -/
  streamLost : Bool := false
  /-- R99, R103; U64 ns; DC. Local time of the last valid stream frame's sample. -/
  lastFrame : Nat := 0
  /-- R106; count; spec 0. Consecutive disagreeing fast epochs. -/
  disRun : Nat := 0
  /-- R106; count; spec 0. Consecutive agreeing fast epochs. -/
  agreeRun : Nat := 0
  /-- R106, R118; 1 bit; spec 0. HALL_DISAGREE. -/
  hallDisagree : Bool := false
  /-- R105, R106; U64 ns; DC. Fabric time of the last Hall sample. -/
  hallT : Nat := 0
  /-- R106; option U64 ns; spec none. Fabric time from which the Hall input has been outside ±10.4 V. -/
  hallOut : Option Nat := none
  /-- R106; option U64 ns; DC none. Fabric time from which the Hall input has been back in range. -/
  hallIn : Option Nat := none
  /-- R106; 1 bit; DC 0. The Hall sensor supply is out of tolerance. -/
  hallSupply : Bool := false
  /-- R106, R118; 1 bit; spec 0. HALL_LOST. -/
  hallLost : Bool := false
  /-- R108; count; spec 0. Consecutive complete sweeps whose string sum differs. -/
  sumRun : Nat := 0
  /-- R109; 5 lines; DC inactive. SH_OC_DIS, SH_OC_CHG, SH_OVR, HALL_OC_DIS, HALL_OC_CHG (bits 0-4). -/
  lines : Nat := 0
  /-- R109; 1 line; DC inactive. BUS_DIP line. -/
  dipLine : Bool := false
  /-- R154; pC; DC. Integral over a section gap of the signed Hall means. -/
  gapHall : Int := 0
  /-- R154; pC; DC. Integral over a section gap of the magnitudes of the Hall means. -/
  gapAbs : Nat := 0
  /-- R154; ns; DC. Time of a section gap with the Hall path available. -/
  gapAvail : Nat := 0
  /-- R117, 0x2207.01; U32; spec 0. Stream frames lost, saturating. -/
  nLost : Nat := 0
  /-- R117, 0x2207.02; U32; spec 0. Hall plausibility events, saturating. -/
  nHall : Nat := 0
  /-- R117, 0x2207.03; U32; spec 0. String sum mismatches, saturating. -/
  nSum : Nat := 0
  deriving DecidableEq, Repr

/-- Insulation monitoring (R111-R116). -/
structure Iso where
  /-- R112, 0x2203.02; U16; DC. Galvanic system ID. -/
  id : Nat := 0
  /-- R112, 0x2209.00; BITS32; NV spec 0. Tie mask in force. -/
  tie : Nat := 0
  /-- R117, 0x2203.03; ENUM8; spec 0 IDLE. Injector state. -/
  state : InjState := .idle
  /-- R113; 1 bit; DC. Injector self-test passes. -/
  selfTest : Bool := true
  /-- R113, R114; option address; spec none. Elected injector of this ID in the last slow view. -/
  elected : Option Nat := none
  /-- R114; up to 8 x (slow epoch, 1 bit); spec empty. Slow views held, newest first, and whether each elected this module. -/
  views : List (Nat × Bool) := []
  /-- R114; addresses; spec empty. Member set of the ID on which the measurement runs. -/
  members : List Nat := []
  /-- R115; address; spec, the node address when injection starts. Seed of the polarity sequence. -/
  seed : Nat := 0
  /-- R115; count; spec 0. Half-periods of the polarity sequence since injection started. -/
  prbs : Nat := 0
  /-- R111; option U64 ns; spec none. Start of the half-period that runs. -/
  halfAt : Option Nat := none
  /-- R111; ns; DC. Length of the last half-period, 1 to 30 s. -/
  halfLen : Nat := 0
  /-- R115; count; spec 0. Consecutive half-periods above 30 %. -/
  foreign : Nat := 0
  /-- R115; option U64 ns; spec none. Start of the back-off. -/
  backoff : Option Nat := none
  /-- R116, R117, 0x2203.00; U32 kOhm; DC. Insulation resistance: the own last reading, or the one that the injector of this
  module's ID carries in its slow record. -/
  reading : Nat := 0
  /-- R114, R118; 1 bit; spec 0. STALE. -/
  stale : Bool := false
  /-- R115, R118; 1 bit; spec 0. ISO_CONFLICT. -/
  conflict : Bool := false
  /-- R111, R118; 1 bit; spec 0. ABOVE_RANGE. -/
  above : Bool := false
  /-- R111, R118; 1 bit; spec 0. BELOW_RANGE. -/
  below : Bool := false
  /-- R116, R118; 1 bit; spec 0. ISO_ALARM. -/
  alarm : Bool := false
  /-- R116, R118; 1 bit; spec 0. ISO_WARNING. -/
  warning : Bool := false
  /-- R57 C4; 1 bit; DC. An insulation reading has come in since commissioning step C4 began. -/
  c4Reading : Bool := false
  /-- R117, 0x2207.04; U32; spec 0. Insulation conflicts, saturating. -/
  nConflict : Nat := 0
  deriving DecidableEq, Repr

end Sys2Proof.Machine
end

