-- ==== Sys2Proof/Parts/Mode.lean ====
section
/-! DEFINITION. Operating modes, commissioning and maintenance (chapter 2). State as plain data; spec/02_operating_modes.md.
Each field says the rules and objects that name it; its width; its reset value (spec: stated; DC: a design choice of
log entry 1; NV: kept in nonvolatile memory). -/

namespace Sys2Proof.Machine

/-- The twelve modes of R35. -/
inductive Mode where
  | boot | commission | storage | standby | precharge | connected | dispatch | busForm
  | maintain | shutdown | safeHold | lockout
  deriving DecidableEq, Repr

/-- What a pending mode change came from (R39, R41). -/
inductive Cause where
  | powerOn | processorReset | hostRequest | plantCommand | completion | safetyReaction | fault
  | timeout | partner | onSiteClear
  deriving DecidableEq, Repr

/-- A pending change of mode waiting for its fast-epoch boundary (R41). -/
structure PendMode where
  /-- R41; mode; -. The mode asked for. -/
  dest : Mode
  /-- R41; cause; -. Host, plant or completion. -/
  cause : Cause
  /-- R41; U64; -. Fast epoch of its effect. -/
  effect : Nat
  /-- R42; 1 bit; -. Came from the partner over the pair link. -/
  fromPartner : Bool
  deriving DecidableEq, Repr

/-- What caused a LOCKOUT, as its record keeps it (R47, R48). -/
inductive LockCause where
  | sealOrSwitch | otherCause | assumed
  deriving DecidableEq, Repr

/-- The maintenance tasks of R50. -/
inductive MTask where
  | none | equalise | calibrationRest | impedancePass | baseline
  deriving DecidableEq, Repr

/-- The commissioning record (R57 C7; Nonvolatile Store, R402). -/
structure CommRec where
  /-- R57, R402; 2-27 serials; -. Pod list. -/
  pods : List Nat
  /-- R57, R402; 3 readings; -. Switch readings SW1, SW2, SW3. -/
  switches : Nat × Nat × Nat
  /-- R57, R402; U8; -. Expected profile. -/
  profile : Nat
  /-- R57, R402; ENUM8; -. Expected pair role. -/
  role : Nat
  /-- R57, R402; U64; -. Partner serial, 0 none. -/
  partner : Nat
  deriving DecidableEq, Repr

/-- Operating modes, commissioning, maintenance (chapter 2). -/
structure ModeSt where
  /-- R34, R35, 0x3001.00; 4 bits; spec BOOT. Current mode. -/
  mode : Mode := .boot
  /-- R60, 0x2013.02; ENUM8; spec 0x0. Previous mode. -/
  prev : Mode := .boot
  /-- R60, 0x2013.00; ENUM8; spec 0 POWER_ON. Last transition cause. -/
  cause : Cause := .powerOn
  /-- R60, 0x2013.01; U64 ns; DC. Time of the last mode change, and of entry into the present mode. -/
  since : Nat := 0
  /-- R41; FIFO; spec empty. Plant mode commands and host requests waiting for their boundary, in order of acceptance. -/
  pendingModes : List PendMode := []
  /-- R54, R56; step number 0-9; spec 0. Step of the power-up ladder completed in this BOOT. -/
  ladder : Nat := 0
  /-- R61, 0x2010.00; 10 bits; DC. Boot self-test result. -/
  bootResult : Nat := 0
  /-- R454; 1 bit; spec 0. The recovery loader holds the module in BOOT. -/
  recovery : Bool := false
  /-- R47; option; NV none. The lockout record and its cause. -/
  lockout : Option LockCause := none
  /-- R55; 1 bit; NV none. Parked-mode record names STORAGE. -/
  parked : Bool := false
  /-- R57; option; NV none. Commissioning record. -/
  commRec : Option CommRec := none
  /-- R60, 0x2011.00; 0-7; NV DC. Commissioning step active (0 NONE). -/
  commStep : Nat := 0
  /-- R60, 0x2011.00; 1 bit; NV DC. The active step failed. -/
  commFailed : Bool := false
  /-- R58, 0x2011.01; 1 bit; NV 0. BASELINE_PENDING. -/
  baselinePending : Bool := false
  /-- R57; 1 bit; DC. C6 runs its precharge, baseline and shut-down. -/
  c6Running : Bool := false
  /-- R44, R45, R57 C6; U64 ns; DC. Time at which C6 began its precharge or its shut-down. -/
  c6At : Nat := 0
  /-- R57 C6, R58; 1 bit; DC. C6 is complete or deferred. -/
  c6Done : Bool := false
  /-- R57; U64 ns; DC. Time at which the active commissioning step began. -/
  stepSince : Nat := 0
  /-- R57 C1; 2 bits; DC. Expected profile and expected role have been written in this commissioning. -/
  c1Written : Nat := 0
  /-- R50, 0x2017.00; ENUM8; spec 0. Maintenance task requested. -/
  taskReq : Nat := 0
  /-- R50; task; spec none. Maintenance task running. -/
  task : MTask := .none
  /-- R50; U64 ns; DC. Start of the running maintenance task. -/
  taskStart : Nat := 0
  /-- R42, R50; option U32 s; DC. Duration that the partner forwarded with the task both modules run. -/
  taskDur : Option Nat := none
  /-- R50, 0x2017.02; ENUM8; spec 0. Maintenance task outcome. -/
  outcome : Nat := 0
  /-- R50, R41; 1 bit; spec 0. The last task has ended; CONNECTED follows at the next boundary. -/
  taskDone : Bool := false
  /-- R45; option U64 ns; spec none. Time from which |string current| <= 2 A has held in SHUTDOWN. -/
  zeroSince : Option Nat := none
  /-- R43, R44; 1 bit; spec 0. SHUTDOWN was entered by aborting a precharge. -/
  abortedPrecharge : Bool := false
  /-- R338; 0-2; spec 0. Contactors opening in SHUTDOWN: 1 K_POS (and K_PRE), 2 K_NEG. -/
  opening : Nat := 0
  /-- R57; 1 bit; spec 0. C6 shuts down after its baseline. -/
  c6Stopping : Bool := false
  /-- R50; 1 bit; DC. The baseline that runs was due: the requested task follows it. -/
  dueRun : Bool := false
  /-- R48; option mode; spec none. The exit an on-site clear names for this BOOT. -/
  clearExit : Option Mode := none
  /-- R39, R41, R55; option; spec none. Mode of a Foxglove demand that stood before BOOT, held for its exit (log entry 11). -/
  bootReact : Option (Mode × Cause) := none
  /-- R51, R52, 0x2012.00; 11 bits; spec 0x400. DEGRADED causes at the last evaluation, for the DEGRADED_CHANGE record. -/
  degraded : Nat := 0x400
  /-- R34, R508; U64; DC. Mode changes since processor-domain reset. -/
  changes : Nat := 0
  deriving DecidableEq, Repr

end Sys2Proof.Machine
end

