-- ==== Sys2Proof/Parts/Nv.lean ====
section
/-! DEFINITION. Nonvolatile store (chapter 17). State as plain data; spec/17_nonvolatile_store.md.
Each field says the rules and objects that name it; its width; its reset value (spec: stated; DC: a design choice of
log entry 1; NV: kept in nonvolatile memory). -/

namespace Sys2Proof.Machine

/-- What the store holds under one content of R402. -/
inductive NvItem where
  | param (key : Nat) (value : Nat)
  | lockout (c : Option LockCause)
  | parked (b : Bool)
  | commissioning (r : CommRec) (step : Nat) (pending : Bool)
  | commStep (step : Nat) (failed : Bool)
  | map (m : List (Nat × ZEntry)) (times : List (Nat × Nat)) (at_ : Nat)
  | reference (r : List (Nat × ZEntry)) (time : Nat) (temps : List (Nat × Int)) (soc : Nat)
      (fits : List (Nat × Fit)) (pending : Bool)
  | ageing (a : List (Nat × Nat)) (at_ : List (Nat × Nat))
  | capacity (g : Nat) (c : Rat) (a : Option Anchor)
  | estimator (e : EstStored)
  | throughput (q counts : Nat)
  | charge (qd qc time : Nat)
  | lastTime (t : Nat)
  | address (a : Nat)
  | tieMask (t : Nat)
  | partner (s : Nat)
  | counters (c : List (Nat × Nat))
  deriving DecidableEq, Repr

/-- One journal transaction (R396, R397). -/
structure Txn where
  /-- R396; U32; -. RSEQ of its last record. -/
  rseq : Nat
  /-- R396; records; -. Its values, one record each. -/
  items : List NvItem
  /-- R396, R397; 1 bit; -. Every record's CRC is correct. -/
  crcOk : Bool
  /-- R397; 1 bit; -. The final MARK has been written. -/
  marked : Bool
  /-- R396; bytes; -. Journal bytes it takes. -/
  bytes : Nat
  deriving DecidableEq, Repr

/-- What follows the commit of a transaction (R398, R401, R421). -/
inductive After where
  /-- R398: a record that announces the stored value: code, source, PARAMS. -/
  | record (code source : Nat) (params : List Nat)
  /-- R401, R421: the host write of session sid is confirmed and its values take effect (R423). -/
  | hostWrite (sid cmd : Nat) (vals : List (Nat × Nat))
  /-- R426: a changed address configuration takes effect 1 s after the commit. -/
  | addrConfig
  deriving DecidableEq, Repr

/-- A transaction that waits for its commit. -/
structure PendTxn where
  /-- R397; values; -. The values of the transaction. -/
  items : List NvItem
  /-- R398, R421; list; -. What follows its commit. -/
  after : List After
  deriving DecidableEq, Repr

/-- One copy of the superblock (R394), without its CRC. -/
structure Superblock where
  /-- R394; U32; NV DC. GEN. -/
  gen : Nat := 0
  /-- R394; U8; NV DC. ACTIVE, 0 base A, 1 base B. -/
  active : Nat := 0
  /-- R394; U32; NV DC. HEAD. -/
  head : Nat := 0
  /-- R394; U32; NV DC. HEAD_RSEQ. -/
  headRseq : Nat := 1
  deriving DecidableEq, Repr

/-- The nonvolatile store (chapter 17). -/
structure Nv where
  /-- R395; values; NV empty. Values of the active base image. -/
  base : List NvItem := []
  /-- R395; items; NV none. Damaged sections of the active base (their stored item, its value lost). -/
  baseBad : List NvItem := []
  /-- R396; transactions; NV empty. Journal from HEAD, oldest first. -/
  journal : List Txn := []
  /-- R392, R394; superblock; NV DC. Copy A. -/
  superA : Superblock := {}
  /-- R392, R394; superblock; NV DC. Copy B. -/
  superB : Superblock := {}
  /-- R394, 0x2F00.02; U32; NV DC. GEN. -/
  gen : Nat := 0
  /-- R394, R406; 0 A, 1 B; NV DC. ACTIVE. -/
  active : Nat := 0
  /-- R394; U32; NV DC. HEAD: journal offset of the first record not covered. -/
  head : Nat := 0
  /-- R394; U32; NV DC. HEAD_RSEQ. -/
  headRseq : Nat := 1
  /-- R396, 0x2F00.04; U32; NV DC. RSEQ of the last committed record. -/
  rseq : Nat := 0
  /-- R396, R397; transaction; spec none. A transaction being written (not yet marked). -/
  writing : Option Txn := none
  /-- R400, R401; values; spec empty. Pending journal writes, oldest first. -/
  pending : List PendTxn := []
  /-- R399; option; spec none. A compaction that runs: R_c and its start time. -/
  compact : Option (Nat × Nat) := none
  /-- R399, 0x2F00.03; U64 ns; NV DC. Last compaction time. -/
  compAt : Nat := 0
  /-- R400, R406; 1 bit; spec 0. RESERVE_WAIT. -/
  reserveWait : Bool := false
  /-- R401, R406; 1 bit; spec 0. FLUSHED. -/
  flushed : Bool := false
  /-- R401; 1 bit; spec 0. A brown-out flush runs. -/
  flushing : Bool := false
  /-- R401; U64 ns; DC. Start of the flush. -/
  flushAt : Nat := 0
  /-- R403, R406; 1 bit; spec 0. REPLAY_ERROR. -/
  replayError : Bool := false
  /-- R395, R406; 1 bit; spec 0. BASE_DAMAGED. -/
  baseDamaged : Bool := false
  /-- R404, R406; 1 bit; spec 0. LOCKOUT_ASSUMED. -/
  lockAssumed : Bool := false
  /-- R403, 0x2F01.00; 16 x U32; DC. Damaged keys of the last replay. -/
  damaged : List Nat := []
  /-- R103; 1 bit; NV no. Charge counts have ever been committed. -/
  countsEver : Bool := false
  /-- R103; U64 ns; NV DC. Time of the last counts committed. -/
  countsTime : Nat := 0
  /-- R249, R402; U64 ns; NV DC. Last fabric time committed. -/
  lastTime : Nat := 0
  /-- R402; U64 ns; DC. Time of the last commit of the 60 s set. -/
  minuteAt : Nat := 0
  /-- R405, 0x2F02.01; U32; NV DC. Compactions, saturating. -/
  nComp : Nat := 0
  /-- R405, 0x2F02.02; U32; NV DC. Compactions abandoned, saturating. -/
  nAband : Nat := 0
  /-- R405, 0x2F02.03; U32; NV DC. Torn transactions discarded, saturating. -/
  nTorn : Nat := 0
  /-- R405, 0x2F02.04; U32; NV DC. Damaged transactions and sections, saturating. -/
  nDamaged : Nat := 0
  /-- R405, 0x2F02.05; U32; NV DC. Brown-out flushes, saturating. -/
  nFlush : Nat := 0
  /-- R405, 0x2F02.06; U16 us; NV DC. Flush duration, last. -/
  flushDur : Nat := 0
  deriving DecidableEq, Repr

end Sys2Proof.Machine
end

