-- ==== Sys2Proof/Parts/Obs.lean ====
section
/-! DEFINITION. Observation port and counters (chapter 24). State as plain data; spec/24_observation.md.
Each field says the rules and objects that name it; its width; its reset value (spec: stated; DC: a design choice of
log entry 1; NV: kept in nonvolatile memory). -/

namespace Sys2Proof.Machine

/-- A trace record (R506), its TCRC computed when read. -/
structure Trace where
  /-- R506; U8; -. TYPE. -/
  type : Nat
  /-- R506; U8; -. SRC. -/
  src : Nat
  /-- R506; U8; -. TSEQ. -/
  tseq : Nat
  /-- R506; U32; -. TIME bits [31:0]. -/
  time : Nat
  /-- R506; 6 bytes; -. DATA. -/
  data : List Nat
  deriving DecidableEq, Repr

/-- Observation port and counters (chapter 24). -/
structure Obs where
  /-- R508; 1 bit; spec 0. Trace enable in force. -/
  enabled : Bool := false
  /-- R508; 256 records; spec empty. Trace queue, oldest first. -/
  queue : List Trace := []
  /-- R506; U8; DC. TSEQ of the next record. -/
  tseq : Nat := 0
  /-- R508; count; spec 0. Records dropped and not yet reported. -/
  dropped : Nat := 0
  /-- R510, 0x3300.01; U32; spec 0. Trace records sent, saturating. -/
  nSent : Nat := 0
  /-- R510, 0x3300.02; U32; spec 0. Trace records dropped, saturating. -/
  nDropped : Nat := 0
  /-- R509; 256 x U16; NV spec 0. Select codes in force, by counter. -/
  select : List (Nat × Nat) := []
  /-- R509, 0x3301.00; 256 x U64; spec 0. Counter values, by counter. -/
  counters : List (Nat × Nat) := []
  deriving DecidableEq, Repr

end Sys2Proof.Machine
end

