-- ==== Sys2Proof/Parts/Plant.lean ====
section
/-! DEFINITION. Plant view and dispatch (chapter 11). State as plain data; spec/11_plant_view_dispatch.md.
Each field says the rules and objects that name it; its width; its reset value (spec: stated; DC: a design choice of
log entry 1; NV: kept in nonvolatile memory). -/

namespace Sys2Proof.Machine

/-- A fast summary as sent (R264), without its ICRC. -/
structure Summary where
  /-- R264; U32; -. EPOCH, modulo 2^32. -/
  epoch : Nat
  /-- R264; U16; -. MV modulo 2^16. -/
  mv : Nat
  /-- R264; U16; -. FOUNDER, 0xFFFF for a candidate. -/
  founder : Nat
  /-- R264; U16; -. STRING. -/
  string : Nat
  /-- R264; U8; -. MODE byte. -/
  mode : Nat
  /-- R264; BITS8; -. FLAGS. -/
  flags : Nat
  /-- R264; U32 0.001 %; -. SOC. -/
  soc : Nat
  /-- R264; U16 0.01 %; -. BOUND. -/
  bound : Nat
  /-- R264; U16 0.1 Ah; -. CAP. -/
  cap : Nat
  /-- R264; U16 0.1 V; -. V_STR. -/
  vStr : Nat
  /-- R264; S16 100 W; -. P_ACT. -/
  pAct : Int
  /-- R264; U16 100 W; -. P_DIS_LIM. -/
  pDis : Nat
  /-- R264; U16 100 W; -. P_CHG_LIM. -/
  pChg : Nat
  /-- R264; U16 10 mA; -. EXC_RES. -/
  excRes : Nat
  /-- R264; U16; -. CMD_SEQ. -/
  cmdSeq : Nat
  /-- R264; U32; -. DIGEST of epoch n - 1. -/
  digest : Nat
  /-- R264; U32; -. AHASH for epoch n + 2. -/
  ahash : Nat
  /-- R264; U32; -. SLOW_CRC. -/
  slowCrc : Nat
  /-- R264; S16 100 W; -. P_ALLOC. -/
  pAlloc : Int
  /-- R264, R300; U16; -. PSEQ. -/
  pseq : Nat
  /-- R264; U16; -. MCOUNT. -/
  mcount : Nat
  deriving DecidableEq, Repr

/-- A slow record head (R266), without its ICRC. -/
structure SlowHead where
  /-- R266; U32; -. SLOW_EPOCH. -/
  epoch : Nat
  /-- R266; U16; -. STRING. -/
  string : Nat
  /-- R266; BITS16; -. SFLAGS. -/
  sflags : Nat
  /-- R266; U16 us; -. REV_SKEW. -/
  skew : Nat
  /-- R266; U16; -. GALV_ID. -/
  galv : Nat
  /-- R266; U32 kOhm; -. R_ISO. -/
  rIso : Nat
  /-- R266; U32 s; -. REST_AGE. -/
  restAge : Nat
  /-- R266; U32 0.001 %; -. SOC. -/
  soc : Nat
  /-- R266; U16 0.01 %; -. BOUND. -/
  bound : Nat
  /-- R266; U16; -. SOH_C. -/
  sohC : Nat
  /-- R266; U16; -. SOH_R. -/
  sohR : Nat
  /-- R266; S16 0.01 C; -. T_INT_MAX, none as 0x8000. -/
  tIntMax : Option Int
  /-- R266; U16 mV; -. V_GRP_MAX. -/
  vMax : Nat
  /-- R266; U16 mV; -. V_GRP_MIN. -/
  vMin : Nat
  /-- R266; S32 mA; -. I_LATCH. -/
  iLatch : Int
  /-- R266; U32; -. EFC. -/
  efc : Nat
  /-- R266; BITS32; -. TIE_MASK. -/
  tie : Nat
  /-- R266; U8; -. SECTION. -/
  section_ : Nat
  /-- R266; U8; -. PODS. -/
  pods : Nat
  /-- R266; U8; -. MODE byte. -/
  mode : Nat
  deriving DecidableEq, Repr

/-- A plant command (R278, R279). -/
structure PlantCmd where
  /-- R278; U16; -. Issuer address. -/
  issuer : Nat
  /-- R278; ENUM8; -. CTYPE. -/
  ctype : Nat
  /-- R278; U16; -. CSEQ. -/
  cseq : Nat
  /-- R278; U64; -. Fast epoch of effect. -/
  effect : Nat
  /-- R278; U16; -. TARGET. -/
  target : Nat
  /-- R278; S32; -. ARG0. -/
  arg0 : Int
  /-- R278; S32; -. ARG1. -/
  arg1 : Int
  /-- R278; ENUM8; -. ROLE. -/
  role : Nat
  deriving DecidableEq, Repr

/-- An entry of the membership view (R267). -/
structure Member where
  /-- R267; U16; -. Node address. -/
  addr : Nat
  /-- R267; U16; -. String ID. -/
  string : Nat
  /-- R267; U64; -. Serial number. -/
  serial : Nat
  deriving DecidableEq, Repr

/-- A fast plant view: the record or the absence of every entry (R272). -/
structure FastView where
  /-- R272; U64; -. Fast epoch. -/
  epoch : Nat
  /-- R272; entries; -. Membership entries in force with the accepted summary, none an absence. -/
  entries : List (Member × Option Summary)
  /-- R272; U16; -. Founder of the membership view in force at the epoch. -/
  founder : Nat
  /-- R272; U32; -. MV of the membership view in force at the epoch. -/
  mv : Nat
  /-- R272; U32; -. Own digest. -/
  digest : Nat
  /-- R273, R274; ENUM; -. 0 provisional, 1 held, 2 not held, 3 held late. -/
  state : Nat
  /-- R273; option U32; -. Majority digest found at the close, if any. -/
  major : Option Nat := none
  deriving DecidableEq, Repr

/-- The plant state that ADMIT carries (R269). -/
structure PlantState where
  /-- R269, 0x2904.00; S32 100 W; spec 0. Plant power set-point in force. -/
  power : Int := 0
  /-- R269, 0x2905.00; U16; spec 100. Balancing gain in force. -/
  gain : Nat := 100
  /-- R269, 0x2906.00; U8; spec 1. Rest concurrency in force. -/
  rest : Nat := 1
  /-- R269; BITS32; -. Tie mask. -/
  tie : Nat := 0
  /-- R269, 0x2907; S32 x 2 per string; spec none. Discharge and charge caps, -1 none. -/
  caps : List (Nat × Int × Int) := []
  deriving DecidableEq, Repr

/-- An entry of an allocation vector (R285). -/
structure AllocEntry where
  /-- R285; U16; -. STRING. -/
  string : Nat
  /-- R285; S16 100 W; -. P. -/
  p : Int
  /-- R285; U8; -. AFLAGS. -/
  flags : Nat
  deriving DecidableEq, Repr

/-- An allocation vector (R284, R285). -/
structure Alloc where
  /-- R285; U64; -. Fast epoch of effect e. -/
  epoch : Nat
  /-- R285; entries; -. A(e). -/
  entries : List AllocEntry
  /-- R285; U32; -. Hash. -/
  hash : Nat
  /-- R284; S32 100 W; -. Plant shortfall, signed as p. -/
  short : Int
  deriving DecidableEq, Repr

/-- Plant view and dispatch (chapter 11). -/
structure Plant where
  /-- R267; 1 bit; spec 0. The module is a member (inverse of PLANT_ABSENT). -/
  isMember : Bool := false
  /-- R267, 0x2900.01; U32; spec 0. Membership view number MV. -/
  mv : Nat := 0
  /-- R267; U64; DC. Fast epoch at which MV last rose. -/
  mvAt : Nat := 0
  /-- R267, 0x2900.02; U16; spec 0xFFFF. Founder address. -/
  founder : Nat := 0xFFFF
  /-- R267, 0x2900.04; up to 1,024; spec empty. Membership entries, ascending. -/
  members : List Member := []
  /-- R268, R289; 1 bit; spec 0. FOUNDER: this module founded its view. -/
  founded : Bool := false
  /-- R269; option; spec none. Membership view and plant state transferred by the issuer, with the effect epoch. -/
  transfer : Option (Nat × Nat × Nat × List Member × PlantState) := none
  /-- R264, R274; 256; DC. Own fast summaries retained, newest first. -/
  ownSums : List Summary := []
  /-- R266, R274; 64; DC. Own slow heads retained, newest first. -/
  ownHeads : List SlowHead := []
  /-- R266; up to 4 x 3,186 bytes; DC. Bodies of the last slow records, newest first: slow epoch, bytes. -/
  bodies : List (Nat × List Nat) := []
  /-- R266; up to 16; DC. Body parts received, newest first: sender, slow epoch, part, bytes. -/
  parts : List (Nat × Nat × Nat × List Nat) := []
  /-- R264; option; DC. The summary captured at the boundary of the running fast epoch, not yet sent. -/
  cap : Option Summary := none
  /-- R247, R265; per epoch and address; DC. First copies of fast summaries accepted, of recent epochs. -/
  accepted : List (Nat × Nat × Summary) := []
  /-- R265; per epoch and address; DC. Summaries discarded because their copies differ. -/
  differing : List (Nat × Nat) := []
  /-- R269; per address; DC. Consecutive fast epochs in which a candidate's summary was accepted, and its serial. -/
  candRuns : List (Nat × Nat) := []
  /-- R272-R274; views; DC. Recent views, newest first. -/
  views : List FastView := []
  /-- R270; per address; DC. Consecutive closed views with an absence. -/
  absent : List (Nat × Nat) := []
  /-- R275; per slow epoch and address; DC. Slow heads received. -/
  heads : List (Nat × Nat × SlowHead) := []
  /-- R275; slow views; DC. Recent slow views: slow epoch, held, entries. -/
  slowViews : List (Nat × Bool × List (Member × Option SlowHead)) := []
  /-- R281; commands; DC. Bodies of plant commands received or issued and not yet applied. -/
  cmds : List PlantCmd := []
  /-- R281; keys; DC. Commands applied or dropped: issuer, CSEQ. -/
  doneCmds : List (Nat × Nat) := []
  /-- R274; 256; DC. Own issued commands, newest first. -/
  issued : List PlantCmd := []
  /-- R278, 0x290A.00; U16; spec 0. CSEQ last issued. -/
  cseq : Nat := 0
  /-- R264; U16; DC. CSEQ of the last command issued before the boundary of the running fast epoch. -/
  cseqAt : Nat := 0
  /-- R281; U16 per issuer; DC. CMD_SEQ up to which held views have covered an issuer's commands. -/
  covered : List (Nat × Nat) := []
  /-- R281, R286; keys; DC. Commands a held view covers whose body has not come: issuer, CSEQ. -/
  lacking : List (Nat × Nat) := []
  /-- R280; count; spec 0. Commands issued in the running fast epoch. -/
  issuedNow : Nat := 0
  /-- R269, R288; state; spec reset values. Plant state in force. -/
  st : PlantState := {}
  /-- R269; 1 bit; spec 0. The module holds a plant state. -/
  hasState : Bool := false
  /-- R286; per epoch; DC. Own allocation vectors computed. -/
  allocs : List Alloc := []
  /-- R286; per epoch; DC. Outcome decided: 0 applies, 1 hold, 2 diverged. -/
  outcomes : List (Nat × Nat) := []
  /-- R285, 0x2903; vector; spec 0. Allocation vector in force. -/
  inForce : Option Alloc := none
  /-- R285, R286, 0x2903.00; S32 100 W; spec 0. Own allocation in force. -/
  own : Int := 0
  /-- R264; S32 100 W; DC. Own allocation in force in the fast epoch before the running one. -/
  allocPrev : Int := 0
  /-- R286; S32 100 W; DC. Own allocation before the run of held epochs. -/
  holdVal : Int := 0
  /-- R286; count; spec 0. Consecutive held epochs. -/
  holdRun : Nat := 0
  /-- R286, R289; 1 bit; spec 0. ALLOC_HOLD. -/
  allocHold : Bool := false
  /-- R286, R289; 1 bit; spec 0. HASH_AGREED. -/
  hashAgreed : Bool := false
  /-- R286, R513; 1 bit; spec 0. The cause of PLANT_DIVERGED is live. -/
  diverged : Bool := false
  /-- R271, R289; 1 bit; spec 0. LEAVING. -/
  leaving : Bool := false
  /-- R271; count; spec 0. Consecutive fast views not held. -/
  outRun : Nat := 0
  /-- R271; count; spec 0. Consecutive fast epochs with summaries of a larger other view. -/
  mergeRun : Nat := 0
  /-- R271; 1 bit; DC. Such a summary was accepted in the running fast epoch. -/
  mergeNow : Bool := false
  /-- R268; option U64 ns; DC. Time of the last member summary received. -/
  lastMember : Option Nat := none
  /-- R268; U64 ns; DC. Time at which this module became grandmaster. -/
  gmSince : Nat := 0
  /-- R287; option U64; spec none. First fast epoch of the next own rest slot. -/
  nextRest : Option Nat := none
  /-- R287; per period; DC. Strings resting per rest period begun at fast epoch b. -/
  restPlan : List (Nat × List Nat) := []
  /-- R287; option; spec none. Rest period that runs: b and its strings. -/
  resting : Option (Nat × List Nat) := none
  /-- R287; 1 bit; spec 0. IN_REST_SLOT. -/
  inRest : Bool := false
  /-- R287; history; DC. Rest concurrency in force by fast epoch of change, newest first. -/
  restHist : List (Nat × Nat) := []
  /-- R288, 0x2901.00; U64; spec 0. Last fast view held. -/
  lastFast : Nat := 0
  /-- R288, 0x2901.01; U64; spec 0. Last slow view held. -/
  lastSlow : Nat := 0
  /-- R289; 1 bit; spec 0. VIEW_HELD. -/
  viewHeld : Bool := false
  /-- R289; 1 bit; spec 0. SLOW_VIEW_HELD. -/
  slowHeld : Bool := false
  deriving DecidableEq, Repr

/-- Counters of the plant view (R288, 0x2909). -/
structure PlantCnt where
  /-- R273, 0x2909.01; U32; spec 0. Views not held, saturating. -/
  notHeld : Nat := 0
  /-- R274, 0x2909.02; U32; spec 0. Views held late, saturating. -/
  late : Nat := 0
  /-- R281, 0x2909.03; U32; spec 0. Commands dropped, saturating. -/
  dropped : Nat := 0
  /-- R282, 0x2909.04; U32; spec 0. Commands applied late, saturating. -/
  appliedLate : Nat := 0
  /-- R286, 0x2909.05; U32; spec 0. Hash disagreements, saturating. -/
  hashDis : Nat := 0
  /-- R286, 0x2909.06; U32; spec 0. Held allocations, saturating. -/
  heldAlloc : Nat := 0
  /-- R265, 0x2909.07; U32; spec 0. Summary copy mismatches, saturating. -/
  copyMism : Nat := 0
  deriving DecidableEq, Repr

end Sys2Proof.Machine
end

