-- ==== Sys2Proof/Parts/Pair.lean ====
section
/-! DEFINITION. Redundant pair (chapter 12). State as plain data; spec/12_pair_redundancy.md.
Each field says the rules and objects that name it; its width; its reset value (spec: stated; DC: a design choice of
log entry 1; NV: kept in nonvolatile memory). -/

namespace Sys2Proof.Machine

/-- A checkpoint body (R298) with its header's epoch and version. -/
structure Checkpoint where
  /-- R296; U64; -. Fast epoch of the body. -/
  epoch : Nat
  /-- R296, R298; U8; -. PAIR_VER. -/
  ver : Nat
  /-- R298; ENUM8; -. LOOP_MODE. -/
  loop : Nat
  /-- R298; U8; -. N_ACT. -/
  nAct : Nat
  /-- R298; 12 x U8; -. PHASE_STATES. -/
  states : List Nat
  /-- R298; S32 mA; -. R_CMD. -/
  rCmd : Int
  /-- R298; S32 mA; -. INTEG. -/
  integ : Int
  /-- R298; S32 mA; -. I_PH_REF. -/
  iPhRef : Int
  /-- R298; U32 10 mV; -. V_SET. -/
  vSet : Nat
  /-- R298; option S32 mA; -. CEILING, none when none. -/
  ceiling : Option Int
  /-- R298; BITS16; -. FLAGS. -/
  flags : Nat
  /-- R298; 12 x U16; -. DUTY, 2^-16. -/
  duty : List Nat
  /-- R298; 12 x S32; -. ACC, 2^-24. -/
  acc : List Int
  deriving DecidableEq, Repr

/-- The takeback schedule (R307, R308). -/
structure Takeback where
  /-- R307; U64; -. Start fast epoch. -/
  start : Nat
  /-- R307; 1 bit; -. This module takes the moving phases (R), else it gives them (S). -/
  taker : Bool
  /-- R309; 1 bit; -. A planned release, not a takeback. -/
  planned : Bool
  /-- R307; BITS16; -. Moving phases. -/
  moving : Nat
  /-- R307; 0-3; -. 0 announced, 1 sigma falls, 2 sigma rises, 3 sigma returns to 1 (ended early). -/
  stage : Nat
  /-- R307; 0 to 1; -. Share sigma. -/
  sigma : Rat
  deriving DecidableEq, Repr

/-- The redundant pair (chapter 12). -/
structure Pair where
  /-- R293; 1 bit; spec stopped in BOOT. Foxglove's PAIR_HB_OUT level. -/
  hbOut : Bool := false
  /-- R293; 1 bit; DC. PQ's requests are running. -/
  hbOn : Bool := false
  /-- R293; count; DC. Requests since the last ALIVE frame (0 or 1). -/
  hbPhase : Nat := 0
  /-- R293; option U64 ns; DC. Time of the last request. -/
  hbAt : Option Nat := none
  /-- R294, R312; 1 bit; spec 0. HB_PRESENT. -/
  hbPresent : Bool := false
  /-- R92, R295; 1 bit; DC. A heartbeat has been seen since power-on reset release. -/
  hbSeen : Bool := false
  /-- R295; option U64 ns; DC. Time from which the heartbeat has been present. -/
  hbSince : Option Nat := none
  /-- R295, R312; 1 bit; spec 0. HB_LINE_FAULT. -/
  lineFault : Bool := false
  /-- R295; option U64 ns; spec none. Time of the last ALIVE frame. -/
  aliveAt : Option Nat := none
  /-- R296, 0x2A00.05; option U8; spec 0xFF none. Partner mode byte of the last ALIVE frame. -/
  pMode : Option Nat := none
  /-- R296, 0x2A00.06; BITS16; spec 0. Partner ownership of the last ALIVE frame. -/
  pOwn : Nat := 0
  /-- R296; BITS8; DC. FLAGS of the last ALIVE frame. -/
  pFlags : Nat := 0
  /-- R297, 0x2A00.02; U32; spec 0. OGEN. -/
  ogen : Nat := 0
  /-- R292, 0x2A00.04; U64; NV DC. Partner serial committed, 0 none. -/
  pSerial : Nat := 0
  /-- R292; U64; DC. Serial now on the pair link. -/
  linkSerial : Nat := 0
  /-- R311, 0x2A00.03; U16; spec 0xFFFF. Partner node address. -/
  pAddr : Nat := 0xFFFF
  /-- R292, R312; 1 bit; spec 0. PARTNER_CHANGED. -/
  changed : Bool := false
  /-- R291, R312; 1 bit; spec 0. ROLE_CONFLICT. -/
  roleConflict : Bool := false
  /-- R301, R52; 1 bit; spec 0. The partner has been declared lost. -/
  lost : Bool := false
  /-- R301; 1 bit; DC. This module took over and has not yet acquired the phases. -/
  acquiring : Bool := false
  /-- R301; BITS16; DC. Phases to acquire in the takeover. -/
  toAcquire : Nat := 0
  /-- R304; BITS16; DC. Phases acquired by the takeover. -/
  acquired : Nat := 0
  /-- R296; 1 bit; DC. Partner's PAIR_VER as last received. -/
  pVer : Option Nat := none
  /-- R298; option; spec none. Last fresh checkpoint of the partner. -/
  cp : Option Checkpoint := none
  /-- R302, R312; 1 bit; spec 0. CHECKPOINT_STALE. -/
  cpStale : Bool := false
  /-- R300; option; DC. Last CONTENT of the lead: epoch and its fields. -/
  content : Option (Nat × Summary) := none
  /-- R300, R312; 1 bit; spec 0. SOLE: last summary sent with PSEQ[15]. -/
  sole : Bool := false
  /-- R300; keys; DC. String contents consumed: STRING and PSEQ, newest first. -/
  seen : List (Nat × Nat) := []
  /-- R305, R312; 1 bit; spec 0. RESYNCING. -/
  resync : Bool := false
  /-- R306; 1 bit; DC. A full estimator state has been received. -/
  gotState : Bool := false
  /-- R306; option U64 ns; DC. Time from which the takeback conditions have held. -/
  stableSince : Option Nat := none
  /-- R306; 1 bit; spec 0. TAKEBACK_READY. -/
  ready : Bool := false
  /-- R307; option; spec none. Takeback or planned release that runs. -/
  tb : Option Takeback := none
  /-- R309, R312; 1 bit; spec 0. RELEASED. -/
  released : Bool := false
  /-- R195; carrier objects; DC. Partner's CONFIG as last received: carrier objects, profile CRC. -/
  pConfig : Option (List Nat × Nat) := none
  /-- R190; option ENUM8; DC. Partner's bitstream mode of its last CONFIG. -/
  pInMode : Option Nat := none
  /-- R296, R310; U8; DC. Own PAIR_VER (firmware). -/
  ver : Nat := 0
  /-- R90; option U64; DC. Slow epoch agreed for the return of line mastership. -/
  masterAt : Option Nat := none
  /-- R311, 0x2A04.00; U64 ns; NV DC. Last takeover time. -/
  toTime : Nat := 0
  /-- R303, 0x2A04.01; U16 0.1 %; NV DC. Last takeover dip. -/
  toDip : Nat := 0
  /-- R303, 0x2A04.02; U16 us; NV DC. Last takeover recovery. -/
  toRec : Nat := 0
  /-- R311, 0x2A03.01; U32; NV DC. Takeovers, saturating. -/
  nTake : Nat := 0
  /-- R311, 0x2A03.02; U32; NV DC. Takebacks, saturating. -/
  nBack : Nat := 0
  /-- R295, 0x2A03.03; U32; spec 0. Heartbeat line faults, saturating. -/
  nLine : Nat := 0
  /-- R311, 0x2A03.04; U32; spec 0. Checkpoints received, saturating. -/
  nCp : Nat := 0
  /-- R302, 0x2A03.05; U32; spec 0. Cold starts without checkpoint, saturating. -/
  nCold : Nat := 0
  deriving DecidableEq, Repr

end Sys2Proof.Machine
end

