-- ==== Sys2Proof/Parts/Out.lean ====
section
/-! DEFINITION. What a command makes the module send: frames and signals on its links, ports and pins (the model's own
record of the last command's emissions, log entry 8). -/

namespace Sys2Proof.Machine

/-- Commands on the cell chain (R68). -/
inductive ChainCmd where
  /-- RESET_ADDR: every pod loses its address. -/
  | resetAddr
  /-- ASSIGN of an address to the nearest unaddressed pod. -/
  | assign (a : Nat)
  /-- IDENT of an addressed pod. -/
  | ident (a : Nat)
  /-- SAMPLE: SAMPLE_ID, latch delays per pod, the wire under open-wire test or none. -/
  | sample (id : Nat) (delays : List Nat) (wires : List (Nat × Nat))
  /-- Reverse SAMPLE from the far end: SAMPLE_ID, reverse latch delays, the wires under test. -/
  | reverseSample (id : Nat) (delays : List Nat) (wires : List (Nat × Nat))
  /-- READ broadcast: SAMPLE_ID. -/
  | read (id : Nat)
  /-- READ_ONE of a pod: SAMPLE_ID. -/
  | readOne (a id : Nat)
  /-- CONFIG of a pod: filter code, watchdog timeout, limits. -/
  | config (a filter wdt ov uv : Nat)
  /-- BLEED: BLANK, masks by pod. -/
  | bleed (blank : Nat) (masks : List (Nat × Nat))
  /-- ECHO to a pod. -/
  | echo (a : Nat)
  /-- EXCITE_REF: bin, EXC_ID, START_ID, lead and window in slow epochs. -/
  | exciteRef (bin excId start lead window : Nat)
  /-- CORR_READ of a pod's correlation results: bin, EXC_ID. -/
  | corrRead (a bin excId : Nat)
  deriving DecidableEq, Repr

/-- The header of a PROTO 0x04 frame sent (R296) beside its KIND, which the frame's constructor is: PAIR_VER, PSEQ, OGEN, EPOCH. -/
structure PairHead where
  /-- R296; U8; -. PAIR_VER. -/
  ver : Nat
  /-- R296, R300; U16; -. PSEQ. -/
  pseq : Nat
  /-- R296, R297; U32; -. OGEN. -/
  ogen : Nat
  /-- R296; U32; -. EPOCH: the fast epoch modulo 2^32. -/
  epoch : Nat
  deriving DecidableEq, Repr

/-- A frame or signal the module emitted during the last command. -/
inductive Out where
  /-- A chain frame on CH1 or CH2 with its SEQ. -/
  | chain (port seq : Nat) (f : ChainCmd)
  /-- A SYNC_OUT pulse. -/
  | syncOut
  /-- A PHASE_STATE frame on the pair link: phase, state, cause. -/
  | pairPhase (h : PairHead) (phase state cause : Nat)
  /-- An ESTIMATOR frame on the pair link: the lead's values. -/
  | estimator (h : PairHead) (v : LeadValues)
  /-- An ESTIMATOR frame on the pair link: a full estimator state. -/
  | estimatorFull (h : PairHead) (groups : List (Nat × GroupEst))
  /-- A MASKS frame on the pair link: the lead's masks by pod. -/
  | masks (h : PairHead) (l : List (Nat × Nat))
  /-- A HELLO on a port (R237): ADDR, ROLE, TIME_STATE, TIER, PEER_SERIAL; SERIAL is the own. -/
  | hello (port addr role time tier peer : Nat)
  /-- A PDELAY request (true) or response on a port, with its PSEQ. -/
  | pdelay (port : Nat) (request : Bool) (pseq : Nat)
  /-- The own LSA on a plane (R240): SEQ, ADDR, LSA_SEQ and the links: neighbour, local port, remote port. -/
  | lsa (plane seq addr lsaSeq : Nat) (links : List (Nat × Nat × Nat))
  /-- A CLAIM on both planes: SEQ, address, tier, kind. -/
  | claim (seq addr tier kind : Nat)
  /-- A SYNC of this grandmaster on both planes (R252): SEQ, ORIGIN, SOURCE, SYNC_SEQ; HOPS and CORR leave as 0. -/
  | sync (seq origin source syncSeq : Nat)
  /-- An ANNOUNCE on both planes (R250): SEQ and the own rank. -/
  | announce (seq : Nat) (r : GmRank)
  /-- A frame sent out of a port: its type and class. -/
  | forward (port type cls : Nat)
  /-- The frame forwarded last on a port is ended with a stomped FCS (R235). -/
  | stomped (port : Nat)
  /-- One copy of a safe message (R255, R256): plane, CONN, DST, SSEQ, SEND_TIME, SDATA bytes. -/
  | safe (plane conn dst sseq sendTime : Nat) (sdata : List Nat)
  /-- A pod's valid reply sent on over the pair link, bytes and CRC unchanged: its address, its payload. -/
  | pairReply (a : Nat) (r : PodReply)
  /-- A pod's valid correlation reply sent on over the pair link: its address, its fields. -/
  | pairCorr (a bin status excId samples : Nat) (vals : List (Int × Int × Int × Int))
  /-- The own fast summary, broadcast on both planes. -/
  | summary (s : Summary)
  /-- A retained fast summary sent to a node that asked for it. -/
  | summaryTo (dst : Nat) (s : Summary)
  /-- The own slow record head, broadcast on both planes. -/
  | slowHead (h : SlowHead)
  /-- A retained slow record head sent to a node that asked for it. -/
  | slowHeadTo (dst : Nat) (h : SlowHead)
  /-- A BODY_PART to a node: slow epoch, part 0 or 1, its bytes. -/
  | bodyPart (dst epoch part : Nat) (bytes : List Nat)
  /-- A RECORD_REQUEST to a node for the summary of a fast epoch. -/
  | recordRequest (dst epoch : Nat)
  /-- A HEAD_REQUEST to a node for the slow head of a slow epoch. -/
  | headRequest (dst epoch : Nat)
  /-- A plant command, broadcast on both planes. -/
  | plantCmd (c : PlantCmd)
  /-- A retained plant command sent to a node that asked for it. -/
  | plantCmdTo (dst : Nat) (c : PlantCmd)
  /-- A COMMAND_REQUEST to an issuer for a command sequence. -/
  | cmdRequest (issuer cseq : Nat)
  /-- The membership view and the plant state sent to an admitted candidate: effect epoch, MV, founder. -/
  | membership (dst effect mv founder : Nat) (members : List Member) (st : PlantState)
  /-- The status and EFFECT that answer a host write. -/
  | writeStatus (status effect : Nat)
  /-- An ALIVE frame on the pair link: mode byte, owned phases, flags. -/
  | alive (h : PairHead) (mode own flags : Nat)
  /-- A CHECKPOINT frame on the pair link: its body, none where the mode does not switch the converter. -/
  | checkpoint (h : PairHead) (body : Option Checkpoint)
  /-- A CONTENT frame on the pair link: the lead's string content of the fast epoch. -/
  | content (h : PairHead) (s : Summary)
  /-- A TAKEBACK frame on the pair link: start fast epoch. -/
  | takeback (h : PairHead) (start : Nat)
  /-- A RELEASE frame on the pair link: start fast epoch. -/
  | release (h : PairHead) (start : Nat)
  /-- A CONFIG frame on the pair link: carrier objects, bitstream mode (log entry 152), profile CRC, committed partner
  serial. -/
  | config (h : PairHead) (settings : List Nat) (inMode pcrc serial : Nat)
  /-- A mailbox frame of a session, encrypted (R409). -/
  | mailbox (f : MbxOut)
  /-- A frame without encryption, LEN 0 (R408, R412, R413): CMD, STATUS, SID. -/
  | plainFrame (cmd status sid : Nat)
  /-- A HELLO_REPLY (R455): SID and granted mailbox size. -/
  | helloReply (sid size : Nat)
  /-- A host's frame forwarded over the fabric (R408): RELAY_ID, target, plane. -/
  | relayOut (id target plane : Nat)
  /-- A target's answer sent to the host endpoint of a RELAY_ID (R408): host address, port. -/
  | relayIn (host port : Nat)
  /-- A trace record sent on J7 (R506). -/
  | traceSent (t : Trace)
  /-- A REQUEST frame on the pair link: an accepted host request's mode code and fast epoch of effect; for MAINTAIN the task
  requested, its duration in s and whether a baseline is due (R50, log entry 150). -/
  | pairRequest (h : PairHead) (code effect task dur : Nat) (due : Bool)
  deriving DecidableEq, Repr

end Sys2Proof.Machine
end

