-- ==== Sys2Proof/Parts/Pwm.lean ====
section
/-! DEFINITION. Power stage interface and PWM (chapter 8). State as plain data; spec/08_power_stage_pwm.md.
Each field says the rules and objects that name it; its width; its reset value (spec: stated; DC: a design choice of
log entry 1; NV: kept in nonvolatile memory). -/

namespace Sys2Proof.Machine

/-- One phase of the power stage (R182, R183, R191, R192). -/
structure Phase where
  /-- R184, R185, 0x2608.00; 1 bit; spec 0. OWNk asserted. -/
  own : Bool := false
  /-- R185; 1 bit; spec 0 off. PWM gate released by Foxglove. -/
  gate : Bool := false
  /-- R185; 1 bit; spec 0. A release runs: OWNk is to be deasserted. -/
  releasing : Bool := false
  /-- R185; 1 bit; spec 0. An acquisition runs: the gate is to be released. -/
  acquiring : Bool := false
  /-- R185; 1 bit; DC. An acquisition request that Foxglove holds until 2 us after the release. -/
  acqHeld : Bool := false
  /-- R183; 1 bit; spec 0. DISABLED by the phase-loss rules. -/
  disabled : Bool := false
  /-- R183, R210; 1 bit; spec 0. Pecan commands the phase. -/
  commanded : Bool := false
  /-- R178, R181; 0 to 1; DC. Duty command in effect. -/
  duty : Rat := 0
  /-- R181; option duty; DC. Command waiting for the next peak. -/
  waiting : Option Rat := none
  /-- R181; option duty; DC. Command that came less than 1.0 us before the next peak: it waits for the peak after it. -/
  later : Option Rat := none
  /-- R182; 0 to 1; DC. Checkpoint duty held in SHADOW. -/
  shadow : Rat := 0
  /-- R181; count; DC. Loop period count of the last command. -/
  tag : Nat := 0
  /-- R192, 0x260D.00; 1 bit; spec 0. Bitstream faulted. -/
  fault : Bool := false
  /-- R191; 1 bit; spec 0. The measured offset lies beyond 0.2 % of I_fs. -/
  offsetBad : Bool := false
  /-- R191; 1e-6 of density; DC. Offset applied. -/
  offset : Int := 0
  /-- R192; 1 bit; spec 0. The on-interval was ended; pairs held off until the stream is valid for 10 periods. -/
  heldOff : Bool := false
  /-- R192; 1 bit; spec 0. A condition of a faulted stream was met in the running carrier period. -/
  badNow : Bool := false
  /-- R192; count; DC. Whole carrier periods since the last one in which such a condition was met. -/
  goodRun : Nat := 0
  /-- R191, 0x2607; S32 mA, none while invalid; DC. Period-average current. -/
  avg : Option Int := none
  /-- R179; option fabric time in ns; spec none. From this time both pairs are forced off for the rest of its half-period. -/
  blocked : Option Nat := none
  /-- R193; option fabric time in ns; spec none. At this time the cycle-by-cycle limit ended the on-interval; the complementary
  switch holds until the next peak or valley. -/
  cbc : Option Nat := none
  /-- R214; option fabric time in ns; spec none. Rising edge of BUS_DIP on which PQ last burst this phase. -/
  burst : Option Nat := none
  /-- R207; duty; DC 0. Phase loop integrator acc_k. -/
  acc : Rat := 0
  /-- R219; count; DC. Consecutive half periods that meet PHASE_OPEN. -/
  openRun : Nat := 0
  /-- R221; U64 ns; DC. Time at which the last bitstream fault ended. -/
  validAt : Nat := 0
  /-- R191; U64 ns; DC. Time from which the phase has been ABSENT, IDLE or SHADOW without a break. -/
  offAt : Nat := 0
  /-- R223; ENUM8; spec 0. Cause of the disable. -/
  cause : Nat := 0
  deriving DecidableEq, Repr

/-- Carrier sync states of R198. -/
inductive SyncState where
  | free | acquire | locked | holdover | glide
  deriving DecidableEq, Repr

/-- Power stage interface and PWM (chapter 8). Fast-trip latch, refusal and rearms lie in the Foxglove domain. -/
structure Pwm where
  /-- R182; 12 phases; spec ABSENT. Phases 0-11. -/
  phases : List Phase := [{}, {}, {}, {}, {}, {}, {}, {}, {}, {}, {}, {}]
  /-- R188, R200, 0x260C.00; 12 bits; DC inactive. FT inputs asserted now. -/
  ft : Nat := 0
  /-- R188; U64 ns; DC. Time at which the last FT input became inactive. -/
  ftOff : Nat := 0
  /-- R188, R201; 1 bit; spec 0. Fast-trip latch held. -/
  latch : Bool := false
  /-- R188; U64 ns; DC. Time at which the latch was set. -/
  latchAt : Nat := 0
  /-- R188, 0x260C.01; 12 bits; spec 0. FT inputs captured at the last latch setting. -/
  capture : Nat := 0
  /-- R188; times; spec empty. Rearms of the preceding 10 s, newest first. -/
  rearms : List Nat := []
  /-- R188, R201; 1 bit; spec 0. The rearm was refused (FAST_TRIP_LOCKED). -/
  refused : Bool := false
  /-- R188; 1 bit; DC. The fault was cleared: passed to Foxglove with the next rearm request. -/
  clearPass : Bool := false
  /-- R200, 0x2601; settings; spec the stored values. Carrier settings in force: N, f_c, source, m, M. -/
  inForce : List Nat := [0, 20000, 1, 0, 1, 1, 10, 0, 400, 0]
  /-- R195; 1 bit; spec 0. Settings written, to take effect at the next fast-epoch boundary. -/
  settingsDue : Bool := false
  /-- R198, 0x2603.00; ENUM8; spec 0 FREE. Carrier sync state. -/
  sync : SyncState := .free
  /-- R198; Hz; DC. Carrier frequency held or tracked with source SYNC_IN. -/
  freq : Rat := 20000
  /-- R198, 0x2603.02; S32 ns; spec 0. Carrier phase error at the last valid edge. -/
  phaseErr : Int := 0
  /-- R194, R196; periods; DC. Origin offset o. -/
  origin : Rat := 0
  /-- R197, R198; option fabric time in ns; DC. Last valid SYNC_IN edge. -/
  lastEdge : Option Nat := none
  /-- R198; count; spec 0. Consecutive valid edges. -/
  edgeRun : Nat := 0
  /-- R198; count; spec 0. Consecutive edges with phase error at most 10 ns. -/
  lockRun : Nat := 0
  /-- R198; fabric time in ns; DC. Time at which HOLDOVER began. -/
  holdAt : Nat := 0
  /-- R197; 1 bit; DC. SYNC_OUT pulse emitted in this step: count of pulses. -/
  syncOut : Nat := 0
  /-- R197; count; DC. Valleys of phase 0 since the last SYNC_OUT pulse. -/
  valleys : Nat := 0
  /-- R195, R201; 1 bit; spec 0. CARRIER_MISMATCH. -/
  mismatch : Bool := false
  /-- R193; 1 bit; spec 0. The cycle-by-cycle limit acted in the running fast epoch. -/
  cbcNow : Bool := false
  /-- R193, R201; 1 bit; spec 0. CBC_ACTIVE of the last fast epoch. -/
  cbcActive : Bool := false
  /-- R179, R201; 1 bit; spec 0. INTERLOCK_BLOCK, cleared by a read. -/
  interlock : Bool := false
  /-- R188; 1 bit; spec 0. The latch was set while the processor domain was in reset: FAST_TRIP is reported at BOOT. -/
  tripPending : Bool := false
  /-- R198; fabric time in ns; DC. Time at which GLIDE began. -/
  glideAt : Nat := 0
  /-- R200, 0x260B.01; U32; spec 0. Fast trips, saturating. -/
  nTrips : Nat := 0
  /-- R200, 0x260B.02; U32; spec 0. Fast-trip rearms, saturating. -/
  nRearms : Nat := 0
  /-- R200, 0x260B.03; U32; spec 0. Bitstream faults, saturating. -/
  nStream : Nat := 0
  /-- R200, 0x260B.04; U32; spec 0. SYNC_IN edges rejected, saturating. -/
  nEdges : Nat := 0
  /-- R200, 0x260B.05; U32; spec 0. Interlock blocks, saturating. -/
  nInter : Nat := 0
  /-- R200, 0x260B.06; U32; spec 0. Cycle-by-cycle limit actions, saturating. -/
  nCbc : Nat := 0
  deriving DecidableEq, Repr

end Sys2Proof.Machine
end

