-- ==== Sys2Proof/Parts/Saf.lean ====
section
/-! DEFINITION. Protection and safety functions (chapter 13). State as plain data; spec/13_protection_safety.md.
Each field says the rules and objects that name it; its width; its reset value (spec: stated; DC: a design choice of
log entry 1; NV: kept in nonvolatile memory). -/

namespace Sys2Proof.Machine

/-- One own coil output (R335, R339). -/
structure Coil where
  /-- R335; 1 bit; spec open. Walnut (processor) switch commanded closed. -/
  wSw : Bool := false
  /-- R335; 1 bit; spec open. Foxglove switch commanded closed. -/
  fSw : Bool := false
  /-- R335, R339; 1 bit; DC. Coil node energised, as sampled (own path or the partner's). -/
  node : Bool := false
  /-- R339; 1 bit; DC. Contactor feedback closed, as sampled. -/
  fb : Bool := false
  /-- R339; U64 ns; DC. Time of the coil node's last change. -/
  nodeAt : Nat := 0
  /-- R339; U64 ns; DC. Time of the feedback's last change. -/
  fbAt : Nat := 0
  /-- R340; option U64 ns; DC. Time at which both own switches had opened on a string-level demand. -/
  openedAt : Option Nat := none
  /-- R339; 1 bit; DC. The contactor has picked up since the node was energised. -/
  picked : Bool := false
  /-- R339, 0x2B02; 1 bit; DC. The contactor is WELDED. -/
  welded : Bool := false
  /-- R335; option U64 ns; DC. Start of the 150 ms full drive of the Foxglove switch; economiser after it. -/
  driveAt : Option Nat := none
  deriving DecidableEq, Repr

/-- Qualification and test state of one safety input (R329-R333). -/
structure SafetyIn where
  /-- R314, R331; option U64 ns; DC. Time of the first sample in which the input is low, none while high. -/
  lowSince : Option Nat := none
  /-- R331; 1 bit; spec 0. Test fault (missing or foreign pulse). -/
  testFault : Bool := false
  /-- R331; count; DC. Consecutive frames with a missing pulse. -/
  missing : Nat := 0
  /-- R331; count; DC. Consecutive frames with a foreign pulse. -/
  foreign : Nat := 0
  /-- R331; 1 bit; DC. A pulse of the own supply in this frame had no low within 100 µs. -/
  lackOwn : Bool := false
  /-- R331; 1 bit; DC. A foreign low fell in this frame. -/
  sawForeign : Bool := false
  deriving DecidableEq, Repr

/-- A safety profile (R323), without its reserved bytes and PCRC. -/
structure Profile where
  /-- R323; U8; -. PROFILE. -/
  num : Nat
  /-- R323; ENUM8; -. CHEM. -/
  chem : Nat
  /-- R323; U16 mV; -. V_OV. -/
  vOv : Nat
  /-- R323; U16 mV; -. V_UV. -/
  vUv : Nat
  /-- R323; U16 mV; -. HW_OV. -/
  hwOv : Nat
  /-- R323; U16 mV; -. HW_UV. -/
  hwUv : Nat
  /-- R323; S16 0.1 C; -. T_OT. -/
  tOt : Int
  /-- R323; S16 0.1 C; -. T_OT_HW. -/
  tOtHw : Int
  /-- R323; S16 0.1 C; -. T_CHG_MIN. -/
  tChgMin : Int
  /-- R323; U16 A; -. I_LIM_DIS and I_LIM_CHG. -/
  iLim : Nat
  /-- R323; U16 A; -. I_OC_DIS and I_OC_CHG. -/
  iOc : Nat
  /-- R323; U16 A; -. I_BRK. -/
  iBrk : Nat
  /-- R323; U16 0.1 A/V; -. HALL_SCALE. -/
  hallScale : Nat
  /-- R323; U16 mV; -. HALL_TH_DIS and HALL_TH_CHG. -/
  hallTh : Nat
  deriving DecidableEq, Repr

/-- The last reaction (0x2B05.00). -/
structure LastReaction where
  /-- R346; U64 ns; NV DC. Time. -/
  time : Nat := 0
  /-- R346, R514; ENUM8; NV DC. Function code. -/
  func : Nat := 0
  /-- R346; ENUM8; NV DC. Channel. -/
  chan : Nat := 0
  /-- R346; ENUM8; NV DC. Reaction. -/
  reaction : Nat := 0
  /-- R346; ENUM8; NV DC. Mode entered. -/
  mode : Nat := 0
  /-- R346; S32; NV DC. Value in the input's unit. -/
  value : Int := 0
  deriving DecidableEq, Repr

/-- An event in the Foxglove status buffer (R380). -/
structure FoxEvent where
  /-- R380; U64 ns; -. Time of the event. -/
  time : Nat
  /-- R385; U16; -. Event code of its record. -/
  code : Nat
  /-- R385; U16; -. SOURCE of its record. -/
  source : Nat
  /-- R385; bytes; -. PARAMS of its record. -/
  params : List Nat
  /-- R380; 1 bit; -. Its record has been written to Seedbank. -/
  written : Bool
  deriving DecidableEq, Repr

/-- Protection and safety functions (chapter 13). -/
structure Saf where
  /-- R326; 4 bits; DC. SW1 position as set in the sealed bay. -/
  sw1 : Nat := 0
  /-- R326; 0 SINGLE, 1 A, 2 B; DC. SW2 position. -/
  sw2 : Nat := 0
  /-- R326; 8 bits; DC. SW3 S1-S8 positions. -/
  sw3 : Nat := 0
  /-- R326; 1 bit; DC closed. Cover switch closed. -/
  cover : Bool := true
  /-- R323, 0x2B00.01; 4 bits; DC. Profile position loaded by Foxglove at power-up. -/
  profile : Nat := 0
  /-- R325, R348; 1 bit; spec 0. PROFILE_LOADED: the loaded record has a valid PCRC. -/
  profileOk : Bool := false
  /-- R54 step 2; 1 bit; spec 0. Foxglove has read the switches since power-on. -/
  switchesRead : Bool := false
  /-- R327, R348; 1 bit; spec 0. SEAL_BROKEN: the cover has been found open. -/
  sealBroken : Bool := false
  /-- R327, R348; 1 bit; spec 0. SWITCH_CHANGED. -/
  switchChanged : Bool := false
  /-- R348, R325; 1 bit; spec 0. PROFILE_MISMATCH. -/
  profileMismatch : Bool := false
  /-- R37, R313, R348; 1 bit; spec 0. WALNUT_LIVE. -/
  walnutLive : Bool := false
  /-- R347, R514, 0x2B01.00; 23 bits; spec 0. Walnut demands by function code. -/
  demW : Nat := 0
  /-- R347, R514, 0x2B01.01; 23 bits; spec 0. Foxglove demands by function code. -/
  demF : Nat := 0
  /-- R347, 0x2B01.02; BITS16; spec 0. Demands of the last accepted PAIR_SAFE message. -/
  demP : Nat := 0
  /-- R315, R317; 1 bit; spec 0. Walnut's reaction line to Foxglove. -/
  line : Bool := false
  /-- R317, R348; 1 bit; spec 0. FOXGLOVE_OVERRIDE held. -/
  override : Bool := false
  /-- R315; 1 bit; spec 0. A DISCONNECT of Walnut waits its 1.0 ms before its coil switches open. -/
  openW : Bool := false
  /-- R315; 1 bit; spec 0. A DISCONNECT of Foxglove waits its 1.0 ms before its coil switches open. -/
  openF : Bool := false
  /-- R341, R348; 1 bit; spec 0. TRIP_ASSERTED. -/
  trip : Bool := false
  /-- R341; U64 ns; DC. Time at which TRIP was asserted. -/
  tripAt : Nat := 0
  /-- R341; 2 channels; spec 0. Channels that demand TRIP now (bit 0 Walnut, bit 1 Foxglove). -/
  tripDem : Nat := 0
  /-- R341; U64 ns; DC. Time at which a channel last demanded TRIP. -/
  tripLast : Nat := 0
  /-- R322; option U64 ns; spec none. Walnut holds its coils closed since. -/
  holdW : Option Nat := none
  /-- R322; option U64 ns; spec none. Foxglove holds its coils closed since. -/
  holdF : Option Nat := none
  /-- R335, R339; 3 coils; spec open. K_POS, K_NEG, K_PRE. -/
  coils : List Coil := [{}, {}, {}]
  /-- R314, R329; 8 inputs; DC high. SI0-SI7. -/
  si : List SafetyIn := [{}, {}, {}, {}, {}, {}, {}, {}]
  /-- R332, R348; 1 bit; spec 0. SI_DISCREPANCY. -/
  discrepancy : Bool := false
  /-- R332; 0-2; DC. After a discrepancy: 1 once SI0 and SI1 have been low together, 2 once high together after it. -/
  discrClear : Nat := 0
  /-- R332; option U64 ns; DC. Time from which SI0 and SI1 disagree. -/
  disagree : Option Nat := none
  /-- R380; 16 events; spec none at power-on reset release. Foxglove's last 16 events in the status buffer, oldest first. -/
  foxEvents : List FoxEvent := []
  /-- R314; U64 ns; DC. Time of the sampler's first sample (processor-domain release). -/
  samplerFrom : Nat := 0
  /-- R333; option U64 ns; spec none. Duration of a low of SI6 that outlasted its qualification and ended before 60 s. -/
  si6Low : Option Nat := none
  /-- R330; count; spec 0 at power-on reset release. Foxglove's frame number. -/
  frame : Nat := 0
  /-- R330; 0-3; spec 0. Supply whose pulse comes next in the frame. -/
  nextT : Nat := 0
  /-- R330; 1 bit; spec 0. The next pulse is the second pulse of that supply. -/
  second : Bool := false
  /-- R336, R348; 1 bit; spec 0. COIL_TEST_ACTIVE. -/
  coilTest : Bool := false
  /-- R336; option U64 ns; DC. Time of the last coil-switch test per output and switch (index 2 x output + switch). -/
  tested : List (Nat × Nat) := []
  /-- R336, R362; 6 bits; DC. Coil switches whose last test failed (index 2 x output + switch). -/
  coilBad : List Bool := [false, false, false, false, false, false]
  /-- R318; count per group; spec 0. Consecutive sweeps beyond V_OV. -/
  runOv : List (Nat × Nat) := []
  /-- R318; count per group; spec 0. Consecutive sweeps beyond V_UV. -/
  runUv : List (Nat × Nat) := []
  /-- R318; count; spec 0. Consecutive sweeps with the highest NTC beyond T_OT. -/
  runOt : Nat := 0
  /-- R318; count; spec 0. Consecutive sweeps with the highest T_int beyond T_OT + 5 K. -/
  runTint : Nat := 0
  /-- R318; count; spec 0. Consecutive sweeps with the highest NTC beyond T_OT + 10 K. -/
  runOt2 : Nat := 0
  /-- R318; count; spec 0. Consecutive 1 us samples beyond I_OC_DIS. -/
  runOcDis : Nat := 0
  /-- R318; count; spec 0. Consecutive 1 us samples beyond I_OC_CHG. -/
  runOcChg : Nat := 0
  /-- R318; 4 x option 0.01 C; DC none. PT0 to PT3 as Foxglove's comparators last saw them. -/
  ptFox : List (Option Int) := [none, none, none, none]
  /-- R320, R348; option U64 ns; spec none. DISCHARGE_STOP: time of the demand. -/
  dischargeStop : Option Nat := none
  /-- R320; 1 bit; spec 0. The standing SF-UV demand has been escalated to DISCONNECT. -/
  uvEsc : Bool := false
  /-- R320; option U64 ns; DC. Time from which every present group has read at least V_UV + 200 mV. -/
  uvOkSince : Option Nat := none
  /-- R321, R348; 1 bit; spec 0. CHARGE_COLD_STOP. -/
  coldStop : Bool := false
  /-- R343, R348; 1 bit; spec 0. PAIR_PROFILE_MISMATCH. -/
  pairProfile : Bool := false
  /-- R344, R348; 1 bit; spec 0. PAIR_SAFE_LOST. -/
  pairSafeLost : Bool := false
  /-- R344, R348; 1 bit; spec 0. PLANT_STOP_DEGRADED. -/
  plantDegraded : Bool := false
  /-- R346, 0x2B05.00; 16 bytes; NV DC. Last reaction. -/
  last : LastReaction := {}
  /-- R346, 0x2B06.01; U32; NV DC. Disconnects, saturating. -/
  nDisc : Nat := 0
  /-- R346, 0x2B06.02; U32; NV DC. Trips, saturating. -/
  nTrips : Nat := 0
  /-- R346, 0x2B06.03; U32; NV DC. Coil test failures, saturating. -/
  nCoilFail : Nat := 0
  /-- R346, 0x2B06.04; U32; spec 0. Safety input test faults, saturating. -/
  nSiFail : Nat := 0
  /-- R346, 0x2B06.05; U32; NV DC. Current holds, saturating. -/
  nHolds : Nat := 0
  deriving DecidableEq, Repr

end Sys2Proof.Machine
end

