-- ==== Sys2Proof/Parts/Seed.lean ====
section
/-! DEFINITION. Seedbank recorder (chapter 16). State as plain data; spec/16_seedbank.md.
Each field says the rules and objects that name it; its width; its reset value (spec: stated; DC: a design choice of
log entry 1; NV: kept in nonvolatile memory). -/

namespace Sys2Proof.Machine

/-- A Seedbank record (R381); its CRC field is computed by `SeedRec.bytes`. -/
structure SeedRec where
  /-- R381; U64 ns; -; TIME. -/
  time : Nat
  /-- R381, R385; U16; -; CODE. -/
  code : Nat
  /-- R381; U16; -; SOURCE. -/
  source : Nat
  /-- R381; U8; -; MODE byte: DEGRADED and mode code. -/
  mode : Nat
  /-- R381; U8; -; CLASS byte. -/
  cls : Nat
  /-- R381, R382; U32; -; SEQ. -/
  seq : Nat
  /-- R381; 10 bytes; -; PARAMS. -/
  params : List Nat
  /-- R384; 1 bit; -; the slot's CRC does not match (a slot write cut by a power failure). -/
  damaged : Bool
  deriving DecidableEq, Repr

/-- What a snapshot captures of the module's registers (R386, table Snapshot slot). -/
structure Snap where
  /-- R386; 32 bytes; -; TRIGGER record. -/
  trigger : SeedRec
  /-- R386; U64 ns; -; CAPTURE_TIME. -/
  captureTime : Nat
  /-- R386; U8; -; COALESCED, saturating at 255. -/
  coalesced : Nat
  /-- R386; bytes 40-507 but COALESCED; -; the captured registers, in the slot's order. -/
  regs : List Int
  /-- R384; 1 bit; -; the slot was damaged by a power failure during its write. -/
  damaged : Bool
  deriving DecidableEq, Repr

/-- A clear-ledger entry (R388). -/
structure LedgerEntry where
  /-- R388; U64 ns; -; TIME. -/
  time : Nat
  /-- R388; U32; -; LSEQ. -/
  lseq : Nat
  /-- R388; U8; -; WHAT. -/
  what : Nat
  /-- R388; ENUM8; -; IFACE. -/
  iface : Nat
  /-- R388; 4 bytes; -; CERT, first bytes of the session certificate's fingerprint. -/
  cert : Nat
  /-- R388; U32; -; FIRST_SEQ. -/
  firstSeq : Nat
  /-- R388; U32; -; LAST_SEQ. -/
  lastSeq : Nat
  /-- R384; 1 bit; -; the slot's CRC does not match. -/
  damaged : Bool := false
  deriving DecidableEq, Repr

/-- Suppression of class C records of one source (R383). -/
structure Suppress where
  /-- R383; source ID; -; the source. -/
  src : Nat
  /-- R383; U64 ns; -; time of its last written class C record. -/
  last : Nat
  /-- R383; U16; -; events suppressed since. -/
  held : Nat
  deriving DecidableEq, Repr

/-- A clear of the recorder that runs (R387). -/
structure SeedClear where
  /-- R387; U8; -; WHAT is cleared. -/
  what : Nat
  /-- R387; U64 ns; -; fabric time of acceptance. -/
  start : Nat
  /-- R388; ENUM8; -; interface of the session. -/
  iface : Nat
  /-- R388; 4 bytes; -; certificate fingerprint of the session. -/
  cert : Nat
  /-- R382, R387; record; -; RECORDER_CLEARED, with the SEQ it took at acceptance. -/
  cleared : SeedRec
  /-- R387; records; -; privileged records waiting for slot 0, with its captured registers. -/
  waiting : List Snap
  deriving DecidableEq, Repr

/-- The Seedbank recorder. The MRAM regions survive power-off (R377). -/
structure Seed where
  /-- R378, 0x2E01; 1,024 slots; NV empty. Vault. -/
  vault : List SeedRec := []
  /-- R377, R378, 0x2E02; 8,192 slots; NV empty. Ring records, oldest first. -/
  ring : List SeedRec := []
  /-- R389, 0x2E00.02; slot 0-8191; NV DC. Ring head: slot of the oldest record. -/
  ringHead : Nat := 0
  /-- R386, 0x2E04; 64 slots; NV empty. Snapshot slots, by slot number. -/
  snaps : List (Nat × Snap) := []
  /-- R386; count; NV DC. Snapshots taken since the last snapshot clear. -/
  snapCount : Nat := 0
  /-- R388, 0x2E05.02; 64 entries; NV empty. Clear ledger, by entry number 0-63. -/
  ledger : List (Nat × LedgerEntry) := []
  /-- R388; U32; NV spec 1 next. Next ledger sequence. -/
  nextLseq : Nat := 1
  /-- R382, 0x2E00.01; U32; NV DC. SEQ of the newest record committed (0 none). -/
  lastSeq : Nat := 0
  /-- R382; U32; spec 1 after final test. SEQ the next record takes. -/
  nextSeq : Nat := 1
  /-- R379; up to 1,024 records; spec empty. Staging queue, oldest first. -/
  staging : List SeedRec := []
  /-- R379; count; spec 0. Records dropped at a full queue and not yet reported. -/
  dropped : Nat := 0
  /-- R379; U32; DC. First SEQ lost of those dropped. -/
  firstLost : Nat := 0
  /-- R391; 1 bit; spec 0. LOST. -/
  lost : Bool := false
  /-- R383; per source; spec none. Suppression of class C records. -/
  suppress : List Suppress := []
  /-- R387, R391; option; spec none. The clear that runs (CLEARING). -/
  clear : Option SeedClear := none
  /-- R387, 0x2E05.01; ENUM8; spec 0. Clear result. -/
  clearResult : Nat := 0
  /-- R387, 0x2E05.00; BITS8; spec 0. Clear request as written. -/
  clearRequest : Nat := 0
  /-- R386; option U64 ns; DC. Time of the last snapshot captured. -/
  lastSnap : Option Nat := none
  /-- R390, 0x2E06.01; U32; NV DC. Records lost, saturating. -/
  nLost : Nat := 0
  /-- R390, 0x2E06.02; U32; NV DC. Records suppressed, saturating. -/
  nSuppressed : Nat := 0
  /-- R390, 0x2E06.03; U32; spec 0. Damaged records at replay, saturating. -/
  nDamaged : Nat := 0
  /-- R390, 0x2E06.04; U32; NV DC. Snapshots coalesced, saturating. -/
  nCoalesced : Nat := 0
  deriving DecidableEq, Repr

end Sys2Proof.Machine
end

