-- ==== Sys2Proof/Parts/Therm.lean ====
section
/-! DEFINITION. Thermal control (chapter 14). State as plain data; spec/14_thermal.md.
Each field says the rules and objects that name it; its width; its reset value (spec: stated; DC: a design choice of
log entry 1; NV: kept in nonvolatile memory). -/

namespace Sys2Proof.Machine

/-- Thermal control (chapter 14). -/
structure Therm where
  /-- R351, 0x2C00.01; 0-100 %; spec 0. Last demand the output block received (d_prev of the next epoch). -/
  d : Rat := 0
  /-- R351, 0x2C00.02; S16 0.01 C; DC none. Control temperature. -/
  tCtl : Option Int := none
  /-- R351, 0x2C00.03; %; spec 0. Feedforward demand. -/
  dff : Rat := 0
  /-- R351, 0x2C00.04; W; spec 0. Predicted heat. -/
  qff : Rat := 0
  /-- R351; %; DC. Integrator. -/
  integ : Rat := 0
  /-- R351, R361; 1 bit; spec 0. INTEGRATOR_FROZEN. -/
  frozen : Bool := false
  /-- R351, R361; 1 bit; spec 0. FF_UNAVAILABLE. -/
  ffUnavail : Bool := false
  /-- R352, R361; 1 bit; spec 0. DEMAND_FROM_LEAD. -/
  fromLead : Bool := false
  /-- R352; option; DC. Last D received from the lead: slow epoch and D. -/
  leadD : Option (Nat × Rat) := none
  /-- R354, R361; 1 bit; spec 0. STORAGE_IDLE. -/
  idle : Bool := false
  /-- R354; 1 bit; DC. Cooling runs in STORAGE (limit reached, not yet 5 K below). -/
  storeCool : Bool := false
  /-- R355, R361; 1 bit; spec 1. FALLBACK. -/
  fallback : Bool := true
  /-- R355; 1 bit; DC. A demand has been received since BOOT. -/
  hadD : Bool := false
  /-- R355; count; DC. Slow epochs without a new D. -/
  noD : Nat := 0
  /-- R350, 0x2C03; 8 x option S16 0.01 C; DC none. PT temperatures. -/
  pt : List (Option Int) := [none, none, none, none, none, none, none, none]
  /-- R350, R361; 8 bits; spec 0. Inputs whose resistance lay outside its range at the last conversion (PT_FAULT). -/
  ptBad : List Bool := [false, false, false, false, false, false, false, false]
  /-- R356, 0x2C04.05; 4 x U16 rpm; spec 0. Fan speeds. -/
  speed : List Nat := [0, 0, 0, 0]
  /-- R356; 4 x option U64 ns; DC. Time from which a fan has been below its minimum speed at 30 % duty or more. -/
  slowAt : List (Option Nat) := [none, none, none, none]
  /-- R356; 4 x option U64 ns; DC. Time from which a lost fan has been at its minimum speed or above. -/
  okAt : List (Option Nat) := [none, none, none, none]
  /-- R356, R361; 4 bits; spec 0. Fans lost. -/
  fanLost : List Bool := [false, false, false, false]
  /-- R358; U8; DC. SEQ of COOL_DEMAND per unit. -/
  seq : List Nat := [0, 0, 0, 0]
  /-- R359, 0x2C08; 4 x 8 bytes; spec 0. Last COOL_STATUS payload of each unit. -/
  units : List (List Nat) := [[], [], [], []]
  /-- R359; 4 x option U64 ns; DC none. Time of the last COOL_STATUS. -/
  unitAt : List (Option Nat) := [none, none, none, none]
  /-- R359, R361; 4 bits; spec 0. Units lost. -/
  unitLost : List Bool := [false, false, false, false]
  /-- R360, 0x2C0A.01; U32; spec 0. Fan losses, saturating. -/
  nFan : Nat := 0
  /-- R360, 0x2C0A.02; U32; spec 0. Coolant unit losses, saturating. -/
  nUnit : Nat := 0
  /-- R355, 0x2C0A.03; U32; spec 0. Fallback entries, saturating. -/
  nFallback : Nat := 0
  /-- R350, 0x2C0A.04; U32; spec 0. PT sensor faults, saturating. -/
  nPt : Nat := 0
  deriving DecidableEq, Repr

end Sys2Proof.Machine
end

