-- ==== Sys2Proof/Parts/Upd.lean ====
section
/-! DEFINITION. Firmware update and security (chapter 20). State as plain data; spec/20_update_security.md.
Each field says the rules and objects that name it; its width; its reset value (spec: stated; DC: a design choice of
log entry 1; NV: kept in nonvolatile memory). -/

namespace Sys2Proof.Machine

/-- Slot states of 0x3100.01. -/
inductive SlotState where
  | empty | loading | valid | trial | active | revoked | invalid
  deriving DecidableEq, Repr

/-- The fields of an image header that the module uses (R445). -/
structure ImgHeader where
  /-- R445; U32; -. MAGIC. -/
  magic : Nat
  /-- R445; U8; -. HDR_VER. -/
  hdrVer : Nat
  /-- R445; U8; -. HW_MIN. -/
  hwMin : Nat
  /-- R445; U8; -. HW_MAX. -/
  hwMax : Nat
  /-- R445; U8; -. PAIR_VER. -/
  pairVer : Nat
  /-- R445; U32; -. FW_VERSION. -/
  fwVersion : Nat
  /-- R445; U16; -. SEC_VER. -/
  secVer : Nat
  /-- R445; 0-3; -. KEY_SLOT. -/
  keySlot : Nat
  /-- R445; BITS8; -. REVOKE. -/
  revoke : Nat
  /-- R445; U32; -. BODY_LEN. -/
  bodyLen : Nat
  /-- R445; U32; -. ENTRY. -/
  entry : Nat
  /-- R445; 512 bytes; -. The whole header, little-endian. -/
  raw : Nat
  deriving DecidableEq, Repr

/-- The header of the image the factory leaves in slot A (log entry 1). -/
def factoryHeader : ImgHeader :=
  { magic := 0x55345843, hdrVer := 1, hwMin := 0, hwMax := 255, pairVer := 0, fwVersion := 0, secVer := 0, keySlot := 0
    revoke := 0, bodyLen := 1, entry := 0, raw := 0 }

/-- A firmware slot. -/
structure Slot where
  /-- R461, 0x3100.01; ENUM8; NV DC EMPTY. State. -/
  state : SlotState := .empty
  /-- R461, 0x3100.04; 512 bytes; NV none. Header, none while EMPTY. -/
  header : Option ImgHeader := none
  deriving DecidableEq, Repr

/-- Firmware update and security (chapter 20). -/
structure Upd where
  /-- R461; 2 slots; NV DC: slot A holds the factory's image. Slots A and B. -/
  slots : List Slot := [{ state := .active, header := some factoryHeader }, {}]
  /-- R461, 0x3100.03; 0 A, 1 B; NV DC. Designated slot. -/
  designated : Nat := 0
  /-- R444, 0x3100.06; 0-64; fuses DC. Fused security version. -/
  fused : Nat := 0
  /-- R444, 0x3110.03; 4 bits; fuses DC. Signing slots revoked. -/
  revoked : Nat := 0
  /-- R461, 0x3100.07; ENUM8; NV DC. Update result. -/
  result : Nat := 0
  /-- R447; option SID; spec none. Session that loads. -/
  loader : Option Nat := none
  /-- R448, 0x3101.02; U16; spec 0. Chunks received. -/
  chunks : Nat := 0
  /-- R448; option; DC. Digest of the last chunk, to recognise a repeat. -/
  lastChunk : Option Nat := none
  /-- R449; U64 ns; DC. Time of the last accepted chunk or header. -/
  loadAt : Nat := 0
  /-- R448; 1 bit; DC. All chunks are in: the body check runs. -/
  checking : Bool := false
  /-- R450; 1 bit; spec 0. A trial is running. -/
  trial : Bool := false
  /-- R451, 0x3101.06; U8; NV DC. Trial boots. -/
  boots : Nat := 0
  /-- R452; U64 ns; DC. Time at which the module left BOOT in the trial. -/
  trialAt : Nat := 0
  /-- R446; 1 bit; spec none. K_img is held for the load. -/
  keyHeld : Bool := false
  /-- R460; per source address; DC. Last AUTH_FAILED record: address, time, failures since. -/
  authLog : List (Nat × Nat × Nat) := []
  /-- R461; U8; factory DC. Hardware revision (0x1000.03). -/
  hwRev : Nat := 0
  /-- R461, 0x3111.01; U32; spec 0. Authentication failures, saturating. -/
  nAuth : Nat := 0
  /-- R461, 0x3111.02; U32; NV DC. Images refused, saturating. -/
  nRefused : Nat := 0
  /-- R461, 0x3111.03; U32; NV DC. Rollbacks, saturating. -/
  nRoll : Nat := 0
  deriving DecidableEq, Repr

end Sys2Proof.Machine
end

