-- ==== Sys2Proof/Syntax.lean ====
section
/-! DEFINITION. The commands of the block: one constructor per row of spec/opcode_table.json, each under its row's
mnemonic: those with operands first, then those without, each part in the table's order. The table gives no operand bits; the operands are the model's own (DESIGN CHOICE,
log entry 9): what the event or operation carries that the rules use. -/

namespace Sys2Proof

open Sys2Proof.Machine

/-- A command the block takes, one constructor per row of the opcode table. -/
inductive Instr where
  /-- BUS_TRANSACTION (R21). A master is granted the shared interconnect for one transaction of at most 20 cycles. Class 1 to 5, requesting master, request and grant time in ns, and the beats of 32 bytes asked for. -/
  | busTransaction (cls master tReq tGrant beats : Nat)
  /-- MEMORY_ECC_ERROR (R18). A SECDED memory access finds an error; a corrected error is rewritten and reported as class C, an uncorrected one as class U. In a tightly coupled memory or in shared SRAM; corrected or not; the core, or the bus master that read the word. -/
  | memoryEccError (tcm corrected : Bool) (who : Nat)
  /-- ALMOND_CORE_LOST (R27). An Almond core misses two heartbeats or is blamed for a U or F fault and is held in reset. The Almond core, 0 to 7. -/
  | almondCoreLost (core : Nat)
  /-- MERGE_RESULT (R30). A tagged task result arrives at a merge point and is accepted or discarded by generation and epoch. Partition 0 to 7 or dispatch 8, placement generation, epoch, and the result as one number. -/
  | mergeResult (part gen epoch : Nat) (value : Int)
  /-- POWER_ON_RESET_RELEASE (R54). Power-on reset releases and the power-up ladder starts with the Foxglove domain running. SW1 to SW3 and the cover switch (closed), SW4 and SW5, whether the profile record's PCRC is right, whether 6 mA arrive on the loop. -/
  | powerOnResetRelease (sw1 sw2 sw3 : Nat) (cover : Bool) (sw4 sw5 : Nat) (pcrcOk arrives : Bool)
  /-- PROCESSOR_DOMAIN_RELEASE (R56). The processor domain is released and runs the ladder from step 3: boot ROM, authentication, self-tests, replay, first sweep. What the ladder finds. -/
  | processorDomainRelease (r : BootReport)
  /-- FAST_EPOCH_BOUNDARY (R41). At each fast-epoch boundary pending reactions, plant mode commands and host requests are applied in order and the allocation comes into force. Supply in 10 mV and input power in 10 mW, means over the epoch that ends. -/
  | fastEpochBoundary (supply power : Nat)
  /-- MODE_REQUEST (R425). A write to the mode request object is checked for role, transition and condition and queued for its boundary. Mode code written and the writer's role (0 OBSERVER to 3 SERVICE). -/
  | modeRequest (code role : Nat)
  /-- LOCKOUT_CLEAR_ARM (R48). A direct SERVICE write arms the on-site lockout clear, held in Foxglove with a 300 s timer. The writer's role, and whether its session is on J5. -/
  | lockoutClearArm (role : Nat) (direct : Bool)
  /-- CHAIN_ENUMERATION (R70). The chain master enumerates pods with IDENT and ASSIGN, the far end fills from its end, and closure is checked. Pods that answer from the master's end and from the far end (already addressed, serial), the serials by which the far end checks a closed chain, the sums of 16 round trips in ns from each end, whether the far end saw the ECHO, and replies discarded at CQ1 and CQ2. -/
  | chainEnumeration (near far : List (Bool × Nat)) (check fwd rev : List Nat) (closure : Bool) (bad : Nat × Nat)
  /-- BASELINE_DEFERRAL (R58). A write of baseline deferral during C6 with the bus not live completes C6 without a baseline. The writer's role and its expert unlock. -/
  | baselineDeferral (role : Nat) (unlocked : Bool)
  /-- COMMISSIONING_ACCEPT (R57). A write of commissioning accept runs C7: commits the record journal-atomically and enters STANDBY. The writer's role and its expert unlock. -/
  | commissioningAccept (role : Nat) (unlocked : Bool)
  /-- STEP_RETRY (R57). A write of step retry reruns a failed commissioning step. The writer's role and its expert unlock. -/
  | stepRetry (role : Nat) (unlocked : Bool)
  /-- SAMPLE (R72). The chain master sends SAMPLE with per-pod latch delays so every group latches at T. Slow epoch of the latch, how many pods receive it, and whether it reaches the far end by T - 20 us. -/
  | sample (epoch reach : Nat) (far : Bool)
  /-- DATA_REPLY (R69). A DATA reply arrives, is copy-compared and written to shared SRAM and Walnut memory. Pod, chain port, whether its CRC is correct, and the reply. -/
  | dataReply (a port : Nat) (crcOk : Bool) (r : PodReply)
  /-- READ_ONE (R75). READ_ONE rereads a missing or bad DATA reply in the non-sweep window, at most twice per pod. The pod. -/
  | readOne (a : Nat)
  /-- ECHO (R71). ECHO round trips measure a pod's forward or reverse delay, one pod per second. The pod, the sums of 16 round trips from each end in ns, and replies discarded at CQ1 and CQ2. -/
  | echo (a fwd rev : Nat) (bad : Nat × Nat)
  /-- CONFIG (R81). CONFIG writes filter, watchdog timeout and comparator limits to pods in the non-sweep window. Replies discarded at CQ1 and CQ2. -/
  | config (bad : Nat × Nat)
  /-- REVERSE_SAMPLE (R85). The far end, not reached by SAMPLE by T − 20 µs, sends a reverse SAMPLE. Slow epoch, and reverse latch instant minus T in us. -/
  | reverseSample (epoch skew : Nat)
  /-- FAR_END_READOUT (R86). The far end reads pods beyond a break by READ_ONE from address N downwards. The pods that answer the far end. -/
  | farEndReadout (answers : List Nat)
  /-- CHAIN_REPLY_RELAY (R89). A pod reply forwarded by the partner over the pair link is written by CQ2 into both memories. Pod, whether its CRC is correct, and the reply the partner forwards. -/
  | chainReplyRelay (a : Nat) (crcOk : Bool) (r : PodReply)
  /-- LINE_MASTERSHIP_RETURN (R90). Mastership returns to A at an agreed slow-epoch boundary. The slow epoch the two modules agree. -/
  | lineMastershipReturn (epoch : Nat)
  /-- STREAM_FRAME (R99). A stream frame crosses the barrier each 1 µs tick with current, voltages, status and periodic charge counts. Whether the frame is there and its CRC correct, OVERRANGE, the fabric time of the samples' midpoint in ns, the shunt sample in mA and the Hall input in uV, string and bus voltage in 10 mV, and whether it carries the counts. -/
  | streamFrame (ok ovr : Bool) (t : Nat) (i hall : Int) (str bus : Nat) (counts : Bool)
  /-- CHARGE_SAMPLE (R102). Each 1 µs tick the section adds the current sample to Q_D or Q_C. The sample in mA. -/
  | chargeSample (i : Int)
  /-- HALL_LOST (R106). Hall input out of range for 1 ms or supply out of tolerance sets HALL_LOST. The sensor supply is out of tolerance. -/
  | hallLost (supply : Bool)
  /-- CURRENT_COMPARATOR (R109). A current or overrange comparator line changes level at Foxglove. Line 0 SH_OC_DIS, 1 SH_OC_CHG, 2 SH_OVR, 3 HALL_OC_DIS, 4 HALL_OC_CHG, and its input: mA, of lines 3 and 4 in 0.1 mV. -/
  | currentComparator (line : Nat) (x : Int)
  /-- INJECTION_HALF_PERIOD (R111). An injection half-period ends and the settling current is correlated and fitted. The current that correlates and that does not, and the resistance fitted in kOhm if there is one yet. -/
  | injectionHalfPeriod (corr uncorr : Nat) (reading : Option Nat)
  /-- TIE_MASK_REQUEST (R112). A write to the tie mask request issues a TIE_MASK plant command. The value written and the session's role (0 OBSERVER to 3 SERVICE). -/
  | tieMaskRequest (mask role : Nat)
  /-- EXCITE_REF (R126). EXCITE_REF tells pods the bin, reference number, start latch and lengths, or stops a bin. None: the scheduler sends it for its next bin; otherwise BIN and EXC_ID of the frame a follower hears. -/
  | exciteRef (heard : Option (Nat × Nat))
  /-- CORR_READ (R128). CORR_READ fetches a pod's correlation results, up to 8 pods per non-sweep window. The pod. -/
  | corrRead (a : Nat)
  /-- CORRELATION_REPLY (R127). A 0xB1 correlation reply arrives and its entries are accepted or rejected. The chain port (0: no reply came), the pod, whether the CRC is correct, and the fields of the reply. -/
  | correlationReply (port a : Nat) (valid : Bool) (bin status excId samples : Nat) (vals : List (Int × Int × Int × Int))
  /-- AGEING_UPDATE (R140). After 2 h of thermal equilibrium a group's ageing factor is updated and committed. The group. -/
  | ageingUpdate (g : Nat)
  /-- BASELINE_REQUEST (R136). An ENGINEER write requests a baseline as the next MAINTAIN task. The writer's role and its expert unlock. -/
  | baselineRequest (role : Nat) (unlocked : Bool)
  /-- MODEL_STEP (R146). Each group model is stepped with the exact charge and, where trusted, a voltage update. The rms string current over the step in mA. -/
  | modelStep (irms : Nat)
  /-- ESTIMATOR (R155). The lead's estimation values or full state arrive over the pair link at the follower. The lead's values of a slow epoch, its full state, or both, and OGEN. -/
  | estimator (values : Option LeadValues) (full : Option (List (Nat × GroupEst))) (ogen : Nat)
  /-- MASKS (R172). The lead's masks arrive over the pair link and the follower holds them. Masks by pod, and OGEN. -/
  | masks (l : List (Nat × Nat)) (ogen : Nat)
  /-- DUTY_COMMAND (R181). A duty command reaches PQ and takes effect from the next peak. Phase, loop period count, OGEN, duty 0 to 1, and whether it reaches PQ at least 1.0 us before the peak ahead of the next valley. -/
  | dutyCommand (k tag ogen : Nat) (duty : Rat) (early : Bool)
  /-- PWM_COMMAND_STALE (R181). No new command in the stale interval sends the phase to IDLE. The phase. -/
  | pwmCommandStale (k : Nat)
  /-- CARRIER_VALLEY (R191). A carrier valley passes and the period-average current is delivered. The phase and the mean density of its bitstream over the period, in 1e-6. -/
  | carrierValley (k density : Nat)
  /-- INTERLOCK_BLOCK (R179). Foxglove sees both pairs of a phase driven on and forces both off. The phase and the fabric time in ns. -/
  | interlockBlock (k t : Nat)
  /-- OWNERSHIP_RELEASE (R185). Foxglove accepts a release request and gates the phase's PWM off. The phase. -/
  | ownershipRelease (k : Nat)
  /-- OWN_LINE_DEASSERT (R185). 200–250 ns after release, OWNk is deasserted. The phase. -/
  | ownLineDeassert (k : Nat)
  /-- OWNERSHIP_ACQUIRE (R185). Foxglove accepts an acquisition request and asserts OWNk with PWM held off. The phase, and whether the request comes within 2 us of this module's own release. -/
  | ownershipAcquire (k : Nat) (early : Bool)
  /-- PWM_GATE_RELEASE (R185). 1.0 µs after acquisition the PWM gate is released. The phase. -/
  | pwmGateRelease (k : Nat)
  /-- FAST_TRIP (R188). An asserted FT input forces all PWM off and sets the fast-trip latch. The FT inputs asserted now. -/
  | fastTrip (mask : Nat)
  /-- FAST_TRIP_REARM (R188). PQ requests a rearm and Foxglove releases or refuses the latch. Whether every FT input has been inactive for at least 50 us. -/
  | fastTripRearm (quiet : Bool)
  /-- BITSTREAM_FAULT (R192). A bitstream becomes faulted and the phase's pairs are held off. The phase. -/
  | bitstreamFault (k : Nat)
  /-- BITSTREAM_VALID (R192). A stream valid for 10 periods releases the hold. The phase. -/
  | bitstreamValid (k : Nat)
  /-- OFFSET_ZERO (R191). After 10 ms switched off, a phase's offset is zeroed or BITSTREAM_FAULT set. The phase and its mean density over 1 ms in 1e-6. -/
  | offsetZero (k density : Nat)
  /-- CYCLE_BY_CYCLE_LIMIT (R193). Fast current beyond the peak limit ends the on-interval. The phase, its fast current in mA, and the fabric time in ns. -/
  | cycleByCycleLimit (k : Nat) (current : Int) (t : Nat)
  /-- SYNC_IN_EDGE (R197). A SYNC_IN edge is judged valid or invalid and drives the sync state. Fabric time of the rising edge in ns. -/
  | syncInEdge (t : Nat)
  /-- OUTER_PERIOD (R205). Every 50 µs K0 forms the bounded reference and outer loop output. Number of the outer period in its fast epoch (0 to 19), the mean of the shunt samples over it in mA, and whether a phase changed its state less than 20 us before it. -/
  | outerPeriod (k : Nat) (iMean : Int) (recent : Bool)
  /-- PHASE_LOOP_UPDATE (R207). A phase loop computes a new duty from its period-average current. The phase. -/
  | phaseLoopUpdate (k : Nat)
  /-- PHASE_STATE (R208). A partner phase state change arrives; n_act changes at the next outer period. Phase, state code and OGEN of the frame. -/
  | phaseState (k state ogen : Nat)
  /-- BUS_DIP (R214). A rising BUS_DIP makes PQ burst the bus-feeding switch on every phase in RUN. The bus voltage and its fall over the last 1 us in 10 mV, and the fabric time in ns. -/
  | busDip (v : Nat) (fall : Int) (t : Nat)
  /-- PHASE_LOSS_CHECK (R219). Each half period the sense residual and ripple are evaluated. Shunt mean of the half period, half-period mean of every phase and its peak-to-peak ripple, in mA. -/
  | phaseLossCheck (iShunt : Int) (iPh ripple : List Int)
  /-- PHASE_REENABLE (R221). In STANDBY a DISABLED phase with valid stream and offset returns to IDLE. The phase. -/
  | phaseReenable (k : Nat)
  /-- TRANSCEIVER_INSERTED (R230). MOD_ABS low or bring-up start begins link bring-up of a cage. The port, 0 to 3. -/
  | transceiverInserted (p : Nat)
  /-- TRANSCEIVER_CHECK (R230). Page A0h is read and checked; the port is REJECTED or TX enabled. The port, whether page A0h meets R228, and the received power in 0.1 uW. -/
  | transceiverCheck (p : Nat) (ok : Bool) (power : Nat)
  /-- BLOCK_LOCK (R230). Clause 49 block lock is acquired with hi_ber clear and HELLOs begin. The port. -/
  | blockLock (p : Nat)
  /-- HELLO_SEND (R230). A HELLO is sent on a port every 100 µs. The port. -/
  | helloSend (p : Nat)
  /-- HELLO_FRAME (R237). A neighbour's HELLO arrives and drives the two-way and wiring checks. Receiving port, and the HELLO's SERIAL, ADDR, PORT, ROLE and PEER_SERIAL. -/
  | helloFrame (p serial addr peerPort role peerSees : Nat)
  /-- PORT_DOWN (R231). A port leaves UP on loss of lock, signal, transceiver or three HELLOs. The port, and whether its transceiver was removed. -/
  | portDown (p : Nat) (removed : Bool)
  /-- PORT_HOLD_DOWN_END (R231). A held-down port restarts bring-up after 10 s. The port. -/
  | portHoldDownEnd (p : Nat)
  /-- PDELAY_SEND (R252). Each UP link starts a PDELAY exchange every 100 ms. The port and the departure stamp in ns times 2^16. -/
  | pdelaySend (p t1 : Nat)
  /-- PDELAY (R252). A PDELAY request or response arrives and the link delay is updated. Port, PSEQ, and for a response T2, T3 and the receive stamp t4. -/
  | pdelay (p pseq : Nat) (resp : Option (Nat × Nat × Nat))
  /-- LSA (R240). An LSA arrives, is flooded and stored, and routes are recomputed. Receiving port and the LSA's fields. -/
  | lsa (p serial addr seq : Nat) (links : List (Nat × Nat × Nat))
  /-- LSA_AGED (R240). A stored LSA unrefreshed for 3 s is discarded. Plane and originator. -/
  | lsaAged (plane serial : Nat)
  /-- ADDRESS_CLAIM (R238). A claim starts by listening 200 ms on every up port. SW4 and SW5 as read at this claim (R236). -/
  | addressClaim (sw4 sw5 : Nat)
  /-- CLAIM (R238). A CLAIM, DEFEND or RELEASE arrives and is resolved by tier and serial. The frame's fields (kind 0 CLAIM, 1 DEFEND, 2 RELEASE). -/
  | claim (serial addr tier kind : Nat)
  /-- FRAME_FORWARD (R244). FQ receives a frame and forwards it cut-through or delivers it locally. Receiving port, the frame, and whether its egress queue is full. -/
  | frameForward (p : Nat) (f : FabFrame) (full : Bool)
  /-- SYNC (R252). A SYNC arrives; CORR is updated when forwarding and the servo takes its offset. Receiving port, arrival time in 2^-16 ns, ORIGIN in ns, CORR in 2^-16 ns, and the SYNC's GM_ADDR, HOPS and SOURCE. -/
  | sync (p rx origin : Nat) (corr : Int) (gm hops source : Nat)
  /-- ANNOUNCE (R250). An ANNOUNCE arrives and candidate ranking is updated. The frame's fields. -/
  | announce (r : GmRank)
  /-- PTP_SYNC (R251). A PTP message on J5 updates the grandmaster's steering. The PTP domain, whether the source is locked, and the offset from it in ns. -/
  | ptpSync (domain : Nat) (locked : Bool) (offset : Int)
  /-- SAFE_MESSAGE_SEND (R256). Walnut forms a safe message sent on both planes every 10 ms. CONN 1 PAIR_SAFE or 2 PLANT_STOP. -/
  | safeMessageSend (conn : Nat)
  /-- SAFE_FRAME (R257). A SAFE frame copy arrives and passes the receiver checks in order. The receiving plane, the copy's PLANE flag, its connection, sender, header SRC and DST, its other fields, and whether SCRC is correct. -/
  | safeFrame (plane flag conn src hdrSrc dst sseq sendTime : Nat) (sdata : List Nat) (scrcOk : Bool)
  /-- SAFE_COPY_MISSING (R257). The second copy has not arrived within 2 ms. The connection. -/
  | safeCopyMissing (conn src : Nat)
  /-- SAFE_CONNECTION_TIMEOUT (R257). No message accepted within the connection timeout: TIMED_OUT. The connection. -/
  | safeConnectionTimeout (conn src : Nat)
  /-- FAST_SUMMARY (R265). A fast summary arrives and is accepted or discarded. Sender, the decoded summary, whether its ICRC is correct, and whether it came by n + 700 µs. -/
  | fastSummary (src : Nat) (r : Summary) (crcOk inTime : Bool)
  /-- SLOW_RECORD_HEAD (R275). A peer's slow record head arrives for the slow view. Sender, the decoded head, whether its ICRC is correct. -/
  | slowRecordHead (src : Nat) (h : SlowHead) (crcOk : Bool)
  /-- BODY_REQUEST (R266). A BODY_REQUEST is answered with two BODY_PART frames. Requester, and the slow epoch modulo 2^32. -/
  | bodyRequest (src epoch : Nat)
  /-- BODY_PART (R266). A BODY_PART of a requested slow record body arrives. Sender, slow epoch modulo 2^32, part 0 or 1, its bytes. -/
  | bodyPart (src epoch part : Nat) (bytes : List Nat)
  /-- HEAD_REQUEST (R275). A HEAD_REQUEST is answered with the retained slow head. Requester, and the slow epoch modulo 2^32. -/
  | headRequest (src epoch : Nat)
  /-- RECORD_REQUEST (R274). A RECORD_REQUEST is answered with the retained fast summary. Requester, and the fast epoch modulo 2^32. -/
  | recordRequest (src epoch : Nat)
  /-- ALLOCATION_COMPUTE (R284). The dispatch host computes the allocation vector and hash for n + 4. Whether the dispatch host missed its deadline. -/
  | allocationCompute (missed : Bool)
  /-- ADMIT_ISSUE (R269). The successor issues ADMIT after 100 epochs of summaries. The candidate's address. -/
  | admitIssue (a : Nat)
  /-- REMOVE_ISSUE (R270). The successor issues REMOVE after 10 absent epochs. The absent member's address. -/
  | removeIssue (a : Nat)
  /-- MEMBERSHIP_VIEW_TRANSFER (R269). A candidate receives the view and plant state from its issuer. Effect epoch, the new view and the plant state. -/
  | membershipViewTransfer (effect mv founder : Nat) (members : List Member) (st : PlantState)
  /-- PLANT_COMMAND_RECEIVED (R281). A plant command frame arrives and awaits admission from view e − 4. The decoded command with its issuer, and whether its ICRC is correct. -/
  | plantCommandReceived (c : PlantCmd) (crcOk : Bool)
  /-- COMMAND_REQUEST (R281). A COMMAND_REQUEST is answered with the retained command. Requester, and the CSEQ asked for. -/
  | commandRequest (src cseq : Nat)
  /-- MODE (R279). An admitted MODE command requests a mode at its effect epoch. The command's issuer and sequence. -/
  | mode (issuer cseq : Nat)
  /-- PLANT_POWER (R279). An admitted PLANT_POWER command sets the plant power set-point. The command's issuer and sequence. -/
  | plantPower (issuer cseq : Nat)
  /-- STRING_LIMIT (R279). An admitted STRING_LIMIT command sets a string's caps. The command's issuer and sequence. -/
  | stringLimit (issuer cseq : Nat)
  /-- TIE_MASK (R279). An admitted TIE_MASK command sets the tie mask in force. The command's issuer and sequence. -/
  | tieMask (issuer cseq : Nat)
  /-- BUS_VOLTAGE (R279). An admitted BUS_VOLTAGE command writes the bus set-point. The command's issuer and sequence. -/
  | busVoltage (issuer cseq : Nat)
  /-- PLANT_PARAM (R279). An admitted PLANT_PARAM command sets balancing gain or rest concurrency. The command's issuer and sequence. -/
  | plantParam (issuer cseq : Nat)
  /-- ADMIT (R279). An admitted ADMIT adds a member at its effect epoch. The command's issuer and sequence. -/
  | admitMember (issuer cseq : Nat)
  /-- REMOVE (R279). An admitted REMOVE removes a member at its effect epoch. The command's issuer and sequence. -/
  | remove (issuer cseq : Nat)
  /-- PLANT_POWER_REQUEST (R280). A write issues a PLANT_POWER command with effect i + 8. The set-point in 100 W and the session's role. -/
  | plantPowerRequest (p : Int) (role : Nat)
  /-- BALANCING_GAIN_REQUEST (R280). A write issues PLANT_PARAM 1. The value and the session's role. -/
  | balancingGainRequest (v role : Nat)
  /-- REST_CONCURRENCY_REQUEST (R280). A write issues PLANT_PARAM 2. The value and the session's role. -/
  | restConcurrencyRequest (v role : Nat)
  /-- STRING_LIMIT_REQUEST (R280). A write issues STRING_LIMIT for the own string. The two caps and the session's role. -/
  | stringLimitRequest (dis chg : Int) (role : Nat)
  /-- PLANT_MODE_REQUEST (R280). A write issues a MODE plant command. Target, mode code and the session's role. -/
  | plantModeRequest (target mode role : Nat)
  /-- PLANT_BUS_VOLTAGE_REQUEST (R280). A write issues a BUS_VOLTAGE plant command. Target, set-point and the session's role. -/
  | plantBusVoltageRequest (target v role : Nat)
  /-- HEARTBEAT_TOGGLE (R293). Every 5 µs PQ requests a PAIR_HB_OUT toggle. Whether K0 has completed an outer period within the last 100 us. -/
  | heartbeatToggle (k0 : Bool)
  /-- PARTNER_HEARTBEAT_LOST (R294). No PAIR_HB_IN edge for 30 µs declares the partner's heartbeat lost. Whether an ALIVE frame has arrived within the last 25 us. -/
  | partnerHeartbeatLost (aliveRecent : Bool)
  /-- TAKEOVER_ACQUISITION (R302). At d + 15 µs the survivor requests the partner's phases. Deepest dip of the string current in 0.1 % and recovery in us. -/
  | takeoverAcquisition (dip rec : Nat)
  /-- ALIVE (R296). An ALIVE frame arrives with partner mode, ownership and flags. The frame's fields. -/
  | alive (mode own flags ver ogen : Nat)
  /-- CHECKPOINT (R298). The partner's checkpoint arrives and is loaded for shadow phases. The body, none for an empty one, whether its ICRC is correct, and OGEN. -/
  | checkpoint (c : Option Checkpoint) (crcOk : Bool) (ogen : Nat)
  /-- CONTENT (R300). The lead's CONTENT frame arrives for the follower's summary. Fast epoch modulo 2^32, the content, and OGEN. -/
  | content (epoch : Nat) (c : Summary) (ogen : Nat)
  /-- TAKEBACK_READY (R306). Conditions held for the stable time set TAKEBACK_READY. Whether the partner has no uncleared U or F fault. -/
  | takebackReady (partnerClear : Bool)
  /-- TAKEBACK (R307). A TAKEBACK frame announces the start epoch. Start fast epoch and OGEN. -/
  | takeback (start ogen : Nat)
  /-- PHASE_RELEASE (R309). An ENGINEER write of phase release hands phases to the partner. The value, the session's role and its expert unlock. -/
  | phaseRelease (on : Bool) (role : Nat) (unlocked : Bool)
  /-- RELEASE (R309). A RELEASE frame makes the module take the partner's phases. Start fast epoch and OGEN. -/
  | release (start ogen : Nat)
  /-- PARTNER_ACCEPT (R292). A write of partner accept commits the new partner serial. The session's role and its expert unlock. -/
  | partnerAccept (role : Nat) (unlocked : Bool)
  /-- REQUEST (R42). A host request forwarded by the partner is applied at the same boundary. Mode code, fast epoch of effect, the MAINTAIN task, its duration and whether it runs a baseline, and OGEN. -/
  | request (code effect task dur : Nat) (due : Bool) (ogen : Nat)
  /-- PAIR_CONFIG (R195). The partner's CONFIG frame is compared for CARRIER_MISMATCH. The carrier objects, the bitstream mode, the profile CRC, and OGEN. -/
  | pairConfig (settings : List Nat) (inMode pcrc ogen : Nat)
  /-- INPUT_SAMPLE (R314). Every 50 µs the J1 inputs are written into Walnut's memory. Bit k of si: SIk high; bit 0 to 2 of fb and node: feedback closed and coil node energised of K_POS, K_NEG, K_PRE. -/
  | inputSample (si fb node : Nat)
  /-- PT_OVERTEMP (R318). A PT input beyond T_OT_HW for 100 ms makes Foxglove demand. PT input and its temperature in 0.01 C. -/
  | ptOvertemp (pt : Nat) (temp : Int)
  /-- TEST_PULSE (R330). A test-pulse supply switches off for 400 µs in its frame slot. Bit k: a low fell on SIk with the pulse (within 100 us of a pulse of its own supply, or 300 to 600 us long during another's). -/
  | testPulse (lows : Nat)
  /-- SAFETY_INPUT_DEMAND (R331). A safety input low beyond qualification demands its reaction. Channel 0 Walnut or 1 Foxglove, and the input. -/
  | safetyInputDemand (chan k : Nat)
  /-- VENTILATION_DEMAND (R333). SI6 low for 60 s demands DISCONNECT. Channel 0 Walnut or 1 Foxglove. -/
  | ventilationDemand (chan : Nat)
  /-- COIL_OPEN (R315). 1.0 ms after PWM off the demanding channel opens its coil switches. Channel 0 Walnut or 1 Foxglove. -/
  | coilOpen (chan : Nat)
  /-- HOLD_RELEASE (R322). A channel's current evidence falls and it releases its hold. Channel 0 Walnut or 1 Foxglove. -/
  | holdRelease (chan : Nat)
  /-- SWITCH_READ (R326). Both channels read the sealed switches every 10 ms. The readings of SW1, SW2 (0 SINGLE, 1 A, 2 B), SW3 (bit n - 1: Sn ON) and whether the cover switch is closed. -/
  | switchRead (sw1 sw2 sw3 : Nat) (cover : Bool)
  /-- COIL_SWITCH_TEST (R336). A coil switch is tested with an OFF-pulse or ON-test. Output 0 to 2, switch 0 Walnut or 1 Foxglove, and whether the test passed. -/
  | coilSwitchTest (k sw : Nat) (pass : Bool)
  /-- CONTACTOR_PICKUP (R339). Feedback not closed 50 ms after energise: automatic SHUTDOWN. Contactor 0 K_POS, 1 K_NEG, 2 K_PRE. -/
  | contactorPickup (k : Nat)
  /-- CONTACTOR_DROPOUT (R339). Feedback still closed 30 ms after de-energise raises CONTACTOR_DROPOUT. Contactor. -/
  | contactorDropout (k : Nat)
  /-- WELDED_CONTACT (R339). Feedback closed 100 ms with coil de-energised: TRIP and LOCKOUT. Contactor. -/
  | weldedContact (k : Nat)
  /-- CONTACTOR_LOST (R339). Feedback or coil node lost 20 ms after pick-up: DISCONNECT into SAFE_HOLD. Contactor. -/
  | contactorLost (k : Nat)
  /-- CONTACTOR_HELD (R340). Coil node energised 100 ms after own switches opened: TRIP. Contactor. -/
  | contactorHeld (k : Nat)
  /-- PT_CONVERSION (R350). Each slow epoch each PT1000 input is converted. PT input 0 to 7 and its temperature in 0.01 C, none where its resistance lies outside 750 to 1,800 ohm. -/
  | ptConversion (pt : Nat) (temp : Option Int)
  /-- FAN_SPEED (R356). Each second a fan's tach speed is averaged. Fan 0 to 3 and its mean speed in rpm. -/
  | fanSpeed (fan rpm : Nat)
  /-- FAN_LOST (R356). A fan below minimum speed for 5 s sets FAN_LOST. Fan 0 to 3. -/
  | fanLost (fan : Nat)
  /-- FAN_RECOVERED (R356). A fan at minimum speed for 10 s recovers. Fan 0 to 3. -/
  | fanRecovered (fan : Nat)
  /-- COOL_STATUS (R359). A coolant unit's COOL_STATUS is received. 0 to 3 for units 1 to 4, and the payload of its frame. -/
  | coolStatus (unit : Nat) (data : List Nat)
  /-- COOLANT_UNIT_LOST (R359). A status older than 500 ms marks the unit lost. 0 to 3 for units 1 to 4. -/
  | coolantUnitLost (unit : Nat)
  /-- FAULT_RAISE (R364). A detector raises a fault; the collector latches it and drives FAULT_N. The source and its parameter bytes. -/
  | faultRaise (src : Src) (params : List Nat)
  /-- COUNTING_EVENT (R363). A counting-source event is recorded as class C and may raise U. The source and its parameter bytes. -/
  | countingEvent (src : Src) (params : List Nat)
  /-- FAULT_ACKNOWLEDGE (R368). A write of s acknowledges pending sources with sequence ≤ s. The sequence written and the writer's role. -/
  | faultAcknowledge (seq role : Nat)
  /-- FAULT_CLEAR (R368). A write of s clears non-live U sources and reports a result. The sequence written and the writer's role. -/
  | faultClear (seq role : Nat)
  /-- FAULT_INJECTION (R371). A SERVICE injection request is checked and started or refused. Source (function code; 0x090 loop break), channel (0 Walnut, 1 Foxglove), duration in us, the writer's role. -/
  | faultInjection (src chan dur role : Nat)
  /-- INJECTION_END (R372). The injection duration ends with PASSED or FAILED. Time in us at which the masked demand appeared, if it did. -/
  | injectionEnd (response : Option Nat)
  /-- RECORD_CREATE (R379). A Seedbank record enters the staging queue or is dropped when full. CODE, SOURCE, CLASS and PARAMS of the record. -/
  | recordCreate (code source cls : Nat) (params : List Nat)
  /-- RECORDER_CLEAR (R387). A SERVICE clear request starts clearing the ring and/or snapshots. The value written, the writer's role, its interface (0 J5, 1 fabric) and its certificate's first 4 fingerprint bytes. -/
  | recorderClear (what role iface cert : Nat)
  /-- HELLO (R412). A host HELLO opens a session or is refused. Interface (0 J5, 1 fabric), requested mailbox size, relay node, source address, and whether the handshake data is sound. -/
  | hello (iface size relay source : Nat) (ok : Bool)
  /-- FINISH (R456). FINISH completes the handshake and the certificate sets the role. The frame and what the host certificate says. -/
  | finish (f : MbxFrame) (cert : HostCert)
  /-- CLOSE (R414). CLOSE ends the session and frees its mailbox. The frame. -/
  | close (f : MbxFrame)
  /-- KEEPALIVE (R414). KEEPALIVE resets the idle interval and is echoed. The frame. -/
  | keepalive (f : MbxFrame)
  /-- MAILBOX_READ (R419). A READ request is served from a capture. The frame, INDEX, SUB, OFFSET and LENGTH. -/
  | mailboxRead (f : MbxFrame) (idx sub offset length : Nat)
  /-- READ_SET (R420). A READ_SET returns several objects from one capture. The frame and the objects named, index and sub-index. -/
  | readSet (f : MbxFrame) (objs : List (Nat × Nat))
  /-- WRITE (R421). A WRITE to an object without its own row is checked and accepted. The frame and the value written. -/
  | write (f : MbxFrame) (w : WriteVal)
  /-- WRITE_SET (R422). A WRITE_SET is checked and applied all together or not at all. The frame and the values written. -/
  | writeSet (f : MbxFrame) (ws : List WriteVal)
  /-- ACK (R417). An ACK makes the sender send the next segment. The frame. -/
  | ack (f : MbxFrame)
  /-- ABORT (R416). ABORT ends the transfer in progress. The frame. -/
  | abort (f : MbxFrame)
  /-- RELAY_FRAME (R408). A frame for another node is relayed over the fabric or refused. Host address, host port and TARGET. -/
  | relayFrame (host port target : Nat)
  /-- RELAY_REPLY (R408). A target's answer arrives and is sent to the host. RELAY_ID. -/
  | relayReply (id : Nat)
  /-- EXPERT_UNLOCK (R415). An ENGINEER or SERVICE write sets expert unlock for its session. The frame and the value written. -/
  | expertUnlock (f : MbxFrame) (value : Nat)
  /-- ADDRESS_CONFIG_EFFECT (R426). 1 s after commit a J5 address change takes effect and direct sessions close. The address a DHCP server leases, 0 for none. -/
  | addressConfigEffect (lease : Nat)
  /-- CAN_FRAME_RECEIVED (R436). A CAN frame enters the channel's receive queue with a time stamp. Channel 0 or 1, the frame, and what an error during it adds to the receive error counter (0 without error). -/
  | canFrameReceived (ch : Nat) (frame : CanFrame) (err : Nat)
  /-- CAN_QUEUE_DRAIN (R437). Hazel empties a queue and delivers frames to receive objects. Channel 0 or 1. -/
  | canQueueDrain (ch : Nat)
  /-- CAN_PERIODIC (R433). A periodic transmit object becomes pending at its period. Message object. -/
  | canPeriodic (k : Nat)
  /-- CAN_OBJECT_DATA_WRITE (R433). A host write to a HOST transmit object's data makes it pending. The frame, the message object and its 64 bytes little-endian. -/
  | canObjectDataWrite (f : MbxFrame) (k value : Nat)
  /-- CAN_OBJECT_TABLE_WRITE (R432). A write of the message object table is checked. The frame and the table's 2,048 bytes little-endian. -/
  | canObjectTableWrite (f : MbxFrame) (value : Nat)
  /-- CAN_TRANSMIT (R434). At bus idle the highest-priority pending frame is attempted. Channel 0 or 1 and how the attempt ends. -/
  | canTransmit (ch : Nat) (outcome : TxOutcome)
  /-- CAN_BUS_OFF_RECOVERY (R438). After the delay and recovery sequence the channel returns to error-active. Channel 0 or 1. -/
  | canBusOffRecovery (ch : Nat)
  /-- CAN_OBJECT_RESUME (R440). A write of object resume lifts a suspension. The frame and the message object. -/
  | canObjectResume (f : MbxFrame) (k : Nat)
  /-- CAN_CHANNEL_RESTART (R428). A mode or timing change restarts the channel at the boundary. Channel 0 or 1. -/
  | canChannelRestart (ch : Nat)
  /-- CAN_INTEGRATION (R428). After 11 recessive bits the channel starts in its mode. Channel 0 or 1. -/
  | canIntegration (ch : Nat)
  /-- IMAGE_HEADER (R447). A header write is checked and the inactive slot set LOADING. The frame, the header's 512 bytes little-endian, and what the crypto service finds (bit 0 signer, 1 signature, 2 key unwraps). -/
  | imageHeader (f : MbxFrame) (value crypto : Nat)
  /-- IMAGE_CHUNK (R448). A chunk write is accepted in order and programmed. The frame and the chunk's 65,540 bytes little-endian. -/
  | imageChunk (f : MbxFrame) (value : Nat)
  /-- IMAGE_BODY_CHECK (R448). After the last chunk the body hash and tag are checked. Whether BODY_HASH and BODY_TAG are right. -/
  | imageBodyCheck (hashOk tagOk : Bool)
  /-- ACTIVATE (R450). A write of activate starts a trial and resets the processor domain. The frame. -/
  | activate (f : MbxFrame)
  /-- CONFIRM (R452). An ENGINEER confirm makes the trial slot ACTIVE and blows fuses. The frame. -/
  | confirm (f : MbxFrame)
  /-- TRUST_ANCHORS_WRITE (R458). A write of the trust anchors, which ends a bootstrap session. The frame and the table's 388 bytes little-endian. -/
  | trustAnchorsWrite (f : MbxFrame) (value : Nat)
  /-- RESET_BUTTON (R469). A front-panel press held past 20 µs resets the processor domain. Pressed (qualified) or released. -/
  | resetButton (pressed : Bool)
  /-- RESET_N (R469). RESET_N low past 20 µs resets the processor domain. Low (qualified) or high. -/
  | resetN (low : Bool)
  /-- RESET_INPUT_STUCK (R470). A reset input pressed for 10 s is classified stuck. The front button, or RESET_N. -/
  | resetInputStuck (button : Bool)
  /-- STUCK_INPUT_CLEAR (R470). A stuck input seen open for 1 s becomes live again. The front button, or RESET_N. -/
  | stuckInputClear (button : Bool)
  /-- RESET_REQUEST (R467). A SERVICE write resets the processor domain within 100 ms. The frame. -/
  | resetRequest (f : MbxFrame)
  /-- BROWN_OUT_WARNING (R473). Supply below 16.5 V flushes the store and suspends work. The supply in 10 mV. -/
  | brownOutWarning (low : Nat)
  /-- BROWN_OUT_FLUSH_DONE (R401). The flush completes and FLUSHED is set. Duration of the flush in us. -/
  | brownOutFlushDone (dur : Nat)
  /-- SUPPLY_RECOVERY (R474). Supply above 17.5 V for 1 ms lifts the cap and writes SUPPLY_DIP. Lowest supply in 10 mV, and the time from the warning to the crossing of 17.5 V in us. -/
  | supplyRecovery (low time : Nat)
  /-- POWER_FAIL (R475). Supply below 13.5 V resets both domains. Whether a transaction was being written and lacks its MARK. -/
  | powerFail (torn : Bool)
  /-- SUPPLY_HIGH (R472). Supply above 32.5 V sets SUPPLY_HIGH. Above 32.5 V, or no longer. -/
  | supplyHigh (high : Bool)
  /-- TRACE_RECORD (R506). A trace record enters the queue and is sent on J7. TYPE, SRC and DATA of a record that enters the queue, if one does. -/
  | traceRecord (entry : Option (Nat × Nat × List Nat))
  /-- HOST_PORT_LINK_CHANGE (R407). The 1000BASE-T link on J5 comes up or goes down, and the host port link state and the IPv4 address in force follow. Link up or down; the address a DHCP server leases, 0 for none. -/
  | hostPortLinkChange (up : Bool) (lease : Nat)
  /-- BOOT_EXIT (R55). BOOT completes and the module takes the first applicable exit, releasing FAULT_N and starting PAIR_HB. -/
  | bootExit
  /-- SLOW_EPOCH_BOUNDARY (R261). A slow-epoch boundary (latch instant T) passes and per-slow-epoch computations start. -/
  | slowEpochBoundary
  /-- PRECHARGE_TIMEOUT (R44). Precharge has not completed within the timeout; PRECHARGE_TIMEOUT is raised and the module passes through SHUTDOWN. -/
  | prechargeTimeout
  /-- SHUTDOWN_OPEN (R45). String current has stayed within 2 A for 5 ms in SHUTDOWN and the contactors are opened. -/
  | shutdownOpen
  /-- SHUTDOWN_TIMEOUT (R45). The shutdown timeout expires; SHUTDOWN_TIMEOUT is raised and SAFE_HOLD is entered. -/
  | shutdownTimeout
  /-- LOCKOUT_ARM_EXPIRED (R49). The 300 s arm timer expires without a qualifying press and the arm is withdrawn. -/
  | lockoutArmExpired
  /-- MAINTENANCE_TASK_COMPLETE (R50). A maintenance task completes; the outcome is reported and the module returns to CONNECTED. -/
  | maintenanceTaskComplete
  /-- PLANT_JOIN_TIMEOUT (R57). In step C3 with no fabric link up for 10 s, the membership view holds the module alone and the step completes. -/
  | plantJoinTimeout
  /-- COMMISSION_C4_CHECK (R57). After one open-wire rotation and one insulation reading, step C4 passes or fails. -/
  | commissionC4Check
  /-- COMMISSION_C6_START (R58). With the bus live, step C6 precharges, takes the baseline and shuts down. -/
  | commissionC6Start
  /-- READ (R73). READ is broadcast at T + 370 µs and pods answer DATA in their slots. -/
  | read
  /-- SWEEP_CLOSE (R75). At T + 9.5 ms the sweep closes and absence records are written for pods without a valid reply. -/
  | sweepClose
  /-- LINE_TAKEOVER (R90). Module B becomes line master after two slow epochs without A's SAMPLE while PARTNER_MISSING. -/
  | lineTakeover
  /-- BLEED (R168). The BLEED broadcast at T + 9.0 ms carries the masks in force minus this epoch's exclusions. -/
  | bleed
  /-- ALARM_LOOP_BROKEN (R93). Loop current outside 6–14 mA for 1 ms: Foxglove declares the loop broken. -/
  | alarmLoopBroken
  /-- LOOP_SOURCE_TAKEOVER (R92). Role-B Foxglove takes SOURCE after 500 µs below 1 mA with the heartbeat lost or never seen. -/
  | loopSourceTakeover
  /-- ISOLATED_STREAM_LOSS (R99). Three consecutive stream frames lost raise ISOLATED_STREAM_LOSS and set STREAM_LOST. -/
  | isolatedStreamLoss
  /-- STREAM_RECOVERED (R99). After 1,000 consecutive valid frames STREAM_LOST clears. -/
  | streamRecovered
  /-- SECTION_CLOCK_HOLDOVER (R103). The 20 MHz branch missing for 1 µs switches the section to its own oscillator. -/
  | sectionClockHoldover
  /-- SECTION_CLOCK_RETURN (R103). The branch present for 100 µs switches the section back; the holdover is bridged. -/
  | sectionClockReturn
  /-- SECTION_RESTART (R103). The isolated section restarts, counts start from 0 and SECTION_RESTART and CHARGE_GAP are reported. -/
  | sectionRestart
  /-- HALL_RECOVERED (R106). After 1 s back in range HALL_LOST clears. -/
  | hallRecovered
  /-- INJECTOR_START (R114). A module elected in views e and e + 1 starts injecting at slow epoch e + 5. -/
  | injectorStart
  /-- INJECTOR_STOP (R114). A module not elected in view e stops injecting at slow epoch e + 4. -/
  | injectorStop
  /-- ISO_BACKOFF_END (R115). The conflict back-off expires and the injector becomes eligible again. -/
  | isoBackoffEnd
  /-- BIN_START (R123). A bin measurement starts at a latch when excitation, headroom, rest-slot and ownership conditions hold. -/
  | binStart
  /-- BIN_WINDOW_END (R126). The latch ending a bin window closes correlation and excitation of that bin. -/
  | binWindowEnd
  /-- BIN_WRITE (R134). All accepted entries of a bin are written at one merge point with the bin completion time. -/
  | binWrite
  /-- PASS_START (R120). After the pass idle interval the next pass begins. -/
  | passStart
  /-- QUALIFYING_REST (R151). A rest qualifies after 15 s within ±1 A and the rest correction is applied. -/
  | qualifyingRest
  /-- REST_CORRECTION (R151). While a rest holds, the correction is reapplied every 60 s. -/
  | restCorrection
  /-- REFERENCE_AGED (R153). 48 h without a qualifying rest sets REFERENCE_AGED. -/
  | referenceAged
  /-- ESTIMATOR_INIT (R515). At the first sweep after C5 every group's estimator state is initialised. -/
  | estimatorInit
  /-- LEAD_VALUES_MISSING (R156). The lead's values are late by one slow epoch; the follower publishes its own. -/
  | leadValuesMissing
  /-- BALANCING_DECISION (R167). At each decision epoch the lead computes excesses and bleed masks. -/
  | balancingDecision
  /-- SYNC_HOLDOVER (R198). Three expected periods without a valid edge enter HOLDOVER. -/
  | syncHoldover
  /-- SYNC_GLIDE (R198). The hold-over time elapses and the carrier glides towards f_c. -/
  | syncGlide
  /-- SYNC_GLIDE_END (R198). The gliding carrier reaches f_c and enters FREE. -/
  | syncGlideEnd
  /-- SOFT_START (R210). After the start delay phases enter RUN with a rising ceiling. -/
  | softStart
  /-- SOFT_STOP_RAMP (R211). After the stop delay r_cmd ramps to 0. -/
  | softStopRamp
  /-- DIP_PULSE_END (R214). The dip pulse width ends and phases resume at their next pulse. -/
  | dipPulseEnd
  /-- DIP_FLOOR_RELEASE (R215). The dip hold time after deassertion expires and the floor is released. -/
  | dipFloorRelease
  /-- PRECHARGE_STAGE_COMPLETE (R216). A precharge stage meets its completion condition and the next contactor step begins. -/
  | prechargeStageComplete
  /-- K_PRE_RELEASE (R337). 20 ms after K_POS closes, K_PRE is de-energised. -/
  | kPreRelease
  /-- FAST_TRIP_RESTART (R218). After FT inactive and the restart delay, a rearm is ordered. -/
  | fastTripRestart
  /-- SENSE_MISMATCH_TIMEOUT (R222). An unresolved mismatch holding 1 s raises PHASE_SENSE_MISMATCH and SHUTDOWN. -/
  | senseMismatchTimeout
  /-- LSA_REFRESH (R240). The node originates its LSA every 1 s. -/
  | lsaRefresh
  /-- CLAIM_LISTEN_END (R238). The 200 ms listen ends; a candidate is chosen and CLAIM flooded. -/
  | claimListenEnd
  /-- CLAIM_WAIT_END (R238). 100 ms after the claim the candidate is taken or retried. -/
  | claimWaitEnd
  /-- ADDRESS_ESTABLISHED (R238). 10 s after taking an address it becomes ESTABLISHED and is stored. -/
  | addressEstablished
  /-- ANNOUNCE_SEND (R250). A grandmaster candidate floods ANNOUNCE every 100 ms. -/
  | announceSend
  /-- GRANDMASTER_ELECTION (R250). 300 ms without a better ANNOUNCE makes the node grandmaster. -/
  | grandmasterElection
  /-- TIME_HOLDOVER (R253). 10 fast epochs without a valid SYNC enter HOLDOVER. -/
  | timeHoldover
  /-- FAST_SUMMARY_SEND (R264). The fast summary is broadcast at boundary + 100 µs + address offset. -/
  | fastSummarySend
  /-- SLOW_RECORD_SEND (R266). The slow record head is broadcast by 10m + 9.8 ms. -/
  | slowRecordSend
  /-- PROVISIONAL_VIEW (R272). At n + 700 µs the provisional view and digest are formed. -/
  | provisionalView
  /-- VIEW_CLOSE (R273). At n + 1.7 ms the view is held if the own digest is the majority. -/
  | viewClose
  /-- SLOW_VIEW_CLOSE (R275). At 10m + 12.7 ms the slow plant view closes. -/
  | slowViewClose
  /-- HASH_CHECK (R286). At e − 2 + 700 µs the own hash is compared with the majority hash. -/
  | hashCheck
  /-- ALLOC_HOLD_WITHDRAW (R286). After 100 held epochs the module withdraws from DISPATCH. -/
  | allocHoldWithdraw
  /-- VIEW_FOUNDING (R268). A grandmaster without member summaries for 1 s founds a view. -/
  | viewFounding
  /-- MEMBERSHIP_LEAVE (R271). A member leaves at the next multiple of 100 when out of step or merging. -/
  | membershipLeave
  /-- REST_SLOT_START (R287). A rest period begins; resting strings become ineligible with target 0. -/
  | restSlotStart
  /-- REST_SLOT_END (R287). A 20 s rest period ends. -/
  | restSlotEnd
  /-- HEARTBEAT_LAPSE (R293). 40 µs without a request makes Foxglove release every owned phase. -/
  | heartbeatLapse
  /-- HEARTBEAT_PRESENT (R294). Edges for 1 ms without a 30 µs gap: heartbeat present. -/
  | heartbeatPresent
  /-- ALIVE_TIMEOUT (R295). With HB_LINE_FAULT, 40 µs without ALIVE declares the partner lost. -/
  | aliveTimeout
  /-- TAKEBACK_START (R307). At t0 the share σ starts falling. -/
  | takebackStart
  /-- TAKEBACK_HANDOVER (R307). At t0 + 100 ms the moving phases are handed over. -/
  | takebackHandover
  /-- TAKEBACK_END (R307). At t0 + 200 ms σ reaches 1 and the takeback ends. -/
  | takebackEnd
  /-- WALNUT_SWEEP_EVALUATION (R318). Walnut evaluates voltage and temperature functions on a complete sweep. -/
  | walnutSweepEvaluation
  /-- FOXGLOVE_OC_DEMAND (R318). A comparator line asserted 50 µs makes Foxglove demand TRIP. -/
  | foxgloveOcDemand
  /-- SI_DISCREPANCY (R332). SI0 and SI1 disagreeing for 50 ms raise SI_DISCREPANCY. -/
  | siDiscrepancy
  /-- SI6_CANCELLED (R333). SI6 returning high within 60 s cancels the pending demand. -/
  | si6Cancelled
  /-- CONTACTOR_FORCED_OPEN (R322). 500 ms after a hold began both channels open regardless. -/
  | contactorForcedOpen
  /-- UV_ESCALATION (R320). Discharge above 2 A 2 s after DISCHARGE_STOP escalates to DISCONNECT. -/
  | uvEscalation
  /-- DISCHARGE_STOP_RELEASE (R320). Groups above V_UV + 200 mV for 10 s end DISCHARGE_STOP. -/
  | dischargeStopRelease
  /-- TRIP_RELEASE (R341). TRIP is released after 500 ms asserted and 1 s without demand. -/
  | tripRelease
  /-- THERMAL_DEMAND (R351). Each slow epoch the lead computes the cooling demand D. -/
  | thermalDemand
  /-- THERMAL_FALLBACK (R355). No new D for 5 slow epochs drives outputs to the fallback demand. -/
  | thermalFallback
  /-- COOL_DEMAND (R358). COOL_DEMAND is sent to each unit every 100 ms. -/
  | coolDemand
  /-- COLLECTOR_SELF (R370). A collector copy mismatch sets COLLECTOR_SELF and demands SAFE_HOLD. -/
  | collectorSelf
  /-- INJECTION_ABORT (R373). A real event aborts the injection at once. -/
  | injectionAbort
  /-- RECORD_COMMIT (R379). A staged record is committed to the ring and, while not full, the vault. -/
  | recordCommit
  /-- RECORDER_CLEAR_DONE (R387). The clear completes and RECORDER_CLEARED is written. -/
  | recorderClearDone
  /-- JOURNAL_COMMIT (R397). A transaction is written to the journal and committed by its MARK. -/
  | journalCommit
  /-- COMPACTION_START (R399). Compaction starts at 75 % fill or 1 h. -/
  | compactionStart
  /-- COMPACTION_COMPLETE (R399). Both superblocks are written and the new base becomes active. -/
  | compactionComplete
  /-- RELAY_ENTRY_EXPIRY (R408). A relay entry without traffic for 60 s is removed. -/
  | relayEntryExpiry
  /-- SESSION_TIMEOUT (R414). A session with no accepted frame for 60 s ends. -/
  | sessionTimeout
  /-- EXPERT_UNLOCK_EXPIRY (R415). Expert unlock clears after 900 s without an RWE write. -/
  | expertUnlockExpiry
  /-- TRANSFER_TIMEOUT (R417). A transfer without ACK or segment for 2 s is abandoned. -/
  | transferTimeout
  /-- CAPTURE (R419). At the first boundary after a read request a capture is taken. -/
  | capture
  /-- CAPTURE_BUSY (R420). A capture not fitting the pool after 100 ms is refused. -/
  | captureBusy
  /-- WRITE_EFFECT (R423). An accepted write takes effect at the next fast-epoch boundary. -/
  | writeEffect
  /-- FRAGMENT_TIMEOUT (R407). An IP fragment set incomplete after 100 ms is discarded. -/
  | fragmentTimeout
  /-- LOAD_ABANDONED (R449). 600 s without a chunk or session end abandons the load. -/
  | loadAbandoned
  /-- TRIAL_TIME_EXPIRY (R452). The trial time passing without reset or F fault confirms the trial. -/
  | trialTimeExpiry
  /-- CLOCK_FAIL (R466). PLL lock loss or 20 MHz out of window for 100 µs holds the processor domain in reset. -/
  | clockFail
  /-- CLOCK_RECOVERY (R466). 10 ms after the PLL regains lock the processor domain is released. -/
  | clockRecovery
  /-- WATCHDOG_RESET (R467). No watchdog key for 100 ms resets the processor domain. -/
  | watchdogReset
  /-- ALARM_LOOP_RESTORED (R93). The alarm-loop current returns within 6–14 mA at the SOURCE or SENSE port, so the broken-loop declaration and its Foxglove LOOP_BROKEN demand end. -/
  | alarmLoopRestored
  /-- BOOTSTRAP_WINDOW_END (R458). 300 s after a qualifying RESET press with an empty trust-anchor table, the bootstrap window closes and BOOTSTRAP_OPEN clears. -/
  | bootstrapWindowEnd
  deriving DecidableEq, Repr

end Sys2Proof
end

