-- ==== Sys2Proof/Config.lean ====
section
/-! DEFINITION. What the spec leaves open as values: opaque constants, so that no proof can lean on a value (log entry 6). -/

namespace Sys2Proof.Config

/-- A free number, one for each index; the machine advances the index at each use. -/
opaque freeNat : Nat → Nat

/-- QUALITY of an impedance of exactly 0, of which R129 states none. -/
opaque qualityOfZero : Nat

/-- What a quotient with divisor 0 gives. -/
opaque divByZero : Rat → Rat

/-- The carrier frequency in Hz that tracking SYNC_IN gives from the present one, the frequency of the edges and the
phase error in ns; the spec states its bounds, not its values. -/
opaque trackFreq : Rat → Rat → Int → Rat

/-- The natural logarithm of a number not above 0, of which no value is stated (R139). -/
opaque lnOpen : Rat → Rat

/-- The factory calibration g_cal of an impedance bin, real and imaginary part (R129). -/
opaque gCal : Nat → Rat × Rat

/-- The Levenberg–Marquardt iterates of R137, whose damping no rule gives: from bins with weight, REAL and IMAG, the start's
five parameters and the number of the iteration, the five parameters that it tries. -/
opaque lmTrial : List (Nat × Rat × Rat × Rat) → List Rat → Nat → List Rat

/-- Whether that iteration ends the fit as converged: no rule gives the criterion. -/
opaque lmConverged : List (Nat × Rat × Rat × Rat) → List Rat → Nat → Bool

/-- The process noise of s, v1, v2 and h per model step, 0 to 3 (R146): no rule gives values. -/
opaque procNoise : Nat → Rat

/-- The filter covariance of a group at its initialisation (R515), row and column 0 to 3: no rule gives values. -/
opaque startCov : Nat → Nat → Rat

/-- The frequency steer in 0.001 ppm that the time servo gives from the present steer and the offset in 0.1 ns. -/
opaque steer : Int → Int → Int

/-- The 32 bytes, as one number, that a Seedbank slot damaged by a power failure reads as; by SEQ of its record (R384). -/
opaque damagedSlot : Nat → Nat

/-- The bits a field of n bytes carries for a number outside its range: the spec states none. -/
opaque outOfRange : Nat → Int → Nat

/-- Whether the dither triangle of R199 falls, and not rises, from its zero at a whole second: the spec states no direction. -/
opaque ditherFalls : Bool

end Sys2Proof.Config
end

