-- ==== Sys2Proof/Machine/State.lean ====
section
/-! DEFINITION. The state of the block, its state after reset, and the reasons a step can stop.
Every field's default is its reset value; Sys2Proof/Parts holds one file per chapter of the spec. -/

namespace Sys2Proof.Machine

/-- Everything the module holds but the queue of commands. -/
structure Mach where
  /-- Local time in ns since power-on reset release; never stepped (log entry 3). -/
  now : Nat := 0
  /-- What is added to `now` to give fabric time (R249); a time step changes it. -/
  fabBase : Int := 0
  /-- The model's own counter handed to the free values of Config (log entry 6). -/
  freeCtr : Nat := 0
  /-- What the last command made the module emit, oldest first (log entry 8). -/
  out : List Out := []
  /-- Host-writable objects off their default: key index × 256 + sub-index, little-endian value, keys strictly rising. -/
  params : List (Nat × Nat) := []
  /-- Module architecture (chapter 1): interconnect, placement, merge point. -/
  arch : Arch := {}
  /-- Operating modes, commissioning and maintenance (chapter 2). -/
  mode : ModeSt := {}
  /-- The cell chain and alarm loop (chapter 3). -/
  chain : Chain := {}
  /-- String measurement and insulation monitoring (chapter 4). -/
  meas : Meas := {}
  /-- String measurement and insulation monitoring (chapter 4). -/
  iso : Iso := {}
  /-- Impedance spectrometer and Impedance Map (chapter 5). -/
  imp : Imp := {}
  /-- State estimation (chapter 6). -/
  est : Est := {}
  /-- Cell balancing (chapter 7). -/
  bal : Bal := {}
  /-- Power stage interface and PWM (chapter 8). -/
  pwm : Pwm := {}
  /-- Converter control loops (chapter 9). -/
  conv : Conv := {}
  /-- The Uapor fabric and safe connections (chapter 10). -/
  fab : Fab := {}
  /-- The Uapor fabric and safe connections (chapter 10). -/
  safe : Safe := {}
  /-- Plant view and dispatch (chapter 11). -/
  plant : Plant := {}
  /-- Plant view and dispatch (chapter 11). -/
  plantCnt : PlantCnt := {}
  /-- Redundant pair (chapter 12). -/
  pair : Pair := {}
  /-- Protection and safety functions (chapter 13). -/
  saf : Saf := {}
  /-- Thermal control (chapter 14). -/
  therm : Therm := {}
  /-- Fault collector (chapter 15). -/
  flt : Flt := {}
  /-- Seedbank recorder (chapter 16). -/
  seed : Seed := {}
  /-- Nonvolatile store (chapter 17). -/
  nv : Nv := {}
  /-- Host mailbox (chapter 18). -/
  mbx : Mbx := {}
  /-- CAN FD channels (chapter 19). -/
  can : Can := {}
  /-- Firmware update and security (chapter 20). -/
  upd : Upd := {}
  /-- Clocks, resets and supply (chapter 21). -/
  clk : Clk := {}
  /-- What the factory fixes (chapters 18, 20). -/
  fact : Factory := {}
  /-- Observation port and counters (chapter 24). -/
  obs : Obs := {}
  deriving DecidableEq, Repr

/-- The block: the commands that wait, first in first out, and the machine. -/
structure State where
  /-- Commands waiting, the next one first. -/
  pending : List Instr := []
  /-- The machine. -/
  m : Mach := {}
  deriving DecidableEq, Repr

/-- The block at release of power-on reset (R54, R475): every field at its default, no command waiting. -/
def State.reset : State := { pending := [], m := {} }

/-- No rule of the spec stops the block with a fault: every error is an effect on the state. -/
inductive Fault where
  deriving DecidableEq, Repr

/-- Why a command is refused. -/
inductive Refusal where
  /-- Raised by Dispatch for a command that has no meaning yet: safe. -/
  | notModelled (mnemonic : String)
  deriving DecidableEq, Repr

end Sys2Proof.Machine
end

