-- ==== Sys2Proof/Machine/ObjTable.lean ====
section
/-! DEFINITION. The objects of the module: every row of the object tables of spec/ (chapters 1 to 24), with its length,
access, default and range. The default is the Reset column; the range is that of the Meaning column, or the type. -/

namespace Sys2Proof.Machine

/-- Access codes of R10. -/
inductive Access where
  | ro | wo | rw | rwe | rws | rwx
  deriving DecidableEq, Repr

/-- One row of the object tables: sub-indexes lo to hi of one index. -/
structure ObjRow where
  /-- Index. -/
  idx : Nat
  /-- First sub-index. -/
  lo : Nat
  /-- Last sub-index. -/
  hi : Nat
  /-- Length of a value in bytes. -/
  len : Nat
  /-- Access. -/
  acc : Access
  /-- Kept in the nonvolatile store (R402). -/
  nv : Bool
  /-- Default, as the little-endian number of its bytes. -/
  dflt : Nat
  /-- Whether the value is signed. -/
  signed : Bool
  /-- Least value; for OCTETS and STR no range applies (both bounds 0). -/
  least : Int
  /-- Greatest value. -/
  greatest : Int
  deriving DecidableEq, Repr

/-- Objects 0x10xx (18_host_mailbox.md). -/
def objRows10 : List ObjRow := [
  ⟨0x1000, 0, 0, 48, .ro, false, 0, false, 0, 0⟩,
  ⟨0x1000, 1, 1, 16, .ro, false, 0, false, 0, 0⟩,
  ⟨0x1000, 2, 2, 8, .ro, false, 0, false, 0, 0⟩,
  ⟨0x1000, 3, 3, 1, .ro, false, 0, false, 0, 0⟩,
  ⟨0x1000, 4, 4, 4, .ro, false, 0, false, 0, 0⟩,
  ⟨0x1000, 5, 5, 4, .ro, false, 0, false, 0, 0⟩,
  ⟨0x1000, 6, 6, 2, .ro, false, 0, false, 0, 0⟩,
  ⟨0x1000, 7, 7, 1, .ro, false, 0, false, 0, 0⟩,
  ⟨0x1000, 8, 8, 1, .ro, false, 0, false, 0, 0⟩,
  ⟨0x1000, 9, 9, 1, .ro, false, 0, false, 0, 0⟩,
  ⟨0x1000, 10, 10, 32, .rw, true, 0, false, 0, 0⟩]

/-- Objects 0x11xx (18_host_mailbox.md). -/
def objRows11 : List ObjRow := [
  ⟨0x1100, 0, 0, 1, .ro, false, 0, false, 0, 0⟩,
  ⟨0x1100, 1, 1, 1, .rw, false, 255, false, 0, 11⟩,
  ⟨0x1100, 2, 2, 1, .ro, false, 0, false, 0, 0⟩,
  ⟨0x1100, 3, 3, 8, .ro, false, 0, false, 0, 0⟩,
  ⟨0x1100, 4, 4, 1, .ro, false, 0, false, 0, 0⟩]

/-- Objects 0x12xx (18_host_mailbox.md). -/
def objRows12 : List ObjRow := [
  ⟨0x1200, 0, 0, 256, .ro, false, 0, false, 0, 0⟩,
  ⟨0x1200, 1, 1, 1, .rwx, false, 0, false, 0, 1⟩]

/-- Objects 0x13xx (18_host_mailbox.md). -/
def objRows13 : List ObjRow := [
  ⟨0x1300, 0, 0, 8, .ro, false, 0, false, 0, 0⟩,
  ⟨0x1300, 1, 1, 8, .ro, false, 0, false, 0, 0⟩,
  ⟨0x1300, 2, 2, 4, .ro, false, 0, false, 0, 0⟩,
  ⟨0x1300, 3, 3, 64, .ro, false, 0, false, 0, 0⟩]

/-- Objects 0x14xx (18_host_mailbox.md). -/
def objRows14 : List ObjRow := [
  ⟨0x1400, 0, 0, 1, .rwe, true, 1, false, 0, 1⟩,
  ⟨0x1400, 1, 1, 4, .rwe, true, 0, false, 0, 0⟩,
  ⟨0x1400, 2, 2, 1, .rwe, true, 24, false, 8, 30⟩,
  ⟨0x1400, 3, 3, 4, .rwe, true, 0, false, 0, 0⟩,
  ⟨0x1400, 4, 4, 1, .rwe, true, 1, false, 0, 1⟩,
  ⟨0x1400, 5, 5, 4, .ro, false, 0, false, 0, 0⟩,
  ⟨0x1400, 6, 6, 6, .ro, false, 0, false, 0, 0⟩,
  ⟨0x1400, 7, 7, 1, .ro, false, 0, false, 0, 0⟩,
  ⟨0x1400, 8, 8, 1, .rwe, true, 1, false, 0, 1⟩]

/-- Objects 0x15xx (18_host_mailbox.md). -/
def objRows15 : List ObjRow := [
  ⟨0x1500, 1, 1, 4, .ro, false, 0, false, 0, 0⟩,
  ⟨0x1500, 2, 2, 4, .ro, false, 0, false, 0, 0⟩,
  ⟨0x1500, 3, 3, 4, .ro, false, 0, false, 0, 0⟩,
  ⟨0x1500, 4, 4, 4, .ro, false, 0, false, 0, 0⟩,
  ⟨0x1500, 5, 5, 4, .ro, false, 0, false, 0, 0⟩,
  ⟨0x1500, 6, 6, 4, .ro, false, 0, false, 0, 0⟩]

/-- Objects 0x20xx (01_architecture.md, 02_operating_modes.md). -/
def objRows20a : List ObjRow := [
  ⟨0x2000, 1, 8, 1, .ro, false, 0, false, 0, 0⟩,
  ⟨0x2001, 0, 0, 4, .ro, false, 0, false, 0, 0⟩,
  ⟨0x2002, 1, 8, 1, .ro, false, 0, false, 0, 0⟩,
  ⟨0x2002, 9, 9, 1, .ro, false, 0, false, 0, 0⟩,
  ⟨0x2003, 0, 0, 4, .ro, false, 0, false, 0, 0⟩,
  ⟨0x2004, 0, 0, 1, .ro, false, 0, false, 0, 0⟩,
  ⟨0x2005, 0, 0, 1, .ro, false, 0, false, 0, 0⟩,
  ⟨0x2006, 1, 5, 4, .ro, false, 0, false, 0, 0⟩,
  ⟨0x2007, 1, 5, 4, .ro, false, 0, false, 0, 0⟩,
  ⟨0x2008, 0, 0, 2, .ro, false, 0, false, 0, 0⟩,
  ⟨0x2010, 0, 0, 4, .ro, false, 0, false, 0, 0⟩,
  ⟨0x2011, 0, 0, 1, .ro, true, 0, false, 0, 0⟩,
  ⟨0x2011, 1, 1, 1, .rwe, true, 0, false, 0, 1⟩,
  ⟨0x2011, 2, 2, 1, .rwe, false, 0, false, 0, 1⟩,
  ⟨0x2011, 3, 3, 1, .rwe, true, 0, false, 0, 15⟩,
  ⟨0x2011, 4, 4, 1, .rwe, true, 0, false, 0, 2⟩,
  ⟨0x2011, 5, 5, 1, .rwe, false, 0, false, 0, 1⟩,
  ⟨0x2012, 0, 0, 4, .ro, false, 0, false, 0, 0⟩,
  ⟨0x2013, 0, 0, 1, .ro, false, 0, false, 0, 0⟩,
  ⟨0x2013, 1, 1, 8, .ro, false, 0, false, 0, 0⟩,
  ⟨0x2013, 2, 2, 1, .ro, false, 0, false, 0, 0⟩,
  ⟨0x2014, 0, 0, 2, .rwe, true, 5000, false, 1000, 30000⟩,
  ⟨0x2015, 0, 0, 2, .rwe, true, 3000, false, 500, 10000⟩,
  ⟨0x2016, 0, 0, 1, .rws, false, 0, false, 0, 1⟩]

/-- Objects 0x20xx (02_operating_modes.md). -/
def objRows20b : List ObjRow := [
  ⟨0x2017, 0, 0, 1, .rwe, false, 0, false, 0, 4⟩,
  ⟨0x2017, 1, 1, 4, .rwe, true, 3600, false, 60, 86400⟩,
  ⟨0x2017, 2, 2, 1, .ro, false, 0, false, 0, 0⟩]

/-- Objects 0x21xx (03_cell_chain.md). -/
def objRows21 : List ObjRow := [
  ⟨0x2100, 0, 0, 1, .ro, false, 0, false, 0, 0⟩,
  ⟨0x2101, 0, 0, 1, .ro, false, 0, false, 0, 0⟩,
  ⟨0x2101, 1, 1, 2, .ro, false, 0, false, 0, 0⟩,
  ⟨0x2102, 1, 27, 8, .ro, false, 0, false, 0, 0⟩,
  ⟨0x2103, 1, 27, 2, .ro, false, 0, false, 0, 0⟩,
  ⟨0x2104, 1, 27, 2, .ro, false, 0, false, 0, 0⟩,
  ⟨0x2105, 0, 0, 1, .rwe, true, 3, false, 0, 7⟩,
  ⟨0x2106, 0, 0, 2, .rwe, true, 200, false, 25, 1000⟩,
  ⟨0x2107, 0, 0, 2, .ro, false, 0, false, 0, 0⟩,
  ⟨0x2107, 1, 1, 8, .ro, false, 0, false, 0, 0⟩,
  ⟨0x2107, 2, 2, 2, .ro, false, 0, false, 0, 0⟩,
  ⟨0x2107, 3, 3, 1, .ro, false, 0, false, 0, 0⟩,
  ⟨0x2108, 0, 0, 432, .ro, false, 0, false, 0, 0⟩,
  ⟨0x2109, 0, 0, 1728, .ro, false, 0, false, 0, 0⟩,
  ⟨0x210A, 0, 0, 864, .ro, false, 0, false, 0, 0⟩,
  ⟨0x210B, 0, 0, 162, .ro, false, 0, false, 0, 0⟩,
  ⟨0x2110, 1, 1, 4, .ro, false, 0, false, 0, 0⟩,
  ⟨0x2110, 2, 2, 4, .ro, false, 0, false, 0, 0⟩,
  ⟨0x2110, 3, 3, 4, .ro, false, 0, false, 0, 0⟩,
  ⟨0x2110, 4, 4, 4, .ro, false, 0, false, 0, 0⟩,
  ⟨0x2110, 5, 5, 4, .ro, false, 0, false, 0, 0⟩,
  ⟨0x2110, 6, 6, 4, .ro, false, 0, false, 0, 0⟩,
  ⟨0x2110, 7, 7, 4, .ro, false, 0, false, 0, 0⟩,
  ⟨0x2111, 0, 0, 216, .ro, true, 0, false, 0, 0⟩]

/-- Objects 0x22xx (04_string_measurement.md). -/
def objRows22a : List ObjRow := [
  ⟨0x2200, 0, 0, 4, .ro, false, 0, true, 0, 0⟩,
  ⟨0x2200, 1, 1, 4, .ro, false, 0, true, 0, 0⟩,
  ⟨0x2200, 2, 2, 4, .ro, false, 0, true, 0, 0⟩,
  ⟨0x2201, 0, 0, 8, .ro, false, 0, false, 0, 0⟩,
  ⟨0x2201, 1, 1, 8, .ro, false, 0, false, 0, 0⟩,
  ⟨0x2201, 2, 2, 8, .ro, false, 0, false, 0, 0⟩,
  ⟨0x2201, 3, 3, 8, .ro, true, 0, false, 0, 0⟩,
  ⟨0x2201, 4, 4, 8, .ro, true, 0, false, 0, 0⟩,
  ⟨0x2202, 0, 0, 4, .ro, false, 0, false, 0, 0⟩,
  ⟨0x2202, 1, 1, 4, .ro, false, 0, false, 0, 0⟩,
  ⟨0x2203, 0, 0, 4, .ro, false, 0, false, 0, 0⟩,
  ⟨0x2203, 1, 1, 2, .ro, false, 0, false, 0, 0⟩,
  ⟨0x2203, 2, 2, 2, .ro, false, 0, false, 0, 0⟩,
  ⟨0x2203, 3, 3, 1, .ro, false, 0, false, 0, 0⟩,
  ⟨0x2204, 0, 0, 4, .rwe, true, 50000, false, 49500, 50500⟩,
  ⟨0x2205, 0, 0, 2, .rwe, true, 300, false, 10, 5000⟩,
  ⟨0x2205, 1, 1, 2, .rwe, true, 100, false, 10, 5000⟩,
  ⟨0x2206, 0, 0, 1, .rwe, true, 1, false, 1, 32⟩,
  ⟨0x2207, 1, 1, 4, .ro, false, 0, false, 0, 0⟩,
  ⟨0x2207, 2, 2, 4, .ro, false, 0, false, 0, 0⟩,
  ⟨0x2207, 3, 3, 4, .ro, false, 0, false, 0, 0⟩,
  ⟨0x2207, 4, 4, 4, .ro, false, 0, false, 0, 0⟩,
  ⟨0x2208, 0, 0, 4, .ro, false, 0, false, 0, 0⟩,
  ⟨0x2209, 0, 0, 4, .ro, true, 0, false, 0, 0⟩]

/-- Objects 0x22xx (04_string_measurement.md). -/
def objRows22b : List ObjRow := [
  ⟨0x2209, 1, 1, 4, .wo, false, 0, false, 0, 4294967295⟩]

/-- Objects 0x23xx (05_impedance.md). -/
def objRows23a : List ObjRow := [
  ⟨0x2300, 0, 0, 2, .ro, false, 0, false, 0, 0⟩,
  ⟨0x2300, 1, 1, 1, .ro, false, 0, false, 0, 0⟩,
  ⟨0x2300, 2, 2, 2, .ro, false, 0, false, 0, 0⟩,
  ⟨0x2300, 3, 3, 4, .ro, false, 0, false, 0, 0⟩,
  ⟨0x2301, 0, 0, 2, .rwe, true, 400, false, 100, 800⟩,
  ⟨0x2301, 1, 1, 2, .rwe, true, 2000, false, 400, 4000⟩,
  ⟨0x2302, 0, 0, 2, .rwe, true, 0, false, 0, 3600⟩,
  ⟨0x2302, 1, 1, 1, .rwe, true, 1, false, 0, 1⟩,
  ⟨0x2303, 0, 0, 2, .rwe, true, 150, false, 20, 500⟩,
  ⟨0x2303, 1, 1, 2, .rwe, true, 400, false, 50, 1500⟩,
  ⟨0x2304, 0, 0, 128, .ro, false, 0, false, 0, 0⟩,
  ⟨0x2310, 0, 0, 55296, .ro, true, 0, false, 0, 0⟩,
  ⟨0x2311, 0, 0, 55296, .ro, true, 0, false, 0, 0⟩,
  ⟨0x2311, 1, 1, 8, .ro, true, 0, false, 0, 0⟩,
  ⟨0x2311, 2, 2, 864, .ro, true, 0, false, 0, 0⟩,
  ⟨0x2311, 3, 3, 4, .ro, true, 0, false, 0, 0⟩,
  ⟨0x2312, 0, 0, 128, .ro, true, 0, false, 0, 0⟩,
  ⟨0x2320, 0, 0, 7776, .ro, false, 0, false, 0, 0⟩,
  ⟨0x2321, 0, 0, 1728, .ro, false, 0, false, 0, 0⟩,
  ⟨0x2322, 0, 0, 864, .ro, true, 0, false, 0, 0⟩,
  ⟨0x2330, 0, 0, 864, .ro, false, 0, false, 0, 0⟩,
  ⟨0x2330, 1, 1, 4, .ro, false, 0, false, 0, 0⟩,
  ⟨0x2330, 2, 2, 2, .ro, false, 0, false, 0, 0⟩,
  ⟨0x2340, 1, 1, 4, .ro, false, 0, false, 0, 0⟩]

/-- Objects 0x23xx (05_impedance.md). -/
def objRows23b : List ObjRow := [
  ⟨0x2340, 2, 2, 4, .ro, false, 0, false, 0, 0⟩,
  ⟨0x2340, 3, 3, 4, .ro, false, 0, false, 0, 0⟩,
  ⟨0x2340, 4, 4, 4, .ro, false, 0, false, 0, 0⟩,
  ⟨0x2340, 5, 5, 4, .ro, false, 0, false, 0, 0⟩,
  ⟨0x2340, 6, 6, 4, .ro, false, 0, false, 0, 0⟩,
  ⟨0x2341, 0, 0, 1, .rwe, false, 0, false, 0, 1⟩]

/-- Objects 0x24xx (06_estimation.md). -/
def objRows24a : List ObjRow := [
  ⟨0x2400, 0, 0, 4, .ro, true, 0, false, 0, 0⟩,
  ⟨0x2400, 1, 1, 4, .ro, true, 0, false, 0, 0⟩,
  ⟨0x2400, 2, 2, 2, .ro, true, 0, false, 0, 0⟩,
  ⟨0x2400, 3, 3, 4, .ro, true, 0, false, 0, 0⟩,
  ⟨0x2400, 4, 4, 2, .ro, true, 0, false, 0, 0⟩,
  ⟨0x2400, 5, 5, 2, .ro, false, 0, false, 0, 0⟩,
  ⟨0x2400, 6, 6, 4, .ro, true, 0, false, 0, 0⟩,
  ⟨0x2400, 7, 7, 8, .ro, true, 0, false, 0, 0⟩,
  ⟨0x2401, 0, 0, 1728, .ro, true, 0, false, 0, 0⟩,
  ⟨0x2401, 1, 1, 864, .ro, true, 0, false, 0, 0⟩,
  ⟨0x2402, 0, 0, 1728, .ro, true, 0, false, 0, 0⟩,
  ⟨0x2402, 1, 1, 4, .rwe, true, 0, false, 1000, 200000⟩,
  ⟨0x2403, 0, 0, 864, .ro, true, 0, false, 0, 0⟩,
  ⟨0x2403, 1, 1, 864, .ro, false, 0, false, 0, 0⟩,
  ⟨0x2404, 0, 0, 864, .ro, false, 0, false, 0, 0⟩,
  ⟨0x2405, 0, 0, 2, .ro, false, 0, false, 0, 0⟩,
  ⟨0x2405, 1, 1, 4, .ro, true, 0, false, 0, 0⟩,
  ⟨0x2405, 2, 2, 8, .ro, true, 0, false, 0, 0⟩,
  ⟨0x2406, 0, 0, 2, .rwe, true, 20, false, 5, 200⟩,
  ⟨0x2407, 0, 0, 84, .rwe, true, 0, false, 0, 0⟩,
  ⟨0x2408, 0, 0, 2, .rwe, true, 240, false, 30, 1440⟩,
  ⟨0x2408, 1, 1, 2, .rwe, true, 300, false, 50, 1000⟩,
  ⟨0x2409, 0, 0, 4, .ro, false, 0, false, 0, 0⟩,
  ⟨0x2409, 1, 1, 4, .ro, false, 0, false, 0, 0⟩]

/-- Objects 0x24xx (06_estimation.md). -/
def objRows24b : List ObjRow := [
  ⟨0x2409, 2, 2, 4, .ro, false, 0, false, 0, 0⟩,
  ⟨0x2409, 3, 3, 4, .ro, false, 0, false, 0, 0⟩,
  ⟨0x240A, 0, 0, 2, .rwe, true, 2800, false, 2000, 3500⟩,
  ⟨0x240A, 1, 1, 2, .rwe, true, 3550, false, 3000, 4300⟩,
  ⟨0x240A, 2, 2, 2, .rwe, true, 0, false, 10, 2000⟩,
  ⟨0x240A, 3, 3, 2, .rwe, true, 0, false, 10, 2000⟩,
  ⟨0x240B, 0, 0, 8, .rwe, true, 1548129551843392536, false, 0, 0⟩,
  ⟨0x240C, 0, 0, 2, .rwe, true, 3, false, 0, 100⟩,
  ⟨0x240F, 0, 0, 2, .rwe, true, 300, false, 10, 5000⟩,
  ⟨0x240F, 1, 1, 4, .rwe, true, 11000, false, 500, 500000⟩,
  ⟨0x2410, 1, 1, 4, .ro, true, 0, false, 0, 0⟩,
  ⟨0x2410, 2, 2, 4, .ro, true, 0, false, 0, 0⟩,
  ⟨0x2410, 3, 3, 4, .ro, true, 0, false, 0, 0⟩,
  ⟨0x2410, 4, 4, 4, .ro, true, 0, false, 0, 0⟩]

/-- Objects 0x25xx (07_balancing.md). -/
def objRows25 : List ObjRow := [
  ⟨0x2500, 0, 0, 2, .ro, false, 0, false, 0, 0⟩,
  ⟨0x2500, 1, 1, 2, .ro, false, 0, false, 0, 0⟩,
  ⟨0x2500, 2, 2, 54, .ro, false, 0, false, 0, 0⟩,
  ⟨0x2500, 3, 3, 4, .ro, false, 0, false, 0, 0⟩,
  ⟨0x2501, 0, 0, 1, .rwe, true, 1, false, 0, 1⟩,
  ⟨0x2501, 1, 1, 2, .rwe, true, 50, false, 10, 500⟩,
  ⟨0x2501, 2, 2, 2, .rwe, true, 20, false, 0, 490⟩,
  ⟨0x2501, 3, 3, 1, .rwe, true, 8, false, 1, 8⟩,
  ⟨0x2501, 4, 4, 2, .rwe, true, 300, false, 50, 1000⟩,
  ⟨0x2501, 5, 5, 2, .rwe, true, 6000, true, 3000, 8000⟩,
  ⟨0x2501, 6, 6, 2, .rwe, true, 100, false, 0, 500⟩,
  ⟨0x2502, 0, 0, 1728, .ro, false, 0, false, 0, 0⟩,
  ⟨0x2502, 1, 1, 1728, .ro, true, 0, false, 0, 0⟩,
  ⟨0x2503, 1, 1, 4, .ro, false, 0, false, 0, 0⟩,
  ⟨0x2503, 2, 2, 4, .ro, false, 0, false, 0, 0⟩,
  ⟨0x2503, 3, 3, 4, .ro, false, 0, false, 0, 0⟩]

/-- Objects 0x26xx (08_power_stage_pwm.md). -/
def objRows26a : List ObjRow := [
  ⟨0x2600, 0, 0, 1, .rwe, true, 0, false, 2, 12⟩,
  ⟨0x2601, 0, 0, 4, .rwe, true, 20000, false, 10000, 200000⟩,
  ⟨0x2601, 1, 1, 1, .rwe, true, 1, false, 0, 2⟩,
  ⟨0x2601, 2, 2, 1, .rwe, true, 0, false, 0, 63⟩,
  ⟨0x2601, 3, 3, 1, .rwe, true, 1, false, 1, 64⟩,
  ⟨0x2601, 4, 4, 1, .rwe, true, 1, false, 1, 64⟩,
  ⟨0x2601, 5, 5, 2, .rwe, true, 10, false, 0, 1000⟩,
  ⟨0x2601, 6, 6, 2, .rwe, true, 0, false, 0, 1000⟩,
  ⟨0x2601, 7, 7, 2, .rwe, true, 400, false, 100, 2000⟩,
  ⟨0x2601, 8, 8, 1, .rwe, true, 0, false, 0, 2⟩,
  ⟨0x2602, 0, 0, 2, .rwe, true, 200, false, 20, 2000⟩,
  ⟨0x2602, 1, 1, 2, .rwe, true, 100, false, 20, 1000⟩,
  ⟨0x2603, 0, 0, 1, .ro, false, 0, false, 0, 0⟩,
  ⟨0x2603, 1, 1, 4, .ro, false, 0, false, 0, 0⟩,
  ⟨0x2603, 2, 2, 4, .ro, false, 0, true, 0, 0⟩,
  ⟨0x2604, 1, 12, 1, .ro, false, 0, false, 0, 0⟩,
  ⟨0x2605, 1, 12, 2, .rwe, true, 0, false, 10, 20000⟩,
  ⟨0x2606, 0, 0, 1, .rwe, true, 0, false, 0, 1⟩,
  ⟨0x2606, 1, 1, 1, .rwe, true, 4, false, 0, 20⟩,
  ⟨0x2607, 1, 12, 4, .ro, false, 0, true, 0, 0⟩,
  ⟨0x2608, 0, 0, 2, .ro, false, 0, false, 0, 0⟩,
  ⟨0x2608, 1, 1, 2, .ro, false, 0, false, 0, 0⟩,
  ⟨0x2609, 0, 0, 4, .ro, false, 0, false, 0, 0⟩,
  ⟨0x260A, 0, 0, 2, .rwe, true, 0, false, 10, 20000⟩]

/-- Objects 0x26xx (08_power_stage_pwm.md). -/
def objRows26b : List ObjRow := [
  ⟨0x260B, 1, 1, 4, .ro, false, 0, false, 0, 0⟩,
  ⟨0x260B, 2, 2, 4, .ro, false, 0, false, 0, 0⟩,
  ⟨0x260B, 3, 3, 4, .ro, false, 0, false, 0, 0⟩,
  ⟨0x260B, 4, 4, 4, .ro, false, 0, false, 0, 0⟩,
  ⟨0x260B, 5, 5, 4, .ro, false, 0, false, 0, 0⟩,
  ⟨0x260B, 6, 6, 4, .ro, false, 0, false, 0, 0⟩,
  ⟨0x260C, 0, 0, 2, .ro, false, 0, false, 0, 0⟩,
  ⟨0x260C, 1, 1, 2, .ro, false, 0, false, 0, 0⟩,
  ⟨0x260D, 0, 0, 2, .ro, false, 0, false, 0, 0⟩]

/-- Objects 0x27xx (09_converter_control.md). -/
def objRows27a : List ObjRow := [
  ⟨0x2700, 0, 0, 4, .ro, false, 0, false, 0, 0⟩,
  ⟨0x2700, 1, 1, 1, .ro, false, 0, false, 0, 0⟩,
  ⟨0x2700, 2, 2, 4, .ro, false, 0, true, 0, 0⟩,
  ⟨0x2700, 3, 3, 4, .ro, false, 0, true, 0, 0⟩,
  ⟨0x2700, 4, 4, 4, .ro, false, 0, true, 0, 0⟩,
  ⟨0x2700, 5, 5, 4, .ro, false, 0, false, 0, 0⟩,
  ⟨0x2700, 6, 6, 4, .ro, false, 0, true, 0, 0⟩,
  ⟨0x2700, 7, 7, 4, .ro, false, 0, true, 0, 0⟩,
  ⟨0x2700, 8, 8, 4, .ro, false, 0, false, 0, 0⟩,
  ⟨0x2700, 9, 9, 1, .ro, false, 0, false, 0, 0⟩,
  ⟨0x2701, 0, 0, 1, .rwe, true, 0, false, 0, 1⟩,
  ⟨0x2701, 1, 1, 2, .rwe, true, 0, false, 10, 20000⟩,
  ⟨0x2701, 2, 2, 2, .rwe, true, 0, false, 5, 10000⟩,
  ⟨0x2701, 3, 3, 4, .rwe, true, 0, false, 100, 100000⟩,
  ⟨0x2702, 0, 0, 2, .rwe, true, 0, false, 1, 50000⟩,
  ⟨0x2702, 1, 1, 2, .rwe, true, 0, false, 0, 60000⟩,
  ⟨0x2703, 0, 0, 2, .rwe, true, 500, false, 0, 5000⟩,
  ⟨0x2703, 1, 1, 2, .rwe, true, 200, false, 0, 5000⟩,
  ⟨0x2704, 0, 0, 2, .rw, true, 0, false, 1000, 16000⟩,
  ⟨0x2704, 1, 1, 2, .rwe, true, 200, false, 0, 1000⟩,
  ⟨0x2704, 2, 2, 2, .rwe, true, 100, false, 1, 10000⟩,
  ⟨0x2704, 3, 3, 2, .rwe, true, 2000, false, 0, 65535⟩,
  ⟨0x2704, 4, 4, 2, .rwe, true, 1000, false, 0, 65535⟩,
  ⟨0x2704, 5, 5, 2, .rwe, true, 0, false, 10, 3000⟩]

/-- Objects 0x27xx (09_converter_control.md). -/
def objRows27b : List ObjRow := [
  ⟨0x2705, 0, 0, 2, .rwe, true, 2000, false, 10, 20000⟩,
  ⟨0x2705, 1, 1, 2, .rwe, true, 20, false, 0, 5000⟩,
  ⟨0x2705, 2, 2, 2, .rwe, true, 500, false, 10, 20000⟩,
  ⟨0x2705, 3, 3, 2, .rwe, true, 0, false, 0, 5000⟩,
  ⟨0x2705, 4, 4, 2, .rwe, true, 1000, false, 10, 20000⟩,
  ⟨0x2705, 5, 5, 2, .rwe, true, 65516, true, -200, 200⟩,
  ⟨0x2706, 0, 0, 2, .rwe, true, 50, false, 10, 500⟩,
  ⟨0x2706, 1, 1, 2, .rwe, true, 300, false, 100, 1000⟩,
  ⟨0x2706, 2, 2, 2, .rwe, true, 2000, false, 0, 20000⟩,
  ⟨0x2706, 3, 3, 1, .rwe, true, 50, false, 0, 100⟩,
  ⟨0x2706, 4, 4, 2, .rwe, true, 20, false, 1, 1000⟩,
  ⟨0x2706, 5, 5, 1, .rwe, true, 1, false, 0, 1⟩,
  ⟨0x2707, 0, 0, 2, .rwe, true, 100, false, 10, 1000⟩,
  ⟨0x2707, 1, 1, 2, .rwe, true, 0, false, 1, 10000⟩,
  ⟨0x2707, 2, 2, 2, .rwe, true, 200, false, 10, 1000⟩,
  ⟨0x2707, 3, 3, 2, .rwe, true, 50, false, 10, 500⟩,
  ⟨0x2708, 0, 0, 2, .rwe, true, 100, false, 10, 10000⟩,
  ⟨0x2709, 1, 12, 1, .ro, false, 0, false, 0, 0⟩,
  ⟨0x270A, 1, 1, 4, .ro, false, 0, false, 0, 0⟩,
  ⟨0x270A, 2, 2, 4, .ro, false, 0, false, 0, 0⟩,
  ⟨0x270A, 3, 3, 4, .ro, false, 0, false, 0, 0⟩,
  ⟨0x270A, 4, 4, 4, .ro, false, 0, false, 0, 0⟩,
  ⟨0x270B, 0, 0, 4, .ro, false, 0, true, 0, 0⟩]

/-- Objects 0x28xx (10_uapor_fabric.md). -/
def objRows28a : List ObjRow := [
  ⟨0x2800, 0, 0, 4, .ro, false, 0, false, 0, 0⟩,
  ⟨0x2800, 1, 1, 2, .ro, false, 0, false, 0, 0⟩,
  ⟨0x2800, 2, 2, 1, .ro, false, 0, false, 0, 0⟩,
  ⟨0x2800, 3, 3, 2, .ro, false, 0, false, 0, 0⟩,
  ⟨0x2800, 4, 4, 2, .ro, true, 0, false, 0, 0⟩,
  ⟨0x2801, 1, 4, 1, .ro, false, 0, false, 0, 0⟩,
  ⟨0x2802, 1, 4, 2, .ro, false, 0, false, 0, 0⟩,
  ⟨0x2803, 1, 4, 4, .ro, false, 0, false, 0, 0⟩,
  ⟨0x2804, 1, 2, 2, .ro, false, 0, false, 0, 0⟩,
  ⟨0x2804, 3, 4, 1, .ro, false, 0, false, 0, 0⟩,
  ⟨0x2805, 1, 2, 2048, .ro, false, 0, false, 0, 0⟩,
  ⟨0x2806, 0, 0, 1, .ro, false, 0, false, 0, 0⟩,
  ⟨0x2806, 1, 1, 2, .ro, false, 0, false, 0, 0⟩,
  ⟨0x2806, 2, 2, 4, .ro, false, 0, true, 0, 0⟩,
  ⟨0x2806, 3, 3, 4, .ro, false, 0, true, 0, 0⟩,
  ⟨0x2806, 4, 4, 1, .ro, false, 0, false, 0, 0⟩,
  ⟨0x2806, 5, 5, 1, .ro, false, 0, false, 0, 0⟩,
  ⟨0x2807, 0, 0, 1, .rwe, true, 128, false, 0, 255⟩,
  ⟨0x2807, 1, 1, 1, .rwe, true, 0, false, 0, 1⟩,
  ⟨0x2807, 2, 2, 1, .rwe, true, 0, false, 0, 127⟩,
  ⟨0x2808, 1, 4, 4, .ro, false, 0, false, 0, 0⟩,
  ⟨0x2809, 1, 4, 4, .ro, false, 0, false, 0, 0⟩,
  ⟨0x280A, 1, 4, 4, .ro, false, 0, false, 0, 0⟩,
  ⟨0x280B, 1, 4, 2, .ro, false, 0, false, 0, 0⟩]

/-- Objects 0x28xx (10_uapor_fabric.md). -/
def objRows28b : List ObjRow := [
  ⟨0x280C, 1, 1, 4, .ro, false, 0, false, 0, 0⟩,
  ⟨0x280C, 2, 2, 4, .ro, false, 0, false, 0, 0⟩,
  ⟨0x280C, 3, 3, 4, .ro, false, 0, false, 0, 0⟩,
  ⟨0x280D, 1, 1, 4, .ro, false, 0, false, 0, 0⟩,
  ⟨0x280D, 2, 2, 4, .ro, false, 0, false, 0, 0⟩,
  ⟨0x280D, 3, 3, 4, .ro, false, 0, false, 0, 0⟩,
  ⟨0x280D, 4, 4, 4, .ro, false, 0, false, 0, 0⟩,
  ⟨0x280D, 5, 5, 4, .ro, false, 0, false, 0, 0⟩]

/-- Objects 0x29xx (11_plant_view_dispatch.md). -/
def objRows29a : List ObjRow := [
  ⟨0x2900, 0, 0, 4, .ro, false, 0, false, 0, 0⟩,
  ⟨0x2900, 1, 1, 4, .ro, false, 0, false, 0, 0⟩,
  ⟨0x2900, 2, 2, 2, .ro, false, 0, false, 0, 0⟩,
  ⟨0x2900, 3, 3, 2, .ro, false, 0, false, 0, 0⟩,
  ⟨0x2900, 4, 4, 12288, .ro, false, 0, false, 0, 0⟩,
  ⟨0x2901, 0, 0, 8, .ro, false, 0, false, 0, 0⟩,
  ⟨0x2901, 1, 1, 8, .ro, false, 0, false, 0, 0⟩,
  ⟨0x2901, 2, 2, 2, .ro, false, 0, false, 0, 0⟩,
  ⟨0x2902, 0, 0, 65536, .ro, false, 0, false, 0, 0⟩,
  ⟨0x2902, 1, 1, 131072, .ro, false, 0, false, 0, 0⟩,
  ⟨0x2903, 0, 0, 4, .ro, false, 0, true, 0, 0⟩,
  ⟨0x2903, 1, 1, 6146, .ro, false, 0, false, 0, 0⟩,
  ⟨0x2903, 2, 2, 4, .ro, false, 0, false, 0, 0⟩,
  ⟨0x2903, 3, 3, 4, .ro, false, 0, true, 0, 0⟩,
  ⟨0x2904, 0, 0, 4, .ro, false, 0, true, 0, 0⟩,
  ⟨0x2904, 1, 1, 4, .wo, false, 0, true, -2147483648, 2147483647⟩,
  ⟨0x2905, 0, 0, 2, .ro, false, 0, false, 0, 0⟩,
  ⟨0x2905, 1, 1, 2, .wo, false, 0, false, 0, 65535⟩,
  ⟨0x2906, 0, 0, 1, .ro, false, 0, false, 0, 0⟩,
  ⟨0x2906, 1, 1, 1, .wo, false, 0, false, 0, 255⟩,
  ⟨0x2906, 2, 2, 8, .ro, false, 0, false, 0, 0⟩,
  ⟨0x2907, 1, 1, 4, .ro, false, 0, true, 0, 0⟩,
  ⟨0x2907, 2, 2, 4, .ro, false, 0, true, 0, 0⟩,
  ⟨0x2907, 3, 3, 8, .wo, false, 0, false, 0, 0⟩]

/-- Objects 0x29xx (11_plant_view_dispatch.md). -/
def objRows29b : List ObjRow := [
  ⟨0x2908, 0, 0, 4, .wo, false, 0, false, 0, 0⟩,
  ⟨0x2908, 1, 1, 4, .wo, false, 0, false, 0, 0⟩,
  ⟨0x2909, 1, 1, 4, .ro, false, 0, false, 0, 0⟩,
  ⟨0x2909, 2, 2, 4, .ro, false, 0, false, 0, 0⟩,
  ⟨0x2909, 3, 3, 4, .ro, false, 0, false, 0, 0⟩,
  ⟨0x2909, 4, 4, 4, .ro, false, 0, false, 0, 0⟩,
  ⟨0x2909, 5, 5, 4, .ro, false, 0, false, 0, 0⟩,
  ⟨0x2909, 6, 6, 4, .ro, false, 0, false, 0, 0⟩,
  ⟨0x2909, 7, 7, 4, .ro, false, 0, false, 0, 0⟩,
  ⟨0x290A, 0, 0, 2, .ro, false, 0, false, 0, 0⟩]

/-- Objects 0x2Axx (12_pair_redundancy.md). -/
def objRows2A : List ObjRow := [
  ⟨0x2A00, 0, 0, 2, .ro, false, 0, false, 0, 0⟩,
  ⟨0x2A00, 1, 1, 1, .ro, false, 0, false, 0, 0⟩,
  ⟨0x2A00, 2, 2, 4, .ro, false, 0, false, 0, 0⟩,
  ⟨0x2A00, 3, 3, 2, .ro, false, 0, false, 0, 0⟩,
  ⟨0x2A00, 4, 4, 8, .ro, true, 0, false, 0, 0⟩,
  ⟨0x2A00, 5, 5, 1, .ro, false, 0, false, 0, 0⟩,
  ⟨0x2A00, 6, 6, 2, .ro, false, 0, false, 0, 0⟩,
  ⟨0x2A01, 0, 0, 2, .rwe, true, 30, false, 5, 3600⟩,
  ⟨0x2A02, 0, 0, 1, .rwe, false, 0, false, 0, 1⟩,
  ⟨0x2A02, 1, 1, 1, .rwe, false, 0, false, 0, 1⟩,
  ⟨0x2A03, 1, 1, 4, .ro, true, 0, false, 0, 0⟩,
  ⟨0x2A03, 2, 2, 4, .ro, true, 0, false, 0, 0⟩,
  ⟨0x2A03, 3, 3, 4, .ro, false, 0, false, 0, 0⟩,
  ⟨0x2A03, 4, 4, 4, .ro, false, 0, false, 0, 0⟩,
  ⟨0x2A03, 5, 5, 4, .ro, false, 0, false, 0, 0⟩,
  ⟨0x2A04, 0, 0, 8, .ro, true, 0, false, 0, 0⟩,
  ⟨0x2A04, 1, 1, 2, .ro, true, 0, false, 0, 0⟩,
  ⟨0x2A04, 2, 2, 2, .ro, true, 0, false, 0, 0⟩]

/-- Objects 0x2Bxx (13_protection_safety.md). -/
def objRows2B : List ObjRow := [
  ⟨0x2B00, 0, 0, 4, .ro, false, 0, false, 0, 0⟩,
  ⟨0x2B00, 1, 1, 1, .ro, false, 0, false, 0, 0⟩,
  ⟨0x2B00, 2, 2, 64, .ro, false, 0, false, 0, 0⟩,
  ⟨0x2B00, 3, 3, 2, .ro, false, 0, false, 0, 0⟩,
  ⟨0x2B00, 4, 4, 2, .ro, true, 0, false, 0, 0⟩,
  ⟨0x2B01, 0, 0, 2, .ro, false, 0, false, 0, 0⟩,
  ⟨0x2B01, 1, 1, 2, .ro, false, 0, false, 0, 0⟩,
  ⟨0x2B01, 2, 2, 2, .ro, false, 0, false, 0, 0⟩,
  ⟨0x2B02, 1, 3, 1, .ro, false, 0, false, 0, 0⟩,
  ⟨0x2B03, 0, 0, 2, .ro, false, 0, false, 0, 0⟩,
  ⟨0x2B04, 0, 0, 1, .rwe, true, 40, false, 20, 100⟩,
  ⟨0x2B04, 1, 1, 16, .rws, true, 340282366920938463463374607431768211455, false, 0, 0⟩,
  ⟨0x2B05, 0, 0, 16, .ro, true, 0, false, 0, 0⟩,
  ⟨0x2B06, 1, 1, 4, .ro, true, 0, false, 0, 0⟩,
  ⟨0x2B06, 2, 2, 4, .ro, true, 0, false, 0, 0⟩,
  ⟨0x2B06, 3, 3, 4, .ro, true, 0, false, 0, 0⟩,
  ⟨0x2B06, 4, 4, 4, .ro, false, 0, false, 0, 0⟩,
  ⟨0x2B06, 5, 5, 4, .ro, true, 0, false, 0, 0⟩]

/-- Objects 0x2Cxx (14_thermal.md). -/
def objRows2Ca : List ObjRow := [
  ⟨0x2C00, 0, 0, 2, .ro, false, 0, false, 0, 0⟩,
  ⟨0x2C00, 1, 1, 2, .ro, false, 0, false, 0, 0⟩,
  ⟨0x2C00, 2, 2, 2, .ro, false, 0, true, 0, 0⟩,
  ⟨0x2C00, 3, 3, 2, .ro, false, 0, false, 0, 0⟩,
  ⟨0x2C00, 4, 4, 4, .ro, false, 0, false, 0, 0⟩,
  ⟨0x2C01, 0, 0, 2, .rwe, true, 3000, true, 1000, 5000⟩,
  ⟨0x2C01, 1, 1, 2, .rwe, true, 100, false, 0, 1000⟩,
  ⟨0x2C01, 2, 2, 2, .rwe, true, 10, false, 0, 1000⟩,
  ⟨0x2C01, 3, 3, 2, .rwe, true, 0, false, 0, 10000⟩,
  ⟨0x2C01, 4, 4, 1, .rwe, true, 0, false, 0, 50⟩,
  ⟨0x2C01, 5, 5, 1, .rwe, true, 100, false, 50, 100⟩,
  ⟨0x2C01, 6, 6, 2, .rwe, true, 4500, true, 2500, 6000⟩,
  ⟨0x2C02, 1, 8, 1, .rwe, true, 0, false, 0, 4⟩,
  ⟨0x2C03, 1, 8, 2, .ro, false, 0, true, 0, 0⟩,
  ⟨0x2C04, 1, 4, 2, .ro, false, 0, false, 0, 0⟩,
  ⟨0x2C04, 5, 8, 2, .ro, false, 0, false, 0, 0⟩,
  ⟨0x2C05, 1, 4, 1, .rwe, true, 20, false, 0, 60⟩,
  ⟨0x2C05, 5, 8, 2, .rwe, true, 0, false, 0, 20000⟩,
  ⟨0x2C06, 1, 2, 2, .ro, false, 0, false, 0, 0⟩,
  ⟨0x2C06, 3, 4, 2, .rwe, true, 0, false, 0, 10000⟩,
  ⟨0x2C06, 5, 6, 2, .rwe, true, 10000, false, 0, 10000⟩,
  ⟨0x2C07, 0, 0, 1, .rwe, true, 0, false, 0, 4⟩,
  ⟨0x2C07, 1, 1, 2, .rwe, true, 384, false, 0, 1968⟩,
  ⟨0x2C08, 1, 4, 8, .ro, false, 0, false, 0, 0⟩]

/-- Objects 0x2Cxx (14_thermal.md). -/
def objRows2Cb : List ObjRow := [
  ⟨0x2C0A, 1, 1, 4, .ro, false, 0, false, 0, 0⟩,
  ⟨0x2C0A, 2, 2, 4, .ro, false, 0, false, 0, 0⟩,
  ⟨0x2C0A, 3, 3, 4, .ro, false, 0, false, 0, 0⟩,
  ⟨0x2C0A, 4, 4, 4, .ro, false, 0, false, 0, 0⟩]

/-- Objects 0x2Dxx (15_fault_collection.md). -/
def objRows2D : List ObjRow := [
  ⟨0x2D00, 0, 0, 4, .ro, false, 0, false, 0, 0⟩,
  ⟨0x2D00, 1, 1, 2, .ro, false, 0, false, 0, 0⟩,
  ⟨0x2D00, 2, 2, 1, .ro, false, 0, false, 0, 0⟩,
  ⟨0x2D00, 3, 3, 8, .ro, false, 0, false, 0, 0⟩,
  ⟨0x2D00, 4, 4, 4, .ro, false, 0, false, 0, 0⟩,
  ⟨0x2D00, 5, 5, 10, .ro, false, 0, false, 0, 0⟩,
  ⟨0x2D00, 6, 6, 4, .ro, false, 0, false, 0, 0⟩,
  ⟨0x2D01, 0, 0, 4, .wo, false, 0, false, 0, 4294967295⟩,
  ⟨0x2D01, 1, 1, 4, .wo, false, 0, false, 0, 4294967295⟩,
  ⟨0x2D01, 2, 2, 1, .ro, false, 0, false, 0, 0⟩,
  ⟨0x2D02, 0, 0, 64, .ro, false, 0, false, 0, 0⟩,
  ⟨0x2D02, 1, 1, 64, .ro, false, 0, false, 0, 0⟩,
  ⟨0x2D02, 2, 2, 64, .ro, false, 0, false, 0, 0⟩,
  ⟨0x2D02, 3, 3, 2048, .ro, false, 0, false, 0, 0⟩,
  ⟨0x2D02, 4, 4, 2048, .ro, false, 0, false, 0, 0⟩,
  ⟨0x2D04, 0, 0, 32, .rwe, true, 3632692995680508091719874039488248089514352460098527499277100674758058969096, false, 0, 0⟩,
  ⟨0x2D04, 1, 1, 64, .rwe, true, 20459003478969401235330777444427933360005135913011968227242788500376537773820930764937627677068594533745375537020654689637222679197293919198037154201700, false, 0, 0⟩,
  ⟨0x2D05, 0, 0, 6, .rws, false, 0, false, 0, 0⟩,
  ⟨0x2D05, 1, 1, 1, .ro, false, 0, false, 0, 0⟩,
  ⟨0x2D05, 2, 2, 2, .ro, false, 0, false, 0, 0⟩,
  ⟨0x2D06, 1, 3, 4, .ro, false, 0, false, 0, 0⟩,
  ⟨0x2D06, 4, 4, 4, .ro, false, 0, false, 0, 0⟩,
  ⟨0x2D06, 5, 5, 4, .ro, false, 0, false, 0, 0⟩,
  ⟨0x2D06, 6, 6, 4, .ro, false, 0, false, 0, 0⟩]

/-- Objects 0x2Exx (16_seedbank.md). -/
def objRows2E : List ObjRow := [
  ⟨0x2E00, 0, 0, 2, .ro, true, 0, false, 0, 0⟩,
  ⟨0x2E00, 1, 1, 4, .ro, true, 0, false, 0, 0⟩,
  ⟨0x2E00, 2, 2, 2, .ro, true, 0, false, 0, 0⟩,
  ⟨0x2E00, 3, 3, 2, .ro, true, 0, false, 0, 0⟩,
  ⟨0x2E00, 4, 4, 2, .ro, true, 0, false, 0, 0⟩,
  ⟨0x2E01, 0, 0, 32768, .ro, true, 0, false, 0, 0⟩,
  ⟨0x2E02, 0, 0, 262144, .ro, true, 0, false, 0, 0⟩,
  ⟨0x2E03, 0, 0, 4, .rw, false, 0, false, 0, 4294967295⟩,
  ⟨0x2E03, 1, 1, 2048, .ro, false, 0, false, 0, 0⟩,
  ⟨0x2E04, 0, 0, 256, .ro, true, 0, false, 0, 0⟩,
  ⟨0x2E04, 1, 64, 512, .ro, true, 0, false, 0, 0⟩,
  ⟨0x2E05, 0, 0, 1, .rws, false, 0, false, 0, 3⟩,
  ⟨0x2E05, 1, 1, 1, .ro, false, 0, false, 0, 0⟩,
  ⟨0x2E05, 2, 2, 2048, .ro, true, 0, false, 0, 0⟩,
  ⟨0x2E06, 1, 1, 4, .ro, true, 0, false, 0, 0⟩,
  ⟨0x2E06, 2, 2, 4, .ro, true, 0, false, 0, 0⟩,
  ⟨0x2E06, 3, 3, 4, .ro, false, 0, false, 0, 0⟩,
  ⟨0x2E06, 4, 4, 4, .ro, true, 0, false, 0, 0⟩]

/-- Objects 0x2Fxx (17_nonvolatile_store.md). -/
def objRows2F : List ObjRow := [
  ⟨0x2F00, 0, 0, 2, .ro, false, 0, false, 0, 0⟩,
  ⟨0x2F00, 1, 1, 1, .ro, false, 0, false, 0, 0⟩,
  ⟨0x2F00, 2, 2, 4, .ro, true, 0, false, 0, 0⟩,
  ⟨0x2F00, 3, 3, 8, .ro, true, 0, false, 0, 0⟩,
  ⟨0x2F00, 4, 4, 4, .ro, true, 0, false, 0, 0⟩,
  ⟨0x2F01, 0, 0, 64, .ro, false, 0, false, 0, 0⟩,
  ⟨0x2F02, 1, 1, 4, .ro, true, 0, false, 0, 0⟩,
  ⟨0x2F02, 2, 2, 4, .ro, true, 0, false, 0, 0⟩,
  ⟨0x2F02, 3, 3, 4, .ro, true, 0, false, 0, 0⟩,
  ⟨0x2F02, 4, 4, 4, .ro, true, 0, false, 0, 0⟩,
  ⟨0x2F02, 5, 5, 4, .ro, true, 0, false, 0, 0⟩,
  ⟨0x2F02, 6, 6, 2, .ro, true, 0, false, 0, 0⟩]

/-- Objects 0x30xx (19_can_fd.md). -/
def objRows30 : List ObjRow := [
  ⟨0x3000, 0, 0, 4, .ro, false, 0, false, 0, 0⟩,
  ⟨0x3001, 1, 1, 1, .rwe, true, 1, false, 0, 2⟩,
  ⟨0x3001, 2, 2, 1, .rwe, true, 0, false, 0, 2⟩,
  ⟨0x3002, 1, 2, 4, .rwe, true, 134749953, false, 0, 0⟩,
  ⟨0x3002, 3, 4, 6, .rwe, true, 8800421676801, false, 0, 0⟩,
  ⟨0x3003, 0, 0, 1, .rwe, true, 0, false, 0, 1⟩,
  ⟨0x3004, 1, 2, 1, .rwe, true, 32, false, 0, 255⟩,
  ⟨0x3005, 0, 0, 2, .rwe, true, 1000, false, 0, 60000⟩,
  ⟨0x3006, 1, 2, 1, .ro, false, 0, false, 0, 0⟩,
  ⟨0x3007, 1, 2, 2, .ro, false, 0, false, 0, 0⟩,
  ⟨0x3007, 3, 4, 2, .ro, false, 0, false, 0, 0⟩,
  ⟨0x3008, 1, 8, 4, .ro, false, 0, false, 0, 0⟩,
  ⟨0x3009, 1, 8, 4, .ro, false, 0, false, 0, 0⟩,
  ⟨0x3010, 0, 0, 2048, .rwe, true, 0, false, 0, 0⟩,
  ⟨0x3011, 1, 128, 64, .rw, false, 0, false, 0, 0⟩,
  ⟨0x3012, 1, 128, 16, .ro, false, 0, false, 0, 0⟩,
  ⟨0x3013, 0, 0, 1, .wo, false, 0, false, 0, 127⟩]

/-- Objects 0x31xx (20_update_security.md). -/
def objRows31 : List ObjRow := [
  ⟨0x3100, 0, 0, 2, .ro, false, 0, false, 0, 0⟩,
  ⟨0x3100, 1, 2, 1, .ro, true, 0, false, 0, 0⟩,
  ⟨0x3100, 3, 3, 1, .ro, true, 0, false, 0, 0⟩,
  ⟨0x3100, 4, 5, 512, .ro, true, 0, false, 0, 0⟩,
  ⟨0x3100, 6, 6, 1, .ro, false, 0, false, 0, 0⟩,
  ⟨0x3100, 7, 7, 1, .ro, true, 0, false, 0, 0⟩,
  ⟨0x3101, 0, 0, 512, .rwe, false, 0, false, 0, 0⟩,
  ⟨0x3101, 1, 1, 65540, .rwe, false, 0, false, 0, 0⟩,
  ⟨0x3101, 2, 2, 2, .ro, false, 0, false, 0, 0⟩,
  ⟨0x3101, 3, 3, 1, .rwe, false, 0, false, 0, 1⟩,
  ⟨0x3101, 4, 4, 1, .rwe, false, 0, false, 0, 1⟩,
  ⟨0x3101, 5, 5, 2, .rwe, true, 600, false, 60, 3600⟩,
  ⟨0x3101, 6, 6, 1, .ro, true, 0, false, 0, 0⟩,
  ⟨0x3110, 0, 0, 388, .rws, true, 0, false, 0, 0⟩,
  ⟨0x3110, 1, 1, 1024, .rws, true, 0, false, 0, 0⟩,
  ⟨0x3110, 2, 2, 1538, .ro, false, 0, false, 0, 0⟩,
  ⟨0x3110, 3, 3, 1, .ro, false, 0, false, 0, 0⟩,
  ⟨0x3111, 1, 1, 4, .ro, false, 0, false, 0, 0⟩,
  ⟨0x3111, 2, 2, 4, .ro, true, 0, false, 0, 0⟩,
  ⟨0x3111, 3, 3, 4, .ro, true, 0, false, 0, 0⟩]

/-- Objects 0x32xx (21_clocks_reset_power.md). -/
def objRows32 : List ObjRow := [
  ⟨0x3200, 0, 0, 2, .ro, false, 0, false, 0, 0⟩,
  ⟨0x3200, 1, 1, 2, .ro, false, 0, false, 0, 0⟩,
  ⟨0x3200, 2, 2, 2, .ro, false, 0, false, 0, 0⟩,
  ⟨0x3200, 3, 3, 2, .ro, false, 0, false, 0, 0⟩,
  ⟨0x3201, 0, 0, 1, .ro, false, 0, false, 0, 0⟩,
  ⟨0x3201, 1, 1, 4, .ro, true, 0, false, 0, 0⟩,
  ⟨0x3201, 2, 2, 1, .rws, false, 0, false, 0, 1⟩,
  ⟨0x3202, 0, 0, 2, .rwe, true, 50, false, 0, 100⟩,
  ⟨0x3203, 1, 1, 4, .ro, true, 0, false, 0, 0⟩,
  ⟨0x3203, 2, 2, 4, .ro, true, 0, false, 0, 0⟩,
  ⟨0x3203, 3, 3, 4, .ro, true, 0, false, 0, 0⟩,
  ⟨0x3203, 4, 4, 4, .ro, true, 0, false, 0, 0⟩]

/-- Objects 0x33xx (24_observation.md). -/
def objRows33 : List ObjRow := [
  ⟨0x3300, 0, 0, 1, .rwe, true, 0, false, 0, 1⟩,
  ⟨0x3300, 1, 1, 4, .ro, false, 0, false, 0, 0⟩,
  ⟨0x3300, 2, 2, 4, .ro, false, 0, false, 0, 0⟩,
  ⟨0x3301, 0, 0, 2048, .ro, false, 0, false, 0, 0⟩,
  ⟨0x3302, 0, 0, 512, .rwe, true, 0, false, 0, 0⟩]

/-- All rows, in order of index. -/
def objTable : List ObjRow :=
  objRows10 ++ objRows11 ++ objRows12 ++ objRows13 ++ objRows14 ++ objRows15 ++ objRows20a ++ objRows20b ++ objRows21 ++ objRows22a ++ objRows22b ++ objRows23a ++ objRows23b ++ objRows24a ++ objRows24b ++ objRows25 ++ objRows26a ++ objRows26b ++ objRows27a ++ objRows27b ++ objRows28a ++ objRows28b ++ objRows29a ++ objRows29b ++ objRows2A ++ objRows2B ++ objRows2Ca ++ objRows2Cb ++ objRows2D ++ objRows2E ++ objRows2F ++ objRows30 ++ objRows31 ++ objRows32 ++ objRows33

/-- The row of an object, if it exists. -/
def objFind (idx sub : Nat) : Option ObjRow :=
  objTable.find? (fun r => r.idx == idx && decide (r.lo ≤ sub) && decide (sub ≤ r.hi))

/-- The default of a host-writable object (its Reset column). -/
def parDefault (idx sub : Nat) : Nat :=
  match objFind idx sub with
  | some r => r.dflt
  | none => 0

end Sys2Proof.Machine
end

