-- ==== Sys2Proof/Word.lean ====
section
/-! DEFINITION. The plain words of the CX-432 model: bytes, saturating counters and words that wrap. -/

namespace Sys2Proof

/-- One byte of a frame, a record or a stored value. -/
abbrev Byte := BitVec 8

/-- One 32-bit word of a check sum or a sequence. -/
abbrev Word32 := BitVec 32

/-- The greatest value of a U32. -/
def maxU32 : Nat := 4294967295

/-- The greatest value of a U16. -/
def maxU16 : Nat := 65535

/-- Add to a counter that saturates at the greatest U32 (the counters of the object tables). -/
def satAdd (a b : Nat) : Nat := min (a + b) maxU32

/-- Count one event on a saturating counter. -/
def satInc (a : Nat) : Nat := satAdd a 1

/-- Keep a number within 8, 16 or 32 bits, as a sequence field that wraps does. -/
def wrapBits (bits a : Nat) : Nat := a % 2 ^ bits

end Sys2Proof
end

