-- ==== Sys2Proof/Machine/Ops.lean ====
section
/-! DEFINITION. The named operations over the machine: sorted tables, bytes, check sums, time, parameters, changes of one
part, what every meaning is wrapped in. -/

namespace Sys2Proof.Machine

/-! ## Sorted tables -/

/-- The value under a key of a table, or the value an unlisted key reads as. -/
def aget {α : Type} : List (Nat × α) → Nat → α → α
  | [], _, d => d
  | (k', v) :: t, k, d => if k' = k then v else aget t k d

/-- The value under a key of a table, if listed. -/
def aget? {α : Type} : List (Nat × α) → Nat → Option α
  | [], _ => none
  | (k', v) :: t, k => if k' = k then some v else aget? t k

/-- Set the value under a key, keeping the keys strictly rising. -/
def aput {α : Type} : List (Nat × α) → Nat → α → List (Nat × α)
  | [], k, v => [(k, v)]
  | (k', v') :: t, k, v =>
    if k < k' then (k, v) :: (k', v') :: t
    else if k = k' then (k, v) :: t
    else (k', v') :: aput t k v

/-- Remove a key. -/
def adel {α : Type} : List (Nat × α) → Nat → List (Nat × α)
  | [], _ => []
  | (k', v') :: t, k => if k' = k then adel t k else (k', v') :: adel t k

/-- Change the value under a key, starting from what an unlisted key reads as. -/
def aupd {α : Type} (l : List (Nat × α)) (k : Nat) (d : α) (f : α → α) : List (Nat × α) :=
  aput l k (f (aget l k d))

/-- Count one event under a key, saturating. -/
def acount (l : List (Nat × Nat)) (k : Nat) : List (Nat × Nat) := aupd l k 0 satInc

/-- Element n of a list, or a default. -/
def nth {α : Type} : List α → Nat → α → α
  | [], _, d => d
  | x :: _, 0, _ => x
  | _ :: t, n + 1, d => nth t n d

/-- Change element n of a list; a list too short stays as it is. -/
def updNth {α : Type} (l : List α) (n : Nat) (f : α → α) : List α := l.modify n f

/-- Insert an element behind the leading ones that stay before it. -/
def insertBy {α : Type} (stays : α → α → Bool) (x : α) (l : List α) : List α :=
  l.takeWhile (fun h => stays h x) ++ x :: l.dropWhile (fun h => stays h x)

/-- Insert into a sorted list of numbers without repeats. -/
def insNat : List Nat → Nat → List Nat
  | [], k => [k]
  | h :: t, k => if k < h then k :: h :: t else if k = h then h :: t else h :: insNat t k

/-- Remove a number from a list. -/
def delNat (l : List Nat) (k : Nat) : List Nat := l.filter (fun x => x != k)

/-- Whether bit i of a number is set. -/
def bit (a i : Nat) : Bool := a.testBit i

/-- The number with bit i set or cleared. -/
def setBit (a i : Nat) (b : Bool) : Nat :=
  if a.testBit i then (if b then a else a - 2 ^ i) else (if b then a + 2 ^ i else a)

/-- A bit's weight when its condition holds. -/
def bitIf (i : Nat) (b : Bool) : Nat := if b then 2 ^ i else 0

/-- The places of the bits set among the first n. -/
def bitsOf (n a : Nat) : List Nat := (List.range n).filter (fun i => a.testBit i)

/-- How many of the first n bits are set. -/
def popCount (n a : Nat) : Nat := (bitsOf n a).length

/-- The number whose set bits are the listed ones. -/
def maskOf (l : List Nat) : Nat := l.foldl (fun a i => setBit a i true) 0

/-- Greatest of a list of integers. -/
def maxInt? : List Int → Option Int
  | [] => none
  | x :: t => match maxInt? t with
    | none => some x
    | some y => some (max x y)

/-- Least of a list of integers. -/
def minInt? : List Int → Option Int
  | [] => none
  | x :: t => match minInt? t with
    | none => some x
    | some y => some (min x y)

/-! ## Bytes and check sums -/

/-- The n little-endian bytes of a number (R6). -/
def leBytes : Nat → Nat → List Nat
  | 0, _ => []
  | n + 1, v => v % 256 :: leBytes n (v / 256)

/-- The number that little-endian bytes spell. -/
def leVal : List Nat → Nat
  | [] => 0
  | b :: t => b % 256 + 256 * leVal t

/-- A U8 as bytes. -/
def u8 (v : Nat) : List Nat := leBytes 1 v
/-- A U16 as bytes. -/
def u16 (v : Nat) : List Nat := leBytes 2 v
/-- A U32 as bytes. -/
def u32 (v : Nat) : List Nat := leBytes 4 v
/-- A U64 as bytes. -/
def u64 (v : Nat) : List Nat := leBytes 8 v

/-- A signed number in two's complement of n bytes, as a natural number. -/
def twos (n : Nat) (v : Int) : Nat := (v % (256 ^ n : Nat)).toNat

/-- The signed number that an n-byte two's complement field holds. -/
def signedOf (n v : Nat) : Int := if v < 256 ^ n / 2 then v else (v : Int) - (256 ^ n : Nat)

/-- A signed number as n bytes. -/
def sBytes (n : Nat) (v : Int) : List Nat := leBytes n (twos n v)

/-- Truth as a byte. -/
def ofBool (b : Bool) : Nat := if b then 1 else 0

/-- Bytes filled with zeros, or cut, to a length. -/
def padTo (n : Nat) (l : List Nat) : List Nat := (l ++ List.replicate n 0).take n

/-- One bit of the reflected CRC-32C of R65. -/
def crcBit (c : Nat) : Nat := if c % 2 = 1 then (c / 2) ^^^ 0x82F63B78 else c / 2

/-- One byte of the CRC-32C. -/
def crcByte (c b : Nat) : Nat :=
  crcBit (crcBit (crcBit (crcBit (crcBit (crcBit (crcBit (crcBit (c ^^^ (b % 256)))))))))

/-- CRC-32C over bytes, as R65 defines it. -/
def crc32c (l : List Nat) : Nat := (l.foldl crcByte 0xFFFFFFFF) ^^^ 0xFFFFFFFF

/-! ## Changes of one part -/

/-- Change the part `arch`. -/
def Mach.updArch (m : Mach) (f : Arch → Arch) : Mach := { m with arch := f m.arch }

/-- Change the part `mode`. -/
def Mach.updMode (m : Mach) (f : ModeSt → ModeSt) : Mach := { m with mode := f m.mode }

/-- Change the part `chain`. -/
def Mach.updChain (m : Mach) (f : Chain → Chain) : Mach := { m with chain := f m.chain }

/-- Change the part `meas`. -/
def Mach.updMeas (m : Mach) (f : Meas → Meas) : Mach := { m with meas := f m.meas }

/-- Change the part `iso`. -/
def Mach.updIso (m : Mach) (f : Iso → Iso) : Mach := { m with iso := f m.iso }

/-- Change the part `imp`. -/
def Mach.updImp (m : Mach) (f : Imp → Imp) : Mach := { m with imp := f m.imp }

/-- Change the part `est`. -/
def Mach.updEst (m : Mach) (f : Est → Est) : Mach := { m with est := f m.est }

/-- Change the part `bal`. -/
def Mach.updBal (m : Mach) (f : Bal → Bal) : Mach := { m with bal := f m.bal }

/-- Change the part `pwm`. -/
def Mach.updPwm (m : Mach) (f : Pwm → Pwm) : Mach := { m with pwm := f m.pwm }

/-- Change the part `conv`. -/
def Mach.updConv (m : Mach) (f : Conv → Conv) : Mach := { m with conv := f m.conv }

/-- Change the part `fab`. -/
def Mach.updFab (m : Mach) (f : Fab → Fab) : Mach := { m with fab := f m.fab }

/-- Change the part `safe`. -/
def Mach.updSafe (m : Mach) (f : Safe → Safe) : Mach := { m with safe := f m.safe }

/-- Change the part `plant`. -/
def Mach.updPlant (m : Mach) (f : Plant → Plant) : Mach := { m with plant := f m.plant }

/-- Change the part `plantCnt`. -/
def Mach.updPlantCnt (m : Mach) (f : PlantCnt → PlantCnt) : Mach := { m with plantCnt := f m.plantCnt }

/-- Change the part `pair`. -/
def Mach.updPair (m : Mach) (f : Pair → Pair) : Mach := { m with pair := f m.pair }

/-- Change the part `saf`. -/
def Mach.updSaf (m : Mach) (f : Saf → Saf) : Mach := { m with saf := f m.saf }

/-- Change the part `therm`. -/
def Mach.updTherm (m : Mach) (f : Therm → Therm) : Mach := { m with therm := f m.therm }

/-- Change the part `flt`. -/
def Mach.updFlt (m : Mach) (f : Flt → Flt) : Mach := { m with flt := f m.flt }

/-- Change the part `seed`. -/
def Mach.updSeed (m : Mach) (f : Seed → Seed) : Mach := { m with seed := f m.seed }

/-- Change the part `nv`. -/
def Mach.updNv (m : Mach) (f : Nv → Nv) : Mach := { m with nv := f m.nv }

/-- Change the part `mbx`. -/
def Mach.updMbx (m : Mach) (f : Mbx → Mbx) : Mach := { m with mbx := f m.mbx }

/-- Change the part `can`. -/
def Mach.updCan (m : Mach) (f : Can → Can) : Mach := { m with can := f m.can }

/-- Change the part `upd`. -/
def Mach.updUpd (m : Mach) (f : Upd → Upd) : Mach := { m with upd := f m.upd }

/-- Change the part `clk`. -/
def Mach.updClk (m : Mach) (f : Clk → Clk) : Mach := { m with clk := f m.clk }

/-- Change the part `obs`. -/
def Mach.updObs (m : Mach) (f : Obs → Obs) : Mach := { m with obs := f m.obs }
/-! ## Time (log entry 3) -/

/-- One second in ns. -/
def second : Nat := 1000000000
/-- One millisecond in ns. -/
def milli : Nat := 1000000
/-- One microsecond in ns. -/
def micro : Nat := 1000

/-- Fabric time in ns (R8, R249). -/
def Mach.fabTime (m : Mach) : Nat := ((m.now : Int) + m.fabBase).toNat

/-- The fast epoch that runs (R261). -/
def Mach.fastEpoch (m : Mach) : Nat := m.fabTime / 1000000

/-- The slow epoch that runs (R261). -/
def Mach.slowEpoch (m : Mach) : Nat := m.fabTime / 10000000

/-- Time gone since a stamp of local time. -/
def Mach.age (m : Mach) (t : Nat) : Nat := m.now - t

/-- Whether an interval that began at a stamp has run, exact to the millisecond; below it the command says so (log entry 3). -/
def Mach.elapsed (m : Mach) (t interval : Nat) : Bool := decide (t + interval / 1000000 * 1000000 ≤ m.now)

/-- Whether an interval that may have begun has run. -/
def Mach.elapsed? (m : Mach) (t : Option Nat) (interval : Nat) : Bool :=
  match t with
  | some t => m.elapsed t interval
  | none => false

/-! ## Parameters -/

/-- The key of an object in the parameter store. -/
def objKey (idx sub : Nat) : Nat := idx * 256 + sub

/-- The default of the object under a key. -/
def keyDefault (k : Nat) : Nat := parDefault (k / 256) (k % 256)

/-- A host-writable object's value, little-endian. -/
def Mach.par (m : Mach) (idx sub : Nat) : Nat := aget m.params (objKey idx sub) (parDefault idx sub)

/-- A signed object's value. -/
def Mach.parS (m : Mach) (idx sub len : Nat) : Int := signedOf len (m.par idx sub)

/-- Whether a BOOL object is 1. -/
def Mach.parB (m : Mach) (idx sub : Nat) : Bool := m.par idx sub == 1

/-- Element i of an object that holds an array of n-byte numbers. -/
def Mach.parElem (m : Mach) (idx sub n i : Nat) : Nat := m.par idx sub / 256 ^ (n * i) % 256 ^ n

/-- Set one entry of the parameter store in its canonical form: keys rising, no entry equal to its default. -/
def setParams (l : List (Nat × Nat)) (k v : Nat) : List (Nat × Nat) :=
  if v = keyDefault k then adel l k else aput l k v

/-- Set a host-writable object. -/
def Mach.setPar (m : Mach) (idx sub v : Nat) : Mach := { m with params := setParams m.params (objKey idx sub) v }

/-- The canonical form of the parameter store: keys strictly rising, no entry equal to its default. -/
def paramsWf : List (Nat × Nat) → Bool
  | [] => true
  | [(k, v)] => v != keyDefault k
  | (k, v) :: (k', v') :: t => v != keyDefault k && decide (k < k') && paramsWf ((k', v') :: t)

/-! ## Arithmetic on exact rationals -/

/-- A quotient; with divisor 0 the spec states no value (log entry 6). -/
def qdiv (a b : Rat) : Rat := if b = 0 then Config.divByZero a else a / b

/-- A value held between two bounds; where they cross the upper one wins. -/
def clampQ (lo hi x : Rat) : Rat := min hi (max lo x)

/-- A value moved towards a target by at most a step. -/
def slewQ (x target step : Rat) : Rat := if x ≤ target then min target (x + step) else max target (x - step)

/-- Magnitude. -/
def absQ (x : Rat) : Rat := if x < 0 then -x else x

/-! ## Emission, free values, conditions -/

/-- Emit a frame or signal. -/
def Mach.emit (m : Mach) (o : Out) : Mach := { m with out := m.out ++ [o] }

/-- The header of pair traffic sent now (R296): PSEQ as in the fast summary, with SOLE as last sent (R300). -/
def Mach.pairHead (m : Mach) : PairHead :=
  { ver := m.pair.ver, pseq := m.fastEpoch % 32768 + (if m.pair.sole then 32768 else 0), ogen := m.pair.ogen
    epoch := m.fastEpoch % 2 ^ 32 }

/-- Emit several frames or signals. -/
def Mach.emits (m : Mach) (l : List Out) : Mach := { m with out := m.out ++ l }

/-- Advance the counter that indexes the free values (log entry 6). -/
def Mach.nextFree (m : Mach) : Mach := { m with freeCtr := m.freeCtr + 1 }

/-- Change the machine only where a condition holds. -/
def Mach.when (m : Mach) (b : Bool) (f : Mach → Mach) : Mach := if b then f m else m

/-- Apply an operation for every element of a list, in order. -/
def Mach.each {α : Type} (m : Mach) (l : List α) (f : α → Mach → Mach) : Mach := l.foldl (fun a x => f x a) m

end Sys2Proof.Machine
end

