-- ==== Sys2Proof/Machine/Flags.lean ====
section
/-! DEFINITION. Mode codes, the DEGRADED causes and the bits that several chapters share, computed from the state. -/

namespace Sys2Proof.Machine

/-- The 4-bit code of a mode (R35). -/
def Mode.code : Mode → Nat
  | .boot => 0 | .commission => 1 | .storage => 2 | .standby => 3 | .precharge => 4 | .connected => 5
  | .dispatch => 6 | .busForm => 7 | .maintain => 8 | .shutdown => 9 | .safeHold => 10 | .lockout => 11

/-- The mode of a 4-bit code, if the code names one (R35). -/
def Mode.ofCode : Nat → Option Mode
  | 0 => some .boot | 1 => some .commission | 2 => some .storage | 3 => some .standby
  | 4 => some .precharge | 5 => some .connected | 6 => some .dispatch | 7 => some .busForm
  | 8 => some .maintain | 9 => some .shutdown | 10 => some .safeHold | 11 => some .lockout
  | _ => none

/-- The code of a transition cause (0x2013.00). -/
def Cause.code : Cause → Nat
  | .powerOn => 0 | .processorReset => 1 | .hostRequest => 2 | .plantCommand => 3 | .completion => 4
  | .safetyReaction => 5 | .fault => 6 | .timeout => 7 | .partner => 8 | .onSiteClear => 9

/-- The module is one of a pair: SW2 reads A or B (R291, R326). -/
def Mach.paired (m : Mach) : Bool := m.saf.sw2 != 0

/-- The module is module A of its pair. -/
def Mach.isA (m : Mach) : Bool := m.saf.sw2 == 1

/-- The module is module B of its pair. -/
def Mach.isB (m : Mach) : Bool := m.saf.sw2 == 2

/-- The partner's mode, as its last ALIVE frame gave it (R296). -/
def Mach.partnerMode (m : Mach) : Option Mode :=
  match m.pair.pMode with
  | none => none
  | some b => Mode.ofCode (b % 16)

/-- PARTNER_MISSING (R52 bit 0): a paired module whose partner is in BOOT, SAFE_HOLD or LOCKOUT, or has been declared lost. -/
def Mach.partnerMissing (m : Mach) : Bool :=
  m.paired && (m.pair.lost || m.partnerMode == some .boot || m.partnerMode == some .safeHold
    || m.partnerMode == some .lockout)

/-- String ID (R238, R264): the own address, in a pair the lower of the two once the pair link reports the partner's. -/
def Mach.stringId (m : Mach) : Nat :=
  if m.paired && m.pair.pAddr != 0xFFFF then min m.fab.addr m.pair.pAddr else m.fab.addr

/-- Modes in which the converter carries the string. -/
def Mode.isLine : Mode → Bool
  | .connected => true
  | .dispatch => true
  | .busForm => true
  | .maintain => true
  | _ => false

/-- Number of configured phases (0x2600.00). -/
def Mach.nPhases (m : Mach) : Nat := m.par 0x2600 0

/-- The partner's phase states count: a paired module whose partner is not declared lost. -/
def Mach.partnerCounts (m : Mach) : Bool := m.paired && !m.pair.lost

/-- Configured phases of the string that are DISABLED, over both modules of a pair (R221). -/
def Mach.disabledPhases (m : Mach) : Nat :=
  ((List.range (min m.nPhases 12)).filter (fun k =>
    (nth m.pwm.phases k {}).disabled || (m.partnerCounts && nth m.conv.pPhases k 0 == 5))).length

/-- POWER_LIMITED (R221): at least ceil(N / 3) phases of the string are disabled. -/
def Mach.powerLimited (m : Mach) : Bool :=
  decide (0 < m.disabledPhases) && decide (m.nPhases ≤ 3 * m.disabledPhases)

/-- Addresses that a route table reaches (R241). -/
def reachSet (routes : List (Nat × Nat × Nat)) : List Nat := routes.foldl (fun a r => insNat a r.1) []

/-- PLANE_LOST (R52, R258): a plane does not reach a node that the other one reaches, or a member (log entry 12). -/
def Mach.planeLost (m : Mach) : Bool :=
  let a := reachSet m.fab.routesA
  let b := reachSet m.fab.routesB
  a != b || m.plant.members.any (fun x => x.addr != m.fab.addr && !(a.contains x.addr && b.contains x.addr))

/-- TIME_HOLDOVER (R253, table of time states). -/
def Mach.timeHoldover (m : Mach) : Bool :=
  m.fab.time == .holdover || (m.fab.time == .acquiring && m.fab.wasSynced)

/-- GROUPS_INVALID (R84): a wire of some pod is declared open. -/
def Mach.groupsInvalid (m : Mach) : Bool := m.chain.ow.any (fun p => !p.2.opened.isEmpty)

/-- COOLING_REDUCED (R355, R356, R359): 0 at reset (R60), and through BOOT no cause but a loss seen there (log entry 13). -/
def Mach.coolingReduced (m : Mach) : Bool :=
  (m.therm.fallback && m.mode.mode != .boot) || m.therm.fanLost.any id || m.therm.unitLost.any id

/-- Model step rate in Hz, 0x2005.00 (R29). -/
def Mach.modelRate (m : Mach) : Nat :=
  let active := 8 - m.arch.lost.length
  if 4 ≤ active then 100 else if 2 ≤ active then 50 else 0

/-- The DEGRADED causes, 0x2012.00 (R52). -/
def Mach.degradedCauses (m : Mach) : Nat :=
  bitIf 10 (!m.plant.isMember) + bitIf 9 m.coolingReduced + bitIf 8 m.meas.hallLost + bitIf 7 m.timeHoldover
    + bitIf 6 m.planeLost + bitIf 5 m.groupsInvalid + bitIf 4 m.chain.brk.isSome + bitIf 3 (!m.arch.lost.isEmpty)
    + bitIf 2 m.powerLimited + bitIf 0 m.partnerMissing

/-- The DEGRADED flag (R51). -/
def Mach.isDegraded (m : Mach) : Bool := m.degradedCauses != 0

/-- The mode byte (R51): DEGRADED above the mode code. -/
def Mach.modeByte (m : Mach) : Nat := bitIf 7 m.isDegraded + m.mode.mode.code

/-- The module is in one of the listed modes. -/
def Mach.inMode (m : Mach) (l : List Mode) : Bool := l.contains m.mode.mode

/-- The bus is live (R58): the bus voltage is at or above the dead-bus threshold (1 V against 10 mV). -/
def Mach.busLive (m : Mach) : Bool := decide (100 * m.par 0x2707 3 ≤ m.meas.vBus)

/-! ## Fault sources (chapter 15) -/

/-- The ID of a fault source (R374). -/
def Src.id : Src → Nat
  | .busBound => 0x010 | .sramUncorrected => 0x011 | .tcmUncorrected => 0x012 | .almondCoreLost => 0x013
  | .bootU => 0x014 | .bootF => 0x015 | .prechargeTimeout => 0x020 | .shutdownTimeout => 0x021
  | .sweepStale => 0x030 | .limitEchoMismatch => 0x031 | .isolatedStreamLoss => 0x040
  | .pwmCommandStale => 0x050 | .fastTripLocked => 0x051 | .phaseDisabled => 0x052
  | .phaseSenseMismatch => 0x053 | .addressConflict => 0x060 | .diameterExceeded => 0x061
  | .safeCopyMismatch => 0x062 | .plantDiverged => 0x070 | .pairRoleConflict => 0x080 | .pairHbLine => 0x081
  | .alarmLoopBroken => 0x090 | .contactorForcedOpen => 0x091 | .siTestFail => 0x092 | .siDiscrepancy => 0x093
  | .contactorPickup => 0x094 | .contactorDropout => 0x095 | .contactorLost => 0x096
  | .pairProfileMismatch => 0x097 | .plantStopDegraded => 0x098 | .coilSwitchFail => 0x0A0
  | .weldedContact => 0x0A1
  | .chainPlausibility => 0x100 | .hallPlausibility => 0x101 | .stringSumMismatch => 0x102
  | .impedancePod => 0x103 | .pwmInterlock => 0x104 | .fastTrip => 0x105 | .linkDown => 0x106
  | .ptSensor => 0x107 | .fanLost => 0x108 | .coolantUnitLost => 0x109
  | .eccCorrected => 0x180 | .streamFrame => 0x181

/-- Every source of R374. -/
def allSrc : List Src :=
  [.busBound, .sramUncorrected, .tcmUncorrected, .almondCoreLost, .bootU, .bootF, .prechargeTimeout,
   .shutdownTimeout, .sweepStale, .limitEchoMismatch, .isolatedStreamLoss, .pwmCommandStale, .fastTripLocked,
   .phaseDisabled, .phaseSenseMismatch, .addressConflict, .diameterExceeded, .safeCopyMismatch, .plantDiverged,
   .pairRoleConflict, .pairHbLine, .alarmLoopBroken, .contactorForcedOpen, .siTestFail, .siDiscrepancy]
  ++ [.contactorPickup, .contactorDropout, .contactorLost, .pairProfileMismatch, .plantStopDegraded,
   .coilSwitchFail, .weldedContact, .chainPlausibility, .hallPlausibility, .stringSumMismatch, .impedancePod,
   .pwmInterlock, .fastTrip, .linkDown, .ptSensor, .fanLost, .coolantUnitLost, .eccCorrected, .streamFrame]

/-- The source of an ID, if R374 lists one. -/
def Src.ofId (i : Nat) : Option Src := allSrc.find? (fun s => s.id == i)

/-- The source is a counting source (R363): IDs 0x100 to 0x11F. -/
def Src.counting (s : Src) : Bool := decide (0x100 ≤ s.id) && decide (s.id < 0x120)

/-- The native class of a source, none for a counting source (R374). -/
def Src.native (s : Src) : Option FClass :=
  if s.counting then none
  else match s with
    | .bootF => some .f
    | .coilSwitchFail => some .f
    | .weldedContact => some .f
    | .eccCorrected => some .c
    | .streamFrame => some .c
    | _ => some .u

/-- Threshold N of a counting source (0x2D04.00). -/
def Mach.countN (m : Mach) (s : Src) : Nat := m.parElem 0x2D04 0 1 (s.id - 0x100)

/-- Window W of a counting source in ns (0x2D04.01, 0.1 s). -/
def Mach.countW (m : Mach) (s : Src) : Nat := m.parElem 0x2D04 1 2 (s.id - 0x100) * 100000000

/-- Bits of 0x2010.00 that source 0x014 carries: SRAM, TCM, isolated section, chain mismatch (R61, R374). -/
def bootUMask : Nat := 0x243

/-- Bits of 0x2010.00 that source 0x015 carries: Foxglove path, lockstep, profile mismatch (R61, R374). -/
def bootFMask : Nat := 0x2C

/-- A coil's contact is lost (R339): open after pick-up with the node energised, or the node dead while the module's own
switches are commanded closed. -/
def Coil.isLost (c : Coil) : Bool := c.picked && ((c.node && !c.fb) || (c.wSw && c.fSw && !c.node))

/-- The live bit of a source (R362, R363, R513). -/
def Mach.isLive (m : Mach) (s : Src) : Bool :=
  match s with
  | .almondCoreLost => !m.arch.lost.isEmpty
  | .limitEchoMismatch => !m.chain.echoBad.isEmpty
  | .sramUncorrected => false
  | .tcmUncorrected => false
  | .busBound => false
  | .prechargeTimeout => false
  | .shutdownTimeout => false
  | .pwmCommandStale => false
  | .phaseSenseMismatch => false
  | .contactorPickup => false
  | .contactorDropout => false
  | .contactorForcedOpen => false
  | .bootU => (m.mode.bootResult &&& bootUMask) != 0
  | .bootF => (m.mode.bootResult &&& bootFMask) != 0
  | .fastTripLocked => m.pwm.ft != 0 || decide (m.now < m.pwm.ftOff + 50000)
  | .phaseDisabled => m.pwm.phases.any (fun p => p.disabled)
  | .sweepStale => m.chain.missRun.any (fun p => decide (10 ≤ p.2))
  | .addressConflict => m.fab.conflict && m.fab.addr == 0xFFFF
  | .plantDiverged => m.plant.diverged
  | .isolatedStreamLoss => m.meas.streamLost
  | .diameterExceeded => m.fab.diamBad
  | .pairRoleConflict => m.pair.roleConflict
  | .pairHbLine => m.pair.lineFault
  | .alarmLoopBroken => m.chain.loopBroken
  | .siTestFail => m.saf.si.any (fun x => decide (2 ≤ x.missing) || decide (2 ≤ x.foreign))
  | .siDiscrepancy => m.saf.discrepancy && m.saf.discrClear != 2
  | .contactorLost => m.saf.coils.any Coil.isLost
  | .pairProfileMismatch => m.saf.pairProfile
  | .plantStopDegraded => m.saf.plantDegraded
  | .weldedContact => m.saf.coils.any (fun x => x.welded)
  | .coilSwitchFail => m.saf.coilBad.any id
  | s => if s.counting then
      (match aget? m.flt.lastEvent s.id with
       | none => false
       | some t => decide (m.now ≤ t + m.countW s))
    else m.flt.live.contains s

/-- The pending raise of a source, if any (R362). -/
def Mach.pendingOf (m : Mach) (s : Src) : Option Raise := m.flt.pending.find? (fun r => r.src == s)

/-- A source is pending (R362). -/
def Mach.isPending (m : Mach) (s : Src) : Bool := m.flt.pending.any (fun r => r.src == s)

/-- Some source of a class is pending. -/
def Mach.anyPending (m : Mach) (k : FClass) : Bool := m.flt.pending.any (fun r => r.cls == k)

/-- Fault status, 0x2D00.00 (R376). -/
def Mach.faultStatus (m : Mach) : Nat :=
  bitIf 7 m.flt.inj.isSome + bitIf 6 m.flt.selfFault + bitIf 5 (m.flt.pending.any (fun r => r.escalated))
    + bitIf 4 m.flt.overflow + bitIf 3 (m.anyPending .f) + bitIf 2 (m.anyPending .u)
    + bitIf 1 (match m.flt.latch with | none => false | some r => m.isLive r.src) + bitIf 0 m.flt.latch.isSome

/-- Pending sources, 0x2D02.00, bit per source ID. -/
def Mach.pendingMask (m : Mach) : Nat := maskOf (m.flt.pending.map (fun r => r.src.id))

/-- Live sources, 0x2D02.01. -/
def Mach.liveMask (m : Mach) : Nat := maskOf ((allSrc.filter m.isLive).map Src.id)

/-- Acknowledged sources, 0x2D02.02. -/
def Mach.ackMask (m : Mach) : Nat := maskOf ((m.flt.pending.filter (fun r => r.acked)).map (fun r => r.src.id))

/-- FAULT_N is driven low (R38, R367): in BOOT or while the processor domain is held, and while a source is pending or
COLLECTOR_SELF is set. -/
def Mach.faultNLow (m : Mach) : Bool :=
  !m.clk.procRunning || m.mode.mode == .boot || !m.flt.pending.isEmpty || m.flt.selfFault

/-! ## Safety (chapter 13) -/

/-- The hold rule acts in some channel (R322). -/
def Mach.holdActive (m : Mach) : Bool := m.saf.holdW.isSome || m.saf.holdF.isSome

/-- Switch readings, 0x2B00.03. -/
def Mach.switchWord (m : Mach) : Nat :=
  m.saf.sw1 % 16 + 16 * (m.saf.sw2 % 4) + 64 * (m.saf.sw3 % 256) + bitIf 14 m.saf.cover

/-- Switch readings as committed (0x2B00.04): of the commissioning record, 0 where none exists. -/
def Mach.committedSwitches (m : Mach) : Nat :=
  match m.mode.commRec with
  | none => 0
  | some r => r.switches.1 % 16 + 16 * (r.switches.2.1 % 4) + 64 * (r.switches.2.2 % 256) + 2 ^ 14

/-- Option switch S1 to S8 of SW3 (n from 1). -/
def Mach.sw3On (m : Mach) (n : Nat) : Bool := bit m.saf.sw3 (n - 1)

/-- Safety status, 0x2B00.00 (R348). -/
def Mach.safetyStatus (m : Mach) : Nat :=
  bitIf 15 m.saf.walnutLive + bitIf 14 m.saf.coilTest + bitIf 13 (m.saf.si.any (fun x => x.testFault))
    + bitIf 12 m.saf.discrepancy + bitIf 11 m.saf.plantDegraded + bitIf 10 m.saf.pairProfile
    + bitIf 9 m.saf.pairSafeLost + bitIf 8 m.holdActive + bitIf 7 m.saf.coldStop
    + bitIf 6 m.saf.dischargeStop.isSome + bitIf 5 m.saf.trip + bitIf 4 m.saf.override
    + bitIf 3 m.saf.switchChanged + bitIf 2 m.saf.sealBroken + bitIf 1 m.saf.profileMismatch
    + bitIf 0 m.saf.profileOk

/-- A coil of index 0 K_POS, 1 K_NEG, 2 K_PRE. -/
def Mach.coil (m : Mach) (k : Nat) : Coil := nth m.saf.coils k {}

/-- Contactor state, 0x2B02 (0 OPEN, 1 PICKING_UP, 2 CLOSED, 3 DROPPING, 4 HELD, 5 WELDED). -/
def Mach.contactorState (m : Mach) (k : Nat) : Nat :=
  let c := m.coil k
  if c.welded then 5
  else if m.holdActive && (c.wSw || c.fSw) then 4
  else if c.node && c.fb then 2
  else if c.node then 1
  else if c.fb then 3
  else 0

/-- Safety inputs, 0x2B03.00: bit k healthy, bit 8 + k test fault. -/
def Mach.siWord (m : Mach) : Nat :=
  (List.range 8).foldl (fun a k => a + bitIf k ((nth m.saf.si k {}).lowSince.isNone)
    + bitIf (8 + k) (nth m.saf.si k {}).testFault) 0

/-- The safety profile of a position of SW1, none for a reserved one (R324, R325). -/
def profileOf (pos : Nat) : Option Profile :=
  let cls (chem vOv vUv hwOv hwUv : Nat) (ot hw chg : Int) : Option Profile :=
    some { num := pos, chem := chem, vOv := vOv, vUv := vUv, hwOv := hwOv, hwUv := hwUv, tOt := ot, tOtHw := hw
           tChgMin := chg, iLim := nth [400, 700, 1000, 1500] (pos % 4) 0, iOc := nth [500, 850, 1200, 1750] (pos % 4) 0
           iBrk := nth [800, 1200, 1600, 1950] (pos % 4) 0, hallScale := nth [750, 1250, 1750, 2500] (pos % 4) 0
           hallTh := nth [6667, 6800, 6857, 7000] (pos % 4) 0 }
  if pos < 4 then cls 0 3650 2500 3750 2300 600 650 0
  else if pos < 8 then cls 1 4250 2500 4350 2300 600 650 0
  else if pos < 12 then cls 2 4200 3000 4300 2800 550 600 50
  else if pos = 15 then
    some { num := 15, chem := 0xFE, vOv := 3650, vUv := 2500, hwOv := 3750, hwUv := 2300, tOt := 450, tOtHw := 500
           tChgMin := 100, iLim := 20, iOc := 30, iBrk := 800, hallScale := 750, hallTh := 400 }
  else none

/-- Offsets 0 to 59 of a profile record (R323). -/
def Profile.body (p : Profile) : List Nat :=
  u8 p.num ++ u8 p.chem ++ u16 p.vOv ++ u16 p.vUv ++ u16 p.hwOv ++ u16 p.hwUv ++ sBytes 2 p.tOt ++ sBytes 2 p.tOtHw
    ++ sBytes 2 p.tChgMin ++ u16 p.iLim ++ u16 p.iLim ++ u16 p.iOc ++ u16 p.iOc ++ u16 p.iBrk ++ u16 p.hallScale
    ++ u16 p.hallTh ++ u16 p.hallTh ++ List.replicate 28 0

/-- PCRC of a profile record (R323). -/
def Profile.pcrc (p : Profile) : Nat := crc32c p.body

/-- The profile in force: the loaded one while its record is valid (R325). -/
def Mach.prof (m : Mach) : Option Profile := if m.saf.profileOk then profileOf m.saf.profile else none

/-! ## Power stage and converter (chapters 8 and 9) -/

/-- Ownership in force, 0x2608.00. -/
def Mach.ownMask (m : Mach) : Nat :=
  maskOf ((List.range 12).filter (fun k => (nth m.pwm.phases k {}).own))

/-- Home phases, 0x2608.01 (R184). -/
def Mach.homeMask (m : Mach) : Nat :=
  maskOf ((List.range (min m.nPhases 12)).filter (fun k => !m.paired || (if m.isA then k % 2 == 0 else k % 2 == 1)))

/-- The mode switches the converter (R36, R183): PRECHARGE to SHUTDOWN. -/
def Mach.switching (m : Mach) : Bool :=
  m.inMode [.precharge, .connected, .dispatch, .busForm, .maintain, .shutdown]
    || (m.mode.mode == .commission && m.mode.c6Running)

/-- Phase state code, 0x2604 (R182, R183); an acquired phase enters IDLE or RUN once its gate is released (R185). -/
def Mach.phaseState (m : Mach) (k : Nat) : Nat :=
  let p := nth m.pwm.phases k {}
  if decide (m.nPhases ≤ k) then 0
  else if m.pwm.latch || m.saf.override then 4
  else if !p.own || p.acquiring then 3
  else if p.disabled then 5
  else if m.switching && p.commanded then 2
  else 1

/-- Bitstream faults in force, 0x260D.00. -/
def Mach.streamFaultMask (m : Mach) : Nat :=
  maskOf ((List.range 12).filter (fun k => (nth m.pwm.phases k {}).fault))

/-- Carrier source SYNC_IN is in force (R196). -/
def Mach.carrierSource (m : Mach) : Nat := nth m.pwm.inForce 2 0

/-- Power-stage interface status, 0x2609.00 (R201). -/
def Mach.psiStatus (m : Mach) : Nat :=
  bitIf 10 m.pwm.mismatch + bitIf 9 m.pwm.cbcActive
    + bitIf 8 (m.pwm.phases.any (fun p => p.releasing || p.acquiring))
    + bitIf 7 m.saf.override + bitIf 6 (m.carrierSource == 0 && decide (0 < nth m.pwm.inForce 7 0))
    + bitIf 5 (m.carrierSource == 2 && (m.pwm.sync == .free || m.pwm.sync == .glide))
    + bitIf 4 (m.pwm.phases.any (fun p => p.fault || p.offsetBad))
    + bitIf 3 m.pwm.interlock + bitIf 2 m.pwm.refused + bitIf 1 (m.pwm.ft != 0) + bitIf 0 m.pwm.latch

/-- Converter status, 0x2700.00 (R224). -/
def Mach.convStatus (m : Mach) : Nat :=
  bitIf 14 m.conv.frozen + bitIf 13 m.conv.restart + bitIf 12 m.powerLimited + bitIf 11 m.conv.unresolved
    + bitIf 10 m.conv.deadBus + bitIf 9 (m.conv.stage == .p2) + bitIf 8 (m.conv.stage == .p1)
    + bitIf 7 m.conv.burst + bitIf 6 m.conv.dipHold + bitIf 5 m.conv.capLimited + bitIf 4 m.conv.limited
    + bitIf 3 m.conv.softStop + bitIf 2 m.conv.ceiling.isSome + bitIf 1 (m.conv.rCmd != m.conv.target)
    + bitIf 0 (m.conv.loop != .none)

end Sys2Proof.Machine
end

