-- ==== Sys2Proof/Machine/Record.lean ====
section
/-! DEFINITION. What every chapter writes: Seedbank records and snapshots (chapter 16), trace records and event counts
(chapter 24). -/

namespace Sys2Proof.Machine

/-! ## Trace and event counters (chapter 24) -/

/-- Count n events of a select code (R509): every counter whose code in force is that code, modulo 2^64. -/
def Mach.countEvent (m : Mach) (code n : Nat) : Mach :=
  m.updObs (fun o => { o with
    counters := (o.select.filter (fun p => p.2 == code)).foldl
      (fun a p => aput a p.1 ((aget a p.1 0 + n) % 2 ^ 64)) o.counters })

/-- A trace record enters the trace queue (R506, R508): while trace is enabled and no brown-out warning stands; a record
that finds the queue full is dropped and counted. -/
def Mach.trace (m : Mach) (type src : Nat) (data : List Nat) : Mach :=
  if !m.obs.enabled || m.clk.warning then m
  else if m.obs.queue.length < 256 then
    m.updObs (fun o => { o with
      queue := o.queue ++ [{ type := type, src := src, tseq := o.tseq, time := m.fabTime % 2 ^ 32, data := padTo 6 data }]
      tseq := (o.tseq + 1) % 256 })
  else (m.updObs (fun o => { o with dropped := o.dropped + 1, nDropped := satInc o.nDropped })).countEvent 0x0603 1

/-! ## Seedbank records (R379 to R386) -/

/-- The sequence after a record sequence: 1 after 0xFFFFFFFF, never 0 (R382). -/
def seqNext (s : Nat) : Nat := if s = 0xFFFFFFFF then 1 else s + 1

/-- The 28 bytes of a record before its CRC (R381). -/
def SeedRec.body (r : SeedRec) : List Nat :=
  u64 r.time ++ u16 r.code ++ u16 r.source ++ u8 r.mode ++ u8 r.cls ++ u32 r.seq ++ padTo 10 r.params

/-- The 32 bytes of a record (R381). -/
def SeedRec.bytes (r : SeedRec) : List Nat := r.body ++ u32 (crc32c r.body)

/-- A record made now (R381): fabric time, mode byte, class byte with TIME_UNTRACEABLE. -/
def Mach.mkRec (m : Mach) (code source : Nat) (params : List Nat) (cls : Nat) : SeedRec :=
  { time := m.fabTime, code := code, source := source, mode := m.modeByte
    cls := cls + bitIf 5 m.fab.untraceable, seq := m.seed.nextSeq, params := padTo 10 params, damaged := false }

/-- A record is privileged (Snapshots): SAFETY_DEMAND with DISCONNECT or TRIP, TAKEOVER, FAULT_RAISED of class F. -/
def SeedRec.privileged (r : SeedRec) : Bool :=
  (r.code == 0x0300 && (nth r.params 1 0 == 2 || nth r.params 1 0 == 3)) || r.code == 0x0400
    || (r.code == 0x0200 && r.cls % 4 == 3)

/-- The highest of listed values with its place, the first of equals. -/
def bestBy (better : Int → Int → Bool) : List (Nat × Int) → Option (Nat × Int)
  | [] => none
  | p :: t => match bestBy better t with
    | none => some p
    | some q => if better q.2 p.2 then some q else some p

/-- Fine group voltages of a sweep in 1 mV with their group numbers, pods in order of address (R69, R63). -/
def groupsOf (sw : List (Nat × SweepPod)) : List (Nat × Int) :=
  sw.foldl (fun a p => if p.2.missing then a
    else a ++ (List.range 16).map (fun k => (16 * (p.1 - 1) + k + 1, nth p.2.data.fine k 0 / 100))) []

/-- The fine reading of a group is defined (R84): its pod's end wire beside it is not open. -/
def Mach.fineDefined (m : Mach) (g : Nat) : Bool :=
  let o := (aget m.chain.ow ((g - 1) / 16 + 1) {}).opened
  !(decide ((g - 1) % 16 = 0) && o.contains 0) && !(decide ((g - 1) % 16 = 15) && o.contains 16)

/-- The fine group voltages of a sweep that may be used (R84), in 1 mV with their group numbers. -/
def Mach.finesOf (m : Mach) (sw : List (Nat × SweepPod)) : List (Nat × Int) := (groupsOf sw).filter (fun p => m.fineDefined p.1)

/-- A number in an unsigned field of n bytes; beyond its range the spec states no bits (log entry 6). -/
def fitU (n : Nat) (v : Int) : Nat :=
  if 0 ≤ v && decide (v < (256 ^ n : Nat)) then v.toNat else Config.outOfRange n v % 256 ^ n

/-- A number in a signed field of n bytes, likewise. -/
def fitS (n : Nat) (v : Int) : Int :=
  if -(256 ^ n / 2 : Nat) ≤ v && decide (v < (256 ^ n / 2 : Nat)) then v else signedOf n (Config.outOfRange n v % 256 ^ n)

/-- Highest NTC readings of a sweep with their pods (R69). -/
def ntcOf (sw : List (Nat × SweepPod)) : List (Nat × Int) :=
  sw.foldl (fun a p => if p.2.missing then a else
    match maxInt? p.2.data.ntc with
    | none => a
    | some t => a ++ [(p.1, t)]) []

/-- A value and its place as two integers, 0 where there is none. -/
def extreme (o : Option (Nat × Int)) : List Int :=
  match o with
  | none => [0, 0]
  | some (k, v) => [v, (k : Int)]

/-- Groups of the enumerated string: 16 for each pod (R63). -/
def Mach.nGroups (m : Mach) : Nat := 16 * m.chain.serials.length

/-- The key of entry (g, k) (R132). -/
def zKey (g k : Nat) : Nat := 16 * (g - 1) + k

/-- The entry is no older than an age. -/
def Mach.fresh (m : Mach) (z : ZEntry) (age : Nat) : Bool :=
  match z.time with
  | none => false
  | some t => decide (m.fabTime ≤ t + age)

/-- The internal temperatures that have a value now (R58, R139): no baseline pending, the bin-15 entry with q ≥ 64 and no older
than 120 s, and a reference entry. -/
def Mach.tIntNow (m : Mach) : List (Nat × Int) :=
  m.imp.tInt.filter (fun p => !m.mode.baselinePending && decide (64 ≤ (aget m.imp.map (zKey p.1 15) {}).q)
    && m.fresh (aget m.imp.map (zKey p.1 15) {}) 120000000000 && (aget? m.imp.ref (zKey p.1 15)).isSome)

/-- EXTREMES of the snapshot slot (R386). -/
def Mach.extremes (m : Mach) : List Int :=
  let g := m.finesOf m.chain.shared
  extreme (bestBy (fun a b => decide (a > b)) g) ++ extreme (bestBy (fun a b => decide (a < b)) g)
    ++ extreme (bestBy (fun a b => decide (a > b)) m.tIntNow)
    ++ extreme (bestBy (fun a b => decide (a > b)) (ntcOf m.chain.shared))

/-- What a snapshot captures, in the order of the slot from DEGRADED to PLANT, COALESCED apart (R386). -/
def Mach.snapRegs (m : Mach) : List Int :=
  ([m.degradedCauses, m.safetyStatus, m.saf.demW % 65536, m.saf.demF % 65536, m.saf.demP, m.contactorState 0,
    m.contactorState 1, m.contactorState 2, m.siWord, m.faultStatus, m.pendingMask, m.convStatus, m.psiStatus,
    m.ownMask, m.pair.ogen].map (fun (x : Nat) => (x : Int)))
  ++ (List.range 12).map (fun k => (m.phaseState k : Int))
  ++ [(m.pwm.capture : Int), m.conv.iRef.floor, m.meas.sShunt, m.meas.sHall, (m.meas.sStr : Int), (m.meas.sBus : Int)]
  ++ (List.range 12).map (fun k => match (nth m.pwm.phases k {}).avg with
      | none => (-2147483648 : Int)
      | some i => i)
  ++ (List.replicate (64 - m.meas.iHist.length) 0 ++ m.meas.iHist).map (fun i => i / 100) ++ m.extremes
  ++ [(m.chain.lastEpoch : Int), (m.plant.mv : Int), (m.fastEpoch : Int), 100 * m.plant.own]

/-- The slot the next snapshot takes (R386): 0 to 15 once each, then 16 to 63 in turn. -/
def snapSlot (count : Nat) : Nat := if count < 16 then count else 16 + (count - 16) % 48

/-- Add one to a snapshot's COALESCED count. -/
def Snap.join (s : Snap) : Snap := { s with coalesced := min 255 (s.coalesced + 1) }

/-- A snapshot clear runs (R387). -/
def Seed.clearingSnaps (d : Seed) : Bool :=
  match d.clear with
  | none => false
  | some c => bit c.what 1

/-- A privileged record joins the snapshot captured within the preceding 1 ms, or takes one itself (R386); while a
snapshot clear runs it waits for its slot (R387). The flag says whether the record is the trigger of a snapshot. -/
def Mach.snapshot (m : Mach) (r : SeedRec) : Mach × Bool :=
  let recent : Bool := match m.seed.lastSnap with
    | none => false
    | some t => decide (m.now ≤ t + 1000000)
  if recent then
    (m.updSeed (fun d =>
      match d.clear with
      | some c =>
        if c.waiting.isEmpty then
          { d with nCoalesced := satInc d.nCoalesced
                   snaps := match aget? d.snaps (snapSlot (d.snapCount - 1)) with
                     | none => d.snaps
                     | some s => aput d.snaps (snapSlot (d.snapCount - 1)) s.join }
        else { d with nCoalesced := satInc d.nCoalesced
                      clear := some { c with waiting := updNth c.waiting (c.waiting.length - 1) Snap.join } }
      | none =>
        { d with nCoalesced := satInc d.nCoalesced
                 snaps := match aget? d.snaps (snapSlot (d.snapCount - 1)) with
                   | none => d.snaps
                   | some s => aput d.snaps (snapSlot (d.snapCount - 1)) s.join }), false)
  else
    let s : Snap := { trigger := { r with cls := r.cls + 64 }, captureTime := m.fabTime, coalesced := 0
                      regs := m.snapRegs, damaged := false }
    (m.updSeed (fun d =>
      match d.clear with
      | some c =>
        if bit c.what 1 then { d with lastSnap := some m.now, clear := some { c with waiting := c.waiting ++ [s] } }
        else { d with lastSnap := some m.now, snaps := aput d.snaps (snapSlot d.snapCount) s
                      snapCount := d.snapCount + 1 }
      | none => { d with lastSnap := some m.now, snaps := aput d.snaps (snapSlot d.snapCount) s
                         snapCount := d.snapCount + 1 }), true)

/-- A record enters the staging queue, or is dropped and counted at a full queue (R379); it takes the next SEQ either way
(R382; log entry 14). -/
def Seed.enter (d : Seed) (r : SeedRec) : Seed :=
  if d.staging.length < 1024 then
    { d with staging := d.staging ++ [{ r with seq := d.nextSeq }], nextSeq := seqNext d.nextSeq }
  else
    { d with dropped := d.dropped + 1, firstLost := if d.dropped = 0 then d.nextSeq else d.firstLost
             nLost := satInc d.nLost, lost := true, nextSeq := seqNext d.nextSeq }

/-- Stage a record, capturing a snapshot where it is privileged. -/
def Mach.stageRec (m : Mach) (r : SeedRec) : Mach :=
  if r.privileged then
    let p := m.snapshot r
    p.1.updSeed (fun d => d.enter (if p.2 then { r with cls := r.cls + 64 } else r))
  else m.updSeed (fun d => d.enter r)

/-- Write a record with its class byte, while the processor domain runs (the recorder lies in it). -/
def Mach.recordCls (m : Mach) (code source : Nat) (params : List Nat) (cls : Nat) : Mach :=
  if m.clk.procRunning then m.stageRec (m.mkRec code source params cls) else m

/-- Write an event record (class EVENT). -/
def Mach.record (m : Mach) (code source : Nat) (params : List Nat) : Mach := m.recordCls code source params 0

/-- Write the FAULT_EVENT record of a class C event, at most one per source in any 100 ms (R383); with INJECTED where the
event was injected (R372). -/
def Mach.recordC (m : Mach) (src : Nat) (params : List Nat) (injected : Bool) : Mach :=
  let s := m.seed.suppress.find? (fun x => x.src == src)
  match s with
  | some x =>
    if m.now < x.last + 100000000 then
      m.updSeed (fun d => { d with
        nSuppressed := satInc d.nSuppressed
        suppress := d.suppress.map (fun y => if y.src == src then { y with held := min 65535 (y.held + 1) } else y) })
    else
      (m.recordCls 0x0202 src (u16 x.held ++ params.take 8) (1 + bitIf 7 injected)).updSeed (fun d => { d with
        suppress := d.suppress.map (fun y => if y.src == src then { y with last := m.now, held := 0 } else y) })
  | none =>
    (m.recordCls 0x0202 src (u16 0 ++ params.take 8) (1 + bitIf 7 injected)).updSeed (fun d => { d with
      suppress := d.suppress ++ [{ src := src, last := m.now, held := 0 }] })

/-- An event of the Foxglove channel enters its status buffer of 16 (R380), and its record is written if the recorder
runs; otherwise the next BOOT writes it with its original time. -/
def Mach.foxRecord (m : Mach) (code source : Nat) (params : List Nat) : Mach :=
  (m.updSaf (fun f => { f with
    foxEvents := f.foxEvents.drop (f.foxEvents.length - 15)
      ++ [{ time := m.fabTime, code := code, source := source, params := params, written := m.clk.procRunning }] })).record
    code source params

/-- A record with the time of its event. -/
def SeedRec.at (r : SeedRec) (t : Nat) : SeedRec := { r with time := t }

/-- Write the Foxglove events that happened while the processor domain was in reset, in time order (R380). -/
def Mach.replayFox (m : Mach) : Mach :=
  (m.each (m.saf.foxEvents.filter (fun e => !e.written))
      (fun e a => a.stageRec (SeedRec.at (a.mkRec e.code e.source e.params (if e.code = 0x0202 then 1 else 0)) e.time))).updSaf (fun f =>
    { f with foxEvents := f.foxEvents.map (fun e => { e with written := true }) })

/-- Write a committed record to the ring, and to the vault while it is not full (R378). -/
def Seed.store (d : Seed) (r : SeedRec) : Seed :=
  { d with
    ring := if d.ring.length < 8192 then d.ring ++ [r] else d.ring.drop 1 ++ [r]
    ringHead := if d.ring.length < 8192 then d.ringHead else (d.ringHead + 1) % 8192
    vault := if d.vault.length < 1024 then d.vault ++ [r] else d.vault
    lastSeq := r.seq }

/-- Commit the oldest staged record (R378, R379). -/
def Seed.commitOne (d : Seed) : Seed :=
  match d.staging with
  | [] => d
  | r :: rest => { d.store r with staging := rest }

/-- Commit the whole staging queue (R379, R387 step 1). -/
def Seed.commitAll (d : Seed) : Seed := { d.staging.foldl Seed.store d with staging := [] }

/-- Once the queue is below half full again after drops, one RECORDS_LOST record carries the count and the first lost
sequence (R379). -/
def Mach.reportLost (m : Mach) : Mach :=
  if 0 < m.seed.dropped && decide (m.seed.staging.length < 512) then
    (m.record 0x0800 0 (u32 m.seed.dropped ++ u32 m.seed.firstLost)).updSeed (fun d => { d with dropped := 0 })
  else m

/-- A DEGRADED cause bit has set or cleared since the last evaluation: DEGRADED_CHANGE is written (R51, R385). -/
def Mach.noteDegraded (m : Mach) : Mach :=
  if m.degradedCauses = m.mode.degraded then m
  else (m.updMode (fun x => { x with degraded := m.degradedCauses })).record 0x0108 0 (u32 m.degradedCauses)

end Sys2Proof.Machine
end

