-- ==== Sys2Proof/Machine/Store.lean ====
section
/-! DEFINITION. The nonvolatile store (chapter 17): what a transaction holds, its commit, compaction and replay. -/

namespace Sys2Proof.Machine

/-- Bytes of the journal area (R392). -/
def journalBytes : Nat := 655360
/-- Journal bytes kept for the brown-out flush (R400). -/
def reserveBytes : Nat := 65536

/-- The KEY of a stored content (R396): object index and sub-index, or a store-internal key under index 0xFFFF (log
entry 7). -/
def NvItem.key : NvItem → Nat
  | .param k _ => (k / 256) * 65536 + (k % 256) * 256
  | .lockout _ => 0xFFFF0000
  | .parked _ => 0xFFFF0100
  | .commissioning _ _ _ => 0xFFFF0200
  | .commStep _ _ => 0xFFFF0300
  | .map _ _ _ => 0xFFFF0400
  | .reference _ _ _ _ _ _ => 0xFFFF0500
  | .ageing _ _ => 0xFFFF0600
  | .capacity g _ _ => 0xFFFF1000 + g
  | .estimator _ => 0xFFFF0700
  | .throughput _ _ => 0xFFFF0800
  | .charge _ _ _ => 0xFFFF0900
  | .lastTime _ => 0xFFFF0A00
  | .address _ => 0xFFFF0B00
  | .tieMask _ => 0xFFFF0C00
  | .partner _ => 0xFFFF0D00
  | .counters _ => 0xFFFF0E00

/-- Payload bytes of a stored content (log entry 7 for the store-internal ones). -/
def NvItem.len : NvItem → Nat
  | .param k _ => match objFind (k / 256) (k % 256) with
    | some r => r.len
    | none => 0
  | .lockout _ => 2
  | .parked _ => 1
  | .commissioning r _ _ => 8 * r.pods.length + 16
  | .commStep _ _ => 2
  | .map l t _ => 15 * l.length + 8 * t.length + 8
  | .reference l _ t _ f _ => 7 * l.length + 2 * t.length + 18 * f.length + 13
  | .ageing l a => 2 * l.length + 8 * a.length
  | .capacity _ _ _ => 40
  | .estimator e => 56 * e.groups.length + 8 * e.bleed.length + 48
  | .throughput _ _ => 16
  | .charge _ _ _ => 24
  | .lastTime _ => 8
  | .address _ => 2
  | .tieMask _ => 4
  | .partner _ => 8
  | .counters c => 12 * c.length

/-- Journal records a content takes: 4,072 payload bytes each (R396). -/
def NvItem.records (i : NvItem) : Nat := max 1 ((i.len + 4071) / 4072)

/-- Journal bytes a content takes: 24 bytes a record and the payload padded to 8 bytes (R396). -/
def NvItem.bytes (i : NvItem) : Nat := 24 * i.records + (i.len + 7) / 8 * 8

/-- Journal bytes of a transaction. -/
def txnBytes (l : List NvItem) : Nat := l.foldl (fun a i => a + i.bytes) 0

/-- Journal records of a transaction. -/
def txnRecords (l : List NvItem) : Nat := l.foldl (fun a i => a + i.records) 0

/-- Bytes from HEAD to the last record. -/
def Nv.fillBytes (n : Nv) : Nat := n.journal.foldl (fun a t => a + t.bytes) 0

/-- Record sequence n records later: +1 each, past 0xFFFFFFFF to 1 (R396). -/
def rseqAdd (r n : Nat) : Nat := (r + n - 1) % 0xFFFFFFFF + 1

/-- Replace the value of a key in a list of stored values, or add it. -/
def putItem : List NvItem → NvItem → List NvItem
  | [], i => [i]
  | h :: t, i => if h.key = i.key then i :: t else h :: putItem t i

/-- The values of a list after those of another have been written. -/
def mergeItems (base l : List NvItem) : List NvItem := l.foldl putItem base

/-- A transaction is valid: every CRC correct and its final MARK present (R397). -/
def Txn.valid (t : Txn) : Bool := t.crcOk && t.marked

/-- Append a committed transaction to the journal (R396, R397). -/
def Nv.write (n : Nv) (items : List NvItem) (marked : Bool) : Nv :=
  let r := rseqAdd n.rseq (txnRecords items)
  { n with
    journal := n.journal ++ [{ rseq := r, items := items, crcOk := true, marked := marked, bytes := txnBytes items }]
    rseq := r }

/-- The store takes no commit now: flushed (R401), or the write would enter the reserve (R400). -/
def Nv.blocked (n : Nv) (items : List NvItem) : Bool :=
  n.flushed || decide (journalBytes - reserveBytes < n.fillBytes + txnBytes items)

/-- Queue a transaction for its commit by JOURNAL_COMMIT, with what follows the commit (R398, R401). -/
def Mach.store (m : Mach) (items : List NvItem) (after : List After) : Mach :=
  m.updNv (fun n => { n with pending := n.pending ++ [{ items := items, after := after }] })

/-- Commit a transaction within the step (the records R402 commits on entry, the commissioning record at C7); where the
store takes no commit it waits with the others. -/
def Mach.storeNow (m : Mach) (items : List NvItem) : Mach :=
  if m.nv.blocked items then m.store items []
  else m.updNv (fun n => n.write items true)

/-- NV counters and status objects with their values, by object (R402). -/
def Mach.nvCounters (m : Mach) : List (Nat × Nat) :=
  [(objKey 0x2201 3, m.meas.gap), (objKey 0x2201 4, m.meas.oscLast),
   (objKey 0x2410 1, m.est.nRests), (objKey 0x2410 2, m.est.nCap), (objKey 0x2410 3, m.est.nCapRej),
   (objKey 0x2410 4, m.est.nBridged),
   (objKey 0x2A03 1, m.pair.nTake), (objKey 0x2A03 2, m.pair.nBack), (objKey 0x2A04 0, m.pair.toTime),
   (objKey 0x2A04 1, m.pair.toDip), (objKey 0x2A04 2, m.pair.toRec),
   (objKey 0x2B05 0, m.saf.last.time + 2 ^ 64 * m.saf.last.func + 2 ^ 72 * m.saf.last.chan
      + 2 ^ 80 * m.saf.last.reaction + 2 ^ 88 * m.saf.last.mode + 2 ^ 96 * twos 4 m.saf.last.value),
   (objKey 0x2B06 1, m.saf.nDisc), (objKey 0x2B06 2, m.saf.nTrips), (objKey 0x2B06 3, m.saf.nCoilFail),
   (objKey 0x2B06 5, m.saf.nHolds)]
  ++ [(objKey 0x2F00 3, m.nv.compAt), (objKey 0x2F02 1, m.nv.nComp), (objKey 0x2F02 2, m.nv.nAband),
   (objKey 0x2F02 3, m.nv.nTorn), (objKey 0x2F02 4, m.nv.nDamaged), (objKey 0x2F02 5, m.nv.nFlush),
   (objKey 0x2F02 6, m.nv.flushDur), (objKey 0x3111 2, m.upd.nRefused), (objKey 0x3111 3, m.upd.nRoll),
   (objKey 0x3201 1, m.clk.resets), (objKey 0x3203 1, m.clk.nDips), (objKey 0x3203 2, m.clk.nStuck),
   (objKey 0x3203 3, m.clk.nWatchdog), (objKey 0x3203 4, m.clk.nClock)]

/-- Restore the NV counters and status objects. -/
def Mach.restoreCounters (m : Mach) (c : List (Nat × Nat)) : Mach :=
  let v := fun i s => (aget (c.map (fun p => (p.1, p.2))) (objKey i s) 0)
  let r := v 0x2B05 0
  ((((((m.updMeas (fun x => { x with gap := v 0x2201 3, oscLast := v 0x2201 4 })).updEst (fun x => { x with
      nRests := v 0x2410 1, nCap := v 0x2410 2, nCapRej := v 0x2410 3, nBridged := v 0x2410 4 })).updPair (fun x =>
      { x with nTake := v 0x2A03 1, nBack := v 0x2A03 2, toTime := v 0x2A04 0, toDip := v 0x2A04 1
               toRec := v 0x2A04 2 })).updSaf (fun x => { x with
      last := { time := r % 2 ^ 64, func := r / 2 ^ 64 % 256, chan := r / 2 ^ 72 % 256, reaction := r / 2 ^ 80 % 256
                mode := r / 2 ^ 88 % 256, value := signedOf 4 (r / 2 ^ 96 % 2 ^ 32) }
      nDisc := v 0x2B06 1, nTrips := v 0x2B06 2, nCoilFail := v 0x2B06 3, nHolds := v 0x2B06 5 })).updNv (fun x =>
      { x with compAt := v 0x2F00 3, nComp := v 0x2F02 1, nAband := v 0x2F02 2, nTorn := v 0x2F02 3
               nDamaged := v 0x2F02 4, nFlush := v 0x2F02 5, flushDur := v 0x2F02 6 })).updUpd (fun x =>
      { x with nRefused := v 0x3111 2, nRoll := v 0x3111 3 })).updClk (fun x =>
      { x with resets := v 0x3201 1, nDips := v 0x3203 1, nStuck := v 0x3203 2, nWatchdog := v 0x3203 3
               nClock := v 0x3203 4 })

/-- The estimator state as stored, with the charge removed by bleeding (R173, R402). -/
def Mach.estItem (m : Mach) : NvItem :=
  .estimator { groups := m.est.groups, strRep := m.est.strRep, strInt := m.est.strInt, lastRest := m.est.lastRest
               lastCorr := m.est.lastCorr, refAged := m.est.refAged, usedD := m.est.usedD, usedC := m.est.usedC
               carry := m.est.carry, bleed := m.bal.bleed }

/-- The brown-out set (R401 step 4, R402). -/
def Mach.brownSet (m : Mach) : List NvItem :=
  [m.estItem, .charge m.meas.rxD m.meas.rxC m.meas.rxTime, .throughput m.est.throughput m.est.thrCounts, .lastTime m.fabTime,
   .counters m.nvCounters]

/-- The set committed every 60 s (R402). -/
def Mach.minuteSet (m : Mach) : List NvItem := [m.estItem, .lastTime m.fabTime, .counters m.nvCounters]

/-- Restore one stored value to where it lives. -/
def Mach.restore (m : Mach) (i : NvItem) : Mach :=
  match i with
  | .param k v => { m with params := setParams m.params k v }
  | .lockout c => m.updMode (fun x => { x with lockout := c })
  | .parked b => m.updMode (fun x => { x with parked := b })
  | .commissioning r step pending =>
    m.updMode (fun x => { x with commRec := some r, commStep := step, commFailed := false, baselinePending := pending })
  | .commStep step failed => m.updMode (fun x => { x with commStep := step, commFailed := failed })
  | .map l t a => m.updImp (fun x => { x with map := l, binTimes := t, mapCommit := some a })
  | .reference l t temps soc fits pending =>
    (m.updImp (fun x => { x with ref := l, refTime := t, refTemp := temps, refSoc := soc, refFit := fits })).updMode
      (fun x => { x with baselinePending := pending })
  | .ageing l a => m.updImp (fun x => { x with ageing := l, ageingAt := a })
  | .capacity g c a => m.updEst (fun x => { x with groups := aupd x.groups g {} (fun e => { e with c := c, anchor := a }) })
  | .estimator e =>
    (m.updEst (fun x => { x with
      running := true, groups := e.groups, strRep := e.strRep, strInt := e.strInt, lastRest := e.lastRest, lastCorr := e.lastCorr
      refAged := e.refAged, usedD := e.usedD, usedC := e.usedC, carry := e.carry })).updBal (fun x => { x with bleed := e.bleed })
  | .throughput q c => m.updEst (fun x => { x with throughput := q, thrCommit := q, thrCounts := c })
  | .charge _ _ t => m.updNv (fun x => { x with countsEver := true, countsTime := t })
  | .lastTime t => m.updNv (fun x => { x with lastTime := t })
  | .address a => m.updFab (fun x => { x with storedAddr := a })
  | .tieMask t => m.updIso (fun x => { x with tie := t % 2 ^ 31 })
  | .partner s => m.updPair (fun x => { x with pSerial := s })
  | .counters c => m.restoreCounters c

/-- The values a capacity item adds lie in the estimator's groups, so they are restored after them (R402). -/
def restoreOrder (l : List NvItem) : List NvItem :=
  l.filter (fun i => match i with | .capacity _ _ _ => false | _ => true)
    ++ l.filter (fun i => match i with | .capacity _ _ _ => true | _ => false)

/-- The journal without its torn tail: replay stops at the first transaction that fails R397 with no valid one after it (R403
step 3); that one is the torn write that counts. -/
def dropTorn (l : List Txn) : List Txn × Nat :=
  let r := l.reverse.dropWhile (fun t => !t.valid)
  (r.reverse, min 1 (l.length - r.length))

/-- Keys of the transactions that fail in front of valid ones, and of damaged base sections (R403 steps 4 and 5). -/
def damagedKeys (bad : List NvItem) (j : List Txn) : List Nat :=
  ((bad ++ (j.filter (fun t => !t.valid)).flatMap (fun t => t.items)).map NvItem.key).foldl insNat []

/-- Mark the base sections and journal transactions whose CRC the replay finds wrong (R395, R397). -/
def Nv.spoil (n : Nv) (badKeys badTxns : List Nat) : Nv :=
  { n with
    base := n.base.filter (fun i => !badKeys.contains i.key)
    baseBad := n.base.filter (fun i => badKeys.contains i.key)
    journal := n.journal.map (fun t => if badTxns.contains t.rseq then { t with crcOk := false } else t) }

/-- The superblock that replay uses (R394): of the copies whose CRC is correct the one with the higher GEN, A where they agree.
`bad` names the copies that fail, bit 0 for A (log entry 169). -/
def Nv.select (n : Nv) (bad : Nat) : Nv :=
  let sb := if bit bad 1 || (!bit bad 0 && decide (n.superB.gen ≤ n.superA.gen)) then n.superA else n.superB
  { n with gen := sb.gen, active := sb.active, head := sb.head, headRseq := sb.headRseq }

/-- Replay of the store at step 7 of the ladder (R403, R404). The operands name the superblock copies, base sections
and transactions whose CRC fails. -/
def Mach.replay (m : Mach) (badSuper : Nat) (badKeys badTxns : List Nat) : Mach :=
  let n := (m.nv.select badSuper).spoil badKeys badTxns
  let (j, torn) := dropTorn n.journal
  let keys := damagedKeys n.baseBad j
  let vals := restoreOrder (mergeItems n.base ((j.filter Txn.valid).flatMap (fun t => t.items)))
  let nBad := (j.filter (fun t => !t.valid)).length + n.baseBad.length
  let m1 := (m.updNv (fun _ => { n with journal := j })).each vals (fun i a => a.restore i)
  let assumed := keys.contains 0xFFFF0000
  (m1.updNv (fun x => { x with
      nTorn := satAdd x.nTorn torn, nDamaged := satAdd x.nDamaged nBad
      replayError := !keys.isEmpty, baseDamaged := !n.baseBad.isEmpty, lockAssumed := assumed
      damaged := keys.take 16 })).updMode (fun x => { x with
      lockout := if assumed then some .assumed else x.lockout })

end Sys2Proof.Machine
end

