-- ==== Sys2Proof/Machine/Reactions.lean ====
section
/-! DEFINITION. Entering a mode with the outputs it brings (chapter 2), demanding a safety reaction (chapter 13) and raising
a fault (chapter 15): the shared operations of every chapter. -/

namespace Sys2Proof.Machine

/-! ## Parts of a mode entry -/

/-- This module masters the chain (R90, 0x2100.00): alone, module A unless B has taken the line over, or module B then. -/
def Mach.isMaster (m : Mach) : Bool :=
  !m.paired || (if m.isA then !m.chain.takenOver else m.chain.takenOver)

/-- The pod that a chain command is meant for, none for a broadcast (R68). -/
def ChainCmd.dest : ChainCmd → Option Nat
  | .assign a => some a
  | .ident a => some a
  | .readOne a _ => some a
  | .config a _ _ _ _ => if a = 0xFF then none else some a
  | .echo a => if a = 0xFF then none else some a
  | .corrRead a _ _ => some a
  | .resetAddr => none
  | .sample _ _ _ => none
  | .reverseSample _ _ _ => none
  | .read _ => none
  | .bleed _ _ => none
  | .exciteRef _ _ _ _ _ => none

/-- The pod's watchdog at a time (R94): expired, it stops all bleeding and drops the masks not yet applied. -/
def PodUnit.timeOut (p : PodUnit) (now : Nat) : PodUnit :=
  if p.lastFrame + 10000000 * p.wdt < now then { p with expired := true, masks := 0, waiting := 0 } else p

/-- A pod hears a BLEED (R76, R94): bleeding stops, its mask waits for the next latch; a non-zero mask ends its expired
state. -/
def PodUnit.bleed (p : PodUnit) (mask : Nat) : PodUnit :=
  { p with waiting := mask, masks := 0, expired := p.expired && mask == 0 }

/-- A pod latches on the first SAMPLE with a new SAMPLE_ID (R68). -/
def PodUnit.latch (p : PodUnit) (id : Nat) : PodUnit := { p with latched := some id }

/-- What a valid frame for it or for all pods does to the pod at an address: the watchdog is retriggered (R94), and the
command acts (R67, R68, R76, R77, R81). A pod that answers ASSIGN has come up anew. -/
def PodUnit.take (p : PodUnit) (now a : Nat) (f : ChainCmd) : PodUnit :=
  let q : PodUnit := { p.timeOut now with lastFrame := now }
  match f with
  | .assign _ => { ({} : PodUnit) with addressed := true, lastFrame := now }
  | .resetAddr => { q with addressed := false }
  | .ident _ => { q with addressed := true }
  | .config _ filter wdt ov uv => { q with configured := true, filter := filter, limitOv := ov, limitUv := uv, wdt := wdt }
  | .sample id _ _ => q.latch id
  | .reverseSample id _ _ => q.latch id
  | .bleed _ masks => q.bleed (aget masks a 0)
  | .read _ => q
  | .readOne _ _ => q
  | .echo _ => q
  | .exciteRef _ _ _ _ _ => q
  | .corrRead _ _ _ => q

/-- The enumerated pods that a frame reaches and is meant for take it; 0 in the list stands for no pod. -/
def Mach.podsTake (m : Mach) (hit : Nat → Bool) (f : ChainCmd) : Mach :=
  m.updChain (fun c => { c with
    pods := (List.range c.serials.length).foldl (fun t i =>
      if nth c.serials i 0 != 0 && hit (i + 1) && (f.dest == none || f.dest == some (i + 1)) then
        aupd t (i + 1) {} (fun p => p.take m.now (i + 1) f)
      else t) c.pods })

/-- A frame leaves CQ1 with its next SEQ (R65). -/
def Mach.putChain (m : Mach) (f : ChainCmd) : Mach :=
  (m.updChain (fun c => { c with seq1 := (c.seq1 + 1) % 256 })).emit (.chain 1 m.chain.seq1 f)

/-- A frame leaves CQ2, the far end of a ring, with its next SEQ. -/
def Mach.putFar (m : Mach) (f : ChainCmd) : Mach :=
  (m.updChain (fun c => { c with seq2 := (c.seq2 + 1) % 256 })).emit (.chain 2 m.chain.seq2 f)

/-- Pods that frames of the master's end, or of the far end, reach: those on its side of a located break. -/
def Mach.endReaches (m : Mach) (near : Bool) (a : Nat) : Bool :=
  match m.chain.brk with
  | none => true
  | some s => if near then decide (a ≤ s) else decide (s < a)

/-- Send a frame from the own CQ1, which is the master's end or in a listener the far end. -/
def Mach.sendChain (m : Mach) (f : ChainCmd) : Mach := (m.putChain f).podsTake (m.endReaches m.isMaster) f

/-- Send a frame from CQ2, the far end of a ring. -/
def Mach.sendFar (m : Mach) (f : ChainCmd) : Mach := (m.putFar f).podsTake (m.endReaches false) f

/-- A broadcast of the non-sweep window: the master sends it; while a break is located the far end repeats it (R88), CQ2 in
a ring, the listener in a pair. Every pod takes it from one end or the other. -/
def Mach.broadcast (m : Mach) (f : ChainCmd) : Mach :=
  (if m.isMaster then (m.putChain f).when (m.chain.brk.isSome && !m.paired) (fun x => x.putFar f)
   else m.when m.chain.brk.isSome (fun x => x.putChain f)).podsTake (fun _ => true) f

/-- The non-sweep window (R74), exact to the millisecond: from T + 3.5 ms until the sweep closes at T + 9.5 ms, after which
the chain is silent until the next SAMPLE. -/
def Mach.chainWindow (m : Mach) : Bool :=
  decide (3 ≤ m.fastEpoch % 10) && !(m.chain.lastEpoch == m.slowEpoch && !m.chain.inSweep && decide (0 < m.slowEpoch))
    && !(m.chain.inSweep && decide (m.slowEpoch < m.chain.epoch))

/-- Lead-in of a bin in slow epochs (R119). -/
def leadEpochs (k : Nat) : Nat := max (2000 / 2 ^ k) 125

/-- Window of a bin in slow epochs (R119). -/
def windowEpochs (k : Nat) : Nat := max (4000 / 2 ^ k) 125

/-- A stop frame (R125, R126) goes out in the non-sweep window; before it, it waits. Its other fields are the EXC_ID of the bin
stopped and 0 (log entry 157). -/
def Mach.sendStop (m : Mach) : Mach :=
  match m.imp.stopDue with
  | none => m
  | some id =>
    if m.chainWindow then (m.updImp (fun i => { i with stopDue := none })).broadcast (.exciteRef 0xFF id 0 0 0) else m

/-- The entries of a bin that writes none, every present group's, join the counted rejections (R130). -/
def Imp.rejectAll (i : Imp) (groups : Nat) : Imp := { i with nRejC := satAdd i.nRejC groups }

/-- Abort the running bin (R125): it is counted, goes back to the head of the pass, and no entry is written; a bin that was
discarded before is only ended. Where the excitation stops EXCITE_REF tells the pods. -/
def Mach.abortBin (m : Mach) (stop : Bool) : Mach :=
  match m.imp.run with
  | none => m
  | some r =>
    let a := m.updImp (fun i => { i with run := none, announced := none, stopDue := if stop then some r.excId else i.stopDue })
    let b := if r.discarded then a else a.updImp (fun i => { i.rejectAll m.nGroups with
      nAborted := satInc i.nAborted, queue := i.queue.map (fun q => r.bin :: q) })
    b.sendStop

/-- Discard the running bin (R125): it is counted and will write no entry; CLIPPED where the excitation was narrowed, and not
any more where this bin is discarded on another ground. -/
def Mach.discardBin (m : Mach) (clipped : Bool) : Mach :=
  match m.imp.run with
  | none => m
  | some r =>
    let a := m.updImp (fun i => { i with run := some { r with discarded := true, clipped := r.clipped || clipped }
                                         clipped := (r.discarded && i.clipped) || clipped })
    if r.discarded then a else a.updImp (fun i => { i.rejectAll m.nGroups with nDiscarded := satInc i.nDiscarded })

/-- A PROTO 0x04 frame of an ownership generation (R297): an older one is discarded and counted, a newer one is adopted, with
which a bin that runs is discarded (R125). -/
def Mach.pairFrame (m : Mach) (ogen : Nat) (f : Mach → Mach) : Mach :=
  if ogen < m.pair.ogen then m.updArch (fun a => { a with stale := satInc a.stale })
  else f ((m.updPair (fun p => { p with ogen := ogen })).when (decide (m.pair.ogen < ogen)) (fun x => x.discardBin false))

/-- A mode carries excitation (R122). -/
def Mode.excites : Mode → Bool
  | .connected => true
  | .dispatch => true
  | .busForm => true
  | .maintain => true
  | .commission => true
  | _ => false

/-- The amplitude cap of a mode in mA (R122; the objects are in 10 mA). -/
def Mach.ampCap (m : Mach) : Mode → Nat
  | .busForm => min (10 * m.par 0x2301 0) 2000
  | .maintain => 10 * m.par 0x2301 1
  | .commission => 10 * m.par 0x2301 1
  | _ => 10 * m.par 0x2301 0

/-- The bin running, or waiting, meets a change of mode (R125, rows on mode changes). -/
def Mach.modeBin (m : Mach) (dest : Mode) : Mach :=
  match m.imp.run with
  | none => if dest.excites then m else m.updImp (fun i => { i with announced := none, headroomWait := false, restWait := false })
  | some r =>
    if !dest.excites then m.abortBin true
    else if (dest == .busForm && decide (r.bin < 4)) || decide (m.ampCap dest < r.amp) then m.abortBin false
    else m

/-- Bleeding is enabled in a mode (R36, R170). -/
def Mode.bleeds : Mode → Bool
  | .standby => true
  | .precharge => true
  | .connected => true
  | .dispatch => true
  | .busForm => true
  | .maintain => true
  | .shutdown => true
  | _ => false

/-- The bins of a baseline or MAINTAIN pass: 15 down to 0 once each (R120). -/
def plainPass : List Nat := [15, 14, 13, 12, 11, 10, 9, 8, 7, 6, 5, 4, 3, 2, 1, 0]

/-- The bins of a normal pass (R120): 15 before every other bin. -/
def normalPass : List Nat := (plainPass.drop 1).flatMap (fun b => [15, b])

/-- A pass of another kind begins; a normal pass that it interrupts is kept (R120). -/
def Imp.begin (i : Imp) (kind : PassKind) : Imp :=
  { i with kind := kind, queue := some plainPass, saved := if i.kind == .normal then i.queue else i.saved }

/-- A MAINTAIN pass or baseline is over or cut: a normal pass goes on with the bin it was running (R120). -/
def Imp.resume (i : Imp) : Imp :=
  if i.kind == .normal then i else { i with kind := .normal, queue := i.saved, saved := none, blStage := 0 }

/-- Begin a baseline (R136): the first of its passes. -/
def Mach.beginBaseline (m : Mach) : Mach :=
  m.updImp (fun i => { i.begin .baseline with blStage := 1, blFirst := [], blSecond := [], blStored := [], blNtc := []
                                              blFailed := false, blRequest := false })

/-- Begin a maintenance task (R50). -/
def Mach.beginTask (m : Mach) (t : MTask) : Mach :=
  let a := m.updMode (fun x => { x with task := t, taskStart := m.now, outcome := 1, taskDone := false })
  let b := a.updConv (fun c => { c with
    target := if t == .equalise then (1000 * m.parS 0x2705 5 2 : Int) else 0, cause := .reference })
  match t with
  | .baseline => b.beginBaseline
  | .impedancePass => b.updImp (fun i => i.begin .maintain)
  | _ => b

/-- The task that a request code names (R50). -/
def taskOf : Nat → MTask
  | 1 => .equalise
  | 2 => .calibrationRest
  | 3 => .impedancePass
  | 4 => .baseline
  | _ => .none

/-- A baseline is due (R50, R58, R136). -/
def Mach.baselineDue (m : Mach) : Bool := m.mode.baselinePending || m.imp.blRequest

/-- What runs at MAINTAIN entry: a baseline that is due, else the requested task (R50). -/
def Mach.enterMaintain (m : Mach) : Mach :=
  (m.beginTask (if m.baselineDue then .baseline else taskOf m.mode.taskReq)).updMode (fun x => { x with
    dueRun := m.baselineDue })

/-- Leaving MAINTAIN before the task has ended: ENDED_EARLY (R50). -/
def Mach.leaveMaintain (m : Mach) : Mach :=
  if m.mode.task == .none then m
  else (m.updMode (fun x => { x with task := .none, outcome := 5, taskDone := false, taskDur := none })).updImp Imp.resume

/-- Switch a channel's part of a coil path (R335): channel 0 Walnut, 1 Foxglove. Closing the Foxglove switch starts its
150 ms of full drive; an opening Walnut switch resets that sequence. -/
def Coil.drive (c : Coil) (w f : Bool) (now : Nat) : Coil :=
  { c with wSw := w, fSw := f
           driveAt := if w && f then (if c.wSw && c.fSw then c.driveAt else some now) else none
           openedAt := if w || f then none else (if c.wSw || c.fSw then some now else c.openedAt) }

/-- Energise or de-energise the module's own path of a coil: both switches (R335, R337). -/
def Mach.setCoil (m : Mach) (k : Nat) (on : Bool) : Mach :=
  m.updSaf (fun s => { s with coils := updNth s.coils k (fun c => c.drive on on m.now) })

/-- TRIP is demanded by a channel (0 Walnut, 1 Foxglove) and asserted by Foxglove at once (R341). -/
def Mach.assertTrip (m : Mach) (ch : Nat) : Mach :=
  let a := m.updSaf (fun s => { s with
    trip := true, tripAt := if s.trip then s.tripAt else m.now, tripDem := setBit s.tripDem ch true, tripLast := m.now })
  if m.saf.trip then a else a.foxRecord 0x0302 0 (u8 1)

/-- The sample the Walnut channel compares (R107); none: treated as beyond both limits. -/
def Mach.walnutI (m : Mach) (i hall : Int) : Option Int :=
  if m.meas.streamLost then (if m.meas.hallLost then none else some hall)
  else if m.meas.hallLost then some i
  else if m.meas.hallDisagree && decide (i.natAbs < hall.natAbs) then some hall
  else some i

/-- The SF-OC limit of the active profile in mA, both directions alike (R323, R324). -/
def Profile.ocLimit (p : Profile) : Int := 1000 * p.iOc

/-- Walnut's evidence for a hold (R322): |I| above 0.98 × I_OC on the current of R107. -/
def Mach.walnutEvidence (m : Mach) : Bool :=
  match m.prof with
  | none => false
  | some p => match m.walnutI m.meas.sShunt m.meas.sHall with
    | none => true
    | some i => decide (98 * p.ocLimit < 100 * (i.natAbs : Int))

/-- A channel's own current evidence (R322). -/
def Mach.evidence (m : Mach) (chan : Nat) : Bool := if chan = 1 then m.meas.lines != 0 else m.walnutEvidence

/-- The hold of a channel since when. -/
def Mach.holdOf (m : Mach) (chan : Nat) : Option Nat := if chan = 1 then m.saf.holdF else m.saf.holdW

/-- Set a channel's hold. -/
def Saf.setHold (s : Saf) (chan : Nat) (h : Option Nat) : Saf := if chan = 1 then { s with holdF := h } else { s with holdW := h }

/-- A channel's switch of an own coil opens; one of a channel with evidence of overcurrent is held closed, the opening
remembered, and the breaker's trip asserted (R322, R341). -/
def Mach.openSide (m : Mach) (ch k : Nat) : Mach :=
  let c := m.coil k
  if (if ch = 1 then c.fSw else c.wSw) && m.evidence ch then
    let a := m.updSaf (fun s => if ch = 1 then { s with openF := true } else { s with openW := true })
    if (a.holdOf ch).isSome then a else (a.updSaf (fun s => s.setHold ch (some m.now))).assertTrip ch
  else m.updSaf (fun s => { s with
    coils := updNth s.coils k (fun d => if ch = 1 then d.drive d.wSw false m.now else d.drive false d.fSw m.now) })

/-- De-energise the module's own path of a coil (R335, R338): a channel whose current evidence stands holds its switch closed,
asserts TRIP and is to open it when the hold ends (R322); the other opens it at once. -/
def Mach.openCoil (m : Mach) (k : Nat) : Mach := m.each [0, 1] (fun ch x => x.openSide ch k)

/-- Both channels are to open every own coil switch 1.0 ms after the PWM pairs are off (R315): COIL_OPEN does it. -/
def Mach.openAll (m : Mach) : Mach := m.updSaf (fun s => { s with openW := true, openF := true })

/-- No phase is commanded any more. -/
def Mach.phasesIdle (m : Mach) : Mach :=
  m.updPwm (fun p => { p with phases := p.phases.map (fun x => { x with commanded := false, waiting := none }) })

/-- A loop mode ends: no loop runs, phases leave RUN (R204). -/
def Mach.loopOff (m : Mach) : Mach :=
  (m.updConv (fun c => { c with
    loop := .none, target := 0, startAt := none, ceiling := none, softStop := false, stage := .none, burst := false
    dipHold := false, dipEdge := false, dipOff := none, active := [], restart := false, rearmOrdered := false, ramping := false
    keepCmd := false })).phasesIdle

/-- The converter at the entry into a mode (R204, R209 to R212, R216, R217, R337). -/
def Mach.convEnter (m : Mach) (dest : Mode) : Mach :=
  match dest with
  | .precharge =>
    (m.updConv (fun c => { c with
      loop := .precharge, target := 0, cause := .reference, stage := .kNeg, stepAt := m.now
      deadBus := !m.busLive, doneSince := none, link := 0, softStop := false })).setCoil 1 true
  | .connected =>
    m.updConv (fun c => { c with
      loop := .current, target := 0, stage := .none, keepCmd := false
      cause := if m.inMode [.dispatch, .busForm, .maintain] then .stop else .reference
      startAt := if m.mode.mode == .precharge then some (m.now + 1000000 * m.par 0x2705 1) else c.startAt })
  | .dispatch => m.updConv (fun c => { c with loop := .power, cause := .reference, softStop := false })
  | .busForm => m.updConv (fun c => { c with
      loop := .voltage, cause := .voltage, vSet := (m.meas.vBus : Rat), vInteg := 0, softStop := false })
  | .maintain => m.updConv (fun c => { c with loop := .current, cause := .reference, softStop := false })
  | .shutdown =>
    -- an abort of PRECHARGE stops its control and opens K_PRE and K_POS at once (R43, R338)
    let abort := m.mode.mode == .precharge
    let m := m.when abort (fun y => ((y.phasesIdle).openCoil 0).openCoil 2)
    (m.updConv (fun c => { c with
      loop := .current, target := 0, cause := .stop, softStop := true, ramping := false, stopAt := m.now, stage := .none
      startAt := none })).updMode (fun x => { x with
        zeroSince := none, abortedPrecharge := abort, opening := if abort then 1 else 0 })
  | .standby => (m.updMode (fun x => { x with opening := 0 })).loopOff.updConv (fun c => { c with standbyAt := m.now, deadBus := false, unresolved := false })
  | _ => m.loopOff

/-- The injector at the entry into a mode (R19, R36): LOCKOUT disables it. -/
def Mach.injEnter (m : Mach) (dest : Mode) : Mach :=
  m.updIso (fun i => { i with
    state := if dest == .lockout && (i.state == .injecting || i.state == .paused) then .idle else i.state })

/-- The string contactors change state (R19, R36): PRECHARGE closes them, an opening runs, or a contactor has not yet
followed its coil. -/
def Mach.contactorsMove (m : Mach) : Bool :=
  m.mode.mode == .precharge || m.mode.opening != 0 || m.saf.coils.any (fun c => c.node != c.fb)

/-- The injector pauses while the contactors change state and resumes after it (R19). -/
def Mach.injPause (m : Mach) : Mach :=
  m.updIso (fun i => { i with
    state := if i.state == .injecting && m.contactorsMove then .paused
             else if i.state == .paused && !m.contactorsMove then .injecting else i.state })

/-- Why LOCKOUT is entered, as its record keeps it (R47, R48): a seal event or switch change demands it, or another cause. -/
def Mach.lockCause (m : Mach) : LockCause :=
  if bit m.saf.demW 16 || bit m.saf.demW 17 || bit m.saf.demF 16 || bit m.saf.demF 17 then .sealOrSwitch else .otherCause

/-- Before STORAGE is entered one BLEED of zero masks goes out (R170), at the boundary of the entry (log entry 164). -/
def Mach.parkBleed (m : Mach) : Mach :=
  (m.updBal (fun x => { x with masks := [], decided := [], held := [], leadMasks := [] })).broadcast (.bleed 1 [])

/-- Enter a mode (R34, R36, R41): what the old mode leaves, the outputs of the new one, its stored record, the transition
objects and the MODE_CHANGE record. -/
def Mach.enterMode (m : Mach) (dest : Mode) (cause : Cause) : Mach :=
  let old := m.mode.mode
  let a := ((m.modeBin dest).when (old == .maintain) Mach.leaveMaintain).when (old == .commission && m.mode.c6Running) (fun y =>
    y.updImp Imp.resume)
  let b := ((a.when (dest == .storage) Mach.parkBleed).convEnter dest).injEnter dest
  let c := b.updMode (fun x => { x with
    mode := dest, prev := old, cause := cause, since := m.fabTime, changes := x.changes + 1, c6Running := false, c6Stopping := false })
  let d := (c.updBal (fun x => { x with zeroDue := dest != .storage && (x.zeroDue || (old.bleeds && !dest.bleeds)) })).when
    (dest == .safeHold || dest == .lockout) (fun y => (y.updSaf (fun s => { s with override := true })).openAll)
  let e := match dest with
    | .lockout => (d.updMode (fun x => { x with lockout := some (x.lockout.getD m.lockCause) })).storeNow
        [.lockout (some (m.mode.lockout.getD m.lockCause))]
    | .storage => (d.updMode (fun x => { x with parked := true })).storeNow [.parked true]
    | .commission => (d.updMode (fun x => { x with
        commStep := 1, commFailed := false, c6Done := false, stepSince := m.now, c1Written := 0 })).store
        [.commStep 1 false] []
    | .maintain => d.enterMaintain
    | _ => d
  let f := e.when (old == .storage && dest != .storage)
    (fun y => (y.updMode (fun x => { x with parked := false })).storeNow [.parked false])
  (f.record 0x0100 0 (u8 old.code ++ u8 dest.code ++ u8 cause.code)).trace 0x02 5 (u8 f.modeByte ++ u8 cause.code)

/-! ## Reactions (R39, R41, R315, R316) -/

/-- A demand that stood before BOOT names a mode for its exit (log entry 11): the gravest stays. -/
def Mach.holdReact (m : Mach) (dest : Mode) (cause : Cause) : Mach :=
  m.updMode (fun x => { x with
    bootReact := match x.bootReact with
      | some (.lockout, k) => some (.lockout, k)
      | some (d, k) => if dest == .lockout then some (dest, cause) else some (d, k)
      | none => some (dest, cause) })

/-- A reaction names a mode: it is entered at once, from every mode except LOCKOUT (R39, R41), from BOOT too but under the
recovery loader, which holds the module there (R454); SAFE_HOLD named in SAFE_HOLD changes nothing. -/
def Mach.react (m : Mach) (dest : Mode) (cause : Cause) : Mach :=
  if !m.clk.procRunning then m
  else match m.mode.mode with
  | .lockout => m
  | .boot => if m.mode.recovery then m.holdReact dest cause else m.enterMode dest cause
  | .safeHold => if dest == .safeHold then m else m.enterMode dest cause
  | _ => m.enterMode dest cause

/-- The reactions of R315. -/
inductive Reaction where
  | alarm | dischargeStop | disconnect | trip
  deriving DecidableEq, Repr

/-- The code of a reaction (0x2B05.00). -/
def Reaction.code : Reaction → Nat
  | .alarm => 0 | .dischargeStop => 1 | .disconnect => 2 | .trip => 3

/-- The source a fault injection names for a function: 0x090 for the loop break, the function code otherwise (R371; log
entry 15). -/
def injSource (func : Nat) : Nat := if func = 13 then 0x090 else func

/-- A real event of the injected source aborts a running injection (R373): the INJECTION record carries ABORTED_REAL. -/
def Mach.abortInjection (m : Mach) (func : Nat) : Mach :=
  match m.flt.inj with
  | none => m
  | some i =>
    if i.src = injSource func then
      (m.updFlt (fun f => { f with
        inj := none, injResult := 4, injAborted := satInc f.injAborted, injEnd := some m.now })).recordCls 0x0205 i.src
        (u8 i.chan ++ u16 i.dur ++ u8 4 ++ u16 (i.response.getD 0)) 128
    else m

/-- A demand of a channel appears (R315 to R317): its bit, its SAFETY_DEMAND record, PWM off under the override, the coil
switches to open, TRIP where named, the last reaction, and the mode it names. Channel 0 Walnut, 1 Foxglove, 2 partner and
3 plant, the last two as Walnut's own demand (R343). A demand that already stands changes nothing. -/
def Mach.demand (m : Mach) (chan func : Nat) (re : Reaction) (dest : Option Mode) (value : Int) : Mach :=
  if (if chan = 1 then bit m.saf.demF func else bit m.saf.demW func) then m
  else
    let a := (m.abortInjection func).updSaf (fun s =>
      if chan = 1 then { s with demF := setBit s.demF func true } else { s with demW := setBit s.demW func true })
    let p := u8 chan ++ u8 re.code ++ sBytes 4 value
    let b := (if chan = 1 then a.foxRecord 0x0300 func p else a.record 0x0300 func p).trace 0x05
      (if chan = 1 then 0 else 7) (u8 func ++ u8 chan)
    let stop := re == .disconnect || re == .trip
    let c := b.when stop (fun y => y.updSaf (fun s => { s with
      override := true, line := s.line || chan != 1, openW := true, openF := true
      nDisc := if re == .disconnect then satInc s.nDisc else s.nDisc
      nTrips := if re == .trip then satInc s.nTrips else s.nTrips }))
    let d := c.when (re == .trip) (fun y => y.assertTrip (if chan = 1 then 1 else 0))
    let e := match dest with
      | none => d
      | some t => d.react t .safetyReaction
    e.updSaf (fun s => { s with last := { time := m.fabTime, func := func, chan := chan, reaction := re.code
                                          mode := e.mode.mode.code, value := value } })

/-- A function demands TRIP (R318, R329, R339, R340). -/
def Mach.isTripFunc (m : Mach) (f : Nat) : Bool :=
  f == 3 || f == 4 || f == 7 || f == 8 || (f == 11 && m.sw3On 5) || f == 15 || f == 18

/-- Some standing demand of a mask makes Walnut hold its reaction line: every one but the alarm stage of SF-UV. -/
def Mach.stopMask (m : Mach) (dem : Nat) : Bool :=
  (setBit dem 1 false) != 0 || (bit dem 1 && m.saf.uvEsc)

/-- A demand of a channel ends (0 Walnut, 1 Foxglove): its bit clears, DEMAND_ENDED is written, the reaction line and the
channel's TRIP demand follow what still stands (R317, R341). -/
def Mach.endDemand (m : Mach) (chan func : Nat) : Mach :=
  if chan = 1 then
    if bit m.saf.demF func then
      let a := m.updSaf (fun s => { s with demF := setBit s.demF func false })
      let b := a.updSaf (fun s => { s with
        tripDem := if (bitsOf 23 s.demF).any a.isTripFunc then s.tripDem else setBit s.tripDem 1 false
        tripLast := if bit s.tripDem 1 then m.now else s.tripLast })
      b.foxRecord 0x0301 func (u8 1)
    else m
  else if bit m.saf.demW func then
    let a := m.updSaf (fun s => { s with demW := setBit s.demW func false, uvEsc := s.uvEsc && func != 1 })
    let b := a.updSaf (fun s => { s with
      line := a.stopMask s.demW
      tripDem := if (bitsOf 23 s.demW).any a.isTripFunc then s.tripDem else setBit s.tripDem 0 false
      tripLast := if bit s.tripDem 0 then m.now else s.tripLast })
    b.record 0x0301 func (u8 0)
  else m

/-- Neither channel demands a safety reaction of R315, DISCHARGE_STOP among them (R46, R514). -/
def Mach.noDemand (m : Mach) : Bool := m.saf.demW == 0 && m.saf.demF == 0

/-- Walnut pulses its release line (R317): Foxglove drops its override unless a Foxglove cause stands. -/
def Mach.releaseLine (m : Mach) : Mach :=
  if m.saf.demF = 0 then m.updSaf (fun s => { s with override := s.line, openW := false, openF := false }) else m

/-! ## Safety inputs (R314, R329, R331, R333) -/

/-- Reaction of a safety input (R329): its function code, reaction and mode. -/
def Mach.siReaction (m : Mach) (k : Nat) : Nat × Reaction × Mode :=
  match k with
  | 0 => (5, .disconnect, .safeHold)
  | 1 => (5, .disconnect, .safeHold)
  | 2 => (6, .disconnect, .safeHold)
  | 3 => (7, .trip, .lockout)
  | 4 => (8, .trip, .lockout)
  | 5 => (9, .disconnect, .safeHold)
  | 6 => (10, .disconnect, .safeHold)
  | _ => if m.sw3On 5 then (11, .trip, .lockout) else (11, .disconnect, .safeHold)

/-- An input takes OSSD signals (SW3-1 for SI0 and SI1, SW3-2 for the others). -/
def Mach.isOssd (m : Mach) (k : Nat) : Bool := if k < 2 then m.sw3On 1 else m.sw3On 2

/-- The qualification of an input (R331): 600 µs for a contact, 1.2 ms for an OSSD input. -/
def Mach.qualify (m : Mach) (k : Nat) : Nat := if m.isOssd k then 1200000 else 600000

/-- An input demands in a channel (0 Walnut, 1 Foxglove). -/
def Mach.siDemand (m : Mach) (chan k : Nat) : Mach :=
  let (f, re, dest) := m.siReaction k
  m.demand chan f re (some dest) 0

/-- Since when a channel has counted an input low: Foxglove from the low itself, Walnut from its sampler's first sample
(R314). -/
def Mach.lowFor (m : Mach) (chan k : Nat) : Option Nat :=
  match (nth m.saf.si k {}).lowSince with
  | none => none
  | some t => some (if chan = 1 then t else max t m.saf.samplerFrom)

/-- A channel evaluates (R313): Foxglove always, Walnut from step 8 of the ladder. -/
def Mach.chanLive (m : Mach) (chan : Nat) : Bool := chan == 1 || (chan == 0 && m.saf.walnutLive && m.clk.procRunning)

/-- An input has been low beyond its qualification (R331), SI6 with SW3-4 OFF excepted (R333). -/
def Mach.inputDemand (m : Mach) (chan k : Nat) : Mach :=
  if decide (k < 8) && m.chanLive chan && !(k == 6 && !m.sw3On 4)
      && m.elapsed? (m.lowFor chan k) (m.qualify k) then m.siDemand chan k
  else m

/-- SI6 has been low for 60 s (R333). -/
def Mach.ventilation (m : Mach) (chan : Nat) : Mach :=
  if m.chanLive chan && m.elapsed? (m.lowFor chan 6) (60 * second) then m.siDemand chan 6 else m

/-- Walnut's demand of an input that stands at the moment it goes live. -/
def Mach.takeInput (m : Mach) (k : Nat) : Mach :=
  let a := (m.inputDemand 0 k).when (k == 6) (fun x => x.ventilation 0)
  a.when (a.chanLive 0 && (nth a.saf.si k {}).testFault) (fun x => x.siDemand 0 k)

/-- Walnut goes live (R313, R314): a demand whose qualification is complete, or that a test fault stands for, is taken at
once. -/
def Mach.takeInputs (m : Mach) : Mach := m.each (List.range 8) (fun k x => x.takeInput k)

/-! ## Raising faults (R363 to R367) -/

/-- The unacknowledged pending class U sources other than a source. -/
def Mach.unacked (m : Mach) (s : Src) : List Raise :=
  m.flt.pending.filter (fun r => r.cls == .u && !r.acked && r.src != s)

/-- The class bits of a record's CLASS byte (R381). -/
def FClass.code : FClass → Nat
  | .c => 1 | .u => 2 | .f => 3

/-- A source is raised with a class (R364 to R366): a new sequence, the latch or OVERFLOW, escalation to F beside another
unacknowledged U, the records, and LOCKOUT for class F. A source already pending is only counted (R365). The collector
lies in the processor domain: while that is held in reset nothing is raised. -/
def Mach.raiseAs (m : Mach) (s : Src) (k : FClass) (params : List Nat) : Mach :=
  if !m.clk.procRunning then m
  else
    let m1 := m.updFlt (fun f => { f with counts := acount f.counts s.id })
    if m.isPending s then m1
    else
      let others := m.unacked s
      let esc := k == .u && !others.isEmpty
      let first := match others with
        | [] => 0
        | r :: _ => r.src.id
      let r : Raise := { src := s, cls := if esc then .f else k, seq := m.flt.nextSeq, time := m.fabTime
                         params := padTo 8 params ++ u16 (if esc then first else 0), escalated := esc, acked := false }
      let m2 := m1.updFlt (fun f => { f with
        pending := f.pending ++ [r], nextSeq := f.nextSeq + 1
        latch := match f.latch with
          | none => some r
          | some l => some l
        overflow := f.overflow || f.latch.isSome
        raisesU := if r.cls == .u then satInc f.raisesU else f.raisesU
        raisesF := if r.cls == .f then satInc f.raisesF else f.raisesF
        escalations := if esc then satInc f.escalations else f.escalations })
      let cls := r.cls.code + bitIf 4 esc
      let m3 := m2.recordCls 0x0200 s.id (u32 r.seq ++ r.params.take 6) cls
      let m4 := m3.when ((r.params.drop 6).any (fun b => b != 0))
        (fun y => y.recordCls 0x0201 s.id (u32 r.seq ++ r.params.drop 6) cls)
      (m4.trace 0x03 8 (u16 s.id ++ u8 r.cls.code)).when (r.cls == .f) (fun y => y.react .lockout .fault)

/-- A source with a native class U or F is raised (R374). -/
def Mach.raiseFault (m : Mach) (s : Src) (params : List Nat) : Mach :=
  match s.native with
  | some .c => m
  | some k => m.raiseAs s k params
  | none => m

/-- A class C event (R362): counted, logged with suppression, no latch. -/
def Mach.raiseC (m : Mach) (s : Src) (params : List Nat) : Mach :=
  if !m.clk.procRunning then m
  else (m.updFlt (fun f => { f with counts := acount f.counts s.id, raisesC := satInc f.raisesC })).recordC s.id params false

/-- An event of a source is counted (R363, R375). -/
def Mach.countEvt (m : Mach) (s : Src) : Mach :=
  m.updFlt (fun f => { f with
    counts := acount f.counts s.id, raisesC := satInc f.raisesC, lastEvent := aput f.lastEvent s.id m.now })

/-- An event counted joins the source's history (R363): while the source is not pending, N within W raise it as U and empty the
history. -/
def Mach.countWindow (m : Mach) (s : Src) (params : List Nat) : Mach :=
  if m.isPending s then m
  else
    let h := m.now :: (aget m.flt.hist s.id []).filter (fun t => decide (m.now ≤ t + m.countW s))
    if m.countN s ≤ h.length then
      -- the raise of a pending count does not count a second event
      (m.updFlt (fun f => { f with
        hist := adel f.hist s.id
        counts := aput f.counts s.id (aget f.counts s.id 0 - 1) })).raiseAs s .u params
    else m.updFlt (fun f => { f with hist := aput f.hist s.id h })

/-- An event of a counting source (R363): counted, its class C record written, its window judged. -/
def Mach.countSource (m : Mach) (s : Src) (params : List Nat) : Mach :=
  if m.clk.procRunning then ((m.countEvt s).recordC s.id params false).countWindow s params else m

/-- Queue an automatic change of mode for the next fast-epoch boundary (R39, R41). -/
def Mach.automatic (m : Mach) (dest : Mode) (cause : Cause) : Mach :=
  m.updMode (fun x => { x with pendingModes := { dest := dest, cause := cause, effect := m.fastEpoch + 1, fromPartner := false }
      :: x.pendingModes })

/-- No baseline or pass runs any more. -/
def Mach.endPasses (m : Mach) : Mach := (m.abortBin true).updImp Imp.resume

/-- C6 stops its converter and opens the contactors as in SHUTDOWN (R57, R45). -/
def Mach.c6Stop (m : Mach) : Mach :=
  (m.updMode (fun x => { x with c6Stopping := true, c6At := m.now, zeroSince := none })).updConv (fun c => { c with
    target := 0, cause := .stop, softStop := true, ramping := true, stopAt := m.now })

/-- C6 has failed (R57, R44, R339): its baseline ends, a precharge is aborted as in R43 and R338, otherwise the current is
brought to zero; with the contactors open the step reads failed. -/
def Mach.c6Fail (m : Mach) : Mach :=
  let a := m.endPasses.updImp (fun i => { i with blFailed := true })
  if m.conv.loop == .precharge then
    ((((a.phasesIdle).openCoil 0).openCoil 2).updConv (fun c => { c with target := 0, startAt := none, stage := .none })).updMode
      (fun x => { x with c6Stopping := true, c6At := m.now, zeroSince := none, abortedPrecharge := true, opening := 1 })
  else a.c6Stop

/-- A chapter orders a shutdown (R39, R44, R339): SHUTDOWN at the next boundary; in commissioning step C6 the step fails. -/
def Mach.orderShutdown (m : Mach) (cause : Cause) : Mach :=
  if m.mode.mode == .commission then (if m.mode.c6Running && !m.mode.c6Stopping then m.c6Fail else m)
  else m.automatic .shutdown cause

/-! ## What wraps every meaning -/

/-- Phases whose state a command changed: a PHASE trace record (R507) and, in a pair, a PHASE_STATE frame (R208) each;
the time from which a phase is off (R191). -/
def Mach.notePhase (old : Mach) (k : Nat) (m : Mach) : Mach :=
  let s := m.phaseState k
  let s0 := old.phaseState k
  if s = s0 then m
  else
    let off := fun x => decide (x < 2) || x == 3
    let a := m.updPwm (fun p => { p with phases := updNth p.phases k (fun q =>
      { q with offAt := if off s && !off s0 then m.now else q.offAt }) })
    let b := a.trace 0x04 1 (u8 k ++ u8 s ++ u16 m.pair.ogen)
    b.when (m.paired && m.clk.procRunning) (fun x => x.emit (.pairPhase x.pairHead k s (nth m.pwm.phases k {}).cause))

/-- What follows every command's own effect: the changes of phase state and the injector's pause. -/
def Mach.settle (old m : Mach) : Mach := (m.each (List.range 12) (fun k x => old.notePhase k x)).injPause

/-- A command on the pins or the outside, or one that finds nothing to do without power: it acts whether or not the
processor domain runs. The emitted frames of the command before are dropped first (log entry 8). -/
def onFox (f : Mach → Mach) (s : State) : Host.Outcome State Fault Refusal :=
  .next { s with m := s.m.settle (f { s.m with out := [] }) }

/-- A command on the Foxglove domain or the isolated section: without power (R475) it changes nothing. -/
def onPowered (f : Mach → Mach) (s : State) : Host.Outcome State Fault Refusal :=
  onFox (fun m => if m.clk.powered then f m else m) s

/-- A command on the processor domain: while that domain is held in reset (R14, R467) it changes nothing. -/
def onProc (f : Mach → Mach) (s : State) : Host.Outcome State Fault Refusal :=
  onFox (fun m => if m.clk.procRunning then f m else m) s

end Sys2Proof.Machine
end

