-- ==== Sys2Proof/Machine/ArchCmd.lean ====
section
/-! DEFINITION. Meanings of the commands of chapter 1, Module Architecture (R18 to R33). -/

namespace Sys2Proof.Machine

/-- The greatest blocking of a class in ns (R24). -/
def classBound : Nat → Nat
  | 1 => 400 | 2 => 1000 | 3 => 2500 | 4 => 10000 | 5 => 50000 | _ => 0

/-- The earliest grant that a class's regulator allows: at most 2 grants in any 1 µs for classes 1 to 4 (R22, R24). -/
def earliestGrant (cls : Nat) (grants : List Nat) : Nat :=
  if cls = 5 then 0
  else match grants with
    | _ :: g2 :: _ => g2 + 1000
    | _ => 0

/-- Length of a transaction in ns, at most 96 (R21): its beats of 32 bytes, never more than 16, and 4 cycles, of 4.8 ns each. -/
def busLength (beats : Nat) : Nat := (48 * (min beats 16 + 4) + 9) / 10

/-- A request of a class is granted (R21 to R25). The regulator holds it until the budget allows it; blocking counts from
then (log entry 16). A granted transaction is never pre-empted, so the next grant waits for its end; what a transfer needs
beyond 16 beats stays with its master for the next request. -/
def Mach.busTransaction (m : Mach) (cls master tReq tGrant beats : Nat) : Mach :=
  if cls = 0 || decide (5 < cls) then m
  else
    let g := aget m.arch.grants cls []
    let start := max tReq (earliestGrant cls g)
    let held := decide (tReq < start)
    let grant := max (max tGrant start) m.arch.busyTo
    let block := grant - start
    let beyond := decide (classBound cls < block)
    let need := aget m.arch.left master 0 + beats
    let a := m.updArch (fun r => { r with
      grants := if cls = 5 then r.grants else aput r.grants cls (grant :: g.take 1)
      busyTo := grant + busLength need
      left := if need ≤ 16 then adel r.left master else aput r.left master (need - 16)
      holds := if held then acount r.holds cls else r.holds
      masterHolds := if held then acount r.masterHolds master else r.masterHolds
      worst := aupd r.worst cls 0 (fun w => max w block)
      boundClass := if beyond then insNat r.boundClass cls else r.boundClass })
    let b := (a.countEvent (0x0100 + cls) 1).when held (fun x => x.countEvent (0x0200 + cls) 1)
    b.when beyond (fun x => x.raiseFault .busBound [])

def execBusTransaction (cls master tReq tGrant beats : Nat) (s : State) : Host.Outcome State Fault Refusal :=
  onProc (fun m => m.busTransaction cls master tReq tGrant beats) s

/-- Partition size, 0x2004.00: ceil(G / 8). -/
def Mach.partSize (m : Mach) : Nat := (m.nGroups + 7) / 8

/-- The partition of a group (R26). -/
def Mach.partOf (m : Mach) (g : Nat) : Nat := if m.partSize = 0 then 0 else (g - 1) / m.partSize

/-- Groups of partition p; the last takes the remainder. -/
def Mach.partGroups (m : Mach) (p : Nat) : Nat := min m.partSize (m.nGroups - p * m.partSize)

/-- Groups that a core hosts. -/
def Mach.hostedGroups (m : Mach) (core : Nat) : Nat :=
  (List.range 8).foldl (fun a p => if nth m.arch.host p 8 = core then a + m.partGroups p else a) 0

/-- The active core, other than those lost, that hosts the fewest groups; the lowest index on a tie (R28). -/
def Mach.leastCore (m : Mach) : Option Nat :=
  (List.range 8).foldl (fun a c =>
    if m.arch.lost.contains c then a
    else match a with
      | none => some c
      | some b => if m.hostedGroups c < m.hostedGroups b then some c else some b) none

/-- Move partition p to the active core that hosts the fewest groups (R28 step 1); its step restarts there (R31). With no
active core left it stays named on the lost one, and the dispatch host likewise: the spec names no other (log entry 148). -/
def Mach.movePartition (m : Mach) (p : Nat) : Mach :=
  match m.leastCore with
  | none => m
  | some c => m.updArch (fun a => { a with host := updNth a.host p (fun _ => c), restarted := insNat a.restarted p })

/-- The highest-index active core (R28 step 2). -/
def Mach.highestCore (m : Mach) : Option Nat := ((List.range 8).filter (fun c => !m.arch.lost.contains c)).getLast?

/-- An Almond core is lost (R27 to R29, R31): held in reset, its partitions and the dispatch host move, the placement
generation rises, ALMOND_CORE_LOST is raised with the core index; with no more than one core left the running modes are
left for CONNECTED and refused, and every bleed mask is 0 (R170). -/
def Mach.coreLost (m : Mach) (core : Nat) : Mach :=
  if decide (8 ≤ core) || m.arch.lost.contains core then m
  else
    let a := m.updArch (fun r => { r with lost := insNat r.lost core })
    let b := a.each ((List.range 8).filter (fun p => nth m.arch.host p 8 == core)) (fun p x => x.movePartition p)
    let c := b.updArch (fun r => { r with
      dispatchHost := if r.dispatchHost = core then b.highestCore.getD r.dispatchHost else r.dispatchHost
      gen := r.gen + 1
      rateBlocked := r.rateBlocked || b.modelRate == 0 })
    let z := c.updBal (fun x => { x with zeroDue := x.zeroDue || b.modelRate == 0 })
    let d := (z.raiseFault .almondCoreLost (u8 core)).noteDegraded
    d.when (d.modelRate == 0 && d.inMode [.dispatch, .busForm, .maintain]) (fun x => x.automatic .connected .fault)

def execAlmondCoreLost (core : Nat) (s : State) : Host.Outcome State Fault Refusal :=
  onProc (fun m => m.coreLost core) s

/-- A SECDED error (R18): corrected, class C; uncorrected, class U against the bus master that read shared SRAM or against the
core of a tightly coupled memory. Masters and cores 0 to 7 are E0 to E7, and a core that such a fault names is lost (R27).
Parameter byte 0 carries the number, cut to a byte (log entry 148). -/
def Mach.eccError (m : Mach) (tcm corrected : Bool) (who : Nat) : Mach :=
  if corrected then (m.countEvent 0x0600 1).raiseC .eccCorrected []
  else (m.raiseFault (if tcm then .tcmUncorrected else .sramUncorrected) (u8 who)).coreLost who

def execMemoryEccError (tcm corrected : Bool) (who : Nat) (s : State) : Host.Outcome State Fault Refusal :=
  onProc (fun m => m.eccError tcm corrected who) s

/-- A tagged result at the merge point (R30, R31): dropped and counted when its generation or epoch is old, else accepted. -/
def Mach.mergeResult (m : Mach) (part gen epoch : Nat) (value : Int) : Mach :=
  let old := match aget? m.arch.accepted part with
    | none => false
    | some r => decide (epoch < r.epoch)
  if decide (gen < m.arch.gen) || old then m.updArch (fun a => { a with stale := satInc a.stale })
  else m.updArch (fun a => { a with
    accepted := aput a.accepted part { gen := gen, epoch := epoch, value := value }
    restarted := delNat a.restarted part })

def execMergeResult (part gen epoch : Nat) (value : Int) (s : State) : Host.Outcome State Fault Refusal :=
  onProc (fun m => m.mergeResult part gen epoch value) s

end Sys2Proof.Machine
end

