-- ==== Sys2Proof/Machine/Reals.lean ====
section
/-! DEFINITION. The real functions that the rules name (R121, R129, R137 to R140, R144, R146, R161): exponential, natural
logarithm, cosine and square root of exact rationals, as fixed-point series. The spec gives the functions and no arithmetic for
them; what is computed here lies within 10^-15 of the function's value (log entry 153). -/

namespace Sys2Proof.Machine

/-- The unit of the fixed-point numbers below. -/
def fxOne : Int := 1000000000000000000

/-- ln 2 in that unit. -/
def fxLn2 : Int := 693147180559945309

/-- 2π in that unit. -/
def fxTwoPi : Int := 6283185307179586477

/-- A rational in that unit, cut. -/
def toFx (x : Rat) : Int := (x * fxOne).floor

/-- A fixed-point number as a rational. -/
def ofFx (x : Int) : Rat := (x : Rat) / fxOne

/-- Sum of n more terms of the exponential series at r, from term number k. -/
def expTerms (r : Int) : Nat → Nat → Int → Int
  | 0, _, _ => 0
  | n + 1, k, term => term + expTerms r n (k + 1) (term * r / (fxOne * (k + 1)))

/-- exp(x): by 2^k and the series of the rest. Below −100 it is 0 and above 100 it is exp(100). -/
def expQ (x : Rat) : Rat :=
  if x < -100 then 0
  else
    let y := toFx (min x 100)
    let k := (2 * y + fxLn2) / (2 * fxLn2)
    ofFx (expTerms (y - k * fxLn2) 22 0 fxOne) * (2 : Rat) ^ k

/-- Sum of n more terms of z + z³/3 + z⁵/5 + …, from the power z^(2k+1). -/
def atanhTerms (zz : Int) : Nat → Nat → Int → Int
  | 0, _, _ => 0
  | n + 1, k, power => power / (2 * k + 1) + atanhTerms zz n (k + 1) (power * zz / fxOne)

/-- The exponent e with 2^e ≤ x < 2^(e+1), for x above 0. -/
def expOf (x : Rat) : Int :=
  let e : Int := (Nat.log2 x.num.natAbs : Int) - (Nat.log2 x.den : Int)
  if (2 : Rat) ^ e ≤ x then e else e - 1

/-- ln(x): the exponent of 2 and the series of the rest. Of a number not above 0 no value is stated. -/
def lnQ (x : Rat) : Rat :=
  if x ≤ 0 then Config.lnOpen x
  else
    let e := expOf x
    let y := x * (2 : Rat) ^ (-e)
    let z := toFx ((y - 1) / (y + 1))
    ofFx (2 * atanhTerms (z * z / fxOne) 20 0 z + e * fxLn2)

/-- Sum of n more terms of the cosine series for a squared angle, from term number k. -/
def cosTerms (tt : Int) : Nat → Nat → Int → Int
  | 0, _, _ => 0
  | n + 1, k, term => term + cosTerms tt n (k + 1) (-(term * tt / (fxOne * ((2 * k + 1) * (2 * k + 2)))))

/-- The cosine of an angle in turns, in units of 10^-18. -/
def cosFx (x : Rat) : Int :=
  let t := toFx (x - (x + 1 / 2).floor) * fxTwoPi / fxOne
  cosTerms (t * t / fxOne) 20 0 fxOne

/-- The cosine of an angle in turns. -/
def cosTurn (x : Rat) : Rat := ofFx (cosFx x)

/-- The square root of a number, 0 for one below 0. -/
def sqrtQ (x : Rat) : Rat :=
  if x ≤ 0 then 0 else (Nat.sqrt (x * (10 ^ 30 : Nat)).floor.toNat : Rat) / (10 ^ 15 : Nat)

/-- A number to the nearest integer. -/
def roundQ (x : Rat) : Int := (x + 1 / 2).floor

end Sys2Proof.Machine
end

