-- ==== Sys2Proof/Machine/PowerStage.lean ====
section
/-! DEFINITION. Meanings of the commands of chapter 8, Power Stage Interface and PWM (R175 to R201). -/

namespace Sys2Proof.Machine

/-- Phase k of the power stage. -/
def Mach.phase (m : Mach) (k : Nat) : Phase := nth m.pwm.phases k {}

/-- Change phase k. -/
def Mach.updPhase (m : Mach) (k : Nat) (f : Phase → Phase) : Mach :=
  m.updPwm (fun p => { p with phases := updNth p.phases k f })

/-! ## Duty commands (R178, R181, R297) -/

/-- A duty command reaches PQ (R181): at least 1.0 µs before the peak ahead of the next valley it takes effect at that
peak, later at the peak after it; one of an old ownership generation is discarded. -/
def Mach.dutyCommand (m : Mach) (k tag ogen : Nat) (duty : Rat) (early : Bool) : Mach :=
  if ogen < m.pair.ogen || decide (m.nPhases ≤ k) then m
  else m.updPhase k (fun p =>
    if early then { p with waiting := some (clampQ 0 1 duty), later := none, tag := tag }
    else { p with later := some (clampQ 0 1 duty), tag := tag })

def execDutyCommand (k tag ogen : Nat) (duty : Rat) (early : Bool) (s : State) : Host.Outcome State Fault Refusal :=
  onProc (fun m => m.dutyCommand k tag ogen duty early) s

/-- A phase in RUN has had no new command for the longer of 4 carrier periods and 40 µs: it goes to IDLE and
PWM_COMMAND_STALE is raised. -/
def Mach.commandStale (m : Mach) (k : Nat) : Mach :=
  if m.phaseState k = 2 then
    (m.updPhase k (fun p => { p with commanded := false, waiting := none, later := none })).raiseFault .pwmCommandStale []
  else m

def execPwmCommandStale (k : Nat) (s : State) : Host.Outcome State Fault Refusal :=
  onProc (fun m => m.commandStale k) s

/-! ## The carrier's valley (R181, R191, R197) -/

/-- Full-scale current of a phase in mA (0x2605, 0.1 A). -/
def Mach.fullScale (m : Mach) (k : Nat) : Int := 100 * (m.par 0x2605 (k + 1) : Int)

/-- Phase current in mA of a density in 1e-6, with the phase's offset applied (R191). -/
def Mach.phaseCurrent (m : Mach) (k : Nat) (density : Nat) : Int :=
  m.fullScale k * (2 * ((density : Int) - (m.phase k).offset) - 1000000) / 1000000

/-- The density in 1e-6 lies outside 0.02 to 0.98 (R192). -/
def densityBad (density : Nat) : Bool := decide (density < 20000) || decide (980000 < density)

/-- The bitstream of a phase in IDLE, RUN or DISABLED is faulted (R192): its currents are invalid and its pairs held off. -/
def Mach.streamFault (m : Mach) (k : Nat) : Mach :=
  let st := m.phaseState k
  if st = 1 || st = 2 || st = 5 then
    let a := m.updPhase k (fun p => { p with fault := true, heldOff := true, badNow := true, goodRun := 0, avg := none })
    a.when (!(m.phase k).fault) (fun x => x.updPwm (fun p => { p with nStream := satInc p.nStream }))
  else m

/-- What a valley does to a phase: a command in time is in force since the peak before it, a carrier period without a condition
of R192 ends the fault, and its average current is delivered. -/
def Phase.atValley (p : Phase) (now : Nat) (avg : Int) : Phase :=
  { p with
    duty := p.waiting.getD p.duty, waiting := p.later, later := none, avg := if p.badNow then none else some avg
    goodRun := if p.badNow then 0 else p.goodRun + 1, validAt := if p.fault && !p.badNow then now else p.validAt
    fault := p.fault && p.badNow, badNow := false }

/-- A valley of phase k with the density in 1e-6 of the period that ends (R191, R192); SYNC_OUT gives its pulse in mode
PER_PERIOD. -/
def Mach.valley (m : Mach) (k density : Nat) : Mach :=
  if m.nPhases ≤ k then m
  else
    let avg := m.phaseCurrent k density
    let a := (m.when (densityBad density) (fun x => x.streamFault k)).updPhase k (fun p => p.atValley m.now avg)
    if k = 0 && nth m.pwm.inForce 9 0 == 1 then
      if nth m.pwm.inForce 5 1 ≤ m.pwm.valleys + 1 then
        (a.updPwm (fun p => { p with valleys := 0, syncOut := p.syncOut + 1 })).emit .syncOut
      else a.updPwm (fun p => { p with valleys := p.valleys + 1 })
    else a

def execCarrierValley (k density : Nat) (s : State) : Host.Outcome State Fault Refusal :=
  onProc (fun m => m.valley k density) s

/-- PQ drives both pairs of a phase on at a fabric time: Foxglove forces them off for the rest of the half-period (R179). -/
def Mach.interlockBlock (m : Mach) (k t : Nat) : Mach :=
  let a := (m.updPhase k (fun p => { p with blocked := some t })).updPwm (fun p => { p with
    interlock := true, nInter := satInc p.nInter })
  a.countSource .pwmInterlock []

def execInterlockBlock (k t : Nat) (s : State) : Host.Outcome State Fault Refusal :=
  onPowered (fun m => m.interlockBlock k t) s

/-! ## Ownership (R185) -/

/-- Foxglove accepts the release of a phase: its pairs are gated off, the line follows. -/
def Phase.release (p : Phase) : Phase :=
  if p.own then { p with gate := false, releasing := true, acquiring := false, acqHeld := false, commanded := false
                         waiting := none, later := none }
  else { p with acqHeld := false }

/-- Foxglove accepts the acquisition of a phase: its line is asserted, the pairs held off. A request that comes while the own
release still runs is held. -/
def Phase.acquire (p : Phase) : Phase :=
  if p.own then (if p.releasing then { p with acqHeld := true } else p)
  else { p with own := true, acquiring := true, gate := false, acqHeld := false }

/-- Accept the release of every phase of a mask. -/
def Mach.releaseMask (m : Mach) (mask : Nat) : Mach :=
  m.each (bitsOf 12 mask) (fun k x => x.updPhase k Phase.release)

/-- Accept the acquisition of every configured phase of a mask; none while PAIR_ROLE_CONFLICT stands (R291). -/
def Mach.acquireMask (m : Mach) (mask : Nat) : Mach :=
  if m.pair.roleConflict then m else m.each ((bitsOf 12 mask).filter (fun k => decide (k < m.nPhases))) (fun k x => x.updPhase k Phase.acquire)

def execOwnershipRelease (k : Nat) (s : State) : Host.Outcome State Fault Refusal :=
  onProc (fun m => m.updPhase k Phase.release) s

/-- 200 ns to 250 ns after the release the line is deasserted. -/
def Mach.lineOff (m : Mach) (k : Nat) : Mach :=
  m.updPhase k (fun p => if p.releasing then { p with own := false, releasing := false } else p)

def execOwnLineDeassert (k : Nat) (s : State) : Host.Outcome State Fault Refusal :=
  onFox (fun m => m.lineOff k) s

/-- PQ requests an acquisition; one that comes within 2 µs of this module's own release is held by Foxglove and accepted
2 µs after it, at the latest at the next fast-epoch boundary of the model. -/
def Mach.acquireReq (m : Mach) (k : Nat) (early : Bool) : Mach :=
  if m.nPhases ≤ k || m.pair.roleConflict then m
  else if early && !(m.phase k).own then m.updPhase k (fun p => { p with acqHeld := true })
  else m.updPhase k Phase.acquire

def execOwnershipAcquire (k : Nat) (early : Bool) (s : State) : Host.Outcome State Fault Refusal :=
  onProc (fun m => m.acquireReq k early) s

/-- The loops command the phases now: a loop runs past its start delay, or a precharge stage drives them (R210, R216). -/
def Mach.phasesRun (m : Mach) : Bool :=
  match m.conv.loop with
  | .none => false
  | .precharge => (m.conv.stage == .p1 || m.conv.stage == .p2) && !m.conv.deadBus
  | _ => m.conv.startAt.isNone && !m.conv.restart

/-- 1.0 µs after the acquisition the gate is released; the phase enters RUN at its first pulse where the loops command the
phases, else IDLE (R185, R302). -/
def Mach.gateRelease (m : Mach) (k : Nat) : Mach :=
  m.updPhase k (fun p => if p.acquiring then { p with acquiring := false, gate := true, commanded := m.phasesRun } else p)

/-! ## Fast trip (R186, R188) -/

/-- FAST_TRIP is reported: counted, and the bin that runs is discarded (R125, R188). -/
def Mach.reportTrip (m : Mach) : Mach :=
  ((m.updPwm (fun p => { p with nTrips := satInc p.nTrips, tripPending := false })).discardBin false).countSource .fastTrip []

/-- The latch is set (R188, R218): phases are TRIPPED, the loops keep r_cmd and wait for a restart. While the processor domain
is held Foxglove keeps the setting in its event list, whose record the next BOOT writes with its time (R380). -/
def Mach.setLatch (m : Mach) (mask : Nat) : Mach :=
  let a := m.updPwm (fun p => { p with latch := true, latchAt := m.now, capture := mask })
  if m.clk.procRunning then
    a.reportTrip.updConv (fun c => { c with
      restart := c.loop != .none, rearmOrdered := false, startAt := none })
  else (a.foxRecord 0x0202 Src.fastTrip.id (u16 0)).updPwm (fun p => { p with tripPending := true })

/-- At BOOT a setting of the latch whose record stands in Foxglove's event list is counted and reported (R188). -/
def Mach.bootTrip (m : Mach) : Mach :=
  ((m.updPwm (fun p => { p with nTrips := satInc p.nTrips, tripPending := false })).countEvt .fastTrip).countWindow .fastTrip []

/-- The FT inputs change to a mask: the level of any of them sets the latch; without supply there is no latch to set, and one
that stays asserted sets it at power-on reset release (R188). -/
def Mach.fastTrip (m : Mach) (mask : Nat) : Mach :=
  let now := mask % 4096
  let a := m.updPwm (fun p => { p with ft := now, ftOff := if p.ft != 0 && now == 0 then m.now else p.ftOff })
  if now != 0 && !m.pwm.latch && m.clk.powered then a.setLatch now else a

def execFastTrip (mask : Nat) (s : State) : Host.Outcome State Fault Refusal :=
  onFox (fun m => m.fastTrip mask) s

/-- Rearms of the preceding 10 s. -/
def Mach.recentRearms (m : Mach) : List Nat := m.pwm.rearms.filter (fun t => decide (m.now < t + 10000000000))

/-- The latch is released: the phases return under soft start, in PRECHARGE to what the stage requires (R218). -/
def Mach.rearm (m : Mach) : Mach :=
  let a := m.updPwm (fun p => { p with
    latch := false, refused := false, clearPass := false, rearms := m.now :: m.recentRearms, nRearms := satInc p.nRearms })
  let b := a.updConv (fun c => { c with
    restart := false, rearmOrdered := false, nRestart := satInc c.nRestart, keepCmd := true
    startAt := if c.loop == .precharge then none else some (m.now + 1000000 * m.par 0x2705 1) })
  -- a phase that enters RUN again starts with a cleared integrator (R206)
  if m.conv.loop == .precharge then b.updPwm (fun p => { p with phases := p.phases.map (fun x => { x with acc := 0 }) })
  else b.phasesIdle

/-- The fourth rearm within 10 s is refused: the latch stays held, FAST_TRIP_LOCKED is raised and SHUTDOWN follows. -/
def Mach.refuseRearm (m : Mach) : Mach :=
  let a := (m.updPwm (fun p => { p with refused := true, clearPass := false })).updConv (fun c => { c with
    rearmOrdered := false })
  (a.raiseFault .fastTripLocked []).orderShutdown .fault

/-- PQ requests a rearm (R188). The operand says that every FT input has been inactive for 50 µs. -/
def Mach.rearmRequest (m : Mach) (quiet : Bool) : Mach :=
  let still := m.pwm.ft == 0 && (quiet || decide (m.pwm.ftOff + 50000 ≤ m.now))
  if !m.pwm.latch || !still || !m.conv.rearmOrdered || (m.pwm.refused && !m.pwm.clearPass) then m
  else if 3 ≤ m.recentRearms.length then m.refuseRearm
  else m.rearm

def execFastTripRearm (quiet : Bool) (s : State) : Host.Outcome State Fault Refusal :=
  onProc (fun m => m.rearmRequest quiet) s

/-! ## Current bitstreams (R191 to R193) -/

def execBitstreamFault (k : Nat) (s : State) : Host.Outcome State Fault Refusal :=
  onProc (fun m => m.streamFault k) s

/-- The bitstream has been valid for 10 carrier periods: the pairs are let go. -/
def Mach.streamValid (m : Mach) (k : Nat) : Mach :=
  m.updPhase k (fun p => if !p.fault && 10 ≤ p.goodRun then { p with heldOff := false } else p)

def execBitstreamValid (k : Nat) (s : State) : Host.Outcome State Fault Refusal :=
  onProc (fun m => m.streamValid k) s

/-- The offset of a phase is zeroed (R191, R221): only while it has been off for 10 ms, held at ±0.2 % of I_fs, which is
1,000e-6 of density. -/
def Mach.offsetZero (m : Mach) (k density : Nat) : Mach :=
  let st := m.phaseState k
  let off := (st = 0 || st = 1 || st = 3) && m.elapsed (m.phase k).offAt 10000000
  let dis := st = 5 && m.mode.mode == .standby && m.elapsed m.conv.standbyAt 10000000
  if off || dis then
    let o : Int := (density : Int) - 500000
    m.updPhase k (fun p => if o.natAbs ≤ 1000 then { p with offset := o, offsetBad := false }
      else { p with offsetBad := true })
  else m

def execOffsetZero (k density : Nat) (s : State) : Host.Outcome State Fault Refusal :=
  onProc (fun m => m.offsetZero k density) s

/-- The cycle-by-cycle limit acts at a fabric time on a phase in RUN whose fast current in mA exceeds the peak limit (R193,
R125); a faulted stream has no valid fast current (R192). -/
def Mach.cbcLimit (m : Mach) (k : Nat) (current : Int) (t : Nat) : Mach :=
  if m.phaseState k = 2 && !(m.phase k).fault && decide (100 * m.par 0x260A 0 < current.natAbs) then
    ((m.updPhase k (fun p => { p with cbc := some t })).updPwm (fun p => { p with
      cbcNow := true, nCbc := satInc p.nCbc })).discardBin true
  else m

def execCycleByCycleLimit (k : Nat) (current : Int) (t : Nat) (s : State) : Host.Outcome State Fault Refusal :=
  onProc (fun m => m.cbcLimit k current t) s

/-! ## Dithering (R199) -/

/-- A symmetric triangle of period 1 between −1 and 1, zero and rising at 0. -/
def triangle (x : Rat) : Rat :=
  let y := x - x.floor
  if y ≤ 1 / 4 then 4 * y else if y ≤ 3 / 4 then 2 - 4 * y else 4 * y - 4

/-- The area under the triangle from 0 to y, y at most a quarter, cut at a height h. -/
def rampArea (h y : Rat) : Rat := if 4 * y ≤ h then 2 * y * y else h * y - h * h / 8

/-- The area under the triangle from 0 to y, y at most a half, cut at a height h. -/
def humpArea (h y : Rat) : Rat := if y ≤ 1 / 4 then rampArea h y else 2 * rampArea h (1 / 4) - rampArea h (1 / 2 - y)

/-- The integral of the triangle from 0 to y within one period, cut at hi above and lo below. -/
def triArea (hi lo y : Rat) : Rat := if y ≤ 1 / 2 then humpArea hi y else humpArea hi (1 / 2) - humpArea lo (y - 1 / 2)

/-- The same from 0 to any y. -/
def triIntegral (hi lo y : Rat) : Rat := (y.floor : Rat) * triArea hi lo 1 + triArea hi lo (y - y.floor)

/-- The carrier frequency f_c in force, in Hz. -/
def Mach.fc (m : Mach) : Rat := (nth m.pwm.inForce 1 20000 : Nat)

/-- The dither depth δ in force, and the dither rate f_d (0.01 %, Hz). -/
def Mach.ditherDepth (m : Mach) : Rat := ((nth m.pwm.inForce 7 0 : Nat) : Rat) / 10000

def Mach.ditherRate (m : Mach) : Rat := (nth m.pwm.inForce 8 400 : Nat)

/-- Dither is in force (R196, R199): source OWN and a depth above 0. -/
def Mach.dithers (m : Mach) : Bool := m.carrierSource == 0 && decide (0 < nth m.pwm.inForce 7 0)

/-- How high and how deep the triangle may go before the modulated frequency passes outside 10 to 200 kHz (R199). -/
def Mach.ditherHigh (m : Mach) : Rat := min 1 (qdiv (200000 - m.fc) (m.fc * m.ditherDepth))

def Mach.ditherLow (m : Mach) : Rat := min 1 (qdiv (m.fc - 10000) (m.fc * m.ditherDepth))

/-- The integral of the dither term in force, in turns of the triangle. Which way the triangle leaves zero is not stated (log
entry 6). -/
def Mach.ditherTurns (m : Mach) (y : Rat) : Rat :=
  if Config.ditherFalls then -triIntegral m.ditherLow m.ditherHigh y else triIntegral m.ditherHigh m.ditherLow y

/-- How long GLIDE takes in s: 1 % of f_c per ms (R198). -/
def Mach.glideSeconds (m : Mach) : Rat := qdiv (absQ (m.pwm.freq - m.fc)) (10 * m.fc)

/-- The frequency some seconds into GLIDE (R198). -/
def Mach.glideHz (m : Mach) (e : Rat) : Rat := slewQ m.pwm.freq m.fc (10 * m.fc * e)

/-- A time in ns as seconds. -/
def secondsOf (t : Nat) : Rat := (t : Rat) / 1000000000

/-- The carrier's turns at a fabric time in ns, with the origin offset o (R194, R196): through GLIDE the frequency moves, and
the phase goes on without a step (R198); under dither they are the integral of the modulated frequency (R199). -/
def Mach.turns (m : Mach) (t : Nat) : Rat :=
  let s := secondsOf t
  if m.pwm.sync == .glide then
    let s0 := secondsOf m.pwm.glideAt
    let d := min (s - s0) m.glideSeconds
    m.pwm.origin + m.pwm.freq * s0 + (m.pwm.freq + m.glideHz d) / 2 * d + m.fc * (s - s0 - d)
  else if m.dithers then
    m.pwm.origin + m.fc * s + qdiv (m.fc * m.ditherDepth) m.ditherRate * m.ditherTurns (m.ditherRate * s)
  else m.pwm.freq * s + m.pwm.origin

/-- The carrier frequency in Hz at a fabric time: tracked, held or gliding, or with source OWN modulated by the dither and clamped
to 10 to 200 kHz (R199). -/
def Mach.carrierHzAt (m : Mach) (t : Nat) : Rat :=
  if m.dithers then
    let x := triangle (m.ditherRate * secondsOf t)
    clampQ 10000 200000 (m.fc * (1 + m.ditherDepth * if Config.ditherFalls then -x else x))
  else if m.pwm.sync == .glide then m.glideHz (secondsOf t - secondsOf m.pwm.glideAt)
  else m.pwm.freq

/-- The carrier frequency in force in Hz (0x2603.01). -/
def Mach.carrierHz (m : Mach) : Rat := m.carrierHzAt m.fabTime

/-- The origin offset with which a frequency that begins at a fabric time goes on from the carrier's phase without a step
(R198). -/
def Mach.originAt (m : Mach) (f : Rat) (t : Nat) : Rat :=
  let o := m.turns t - f * secondsOf t
  o - o.floor

/-! ## Sync input (R197, R198) -/

/-- The expected edge spacing D / f_c in ns. -/
def Mach.edgeSpacing (m : Mach) : Rat := qdiv ((nth m.pwm.inForce 5 1 : Nat) * 1000000000) m.fc

/-- How far the carrier of phase 0 at slot 0 is past its nearest valley at a fabric time, in turns (R196). -/
def Mach.edgeTurns (m : Mach) (t : Nat) : Rat :=
  let x := m.turns t + 1 / 2
  x - x.floor - 1 / 2

/-- The carrier's phase error in ns at an edge (0x2603.02). -/
def Mach.edgeError (m : Mach) (t : Nat) : Int := roundQ (qdiv (1000000000 * m.edgeTurns t) (m.carrierHzAt t))

/-- The time in ns from the previous valid edge; 0 before the first. -/
def Mach.edgeInterval (m : Mach) (t : Nat) : Rat :=
  match m.pwm.lastEdge with
  | none => 0
  | some l => (t : Rat) - l

/-- An interval comes more than 2 % late: an edge is missing. -/
def Mach.edgeMissed (m : Mach) (interval : Rat) : Bool := decide (m.edgeSpacing < 50 * (interval - m.edgeSpacing))

/-- How far an edge lies from where the window expects it, in ns (R197): in FREE and GLIDE from the carrier's valley; else D / f_c
after the previous valid edge, in HOLDOVER after missing edges a whole number of spacings of the held frequency after it (log
entry 71). -/
def Mach.edgeOff (m : Mach) (t : Nat) : Rat :=
  let i := m.edgeInterval t
  if m.pwm.sync == .free || m.pwm.sync == .glide then (m.edgeError t : Rat)
  else if m.pwm.sync == .holdover && m.edgeMissed i then
    let p := qdiv ((nth m.pwm.inForce 5 1 : Nat) * 1000000000) m.pwm.freq
    i - p * (roundQ (qdiv i p) : Int)
  else i - m.edgeSpacing

/-- The validity of an edge (R197): within ±2 % of D / f_c of its expected time. -/
def Mach.edgeValid (m : Mach) (t : Nat) : Bool := decide (50 * absQ (m.edgeOff t) ≤ m.edgeSpacing)

/-- The frequency after a valid edge (R198). In ACQUIRE it lies on the side of the edge frequency that reduces the phase error,
at most 1 % of f_c from it, and moves at most 1 % of f_c per ms; in LOCKED it brings the next edge within ±10 ns of the
valley. -/
def Mach.pulled (m : Mach) (t : Nat) : Rat :=
  let i := m.edgeInterval t
  let d : Rat := (nth m.pwm.inForce 5 1 : Nat)
  let e := m.edgeTurns t
  let edges := qdiv (d * 1000000000) i
  let f := Config.trackFreq m.pwm.freq edges (m.edgeError t)
  match m.pwm.sync with
  | .locked => clampQ (qdiv (1000000000 * (d - e)) (i + 10)) (qdiv (1000000000 * (d - e)) (i - 10)) f
  | .acquire =>
    let step := m.fc * i / 100000000
    let near := clampQ (if e < 0 then edges else edges - m.fc / 100) (if 0 < e then edges else edges + m.fc / 100) f
    clampQ (edges - m.fc / 100) (edges + m.fc / 100) (clampQ (m.pwm.freq - step) (m.pwm.freq + step) near)
  | _ => m.carrierHzAt t

/-- Consecutive valid edges with one more (R198): a missing edge begins the count anew. -/
def Mach.edgesRun (m : Mach) (t : Nat) : Nat :=
  if m.pwm.lastEdge.isNone || m.edgeMissed (m.edgeInterval t) then 1 else m.pwm.edgeRun + 1

/-- What a valid edge does to the sync state (R198): 8 consecutive ones lead to ACQUIRE, 8 with a phase error of at most 10 ns to
LOCKED; whatever frequency follows, the phase goes on from where it is. -/
def Pwm.validEdge (p : Pwm) (run : Nat) (err : Int) (f o : Rat) : Pwm :=
  let lock := if err.natAbs ≤ 10 then p.lockRun + 1 else 0
  match p.sync with
  | .locked => { p with freq := f, origin := o }
  | .acquire => if 8 ≤ lock then { p with freq := f, origin := o, sync := .locked, lockRun := 0 }
    else { p with freq := f, origin := o, lockRun := lock }
  | _ => if 8 ≤ run then { p with sync := .acquire, lockRun := 0, freq := f, origin := o } else p

/-- A rising edge of SYNC_IN at a fabric time in ns. -/
def Mach.syncEdge (m : Mach) (t : Nat) : Mach :=
  if m.carrierSource != 2 then m
  else if !m.edgeValid t then m.updPwm (fun p => { p with nEdges := satInc p.nEdges })
  else
    let f := m.pulled t
    m.updPwm (fun p => { p.validEdge (m.edgesRun t) (m.edgeError t) f (m.originAt f t) with
      lastEdge := some t, phaseErr := m.edgeError t, edgeRun := m.edgesRun t })

def execSyncInEdge (t : Nat) (s : State) : Host.Outcome State Fault Refusal :=
  onProc (fun m => m.syncEdge t) s

/-- HOLDOVER (R198): an edge is missing in ACQUIRE, or 3 × D / f_c of fabric time have run since the last valid edge in
LOCKED. -/
def Mach.syncHoldover (m : Mach) : Mach :=
  let run := match m.pwm.lastEdge with
    | none => true
    | some t => decide ((t : Rat) + 3 * m.edgeSpacing ≤ (m.fabTime : Rat))
  if m.carrierSource == 2 && (m.pwm.sync == .acquire || (m.pwm.sync == .locked && run)) then
    m.updPwm (fun p => { p with sync := .holdover, holdAt := m.fabTime, edgeRun := 0, lockRun := 0 })
  else m

def execSyncHoldover (s : State) : Host.Outcome State Fault Refusal := onProc Mach.syncHoldover s

/-- GLIDE begins once the hold-over time has run (R198). -/
def Mach.syncGlide (m : Mach) : Mach :=
  if m.pwm.sync == .holdover && decide (m.pwm.holdAt + 1000000 * nth m.pwm.inForce 6 0 ≤ m.fabTime) then
    m.updPwm (fun p => { p with sync := .glide, glideAt := m.fabTime, edgeRun := 0 })
  else m

def execSyncGlide (s : State) : Host.Outcome State Fault Refusal := onProc Mach.syncGlide s

/-- GLIDE has reached f_c (R198): the phase goes on as GLIDE has brought it. -/
def Mach.syncGlideEnd (m : Mach) : Mach :=
  if m.pwm.sync == .glide && decide (secondsOf m.pwm.glideAt + m.glideSeconds ≤ secondsOf m.fabTime) then
    m.updPwm (fun p => { p with sync := .free, freq := m.fc, origin := m.originAt m.fc m.fabTime, edgeRun := 0 })
  else m

def execSyncGlideEnd (s : State) : Host.Outcome State Fault Refusal := onProc Mach.syncGlideEnd s

/-- The settings of R195 as stored: N, f_c, source, m, M, D, hold-over, depth, rate, SYNC_OUT. -/
def Mach.carrierSettings (m : Mach) : List Nat :=
  m.par 0x2600 0 :: (List.range 9).map (fun i => m.par 0x2601 i)

/-- Phases taken at the exit into a mode (R184): the home phases, in a pair those the partner does not own; none at exit 4 or
in a mode without a heartbeat there. -/
def Mach.exitPhases (m : Mach) (dest : Mode) : Nat :=
  if dest.isLine || (m.paired && (dest == .safeHold || dest == .lockout)) then 0
  else maskOf ((bitsOf 12 m.homeMask).filter (fun k => !(m.paired && m.pair.hbPresent && bit m.pair.pOwn k)))

/-- The phase count has gone from an old to a new number (R182, R184): phases at or beyond it are released, new home phases below
it acquired where the mode owns phases. -/
def Mach.countPhases (m : Mach) (old new : Nat) : Mach :=
  let a := m.when (decide (new < old)) (fun x => x.releaseMask (maskOf ((List.range 12).filter (fun k => decide (new ≤ k)))))
  a.when (decide (old < new) && m.mode.mode != .boot) (fun x =>
    x.acquireMask (maskOf ((bitsOf 12 (m.exitPhases m.mode.mode)).filter (fun k => decide (old ≤ k)))))

/-- The frequency that settings leave the carrier with (R196, R198): f_c, but with source SYNC_IN kept outside FREE what it has
reached. -/
def Mach.freqUnder (m : Mach) (l : List Nat) : Rat :=
  if nth l 2 0 == 2 && nth m.pwm.inForce 2 0 == 2 && m.pwm.sync != .free then m.carrierHz else (nth l 1 20000 : Nat)

/-- The carrier and phase count written take effect at a fast-epoch boundary (R195). With source SYNC_IN the phase goes on
without a step (R198), GLIDE from the frequency it has reached. -/
def Mach.applySettings (m : Mach) : Mach :=
  if !m.pwm.settingsDue then m
  else
    let l := m.carrierSettings
    let src := nth l 2 0
    let f := m.freqUnder l
    let o := if src == 2 then m.originAt f m.fabTime else 0
    let a := m.updPwm (fun p => { p with
      inForce := l, settingsDue := false
      sync := if src == 1 then .locked else if src == nth p.inForce 2 0 then p.sync else .free
      edgeRun := if src == nth p.inForce 2 0 then p.edgeRun else 0
      freq := f, origin := o, glideAt := m.fabTime
      phaseErr := if src == 2 then p.phaseErr else 0 })
    a.countPhases (nth m.pwm.inForce 0 0) (nth l 0 0)

/-- What a fast-epoch boundary does to the power stage: held acquisitions are accepted, settings take effect, the limit's
flag is of the epoch that ends, SYNC_OUT gives its pulse in mode PER_FAST_EPOCH. -/
def Mach.pwmEpoch (m : Mach) : Mach :=
  let a := m.updPwm (fun p => { p with
    phases := p.phases.map (fun x => if x.acqHeld then x.acquire else x), cbcActive := p.cbcNow, cbcNow := false })
  let b := a.applySettings
  if nth b.pwm.inForce 9 0 == 2 then (b.updPwm (fun p => { p with syncOut := p.syncOut + 1 })).emit .syncOut else b

end Sys2Proof.Machine
end

