-- ==== Sys2Proof/Machine/Converter.lean ====
section
/-! DEFINITION. Meanings of the commands of chapter 9, Converter Control Loops (R202 to R224). Currents are in mA, voltages
in 10 mV, one outer period is 50 µs. -/

namespace Sys2Proof.Machine

/-! ## What the loops use (R203, R205) -/

/-- Topology BUS_HIGH (0x2701.00). -/
def Mach.busHigh (m : Mach) : Bool := m.par 0x2701 0 == 1

/-- The bus-feeding switch is the high-side one (R203); with BUS_HIGH it is the low-side one. -/
def Mach.feedsHigh (m : Mach) : Bool := !m.busHigh

/-- Feed-forward duty d_ff from the latest samples (R203). -/
def Mach.feedForward (m : Mach) : Rat :=
  if m.busHigh then qdiv (m.meas.sStr : Rat) (m.meas.sBus : Rat) else qdiv (m.meas.sBus : Rat) (m.meas.sStr : Rat)

/-- Loop sign s (R203). -/
def Mach.loopSign (m : Mach) : Rat := if m.busHigh then -1 else 1

/-- Weight w (R203). -/
def Mach.weight (m : Mach) : Rat := if m.busHigh then 1 else m.feedForward

/-- I_ph,rated in mA (0x2701.01, 0.1 A). -/
def Mach.ratedPhase (m : Mach) : Rat := (100 * m.par 0x2701 1 : Nat)

/-- A power in W as a string current in mA at the 1 ms mean string voltage (R205). -/
def Mach.powerCurrent (m : Mach) (p : Rat) : Rat := qdiv (100000 * p) (m.meas.vStr : Rat)

/-- This module's own phases in IDLE or RUN. -/
def Mach.ownActive (m : Mach) : List Nat :=
  (List.range 12).filter (fun k => m.phaseState k == 1 || m.phaseState k == 2)

/-- The partner's phases in IDLE or RUN, as last received (R208). -/
def Mach.partnerActive (m : Mach) : List Nat :=
  if m.partnerCounts then (List.range 12).filter (fun k => nth m.conv.pPhases k 0 == 1 || nth m.conv.pPhases k 0 == 2)
  else []

/-- Phases of the string in IDLE or RUN, n_act (R205). -/
def Mach.activePhases (m : Mach) : List Nat := m.ownActive ++ m.partnerActive.filter (fun k => !m.ownActive.contains k)

/-- Share σ in outer period k of the fast epoch (R307, R308). -/
def Mach.shareAt (m : Mach) (k : Nat) : Rat :=
  match m.pair.tb with
  | none => 1
  | some t =>
    let held := m.pwm.latch || m.conv.dipHold
    let d : Rat := if held then 0 else (k : Rat) / 2000
    if t.stage = 1 then max 0 (t.sigma - d) else if t.stage = 0 then 1 else min 1 (t.sigma + d)

/-- The moving phases of a takeback (R307). -/
def Mach.movingPhases (m : Mach) : Nat :=
  match m.pair.tb with
  | none => 0
  | some t => t.moving

/-- n_fix + σ × n_mov of R307 over the phases counted in n_act; n_act where no takeback runs. -/
def Mach.sharedActive (m : Mach) (k : Nat) : Rat :=
  m.conv.active.foldl (fun a p => a + if bit m.movingPhases p then m.shareAt k else 1) 0

/-- Discharge limit hi in mA from the profile, the safety stops and estimation (R205, R320). -/
def Mach.limitHi (m : Mach) : Rat :=
  let prof : Rat := match m.prof with
    | none => 0
    | some p => if m.saf.dischargeStop.isSome then 0 else (1000 * p.iLim : Nat)
  let h := min prof (min (m.est.iDis : Rat) (m.powerCurrent (m.est.pDis : Rat)))
  if m.clk.capped then min h m.clk.capHi else h

/-- Charge limit lo in mA (R205, R321). -/
def Mach.limitLo (m : Mach) : Rat :=
  let prof : Rat := match m.prof with
    | none => 0
    | some p => if m.saf.coldStop then 0 else (1000 * p.iLim : Nat)
  let l := max (-prof) (max (-(m.est.iChg : Rat)) (-(m.powerCurrent (m.est.pChg : Rat))))
  if m.clk.capped then max l m.clk.capLo else l

/-- The frequency of a bin in Hz (R119). -/
def binHz (k : Nat) : Rat := (2 ^ k : Nat) / 20

/-- The excitation term in mA at the middle of outer period k (R121). -/
def Mach.excitation (m : Mach) (k : Nat) : Rat :=
  match m.imp.run with
  | none => 0
  | some r =>
    let t : Rat := ((m.fastEpoch * 1000000 + k * 50000 + 25000 : Nat) : Rat) - (r.start * 10000000 : Nat)
    let theta : Rat := ((m.stringId * 397 % 1024 : Nat) : Rat) / 1024
    let share : Rat := if m.paired && !m.partnerMissing then
      qdiv (m.ownActive.length : Rat) (m.activePhases.length : Rat) else 1
    (r.amp : Rat) * share * cosTurn (binHz r.bin * t / 1000000000 + theta)

/-! ## The target and its slew (R204, R209, R211, R212) -/

/-- Mean string power over the last fast epoch in W, positive towards the bus. -/
def Mach.stringPower (m : Mach) : Rat := (m.meas.iShunt : Rat) * (m.meas.vStr : Rat) / 100000

/-- V_ref of R212 in 10 mV. -/
def Mach.voltageRef (m : Mach) : Rat :=
  m.conv.vSet * (1 - ((m.par 0x2704 1 : Nat) : Rat) / 10000 * qdiv m.stringPower ((1000 * m.par 0x2704 5 : Nat) : Rat))

/-- One period of the voltage loop: the set-point slews at the voltage ramp rate and the PI forms the power (R212). -/
def Mach.voltageLoop (m : Mach) : Mach :=
  let a := m.updConv (fun c => { c with
    vSet := slewQ c.vSet ((10 * m.par 0x2704 0 : Nat) : Rat) (((m.par 0x2704 2 : Nat) : Rat) / 2) })
  let e := (a.voltageRef - (a.meas.vBus : Rat)) / 100
  let i := a.conv.vInteg + ((100 * m.par 0x2704 4 : Nat) : Rat) * e / 20000
  a.updConv (fun c => { c with vInteg := i, target := m.powerCurrent (((10 * m.par 0x2704 3 : Nat) : Rat) * e + i) })

/-- The maintenance current 0x2705.05 in mA. -/
def Mach.maintCurrent (m : Mach) : Rat := ((1000 * m.parS 0x2705 5 2 : Int) : Rat)

/-- The target of the loop mode (R204): the maintenance current as it stands while EQUALISE runs. -/
def Mach.setTarget (m : Mach) : Mach :=
  match m.conv.loop with
  | .current => m.when (m.mode.mode == .maintain && m.mode.task == .equalise && !m.mode.taskDone) (fun x =>
      x.updConv (fun c => { c with target := m.maintCurrent }))
  | .power => m.updConv (fun c => { c with
      target := if m.plant.inRest then 0 else m.powerCurrent ((100 * m.plant.own : Int) : Rat) })
  | .voltage => m.voltageLoop
  | _ => m

/-- r_cmd after one outer period (R209, R211, R218). -/
def Mach.slewCmd (m : Mach) : Rat :=
  let c := m.conv
  if m.pwm.latch || c.startAt.isSome || c.restart then c.rCmd
  else match c.cause with
    | .reference => slewQ c.rCmd c.target ((5 * m.par 0x2705 0 : Nat) : Rat)
    | .stop => if c.softStop && !c.ramping then c.rCmd else slewQ c.rCmd c.target ((5 * m.par 0x2705 4 : Nat) : Rat)
    | .voltage => c.target

/-! ## Reference formation (R205, R206) -/

/-- What one outer period works with: the reference without excitation, the bounds, the capacity and the clamps. -/
def Mach.reference (m : Mach) (k : Nat) : Mach :=
  let n := m.sharedActive k
  let w := m.weight
  let full := n * m.ratedPhase * w
  let cap := if m.conv.unresolved then full / 2 else full
  let hi := m.limitHi
  let iDip := if m.conv.dipEdge then min hi (max m.conv.rCmd (((m.par 0x2706 3 : Nat) : Rat) / 100 * cap)) else m.conv.iDip
  let lo0 := if m.conv.dipHold then max m.limitLo iDip else m.limitLo
  let lo := if hi < lo0 then hi else lo0
  let rCmd := m.slewCmd
  let want := rCmd + m.excitation k
  let bounded := clampQ lo hi want
  let inCap := clampQ (-cap) cap bounded
  let ceiling := match m.conv.ceiling with
    | none => none
    | some c =>
      let c' := c + ((5 * m.par 0x2705 2 : Nat) : Rat)
      if cap < c' then none else some c'
  let soft := match ceiling with
    | none => inCap
    | some c => clampQ (-c) c inCap
  let iRef := if m.clk.capped then clampQ (-m.clk.capRef) m.clk.capRef soft else soft
  (m.updConv (fun c => { c with
    rCmd := rCmd, cause := if c.loop == .voltage && rCmd == c.target then .voltage else c.cause, hi := hi, lo := lo, cap := cap, w := w
    iRef := iRef, iDip := iDip, ceiling := ceiling, limited := bounded != want, capLimited := inCap != bounded
    softStop := c.softStop && !(c.ramping && rCmd == 0) })).when (iRef != want && m.imp.run.isSome)
      (fun x => x.discardBin true)

/-- The output of an outer period (R205, R206, R215): the integrator, the preload of a dip, i_ph_ref. `all` freezes the
integrator entirely; a clamp met freezes it in the direction that presses on. -/
def Mach.outerLoop (m : Mach) (k : Nat) (iMean : Rat) (want : Rat) (all : Bool) : Mach :=
  let c := m.conv
  let e := c.iRef - iMean
  let kp : Rat := ((m.par 0x2703 0 : Nat) : Rat) / 1000
  let ki : Rat := ((m.par 0x2703 1 : Nat) : Rat)
  let raw (i : Rat) := qdiv (c.iRef + kp * e + i) (c.w * m.sharedActive k)
  let held := clampQ (-c.cap) c.cap (clampQ c.lo c.hi want)
  let up := decide (held < want) || decide (m.ratedPhase < raw c.integ)
  let down := decide (want < held) || decide (raw c.integ < -m.ratedPhase)
  let frozen := all || (up && decide (0 < e)) || (down && decide (e < 0))
  let integ := if c.dipEdge then c.iDip - c.iRef - kp * e else if frozen then c.integ else c.integ + ki * e / 20000
  m.updConv (fun x => { x with
    integ := integ, need := c.iRef + kp * e + integ, outerK := k, iPhRef := clampQ (-m.ratedPhase) m.ratedPhase (raw integ), frozen := frozen, dipEdge := false
    actChange := false })

/-- The response acts in these modes, while it is enabled (R213). -/
def Mach.dipEnabled (m : Mach) : Bool :=
  m.inMode [.connected, .dispatch, .busForm, .maintain] && m.parB 0x2706 5

/-- The floor of a dip is no longer in force (R213, R215): r_cmd slews back from i_dip. -/
def Mach.dropFloor (m : Mach) : Mach :=
  m.updConv (fun c => { c with
    dipHold := false, dipOff := none, rCmd := if c.dipEdge then c.rCmd else c.iDip, dipEdge := false
    cause := if m.mode.mode == .shutdown then .stop else .reference })

/-- n_act of this outer period (R208): a change of a phase's state less than 20 µs before its start waits for the next. -/
def Mach.countActive (m : Mach) (recent : Bool) : Mach :=
  let l := if recent then m.conv.active else m.activePhases
  m.updConv (fun c => { c with active := l, nAct := l.length })

/-- One outer period of a running loop. -/
def Mach.outerRun (m : Mach) (k : Nat) (iMean : Int) (recent : Bool) : Mach :=
  let n := (m.when (m.conv.dipHold && !m.dipEnabled) Mach.dropFloor).countActive recent
  let change := m.conv.actChange || n.conv.nAct != m.conv.nAct
  let a := n.setTarget
  let b := a.reference k
  b.outerLoop k iMean (b.conv.rCmd + a.excitation k) (change || m.pwm.latch || m.conv.burst)

/-! ## Precharge (R216, R217) -/

/-- Precharge current I_pre in mA, under the brown-out cap (R473). -/
def Mach.preCurrent (m : Mach) : Rat :=
  let i : Rat := (100 * m.par 0x2707 0 : Nat)
  if m.clk.capped then min i m.clk.capRef else i

/-- The duty a phase runs at: its own, or the partner's as last checkpointed (R182, R298). -/
def Phase.dutyNow (p : Phase) : Rat := if p.own then p.duty else p.shadow

/-- String current per unit of a phase's own current (R203, R219): its own duty for STRING_HIGH, 1 for BUS_HIGH. -/
def Mach.phaseWeight (m : Mach) (p : Phase) : Rat := if m.busHigh then 1 else p.dutyNow

/-- Phase current out of the link in mA: the phase currents, each with its weight (R191, R216, log entry 167). -/
def Mach.linkCurrent (m : Mach) : Rat :=
  (m.pwm.phases.take m.nPhases).foldl (fun a p => a + m.phaseWeight p * match p.avg with
    | none => 0
    | some i => (i : Rat)) 0

/-- One outer period of PRECHARGE: the phase reference of the stage and the link estimate. -/
def Mach.outerPrecharge (m : Mach) (recent : Bool) : Mach :=
  let x := m.countActive recent
  let n : Rat := (x.conv.nAct : Nat)
  let a := x.updConv (fun c => { c with
    w := m.weight, cap := n * m.ratedPhase * m.weight
    hi := m.limitHi, lo := m.limitLo, iRef := 0, frozen := false, limited := false, capLimited := false, actChange := false })
  match m.conv.stage with
  | .p1 => a.updConv (fun c => { c with
      need := -m.preCurrent, iPhRef := qdiv (-m.preCurrent) n
      link := c.link - qdiv (5 * m.linkCurrent) ((m.par 0x2701 3 : Nat) : Rat) })
  | .p2 =>
    let want := (m.meas.sShunt : Rat) * ((m.par 0x2707 1 : Nat) : Rat) * ((m.par 0x2701 3 : Nat) : Rat) / 50000
    a.updConv (fun c => { c with
      need := -(clampQ (-m.preCurrent) m.preCurrent want), iPhRef := qdiv (-(clampQ (-m.preCurrent) m.preCurrent want)) n
      doneSince := if m.meas.sShunt.natAbs ≤ 10 * m.par 0x2707 2 then some (c.doneSince.getD m.now) else none })
  | _ => a

/-- An outer period: number k of its fast epoch, the mean of the shunt samples over it in mA, and whether a phase of the string
changed its state less than 20 µs before it starts (R208). -/
def Mach.outerPeriod (m : Mach) (k : Nat) (iMean : Int) (recent : Bool) : Mach :=
  match m.conv.loop with
  | .none => m
  | .precharge => m.outerPrecharge recent
  | _ => m.outerRun k iMean recent

def execOuterPeriod (k : Nat) (iMean : Int) (recent : Bool) (s : State) : Host.Outcome State Fault Refusal :=
  onProc (fun m => m.outerPeriod k iMean recent) s

/-- K0 recomputes at once, outside its schedule (R302 steps 4 and 7): n_act and i_ph_ref within I_ph,rated; the outer
integrator is frozen for that period. -/
def Mach.recount (m : Mach) : Mach :=
  let a := (m.countActive false).updConv (fun c => { c with actChange := true })
  match m.conv.loop with
  | .none => a
  | .precharge => a.updConv (fun c => { c with iPhRef := qdiv c.need (c.nAct : Nat) })
  | _ => a.updConv (fun c => { c with
      iPhRef := clampQ (-m.ratedPhase) m.ratedPhase (qdiv c.need (c.w * a.sharedActive c.outerK)) })

/-- The gate of a phase that a takeover acquired is released: it runs from its first pulse, and K0 recomputes (R302 step 7). -/
def Mach.gateOpen (m : Mach) (k : Nat) : Mach :=
  (m.gateRelease k).when (bit m.pair.acquired k && (m.phase k).acquiring && m.clk.procRunning) Mach.recount

def execPwmGateRelease (k : Nat) (s : State) : Host.Outcome State Fault Refusal :=
  onFox (fun m => m.gateOpen k) s

/-! ## Phase loops (R207) -/

/-- n_s = ceil(f_c / 100,000 Hz) (R202). -/
def Mach.periodsPerUpdate (m : Mach) : Nat := (nth m.pwm.inForce 1 20000 + 99999) / 100000

/-- Error e of a phase loop in A (R207), with the share of a moving phase (R307). -/
def Mach.phaseError (m : Mach) (k : Nat) (avg : Int) : Rat :=
  ((if bit m.movingPhases k then m.shareAt m.conv.outerK * m.conv.iPhRef else m.conv.iPhRef) - avg) / 1000

/-- d_ff + s × (kp_i × e + acc_k), before the limit to 0 and 1 (R207). -/
def Mach.phaseDuty (m : Mach) (e acc : Rat) : Rat :=
  m.feedForward + m.loopSign * (((m.par 0x2702 0 : Nat) : Rat) / 100000 * e + acc)

/-- A phase loop computes its duty at a valley and writes it to PQ in time for the next peak. -/
def Mach.phaseLoop (m : Mach) (k : Nat) : Mach :=
  if m.phaseState k != 2 then m
  else match (m.phase k).avg with
  | none => m
  | some avg =>
    let p := m.phase k
    let e := m.phaseError k avg
    let ki : Rat := ((m.par 0x2702 1 : Nat) : Rat) / 1000
    let d (acc : Rat) := m.phaseDuty e acc
    let up := decide (1 < d p.acc) && decide (0 < m.loopSign * e)
    let down := decide (d p.acc < 0) && decide (m.loopSign * e < 0)
    let frozen := up || down
    let acc := if frozen then p.acc else p.acc + qdiv (ki * e * (m.periodsPerUpdate : Rat)) m.fc
    let a := (m.updPhase k (fun q => { q with acc := acc })).updConv (fun c => { c with frozen := c.frozen || frozen })
    (a.dutyCommand k (p.tag + 1) m.pair.ogen (clampQ 0 1 (d acc)) true).countEvent 0x0602 1

def execPhaseLoopUpdate (k : Nat) (s : State) : Host.Outcome State Fault Refusal :=
  onProc (fun m => m.phaseLoop k) s

/-- A PHASE_STATE frame of the partner: phase, state, cause and OGEN (R208, R296, R297). A newer OGEN discards the bin that runs
(R125). -/
def Mach.partnerPhase (m : Mach) (k state ogen : Nat) : Mach :=
  m.pairFrame ogen (fun x => x.updConv (fun c => { c with pPhases := updNth c.pPhases k (fun _ => state) }))

def execPhaseState (k state ogen : Nat) (s : State) : Host.Outcome State Fault Refusal :=
  onProc (fun m => if m.paired then m.partnerPhase k state ogen else m) s

/-! ## Soft start and soft stop (R210, R211) -/

/-- The phases enter RUN under soft start: duty d_ff, cleared integrators, r_cmd from 0 unless a restart keeps it, the
ceiling from 0. -/
def Mach.softStart (m : Mach) : Mach :=
  match m.conv.startAt with
  | none => m
  | some t =>
    if m.now < t || m.pwm.latch || m.conv.loop == .none || m.conv.loop == .precharge then m
    else (m.updConv (fun c => { c with
        startAt := none, integ := 0, rCmd := if c.keepCmd then c.rCmd else 0, keepCmd := false, ceiling := some 0 })).updPwm
      (fun p => { p with phases := p.phases.map (fun x =>
        if x.own && !x.disabled then { x with commanded := true, duty := m.feedForward, waiting := none, later := none, acc := 0 }
        else x) })

def execSoftStart (s : State) : Host.Outcome State Fault Refusal := onProc Mach.softStart s

/-- The stop delay has run: r_cmd moves to 0 at the stop ramp. -/
def Mach.softStopRamp (m : Mach) : Mach :=
  if m.mode.mode == .shutdown && m.conv.softStop && m.elapsed m.conv.stopAt (1000000 * m.par 0x2705 3) then
    m.updConv (fun c => { c with ramping := true })
  else m

def execSoftStopRamp (s : State) : Host.Outcome State Fault Refusal := onProc Mach.softStopRamp s

/-! ## All-phase response (R213 to R215) -/

/-- What the comparator of BUS_DIP sees (R109, R213), with the thresholds and the reference K0 last wrote: a fall of the bus
voltage over 1 µs faster than the slope threshold, or a sample further below the reference than the deviation threshold, both in
10 mV. -/
def Mach.dipSeen (m : Mach) (v : Nat) (fall : Int) : Bool :=
  decide ((10 * m.conv.dipTh.1 : Nat) < fall)
    || decide ((v : Rat) < m.conv.dipRef * (1 - ((m.conv.dipTh.2 : Nat) : Rat) / 10000))

/-- A time lies at least so many ns before a fabric time, or never was. -/
def since? (o : Option Nat) (ns t : Nat) : Bool :=
  match o with
  | none => true
  | some u => decide (u + ns ≤ t)

/-- BUS_DIP rises at a fabric time: the burst on every phase in RUN, unless the width is 0, a burst came within 100 µs or the line
fell within 10 µs; the floor from the next outer period; the bin that runs is discarded. -/
def Mach.dipRise (m : Mach) (t : Nat) : Mach :=
  if !m.dipEnabled then m
  else
    let burst := m.par 0x2706 2 != 0 && since? m.conv.burstAt 100000 t && since? m.conv.dipFell 10000 t
    let a := m.updConv (fun c => { c with
      burst := c.burst || burst, burstAt := if burst then some t else c.burstAt, dipHold := true, dipEdge := true
      dipOff := none, nDip := satInc c.nDip })
    (a.when burst (fun x => x.each ((List.range 12).filter (fun k => m.phaseState k == 2)) (fun k y =>
      y.updPhase k (fun p => { p with burst := some t })))).discardBin false

/-- The comparator of BUS_DIP at a fabric time: the bus voltage sample and its fall over the last 1 µs, in 10 mV. -/
def Mach.busDip (m : Mach) (v : Nat) (fall : Int) (t : Nat) : Mach :=
  let was := m.meas.dipLine
  let now := m.dipSeen v fall
  let a := m.updMeas (fun x => { x with dipLine := now })
  if !m.clk.procRunning then a
  else if now && !was then a.dipRise t
  else if !now && was then a.updConv (fun c => { c with dipFell := some t, dipOff := if c.dipHold then some t else none })
  else a

def execBusDip (v : Nat) (fall : Int) (t : Nat) (s : State) : Host.Outcome State Fault Refusal :=
  onPowered (fun m => m.busDip v fall t) s

/-- The dip pulse has ended: each phase resumes at its next carrier pulse. -/
def execDipPulseEnd (s : State) : Host.Outcome State Fault Refusal :=
  onProc (fun m => m.updConv (fun c => { c with burst := false })) s

/-- The floor is released a dip hold time after BUS_DIP fell: r_cmd slews back from i_dip. -/
def Mach.dipRelease (m : Mach) : Mach :=
  if m.conv.dipHold && !m.meas.dipLine && since? m.conv.dipOff (100000 * m.par 0x2706 4) m.fabTime then m.dropFloor else m

def execDipFloorRelease (s : State) : Host.Outcome State Fault Refusal := onProc Mach.dipRelease s

/-! ## Precharge stages (R216, R217, R337) -/

/-- The owned phases that are not disabled are commanded: they enter RUN from IDLE, where r_cmd starts at 0 (R209). -/
def Mach.phasesOn (m : Mach) : Mach :=
  (m.updConv (fun c => { c with rCmd := 0 })).updPwm (fun p => { p with phases := p.phases.map (fun x =>
    if x.own && !x.disabled then { x with commanded := true, duty := m.feedForward, waiting := none, later := none, acc := 0 }
    else x) })

/-- P1 begins once K_NEG is closed; with a dead bus it is skipped and K_PRE is energised at once. -/
def Mach.beginP1 (m : Mach) : Mach :=
  if m.conv.deadBus then
    (m.updConv (fun c => { c with stage := .kPre, stepAt := m.now })).setCoil 2 true
  else (m.updConv (fun c => { c with
      stage := .p1, stepAt := m.now, link := if m.busHigh then 0 else (m.meas.sBus : Rat) })).phasesOn

/-- P2 begins once K_PRE is closed; with a dead bus the phases stay in IDLE. -/
def Mach.beginP2 (m : Mach) : Mach :=
  (m.updConv (fun c => { c with stage := .p2, stepAt := m.now, doneSince := none })).when (!m.conv.deadBus) Mach.phasesOn

/-- A precharge stage is complete: P1 at 0.95 V_str, P2 once |I_s| has been at most the done current for 5 ms; the phases
return to IDLE and the next contactor is energised. -/
def Mach.stageComplete (m : Mach) : Mach :=
  match m.conv.stage with
  | .p1 =>
    if 95 * (m.meas.sStr : Rat) ≤ 100 * m.conv.link then
      ((m.updConv (fun c => { c with stage := .kPre, stepAt := m.now })).phasesIdle).setCoil 2 true
    else m
  | .p2 =>
    if m.meas.sShunt.natAbs ≤ 10 * m.par 0x2707 2 && m.elapsed? m.conv.doneSince 5000000 then
      ((m.updConv (fun c => { c with stage := .kPos, stepAt := m.now })).phasesIdle).setCoil 0 true
    else m
  | _ => m

def execPrechargeStageComplete (s : State) : Host.Outcome State Fault Refusal := onProc Mach.stageComplete s

/-- K_PRE is de-energised 20 ms after K_POS closed (R337 step 7). -/
def Mach.preRelease (m : Mach) : Mach :=
  if m.conv.stage == .kPosHold && m.elapsed m.conv.stepAt 20000000 then
    (m.updConv (fun c => { c with stage := .kPreDrop, stepAt := m.now })).openCoil 2
  else m

def execKPreRelease (s : State) : Host.Outcome State Fault Refusal := onProc Mach.preRelease s

/-- In commissioning step C6 the contactors are closed: the string is held at zero current and the baseline begins (R57). -/
def Mach.c6Closed (m : Mach) : Mach :=
  (m.updConv (fun c => { c with
    loop := .current, target := 0, cause := .reference, stage := .none, keepCmd := false
    startAt := some (m.now + 1000000 * m.par 0x2705 1) })).beginBaseline

/-- The contactor steps of PRECHARGE that follow the feedback (R337): closed contacts lead on, K_PRE open again enters
CONNECTED at the next fast-epoch boundary (R41). -/
def Mach.preStep (m : Mach) : Mach :=
  match m.conv.stage with
  | .kNeg => if (m.coil 1).fb then m.beginP1 else m
  | .kPre => if (m.coil 2).fb then m.beginP2 else m
  | .kPos => if (m.coil 0).fb then m.updConv (fun c => { c with stage := .kPosHold, stepAt := m.now }) else m
  | .kPreDrop =>
    if (m.coil 2).fb then m
    else if m.mode.mode == .commission then m.c6Closed
    else (m.updConv (fun c => { c with stage := .none })).automatic .connected .completion
  | _ => m

/-! ## Fast-trip restart (R218) -/

/-- The module orders a restart: a loop runs, every FT input has been inactive for 50 µs and the restart delay has run. -/
def Mach.orderRestart (m : Mach) : Mach :=
  if m.pwm.latch && m.pwm.ft == 0 && m.elapsed m.pwm.ftOff 50000 && m.conv.loop != .none && m.elapsed m.pwm.latchAt (1000000 * m.par 0x2708 0) then
    m.updConv (fun c => { c with rearmOrdered := true })
  else m

def execFastTripRestart (s : State) : Host.Outcome State Fault Refusal := onProc Mach.orderRestart s

/-! ## Phase loss (R219 to R222) -/

/-- A phase is DISABLED with its cause (R220, R221): counted, raised, the bin discarded; with fewer than 2 phases of the
string left SHUTDOWN follows. -/
def Mach.disablePhase (m : Mach) (k cause : Nat) : Mach :=
  if (m.phase k).disabled then m
  else
    let a := (m.updPhase k (fun p => { p with
      disabled := true, commanded := false, waiting := none, later := none, cause := cause, openRun := 0 })).updConv
        (fun c => { c with nDis := satInc c.nDis })
    let b := (a.discardBin false).raiseFault .phaseDisabled (u8 k ++ u8 cause)
    b.when (decide (b.nPhases < b.disabledPhases + 2)) (fun x => x.orderShutdown .fault)

/-- What K0 checks: owned phases in IDLE or RUN. -/
def Mach.checked (m : Mach) : List Nat :=
  m.ownActive.filter (fun k => (m.phase k).own)

/-- The expected ripple of a phase in mA (R219): voltages of 10 mV, L_ph in µH, T_c = 1 / f_c. -/
def Mach.expectedRipple (m : Mach) (k : Nat) : Rat :=
  let dv : Rat := if m.busHigh then (m.meas.sBus : Rat) - (m.meas.sStr : Rat) else (m.meas.sStr : Rat) - (m.meas.sBus : Rat)
  qdiv (10000000 * dv * (m.phase k).duty) (m.fc * ((m.par 0x2701 2 : Nat) : Rat))

/-- The sense residual r in mA (R219): the shunt mean less the weighted phase means. -/
def Mach.residual (m : Mach) (iShunt : Int) (iPh : List Int) : Rat :=
  (iShunt : Rat) - ((List.range m.nPhases).foldl (fun a k =>
    a + m.phaseWeight (m.phase k) * (nth iPh k 0 : Rat)) 0)

/-- The condition of PHASE_OPEN of one half period (R219). -/
def Mach.looksOpen (m : Mach) (k : Nat) (avg ripple : Int) : Bool :=
  m.phaseState k == 2 && decide (m.ratedPhase ≤ 10 * absQ m.conv.iPhRef)
    && decide (10 * (avg.natAbs : Rat) < absQ m.conv.iPhRef) && decide (10 * (ripple.natAbs : Rat) < absQ (m.expectedRipple k))

/-- The ripple of a phase differs from the expected one by more than 30 % (R219). -/
def Mach.rippleOff (m : Mach) (k : Nat) (ripple : Int) : Bool :=
  decide (3 * absQ (m.expectedRipple k) < 10 * absQ ((ripple : Rat) - m.expectedRipple k))

/-- A mismatch that no phase explains (R222): SENSE_UNRESOLVED, cap halved, counted. -/
def Mach.setUnresolved (m : Mach) : Mach :=
  if m.conv.unresolved then m
  else m.updConv (fun c => { c with unresolved := true, unresAt := m.now, nUnres := satInc c.nUnres })

/-- The check of a half period: the shunt mean, and for each phase the half-period mean and the ripple, all in mA. -/
def Mach.lossCheck (m : Mach) (iShunt : Int) (iPh ripple : List Int) : Mach :=
  if m.conv.loop == .none then m
  else
    let r := m.residual iShunt iPh
    let mismatch := decide (max (10000 : Rat) ((iShunt.natAbs : Rat) / 20) < absQ r)
    let a := m.updConv (fun c => { c with residual := r.floor })
    let stream := m.checked.filter (fun k => (m.phase k).fault)
    let b := a.each stream (fun k x => x.disablePhase k 1)
    let c := b.each m.checked (fun k x =>
      let now := m.looksOpen k ((m.phase k).avg.getD 0) (nth ripple k 0)
      let run := if now then (m.phase k).openRun + 1 else 0
      let y := x.updPhase k (fun p => { p with openRun := run })
      if 2 ≤ run then y.disablePhase k 3 else y)
    let bad := (List.range (min m.nPhases 12)).filter (fun k => m.activePhases.contains k && m.rippleOff k (nth ripple k 0))
    if mismatch then
      if bad.isEmpty then c.setUnresolved
      else c.each (bad.filter (fun k => m.checked.contains k)) (fun k x => x.disablePhase k 2)
    else c.updConv (fun x => { x with unresolved := false })

def execPhaseLossCheck (iShunt : Int) (iPh ripple : List Int) (s : State) : Host.Outcome State Fault Refusal :=
  onProc (fun m => m.lossCheck iShunt iPh ripple) s

/-- A DISABLED phase returns to IDLE in STANDBY (R221): 10 ms in STANDBY, its stream valid for 10 ms, its offset in range. -/
def Mach.reenable (m : Mach) (k : Nat) : Mach :=
  let p := m.phase k
  if m.mode.mode == .standby && m.elapsed m.conv.standbyAt 10000000 && p.disabled && !p.fault && !p.offsetBad
      && m.elapsed p.validAt 10000000 then
    m.updPhase k (fun q => { q with disabled := false, cause := 0 })
  else m

def execPhaseReenable (k : Nat) (s : State) : Host.Outcome State Fault Refusal :=
  onProc (fun m => m.reenable k) s

/-- The mismatch still holds 1 s later (R222): PHASE_SENSE_MISMATCH, and SHUTDOWN follows. -/
def Mach.senseTimeout (m : Mach) : Mach :=
  if m.conv.unresolved && m.elapsed m.conv.unresAt 1000000000 then
    (m.raiseFault .phaseSenseMismatch []).orderShutdown .fault
  else m

def execSenseMismatchTimeout (s : State) : Host.Outcome State Fault Refusal := onProc Mach.senseTimeout s

/-! ## The fast-epoch boundary (R208, R213) -/

/-- The dip reference in 10 mV (R213): V_ref in BUS_FORM, else the mean bus voltage of the preceding 100 ms, held while
BUS_DIP is asserted. -/
def Mach.dipReference (m : Mach) (means : List Nat) : Rat :=
  if m.mode.mode == .busForm then m.voltageRef
  else if m.meas.dipLine then m.conv.dipRef
  else qdiv ((means.foldl (· + ·) 0 : Nat) : Rat) (means.length : Rat)

/-- What a fast-epoch boundary does to the loops: the follower takes the lead's values, K0 writes the dip reference and
thresholds to the isolated section. -/
def Mach.convEpoch (m : Mach) : Mach :=
  let means := (m.meas.vBus :: m.conv.busMeans).take 100
  let ref := m.dipReference means
  m.updConv (fun c => { c with
    busMeans := means, dipRef := ref, dipTh := (m.par 0x2706 0, m.par 0x2706 1) })

end Sys2Proof.Machine
end

