-- ==== Sys2Proof/Machine/Modes.lean ====
section
/-! DEFINITION. Meanings of the commands of chapter 2, Operating Modes and Start-Up, that change and run modes (R34 to R60). -/

namespace Sys2Proof.Machine

/-! ## Legal transitions (R39) -/

/-- Code of a role (R412). -/
def Role.code : Role → Nat
  | .observer => 0 | .operator => 1 | .engineer => 2 | .service => 3

/-- The minimum role of a host request from a mode to another, if R39 has a host row for it. -/
def hostRow (old dest : Mode) : Option Nat :=
  match dest with
  | .safeHold => if old == .lockout then none else some 1
  | .standby => match old with
    | .commission => some 2
    | .storage => some 1
    | .safeHold => some 1
    | _ => none
  | .storage => if old == .standby then some 1 else none
  | .precharge => if old == .standby then some 1 else none
  | .commission => if old == .standby || old == .safeHold then some 3 else none
  | .dispatch => if old == .connected || old == .busForm then some 1 else none
  | .busForm => if old == .connected || old == .dispatch then some 1 else none
  | .maintain => if old == .connected then some 2 else none
  | .connected => if old == .dispatch || old == .busForm || old == .maintain then some 1 else none
  | .shutdown => if old == .precharge || old.isLine then some 1 else none
  | _ => none

/-- R39 has a plant row from a mode to another. -/
def plantRow (old dest : Mode) : Bool :=
  match dest with
  | .precharge => old == .standby
  | .dispatch => old == .connected || old == .busForm
  | .busForm => old == .connected || old == .dispatch
  | .connected => old == .dispatch || old == .busForm || old == .maintain
  | .shutdown => old == .precharge || old.isLine
  | _ => false

/-- R39 has an automatic row from a mode to another, the BOOT exits apart. -/
def autoRow (old dest : Mode) : Bool :=
  match dest with
  | .connected => old == .precharge || old == .dispatch || old == .busForm || old == .maintain
  | .shutdown => old == .precharge || old.isLine
  | .standby => old == .shutdown
  | _ => false

/-- No U or F fault is uncleared, COLLECTOR_SELF included (R39, R370). -/
def Mach.noFault (m : Mach) : Bool := m.flt.pending.isEmpty && !m.flt.selfFault

/-- The software clear is allowed (R46): faults cleared, no latched cause live, no reaction demanded. -/
def Mach.clearOk (m : Mach) : Bool :=
  m.noFault && m.noDemand && (match m.flt.latch with
    | none => true
    | some r => !m.isLive r.src)

/-- The string appears in the current fast plant view (R39). -/
def Mach.inView (m : Mach) : Bool :=
  m.plant.isMember && (match m.plant.views with
    | [] => false
    | v :: _ => v.entries.any (fun e => e.1.string == m.stringId && e.2.isSome))

/-- The model rate lets a running mode be entered (R29). -/
def Mach.rateOk (m : Mach) : Bool := m.modelRate != 0 && !m.arch.rateBlocked

/-- The condition of R39 for entering a mode from the present one, with the refusals of R195, R212 and R343. -/
def Mach.condition (m : Mach) (dest : Mode) : Bool :=
  match dest with
  | .precharge => m.noFault && !m.pwm.mismatch && !m.saf.pairProfile
  | .dispatch => m.inView && m.rateOk
  | .busForm => m.rateOk && m.par 0x2704 0 != 0 && m.par 0x2704 5 != 0
  | .maintain => m.rateOk && (m.mode.taskReq != 0 || m.baselineDue)
  | .standby => match m.mode.mode with
    | .safeHold => m.clearOk
    | .commission => m.mode.commStep == 7 && !m.mode.commFailed
    | _ => true
  | .commission => m.mode.mode != .safeHold || bit m.mode.bootResult 9 || m.clearOk
  | _ => true

/-! ## Mode requests (R40, R41, R425) -/

/-- The status of a host request (R424, R425): ROLE, TRANSITION, CONDITION in this order, else ACCEPTED. -/
def Mach.requestStatus (m : Mach) (dest : Mode) (role : Nat) : Nat :=
  match hostRow m.mode.mode dest with
  | none => if role < 1 then 0x14 else 0x20
  | some need => if role < need then 0x14 else if m.condition dest then 0x01 else 0x21

/-- Queue a change for its boundary. -/
def Mach.queueMode (m : Mach) (p : PendMode) : Mach := m.updMode (fun x => { x with pendingModes := x.pendingModes ++ [p] })

/-- A host request for a mode (R40 to R43, R425): accepted, it takes effect at the start of fast epoch e + 2, is forwarded
in a pair, and out of SAFE_HOLD Walnut pulses its release line (R317). Commissioning accept is not forwarded: each module
needs its own (R59). With MAINTAIN goes the task, so that both modules run the same one (R50, log entry 150). -/
def Mach.requestMode (m : Mach) (dest : Mode) (role : Nat) : Mach :=
  let st := m.requestStatus dest role
  let task := dest == .maintain
  let a := m.updMbx (fun x => { x with modeStatus := st })
  if st != 0x01 then a
  else
    let e := m.fastEpoch + 2
    let b := (a.updMbx (fun x => { x with modeReq := dest.code, modeEffect := e })).queueMode
      { dest := dest, cause := .hostRequest, effect := e, fromPartner := false }
    let b := b.when task (fun y => y.updMode (fun x => { x with taskDur := none }))
    let c := b.when (m.paired && !m.partnerMissing && !(m.mode.mode == .commission && dest == .standby)) (fun y =>
      y.emit (.pairRequest y.pairHead dest.code e (if task then m.mode.taskReq else 0) (if task then m.par 0x2017 1 else 0)
        (task && m.baselineDue)))
    c.when (m.mode.mode == .safeHold && dest != .safeHold) Mach.releaseLine

/-- A write to the mode request object; a code above 0xB is out of range (R421) and changes nothing. -/
def Mach.modeRequest (m : Mach) (code role : Nat) : Mach :=
  match Mode.ofCode code with
  | none => m
  | some dest => m.requestMode dest role

def execModeRequest (code role : Nat) (s : State) : Host.Outcome State Fault Refusal :=
  onProc (fun m => m.modeRequest code role) s

/-! ## Applying pending changes (R41) -/

/-- Commissioning record of the string as it stands (R57 C7, R402). -/
def Mach.commRecord (m : Mach) : CommRec :=
  { pods := m.chain.serials, switches := (m.saf.sw1, m.saf.sw2, m.saf.sw3), profile := m.par 0x2011 3
    role := m.par 0x2011 4, partner := if m.paired then m.pair.linkSerial else 0 }

/-- C7 (R57): the commissioning record is committed journal-atomically, with the partner's serial in a pair (R292). -/
def Mach.commitCommissioning (m : Mach) : Mach :=
  let r := m.commRecord
  let a := (m.updMode (fun x => { x with commRec := some r, commStep := 0, commFailed := false })).updPair (fun p =>
    { p with pSerial := r.partner, changed := false })
  a.storeNow [.commissioning r 0 a.mode.baselinePending, .partner r.partner]

/-- Enter a mode that a pending change names; COMMISSION to STANDBY commits the record first (C7). SAFE_HOLD asked for in
SAFE_HOLD, which R39 allows, leaves the module where it is. -/
def Mach.applyMode (m : Mach) (dest : Mode) (cause : Cause) : Mach :=
  if m.mode.mode == .boot then m.react dest cause
  else if m.mode.mode == dest then m
  else (m.when (m.mode.mode == .commission && dest == .standby) Mach.commitCommissioning).enterMode dest cause

/-- Whether a pending change is legal when its turn comes (R41): its row and its condition. -/
def Mach.legalNow (m : Mach) (p : PendMode) : Bool :=
  let old := m.mode.mode
  let row := match p.cause with
    | .hostRequest => (hostRow old p.dest).isSome
    | .partner => (hostRow old p.dest).isSome && !(old == .commission && p.dest == .standby)
    | .plantCommand => plantRow old p.dest
    | _ => autoRow old p.dest
  let free := match p.cause with
    | .hostRequest => false
    | .partner => false
    | .plantCommand => false
    | _ => true
  row && (free || m.condition p.dest)

/-- Outcome of a host request at its boundary: the status object, and a REQUEST_DROPPED record when it is dropped. -/
def Mach.hostOutcome (m : Mach) (p : PendMode) (applied : Bool) : Mach :=
  match p.cause with
  | .hostRequest =>
    (m.updMbx (fun x => { x with modeStatus := if applied then 0 else 0x22 })).when (!applied)
      (fun y => y.record 0x0102 0 (u8 p.dest.code ++ u8 0x22))
  | .partner => m.when (!applied) (fun y => y.record 0x0102 0 (u8 p.dest.code ++ u8 0x22))
  | .plantCommand => if applied then m else m.updPlantCnt (fun c => { c with dropped := satInc c.dropped })
  | _ => m

/-- Apply one pending change, checked against the mode left by the one before, or drop it (R41). -/
def Mach.applyPending (m : Mach) (p : PendMode) : Mach :=
  if m.legalNow p then (m.applyMode p.dest p.cause).hostOutcome p true else m.hostOutcome p false

/-- Rank of a source at a boundary (R41): automatic changes and reactions, plant commands, host requests. -/
def PendMode.rank (p : PendMode) : Nat :=
  match p.cause with
  | .plantCommand => 1
  | .hostRequest => 2
  | .partner => 2
  | _ => 0

/-- The pending changes due at a fast epoch, in the order of R41. -/
def Mach.dueModes (m : Mach) (n : Nat) : List PendMode :=
  let due := m.mode.pendingModes.filter (fun p => decide (p.effect ≤ n))
  due.filter (fun p => p.rank == 0) ++ due.filter (fun p => p.rank == 1) ++ due.filter (fun p => p.rank == 2)

/-- The mode changes of the fast-epoch boundary at which fast epoch n begins (R41). -/
def Mach.modeEpoch (m : Mach) (n : Nat) : Mach :=
  let a := m.updMode (fun x => { x with pendingModes := x.pendingModes.filter (fun p => !decide (p.effect ≤ n)) })
  a.each (m.dueModes n) (fun p x => x.applyPending p)

/-! ## PRECHARGE and SHUTDOWN (R43 to R45, R338) -/

/-- The module has been in its mode for an interval. -/
def Mach.inModeFor (m : Mach) (interval : Nat) : Bool :=
  decide (m.mode.since + interval / 1000000 * 1000000 ≤ m.fabTime)

/-- A precharge runs, in PRECHARGE or in commissioning step C6, for as long as the precharge timeout. -/
def Mach.prechargeOver (m : Mach) : Bool :=
  (m.mode.mode == .precharge && m.inModeFor (1000000 * m.par 0x2015 0))
    || (m.mode.c6Running && !m.mode.c6Stopping && m.conv.loop == .precharge
      && m.elapsed m.mode.c6At (1000000 * m.par 0x2015 0))

/-- Precharge has not completed within the precharge timeout (R44, R57). -/
def Mach.prechargeTimeout (m : Mach) : Mach :=
  if m.prechargeOver then (m.raiseFault .prechargeTimeout []).orderShutdown .timeout else m

def execPrechargeTimeout (s : State) : Host.Outcome State Fault Refusal := onProc Mach.prechargeTimeout s

/-- The string is being brought to zero current: SHUTDOWN, or the end of commissioning step C6. -/
def Mach.stopping (m : Mach) : Bool := m.mode.mode == .shutdown || m.mode.c6Stopping

/-- |string current| has been at most 2 A for 5 ms: the phases stop and K_POS opens first (R45, R338). -/
def Mach.shutdownOpen (m : Mach) : Mach :=
  if m.stopping && m.mode.opening == 0 && m.elapsed? m.mode.zeroSince 5000000 then
    (((m.updMode (fun x => { x with opening := 1 })).phasesIdle).updConv (fun c => { c with
      softStop := false, ramping := false, startAt := none })).openCoil 0
  else m

def execShutdownOpen (s : State) : Host.Outcome State Fault Refusal := onProc Mach.shutdownOpen s

/-- The contactors of commissioning step C6 are open again: the step is complete once its baseline is (R57). -/
def Mach.c6Open (m : Mach) : Mach :=
  let done := !m.imp.blFailed
  ((m.updMode (fun x => { x with
    opening := 0, c6Running := false, c6Stopping := false, c6Done := done
    commStep := if done then 7 else 6, commFailed := !done })).loopOff.updImp Imp.resume).store [.commStep (if done then 7 else 6) (!done)] []

/-- The contactors open in order as their feedback reads open (R338): K_NEG after K_POS (and K_PRE), then STANDBY. -/
def Mach.openStep (m : Mach) : Mach :=
  if m.mode.opening = 1 then
    if (m.coil 0).fb || (m.mode.abortedPrecharge && (m.coil 2).fb) then m
    else (m.updMode (fun x => { x with opening := 2 })).openCoil 1
  else if m.mode.opening = 2 && !(m.coil 1).fb then
    if m.mode.c6Stopping then m.c6Open
    else (m.updMode (fun x => { x with opening := 0 })).automatic .standby .completion
  else m

/-- The string has been on its way to zero current, in SHUTDOWN or at the end of C6, for as long as the shutdown timeout. -/
def Mach.shutdownOver (m : Mach) : Bool :=
  m.mode.opening == 0 && ((m.mode.mode == .shutdown && m.inModeFor (1000000 * m.par 0x2014 0))
    || (m.mode.c6Stopping && m.elapsed m.mode.c6At (1000000 * m.par 0x2014 0)))

/-- The current has not come to zero within the shutdown timeout (R45): raised, and SAFE_HOLD entered. -/
def Mach.shutdownTimeout (m : Mach) : Mach :=
  if m.shutdownOver then
    (m.raiseFault .shutdownTimeout []).react .safeHold .timeout
  else m

def execShutdownTimeout (s : State) : Host.Outcome State Fault Refusal := onProc Mach.shutdownTimeout s

/-- What a fast-epoch boundary notes for R45: since when |string current| has been at most 2 A while stopping. -/
def Mach.zeroEpoch (m : Mach) : Mach :=
  m.updMode (fun x => { x with
    zeroSince := if m.stopping && decide (m.meas.iShunt.natAbs ≤ 2000) then some (x.zeroSince.getD m.now) else none })

/-! ## The on-site clear of LOCKOUT (R48, R49) -/

/-- A SERVICE session on J5 writes the arm; a session through the fabric cannot. -/
def Mach.armClear (m : Mach) (role : Nat) (direct : Bool) : Mach :=
  if role = 3 && direct then (m.updClk (fun c => { c with arm := some m.now })).record 0x0103 0 [] else m

def execLockoutClearArm (role : Nat) (direct : Bool) (s : State) : Host.Outcome State Fault Refusal :=
  onProc (fun m => m.armClear role direct) s

/-- 300 s have passed without a qualifying press: the arm is withdrawn. -/
def Mach.armExpired (m : Mach) : Mach :=
  if m.elapsed? m.clk.arm 300000000000 then (m.updClk (fun c => { c with arm := none })).foxRecord 0x0104 0 [] else m

def execLockoutArmExpired (s : State) : Host.Outcome State Fault Refusal := onFox Mach.armExpired s

/-! ## Maintenance tasks (R50) -/

/-- The highest fine group voltage of the last sweep, 1 mV. -/
def Mach.highestGroup (m : Mach) : Option Int := maxInt? ((m.finesOf m.chain.shared).map (fun p => p.2))

/-- The lowest fine group voltage of the last sweep, 1 mV. -/
def Mach.lowestGroup (m : Mach) : Option Int := minInt? ((m.finesOf m.chain.shared).map (fun p => p.2))

/-- EQUALISE has reached a voltage limit: the ceiling when charging, the floor when discharging. -/
def Mach.equaliseEnd (m : Mach) : Bool :=
  if m.conv.target < 0 then (match m.highestGroup with
    | none => false
    | some v => decide ((m.par 0x240A 1 : Int) ≤ v))
  else if 0 < m.conv.target then (match m.lowestGroup with
    | none => false
    | some v => decide (v ≤ (m.par 0x240A 0 : Int)))
  else false

/-- The task duration has elapsed: the own one, or the one that came with a forwarded request. -/
def Mach.taskElapsed (m : Mach) : Bool := m.elapsed m.mode.taskStart (1000000000 * m.mode.taskDur.getD (m.par 0x2017 1))

/-- No pass runs any more: its bins are done and read out. -/
def Mach.passOver (m : Mach) : Bool := m.imp.queue.isNone && m.imp.run.isNone && m.imp.read.isNone

/-- The outcome of the running task where its condition of completion holds (codes of 0x2017.02). -/
def Mach.taskOutcome (m : Mach) : Option Nat :=
  match m.mode.task with
  | .none => none
  | .equalise => if m.equaliseEnd then some 3 else if m.taskElapsed then some 2 else none
  | .calibrationRest => if m.taskElapsed then some 2 else none
  | .impedancePass => if m.passOver then some 2 else none
  | .baseline => if m.passOver && m.imp.blStage == 0 then some (if m.imp.blFailed then 4 else 2) else none

/-- A task completes: after a baseline that was due the requested task follows; after the last one the request reads NONE
and CONNECTED follows at the next boundary. -/
def Mach.taskComplete (m : Mach) : Mach :=
  if m.mode.mode != .maintain then m
  else match m.taskOutcome with
  | none => m
  | some o =>
    if m.mode.dueRun && m.mode.taskReq != 0 then
      (m.beginTask (taskOf m.mode.taskReq)).updMode (fun x => { x with dueRun := false })
    else
      (((m.updMode (fun x => { x with
        task := .none, outcome := o, taskDone := true, taskReq := 0, dueRun := false, taskDur := none })).updConv (fun c => { c with
        target := 0 })).updImp Imp.resume).automatic .connected .completion

def execMaintenanceTaskComplete (s : State) : Host.Outcome State Fault Refusal := onProc Mach.taskComplete s

/-! ## Commissioning (R57 to R60) -/

/-- A commissioning step becomes active, or fails; the step is kept in the store. -/
def Mach.setStep (m : Mach) (n : Nat) (failed : Bool) : Mach :=
  (m.updMode (fun x => { x with commStep := n, commFailed := failed, stepSince := m.now })).store [.commStep n failed] []

/-- The step n is active, not failed, in COMMISSION. -/
def Mach.stepActive (m : Mach) (n : Nat) : Bool :=
  m.mode.mode == .commission && m.mode.commStep == n && !m.mode.commFailed

/-- C1 once both writes have come: they must match what both channels read, and no role conflict may stand (R291). -/
def Mach.stepC1 (m : Mach) : Mach :=
  if m.stepActive 1 && m.mode.c1Written == 3 then
    if m.par 0x2011 3 = m.saf.sw1 && m.par 0x2011 4 = m.saf.sw2 && !m.saf.profileMismatch
        && !m.pair.roleConflict then m.setStep 2 false
    else m.setStep 1 true
  else m

/-- Point i, at 5 i %, of a branch of the OCV table in 0.1 mV (0x2407.00): 0 discharge, 1 charge. -/
def Mach.ocvPoint (m : Mach) (branch i : Nat) : Nat := m.parElem 0x2407 0 2 (21 * branch + i)

/-- The OCV table of R145: each branch non-decreasing within 2.000 to 4.500 V, charge at or above discharge. -/
def Mach.ocvOk (m : Mach) : Bool :=
  (List.range 21).all (fun i =>
    [0, 1].all (fun b => decide (20000 ≤ m.ocvPoint b i) && decide (m.ocvPoint b i ≤ 45000)
      && (i == 0 || decide (m.ocvPoint b (i - 1) ≤ m.ocvPoint b i)))
    && decide (m.ocvPoint 0 i ≤ m.ocvPoint 1 i))

/-- C5's check of the parameters of every chapter (R57, R145, R190, R200, R223). -/
def Mach.c5Ok (m : Mach) : Bool :=
  let n := m.nPhases
  m.ocvOk && decide (1000 ≤ m.par 0x2402 1) && decide (m.par 0x2402 1 ≤ 200000)
    && decide (10 ≤ m.par 0x240A 2) && decide (m.par 0x240A 2 ≤ 2000)
    && decide (10 ≤ m.par 0x240A 3) && decide (m.par 0x240A 3 ≤ 2000)
    && n != 0 && (List.range (min n 12)).all (fun k => m.par 0x2605 (k + 1) != 0)
    && m.par 0x260A 0 != 0 && m.par 0x2701 1 != 0 && m.par 0x2701 2 != 0 && m.par 0x2701 3 != 0
    && m.par 0x2702 0 != 0 && m.par 0x2707 1 != 0 && (!m.paired || (m.par 0x2606 0 == 1 && m.pair.pInMode == some 1))

/-- C5 is checked when it becomes active and at each retry; accepted, the next sweep initialises the estimator (R515). -/
def Mach.stepC5 (m : Mach) : Mach :=
  if m.c5Ok then (m.setStep 6 false).updEst (fun e => { e with initDue := !e.running }) else m.setStep 5 true

/-- C4 is complete: C5 follows with its check. -/
def Mach.enterC5 (m : Mach) : Mach := (m.setStep 5 false).stepC5

/-- C3 is complete: C4 begins with fresh open-wire results and no insulation reading (R57). -/
def Mach.enterC4 (m : Mach) : Mach :=
  ((m.setStep 4 false).updChain (fun c => { c with ow := c.ow.map (fun p => (p.1, { p.2 with tested := [] })) })).updIso
    (fun i => { i with c4Reading := false })

/-- C6 starts its precharge while the bus is live (R57, R58). -/
def Mach.c6Start (m : Mach) : Mach :=
  if m.stepActive 6 && !m.mode.c6Running && !m.mode.c6Done && m.busLive then
    (m.updMode (fun x => { x with
      c6Running := true, c6Stopping := false, c6At := m.now, opening := 0, abortedPrecharge := false })).convEnter
      .precharge
  else m

def execCommissionC6Start (s : State) : Host.Outcome State Fault Refusal := onProc Mach.c6Start s

/-- A direct write of an RWE object (R10, R421): ENGINEER with the expert unlock active, else ROLE or UNLOCK. -/
def Mach.expertWrite (m : Mach) (role : Nat) (unlocked : Bool) (f : Mach → Mach) : Mach :=
  if role < 2 then m.emit (.writeStatus 0x14 0) else if !unlocked then m.emit (.writeStatus 0x15 0) else f m

/-- A baseline deferral is taken (R58): during C6, running or failed, while the bus is not live. -/
def Mach.deferOk (m : Mach) : Bool := m.mode.mode == .commission && m.mode.commStep == 6 && !m.busLive

/-- Baseline deferral (R58): the step completes with no baseline; a C6 that runs first ends its converter's work. -/
def Mach.deferBaseline (m : Mach) : Mach :=
  if m.deferOk then
    let a := m.updMode (fun x => { x with baselinePending := true, c6Done := true })
    if m.mode.c6Stopping then a.updImp (fun i => { i with blFailed := false })
    else if m.mode.c6Running then a.c6Fail.updImp (fun i => { i with blFailed := false })
    else a.setStep 7 false
  else m

def execBaselineDeferral (role : Nat) (unlocked : Bool) (s : State) : Host.Outcome State Fault Refusal :=
  onProc (fun m => m.expertWrite role unlocked Mach.deferBaseline) s

/-- Commissioning accept (R57 C7, R60): accepted only when C1 to C6 are complete; the record is committed as STANDBY is
entered. -/
def Mach.acceptCommissioning (m : Mach) (role : Nat) : Mach :=
  if m.stepActive 7 && decide (2 ≤ role) then m.requestMode .standby role else m

def execCommissioningAccept (role : Nat) (unlocked : Bool) (s : State) : Host.Outcome State Fault Refusal :=
  onProc (fun m => m.expertWrite role unlocked (fun x => x.acceptCommissioning role)) s

/-- Step retry (R57, R60): a failed step runs again. -/
def Mach.stepRetry (m : Mach) : Mach :=
  if m.mode.mode == .commission && m.mode.commFailed then
    match m.mode.commStep with
    | 1 => (m.setStep 1 false).stepC1
    | 4 => m.enterC4
    | 5 => m.enterC5
    | n => m.setStep n false
  else m

def execStepRetry (role : Nat) (unlocked : Bool) (s : State) : Host.Outcome State Fault Refusal :=
  onProc (fun m => m.expertWrite role unlocked Mach.stepRetry) s

end Sys2Proof.Machine
end

