-- ==== Sys2Proof/Machine/CellChain.lean ====
section
/-! DEFINITION. Meanings of the commands of chapter 3, Cell Chain and Sweeps (R62 to R97, R516), and of the commissioning
steps that use the chain. -/

namespace Sys2Proof.Machine

/-! ## The pods and who masters them -/

/-- The chain port through which the master's end answers this module (R89): its own, or in a listener the partner's. -/
def Mach.masterPort (m : Mach) : Nat := if m.isMaster then 1 else 2

/-- Addresses of the pods enumerated. -/
def Mach.podAddrs (m : Mach) : List Nat := (List.range m.chain.serials.length).map (fun i => i + 1)

/-- Send an addressed frame of the non-sweep window: to a pod beyond a located break the far end sends it (R88). -/
def Mach.sendTo (m : Mach) (a : Nat) (f : ChainCmd) : Mach :=
  if (match m.chain.brk with
    | none => false
    | some b => decide (b < a)) then
    if !m.paired then m.sendFar f else m.when (!m.isMaster) (fun x => x.sendChain f)
  else m.when m.isMaster (fun x => x.sendChain f)

/-- The pod at an address as it was last heard of. -/
def Mach.pod (m : Mach) (a : Nat) : PodUnit := aget m.chain.pods a {}

/-- Hardware limits that CONFIG writes: those of the active profile (R81), 0 without one. -/
def Mach.hwLimits (m : Mach) : Nat × Nat :=
  match m.prof with
  | none => (0, 0)
  | some p => (p.hwOv, p.hwUv)

/-- The CONFIG frame for an address or 0xFF (R68, R77, R81, R94). -/
def Mach.configFrame (m : Mach) (a : Nat) : ChainCmd :=
  .config a (m.par 0x2105 0) (m.par 0x2106 0) m.hwLimits.1 m.hwLimits.2

/-- Frames discarded on the two ports (R66). -/
def Mach.countDiscards (m : Mach) (bad : Nat × Nat) : Mach :=
  m.updChain (fun c => { c with disc1 := satAdd c.disc1 bad.1, disc2 := satAdd c.disc2 bad.2 })

/-! ## Enumeration (R70, R71) -/

/-- This module's CQ1 stands at the end from which addresses count: alone or as module A. -/
def Mach.lowEnd (m : Mach) : Bool := !m.paired || m.isA

/-- This module drives the end up to which addresses count: the CQ2 of a ring, or module B's CQ1. -/
def Mach.highEnd (m : Mach) : Bool := !m.paired || m.isB

/-- The delays of the own CQ1's end: c_k, or c'_k in module B (R71, R90). -/
def Mach.ownDelays (m : Mach) : List Nat := if m.lowEnd then m.chain.fwd else m.chain.rev

/-- A delay in ns from the sum of 16 ECHO round trips in counts of 4.8 ns: half their mean, less the pod's 2.000 µs and the
two frames of 9.0 µs each (R65, R71; log entry 151). -/
def echoDelay (sum : Nat) : Nat := (3 * sum - 200000) / 20

/-- A frame from the end that the enumeration counts from, or from the far end, where this module drives that end; the pods
it reaches take it. -/
def Mach.lineFrame (m : Mach) (near : Bool) (hit : Nat → Bool) (f : ChainCmd) : Mach :=
  (if near then m.when m.isMaster (fun x => x.putChain f)
   else if !m.paired then m.putFar f
   else m.when (!m.isMaster) (fun x => x.putChain f)).podsTake hit f

/-- IDENT at an address, and ASSIGN where no addressed pod answered. -/
def Mach.identAssign (m : Mach) (near : Bool) (hit : Nat → Bool) (a : Nat) (addressed : Bool) : Mach :=
  if addressed then m.lineFrame near hit (.ident a)
  else (m.lineFrame near (fun _ => false) (.ident a)).lineFrame near hit (.assign a)

/-- The commissioned pod list, empty without a record. -/
def Mach.commPods (m : Mach) : List Nat :=
  match m.mode.commRec with
  | none => []
  | some r => r.pods

/-- Pods in the enumerated list: those answered from the master's end, and with a commissioning record up to its count. -/
def Mach.listCount (m : Mach) (near : List (Bool × Nat)) : Nat :=
  if m.mode.commRec.isSome then max near.length m.commPods.length else near.length

/-- Pods past a break that answered the far end, from the commissioned count downward; none without a record (R70). -/
def Mach.farPods (m : Mach) (near far : List (Bool × Nat)) : List (Bool × Nat) := far.take (m.listCount near - near.length)

/-- The enumerated list: the serials answered from the master's end in order, then those that the far end reached; 0 where no
pod answers. -/
def Mach.podList (m : Mach) (near far : List (Bool × Nat)) : List Nat :=
  let tail := (m.farPods near far).map (fun p => p.2)
  near.map (fun p => p.2) ++ List.replicate (m.listCount near - near.length - tail.length) 0 ++ tail.reverse

/-- Addresses of the commissioned pods that no end reaches. -/
def absentOf (list : List Nat) : List Nat :=
  ((List.range list.length).filter (fun i => nth list i 1 == 0)).map (fun i => i + 1)

/-- What an enumeration leaves in the sequencers: the list, the delays this module's ends measured, closure, and whether the
list as the far end checks it, from address N downwards, is the same (R59, R70, R71). -/
def Mach.noteList (m : Mach) (near far : List (Bool × Nat)) (check fwd rev : List Nat) (closure : Bool) : Mach :=
  let list := m.podList near far
  m.updChain (fun c => { c with
    serials := list, nearCount := near.length, closure := closure, absent := absentOf list
    checkOk := !closure || check == list.reverse
    fwd := if m.lowEnd then fwd.map echoDelay else c.fwd, rev := if m.highEnd then rev.map echoDelay else c.rev
    configDue := false, reconfig := [], delayNext := 1, echoAt := some m.now })

/-- The 16 ECHO round trips of a pod from one end (R71). -/
def Mach.echoRun (m : Mach) (near : Bool) (hit : Nat → Bool) (a : Nat) : Mach :=
  m.each (List.range 16) (fun _ x => x.lineFrame near hit (.echo a))

/-- An enumeration: the pods that answered from the master's end (already addressed, serial), those that answered from the
far end, the serials by which the far end checks a closed chain, the sums of the round trips, and whether the far end saw the
ECHO. The master sends the frames from its end up to the first that no pod answers, and CONFIG before the first sweep (R81);
the far end those to the pods past a break. -/
def Mach.enumerate (m : Mach) (near far : List (Bool × Nat)) (check fwd rev : List Nat) (closure : Bool) : Mach :=
  let n := near.length
  let top := m.listCount near
  let past := m.farPods near far
  let low := fun (k : Nat) => closure || decide (k ≤ n)
  let high := fun (k : Nat) => closure || decide (n < k)
  let a := m.noteList near far check fwd rev closure
  let b := (a.each ((List.range n).zip near) (fun p x => x.identAssign true low (p.1 + 1) p.2.1)).identAssign true low (n + 1) false
  let c := b.each ((List.range past.length).zip past) (fun p x => x.identAssign false high (top - p.1) p.2.1)
  let d := c.when (decide (past.length < top - n)) (fun x => x.identAssign false high (top - past.length) false)
  let e := d.each (if closure then List.range n else []) (fun i x => x.lineFrame false high (.ident (n - i)))
  let f := (e.lineFrame true low (.echo 0xFF)).each ((List.range n).map (fun i => i + 1)) (fun k x => x.echoRun true low k)
  let g := f.each (if closure then (List.range n).map (fun i => i + 1) else (List.range past.length).map (fun i => top - i))
    (fun k x => x.echoRun false high k)
  (g.lineFrame true low (m.configFrame 0xFF)).when (!closure && !past.isEmpty) (fun x =>
    x.lineFrame false high (m.configFrame 0xFF))

/-- C2 (R57, R59, R70): closure, no gaps, 2 to 27 pods and the far end's check, or the step fails; for a member C3 is complete
at once. -/
def Mach.stepC2 (m : Mach) : Mach :=
  let n := m.chain.serials.length
  if m.chain.closure && m.chain.checkOk && m.chain.absent.isEmpty && decide (2 ≤ n) && decide (n ≤ 27) then
    (m.setStep 3 false).when m.plant.isMember Mach.enterC4
  else m.setStep 2 true

/-- At BOOT CHAIN_MISMATCH is set when the serials differ from the commissioned list, from either end, or a pod is missing from
both ends. -/
def Mach.bootList (m : Mach) : Mach :=
  if m.mode.commRec.isSome then
    m.updMode (fun x => { x with
      bootResult := setBit x.bootResult 9 (m.chain.serials != m.commPods || !m.chain.absent.isEmpty || !m.chain.checkOk) })
  else m

/-- Step 8 of the power-up ladder is done (R54): from here on Walnut evaluates the safety functions (R37, R313). -/
def Mach.ladderEight (m : Mach) : Mach :=
  if m.mode.ladder = 7 then
    ((m.updMode (fun x => { x with ladder := 8 })).updSaf (fun s => { s with
      walnutLive := !bit m.mode.bootResult 2 })).takeInputs
  else m

/-- Enumeration runs at power-up ladder step 8 and at commissioning step C2. A BOOT that finds no pod has no sweep to wait
for. `bad` counts the frames discarded on the two ports. -/
def Mach.chainEnumeration (m : Mach) (near far : List (Bool × Nat)) (check fwd rev : List Nat) (closure : Bool)
    (bad : Nat × Nat) : Mach :=
  let run := (m.countDiscards bad).enumerate near far check fwd rev closure
  if m.mode.ladder = 7 then run.bootList.when run.chain.serials.isEmpty Mach.ladderEight
  else if m.stepActive 2 then run.stepC2
  else m

def execChainEnumeration (near far : List (Bool × Nat)) (check fwd rev : List Nat) (closure : Bool) (bad : Nat × Nat)
    (s : State) : Host.Outcome State Fault Refusal :=
  onProc (fun m => m.chainEnumeration near far check fwd rev closure bad) s

/-- A pod's delays are measured again by ECHO, one pod a second in rotation, within the non-sweep window (R71, R74): c_k from
the low end, c'_k from the high end. The operands are sums of 16 round trips. -/
def Mach.echo (m : Mach) (a fwd rev : Nat) (bad : Nat × Nat) : Mach :=
  if m.chainWindow && m.podAddrs.contains a && a == m.chain.delayNext && m.elapsed (m.chain.echoAt.getD 0) second then
    let low := m.when m.isMaster (fun x => x.echoRun true (x.endReaches true) a)
    let high := low.when (!m.paired || !m.isMaster) (fun x => x.echoRun false (x.endReaches false) a)
    (high.updChain (fun c => { c with
      fwd := if m.lowEnd then updNth c.fwd (a - 1) (fun _ => echoDelay fwd) else c.fwd
      rev := if m.highEnd then updNth c.rev (a - 1) (fun _ => echoDelay rev) else c.rev
      delayNext := if c.serials.length ≤ a then 1 else a + 1, echoAt := some m.now })).countDiscards bad
  else m

def execEcho (a fwd rev : Nat) (bad : Nat × Nat) (s : State) : Host.Outcome State Fault Refusal :=
  onProc (fun m => m.echo a fwd rev bad) s

/-- CONFIG goes to every pod when the filter code or the timeout changed, else to the pods to be rewritten, within the
non-sweep window (R74, R77, R81, R88). -/
def Mach.config (m : Mach) (bad : Nat × Nat) : Mach :=
  if !m.chainWindow then m
  else if m.chain.configDue then
    ((m.broadcast (m.configFrame 0xFF)).updChain (fun c => { c with configDue := false, reconfig := [] })).countDiscards bad
  else
    ((m.each m.chain.reconfig (fun a x => x.sendTo a (x.configFrame a))).updChain (fun c => { c with reconfig := [] })).countDiscards bad

def execConfig (bad : Nat × Nat) (s : State) : Host.Outcome State Fault Refusal := onProc (fun m => m.config bad) s

/-! ## SAMPLE and READ (R68, R72, R82, R83, R85, R516) -/

/-- The latch delay of a pod in 50 ns units for a chain delay in ns (R72). -/
def latchDelay (c : Nat) : Nat := (40000 - c + 25) / 50

/-- The wire a SAMPLE names for a pod and its test state after (R83): a retest that is due first, else the rotation, which
does not advance while a retest is pending or queued. -/
def OwState.name (o : OwState) : Nat × OwState :=
  let o := match o.confirm, o.queue with
    | none, w :: t => { o with confirm := some w, named := false, queue := t }
    | _, _ => o
  match o.confirm with
  | some w => if o.named then (o.next, o) else (w, { o with named := true })
  | none => (o.next, { o with next := (o.next + 1) % 17 })

/-- A mode takes sweeps at a slow epoch (R36, R516): every one, in STORAGE the multiples of 6,000, in COMMISSION from C2 on,
in BOOT the first sweep alone. -/
def Mach.sweeps (m : Mach) (epoch : Nat) : Bool :=
  match m.mode.mode with
  | .boot => m.mode.ladder == 7
  | .storage => epoch % 6000 == 0
  | .commission => decide (2 ≤ m.mode.commStep)
  | _ => true

/-- CHAIN_ONE_SIDED clears: the break that was located has ended (R88). -/
def Mach.endBreak (m : Mach) : Mach :=
  match m.chain.brk with
  | none => m
  | some seg =>
    (m.updChain (fun c => { c with brk := none, multiple := false, reverseOn := false })).record 0x0501 seg
      (u8 0 ++ u8 (ofBool m.chain.multiple))

/-- The sample of a slow epoch is formed (R82, R83): every pod's test state names its wire. -/
def Mach.nameWires (m : Mach) : Mach :=
  let named := m.podAddrs.map (fun a => (a, (aget m.chain.ow a {}).name))
  m.updChain (fun c => { c with
    wires := named.map (fun p => (p.1, p.2.1)), ow := named.foldl (fun t p => aput t p.1 p.2.2) c.ow, owBefore := [] })

/-- The sweep of a slow epoch opens: nothing is held of it yet. One that a SAMPLE or reverse SAMPLE has opened stays. -/
def Mach.openSweep (m : Mach) (epoch : Nat) : Mach :=
  if m.chain.inSweep && m.chain.epoch == epoch then m
  else (m.updChain (fun c => { c with
    epoch := epoch, inSweep := true, delivered := false, cur := [], tries := [], closed := false
    reversedCur := false })).nameWires

/-- The SAMPLE of slow epoch T: sent by the master with the delays of its end, or seen by the listener, which follows the wires
it names. `reach` pods receive it, `far` says whether it reached the far end by T − 20 µs, which shows closure and ends a
located break. -/
def Mach.sample (m : Mach) (epoch reach : Nat) (far : Bool) : Mach :=
  if !m.sweeps epoch || m.chain.serials.isEmpty then m
  else
    let seen := m.isMaster || far
    let a := (m.openSweep epoch).updChain (fun c => { c with
      closed := far, sampleSeen := if seen then some epoch else c.sampleSeen, noSample := if seen then 0 else c.noSample })
    let f := ChainCmd.sample (epoch % 65536) (m.ownDelays.map latchDelay) a.chain.wires
    let low := if m.isMaster then m.lowEnd else m.isB
    let hit := fun (k : Nat) => if low then decide (k ≤ reach) else decide (m.chain.serials.length < k + reach)
    ((a.when m.isMaster (fun x => x.putChain f)).podsTake hit f).when far Mach.endBreak

def execSample (epoch reach : Nat) (far : Bool) (s : State) : Host.Outcome State Fault Refusal :=
  onProc (fun m => m.sample epoch reach far) s

/-- READ: every pod answers in its slot. -/
def Mach.readAll (m : Mach) : Mach :=
  if m.chain.inSweep && m.isMaster then m.sendChain (.read (m.chain.epoch % 65536)) else m

def execRead (s : State) : Host.Outcome State Fault Refusal := onProc Mach.readAll s

/-- The delays of the far end (R71, R90): c'_k in a ring; in a pair those of the listener's own end. -/
def Mach.farDelays (m : Mach) : List Nat := if m.paired then m.ownDelays else m.chain.rev

/-- The far end's reverse SAMPLE (R85): only when the SAMPLE has not come by T − 20 µs, only with a latch at or before
T + 2 ms, at most one per slow epoch. While a break is located the latch falls at T (R88). In a pair the listener sends it,
and the master learns of it. Only a pod that has not latched yet makes the sweep PARTIAL_REVERSED (R68, R87). -/
def Mach.reverseSample (m : Mach) (epoch skew : Nat) : Mach :=
  let seen := m.chain.inSweep && m.chain.epoch == epoch && m.chain.closed
  if seen || !m.sweeps epoch || decide (2000 < skew) || m.chain.reverseEpoch == some epoch || m.chain.serials.isEmpty then m
  else
    let id := epoch % 65536
    let a := m.openSweep epoch
    let late := a.podAddrs.any (fun k => nth a.chain.serials (k - 1) 0 != 0 && (a.pod k).latched != some id)
    let b := a.updChain (fun c => { c with
      closed := false, reversedCur := c.reversedCur || late, reverseOn := true, reverseEpoch := some epoch
      skew := if late then (if c.brk.isSome then 0 else skew) else c.skew, nReverse := satInc c.nReverse })
    let f := ChainCmd.reverseSample id (m.farDelays.map latchDelay) b.chain.wires
    (if !m.paired then b.putFar f else b.when (!m.isMaster) (fun x => x.putChain f)).podsTake (fun _ => true) f

def execReverseSample (epoch skew : Nat) (s : State) : Host.Outcome State Fault Refusal :=
  onProc (fun m => m.reverseSample epoch skew) s

/-! ## Replies (R66, R67, R69, R81, R83, R84, R89) -/

/-- Bit of POD_STATUS. -/
def PodReply.flag (r : PodReply) (i : Nat) : Bool := bit r.status i

/-- Walnut's check of the echoed limits (R81): on the first mismatch the fault, and the pod's configuration is rewritten. -/
def Mach.limitEcho (m : Mach) (a : Nat) (r : PodReply) : Mach :=
  let bad := r.flag 11 || r.limitOv != m.hwLimits.1 || r.limitUv != m.hwLimits.2
  if bad then
    (m.updChain (fun c => { c with echoBad := insNat c.echoBad a, reconfig := insNat c.reconfig a })).when
      (!m.chain.echoBad.contains a) (fun x => x.raiseFault .limitEchoMismatch [])
  else m.updChain (fun c => { c with echoBad := delNat c.echoBad a })

/-- What one open-wire result does to the pod's test state: the new state, and whether the wire is declared open or cleared. -/
def OwState.judge (o : OwState) (w : Nat) (fail : Bool) : OwState × Option Bool :=
  let passes := aget o.passes w 0
  let o := { o with tested := insNat o.tested w }
  if fail && o.opened.contains w then ({ o with passes := aput o.passes w 0 }, none)
  else if o.confirm = some w && o.named then
    let p := { o with confirm := none, named := false }
    if fail then ({ p with opened := insNat p.opened w, passes := aput p.passes w 0 }, some true)
    else ({ p with passes := aput p.passes w (passes + 1) }, none)
  else if fail then
    match o.confirm with
    | none => ({ o with confirm := some w, named := false }, none)
    | some _ => ({ o with queue := o.queue ++ [w] }, none)
  else
    let p := { o with passes := aput o.passes w (passes + 1) }
    if p.opened.contains w && decide (3 ≤ passes + 1) then ({ p with opened := delNat p.opened w }, some false)
    else (p, none)

/-- A DATA reply's open-wire result (R83), judged from a test state; a declaration or its end is logged in Seedbank (R84). -/
def Mach.openWire (m : Mach) (a : Nat) (r : PodReply) (start : OwState) : Mach :=
  let fail := decide (200 < r.owLo.natAbs) || decide (200 < r.owHi.natAbs)
  let o := (start.judge r.owWire fail).1
  let was := (aget m.chain.ow a {}).opened.contains r.owWire
  let now := o.opened.contains r.owWire
  let b := m.updChain (fun c => { c with ow := aput c.ow a o, nOpen := if now && !was then satInc c.nOpen else c.nOpen })
  b.when (now != was) (fun x => x.record 0x0500 a (u8 r.owWire ++ u8 (ofBool now)))

/-- Every pod of the list has a valid reply of the sweep in progress. -/
def Mach.allHeld (m : Mach) : Bool := m.podAddrs.all (fun a => (aget? m.chain.cur a).isSome)

/-- Groups of a pod, the copy kept and what is made of it (R16, R81, R83). -/
def Mach.putReply (m : Mach) (a port : Nat) (r : PodReply) (start : OwState) : Mach :=
  let b := m.updChain (fun c => { c with
    cur := aput c.cur a { missing := false, port := port, data := r }, lastGood := aput c.lastGood a r
    owBefore := aput c.owBefore a start })
  (b.limitEcho a r).openWire a r start

/-- A valid reply belongs to the sweep in progress. -/
def Mach.replyFits (m : Mach) (a : Nat) (r : PodReply) : Bool :=
  m.chain.inSweep && r.sampleId == m.chain.epoch % 65536 && m.podAddrs.contains a

/-- Addresses the far end reads, from N downwards: those not held, up to and with the first that does not answer (R86). -/
def farReads (answers : List Nat) : List Nat → List Nat
  | [] => []
  | a :: t => if answers.contains a then a :: farReads answers t else [a, a]

/-- The far end, CQ2 of a ring or the listener, reads with READ_ONE from address N downwards once the non-sweep window is open
(R74, R86); `answers` are the pods that will answer. Their replies arrive as DATA replies. -/
def Mach.farReadout (m : Mach) (answers : List Nat) : Mach :=
  if m.chain.inSweep && m.chainWindow && (!m.paired || !m.isMaster) then
    let left := m.podAddrs.reverse.filter (fun a => (aget? m.chain.cur a).isNone)
    m.each (farReads answers left) (fun a x =>
      let f := ChainCmd.readOne a (m.chain.epoch % 65536)
      if x.paired then x.sendChain f else x.sendFar f)
  else m

def execFarEndReadout (answers : List Nat) (s : State) : Host.Outcome State Fault Refusal :=
  onProc (fun m => m.farReadout answers) s

/-- READ_ONE from the master's end for a pod without a valid reply, at most twice per pod and sweep, within the non-sweep
window (R74, R75). -/
def Mach.readOne (m : Mach) (a : Nat) : Mach :=
  if m.chain.inSweep && m.chainWindow && m.isMaster && m.podAddrs.contains a && (aget? m.chain.cur a).isNone
      && decide (aget m.chain.tries a 0 < 2) then
    (m.sendChain (.readOne a (m.chain.epoch % 65536))).updChain (fun c => { c with
      tries := aupd c.tries a 0 (fun n => n + 1), nRetry := satInc c.nRetry })
  else m

def execReadOne (a : Nat) (s : State) : Host.Outcome State Fault Refusal := onProc (fun m => m.readOne a) s

/-! ## Group conditions (R78, R84, R97) -/

/-- The payload of an absence record (R75). -/
def absentReply (id : Nat) : PodReply :=
  { status := 0, sampleId := id, fine := [], coarse := [], ntc := [], bleed := 0, cmp := 0, owWire := 0, filter := 0
    owLo := 0, owHi := 0, limitOv := 0, limitUv := 0, wdt := 0, configCrc := 0 }

/-- Group numbers of a pod, from 1 over the string. -/
def groupNo (a k : Nat) : Nat := 16 * (a - 1) + k + 1

/-- The group lies next to a wire of its pod that is declared open (R84). -/
def Mach.groupInvalid (m : Mach) (g : Nat) : Bool :=
  let a := (g - 1) / 16 + 1
  let k := (g - 1) % 16 + 1
  let o := (aget m.chain.ow a {}).opened
  o.contains (k - 1) || o.contains k

/-- A group is excluded from the plausibility rule (R78). -/
def Mach.plausExcluded (m : Mach) (p : SweepPod) (g : Nat) : Bool :=
  p.missing || m.groupInvalid g || p.data.flag 14 || p.data.flag 13

/-- One compared sweep of the plausibility rule (R78); fine in 10 µV, coarse in 5 mV. The flag says whether PLAUSIBILITY rose. -/
def Plaus.step (q : Plaus) (fine : Int) (coarse : Nat) : Plaus × Bool :=
  let d := (fine - 500 * coarse).natAbs
  let bad := if 2500 < d then q.bad + 1 else 0
  let good := if d ≤ 2000 then q.good + 1 else 0
  if q.set then ({ bad := bad, good := if 100 ≤ good then 0 else good, set := decide (good < 100) }, false)
  else ({ bad := bad, good := good, set := decide (2 ≤ bad) }, decide (2 ≤ bad))

/-- The plausibility rule over a sweep: the new table and how many groups rose. -/
def Mach.plausSweep (m : Mach) (sw : List (Nat × SweepPod)) (t : List (Nat × Plaus)) : List (Nat × Plaus) × Nat :=
  sw.foldl (fun acc p => (List.range 16).foldl (fun acc k =>
    let g := groupNo p.1 k
    if m.plausExcluded p.2 g then acc
    else
      let (q, up) := (aget acc.1 g {}).step (nth p.2.data.fine k 0) (nth p.2.data.coarse k 0)
      (aput acc.1 g q, if up then acc.2 + 1 else acc.2)) acc) (t, 0)

/-- The sweep as it stands in both memories: its replies, absence records in place of those that have not come. -/
def Mach.closedSweep (m : Mach) : List (Nat × SweepPod) :=
  m.podAddrs.map (fun a => (a, (aget? m.chain.cur a).getD
    { missing := true, port := 1, data := absentReply (m.chain.epoch % 65536) }))

/-- The sweep in progress is complete (R16, R73 step 10, R75): both memories hold every reply or absence record, Walnut has it
delivered, Almond judges plausibility on it (R78), and in BOOT step 8 is done (R54). -/
def Mach.deliver (m : Mach) : Mach :=
  let sw := m.closedSweep
  let (pl, rises) := m.plausSweep sw m.chain.plausA
  let a := m.updChain (fun c => { c with
    shared := sw, walnut := sw, walnutEpoch := c.epoch, delivered := true, plausA := pl })
  (a.each (List.range rises) (fun _ x => x.countSource .chainPlausibility [])).ladderEight

/-- The first valid copy of a pod's reply is written to both memories (R16), checked by Walnut and judged; with the last one
the sweep is complete. -/
def Mach.keepReply (m : Mach) (a port : Nat) (r : PodReply) : Mach :=
  let b := m.putReply a port r (aget m.chain.ow a {})
  b.when b.allHeld Mach.deliver

/-- The CH1 copy replaces a CH2 copy that came first and differs (R67): its readings, its echo and its open-wire result count,
in a sweep that is already complete too. -/
def Mach.replaceReply (m : Mach) (a : Nat) (r : PodReply) : Mach :=
  let b := m.putReply a 1 r (aget m.chain.owBefore a (aget m.chain.ow a {}))
  if m.chain.delivered then b.updChain (fun c => { c with
    shared := aput c.shared a { missing := false, port := 1, data := r }
    walnut := aput c.walnut a { missing := false, port := 1, data := r } })
  else b

/-- A valid reply of the sweep in progress: the second copy is only compared; where they differ the CH1 copy is kept. -/
def Mach.takeReply (m : Mach) (a port : Nat) (r : PodReply) : Mach :=
  if !m.replyFits a r then m
  else match aget? m.chain.cur a with
  | none => m.keepReply a port r
  | some old =>
    if old.data = r then m
    else
      let b := m.updChain (fun c => { c with nMismatch := satInc c.nMismatch })
      if port = 1 && old.port != 1 then b.replaceReply a r else b

/-- A DATA reply arrives at a port. One that R66 discards is counted; a valid one goes on over the pair link, whichever copy
it is (R89). -/
def Mach.dataReply (m : Mach) (a port : Nat) (crcOk : Bool) (r : PodReply) : Mach :=
  let b := m.countEvent 0x0601 1
  if crcOk then (b.when (m.paired && m.replyFits a r) (fun x => x.emit (.pairReply a r))).takeReply a port r
  else b.countDiscards (if port = 1 then (1, 0) else (0, 1))

def execDataReply (a port : Nat) (crcOk : Bool) (r : PodReply) (s : State) : Host.Outcome State Fault Refusal :=
  onProc (fun m => m.dataReply a port crcOk r) s

/-- A pod's reply that the partner forwards enters through CQ2 (R64, R89); Walnut checks its CRC. -/
def Mach.replyRelay (m : Mach) (a : Nat) (crcOk : Bool) (r : PodReply) : Mach :=
  if m.paired && crcOk then m.takeReply a 2 r else m

def execChainReplyRelay (a : Nat) (crcOk : Bool) (r : PodReply) (s : State) : Host.Outcome State Fault Refusal :=
  onProc (fun m => m.replyRelay a crcOk r) s

/-- The flag byte of a group of the last closed sweep (R97). -/
def Mach.groupFlags (m : Mach) (g : Nat) : Nat :=
  let a := (g - 1) / 16 + 1
  let k := (g - 1) % 16
  match aget? m.chain.shared a with
  | none => 0
  | some p =>
    bitIf 6 (bit p.data.cmp k) + bitIf 5 (p.data.flag 13) + bitIf 4 (p.data.flag 14) + bitIf 3 p.missing
      + bitIf 2 (m.groupInvalid g) + bitIf 1 (m.groupInvalid g) + bitIf 0 (aget m.chain.plausA g {}).set

/-! ## Closing a sweep (R75, R80, R87, R125) -/

/-- The break segment of a sweep (R87) and whether both ends leave a pod unanswered: the segment before the first pod that
the master's port does not answer. -/
def breakOf (masterPort : Nat) (sw : List (Nat × SweepPod)) : Nat × Bool :=
  let near := sw.takeWhile (fun p => !p.2.missing && p.2.port == masterPort)
  (near.length, sw.any (fun p => p.2.missing))

/-- A sweep in which a pod latched on a reverse SAMPLE locates a break; the first one is logged in Seedbank. -/
def Mach.locateBreak (m : Mach) (sw : List (Nat × SweepPod)) : Mach :=
  if !m.chain.reversedCur then m
  else
    let (s, multi) := breakOf m.masterPort sw
    (m.updChain (fun c => { c with brk := some s, multiple := multi })).when (m.chain.brk.isNone)
      (fun x => x.record 0x0501 s (u8 1 ++ u8 (ofBool multi)))

/-- Consecutive sweeps in which each pod was MISSING (R80). -/
def Mach.missRuns (m : Mach) (sw : List (Nat × SweepPod)) : List (Nat × Nat) :=
  sw.foldl (fun t p => if p.2.missing && !m.chain.absent.contains p.1 then aupd t p.1 0 (fun n => n + 1) else adel t p.1)
    m.chain.missRun

/-- SWEEP_STALE for the pods missing in exactly 10 sweeps now (R80). -/
def Mach.sweepStale (m : Mach) : Mach :=
  m.when (m.chain.missRun.any (fun p => p.2 == 10)) (fun x => x.raiseFault .sweepStale [])

/-- Groups and pods whose results of the running bin the closed sweep, one of the bin's window, rejects (R125). -/
def Mach.binSweep (m : Mach) (sw : List (Nat × SweepPod)) : Mach :=
  match m.imp.run with
  | none => m
  | some r =>
    if m.chain.epoch < r.start + leadEpochs r.bin then m else
    let bad := sw.flatMap (fun p => ((List.range 16).map (groupNo p.1)).filter (fun g =>
      p.2.missing || p.2.data.flag 14 || m.groupInvalid g || (aget m.chain.plausA g {}).set))
    let pods := if m.chain.reversedCur && m.chain.skew != 0 then
      (sw.filter (fun p => p.2.port != m.masterPort && !p.2.missing)).map (fun p => p.1) else []
    m.updImp (fun i => { i with run := some { r with
      rejected := bad.foldl insNat r.rejected, rejectedPods := pods.foldl insNat r.rejectedPods } })

/-- The NTC readings of a sweep join the sums of a running baseline (R136): per pod, sum and count. -/
def Mach.baselineSweep (m : Mach) (sw : List (Nat × SweepPod)) : Mach :=
  if m.imp.blStage = 0 then m
  else m.updImp (fun i => { i with
    blNtc := sw.foldl (fun l q => if q.2.missing then l else aupd l q.1 (0, 0) (fun t =>
      (t.1 + q.2.data.ntc.foldl (fun a x => a + x) 0, t.2 + q.2.data.ntc.length))) i.blNtc })

/-- The chain status word, 0x2107.00 (R96). -/
def Mach.chainStatus (m : Mach) : Nat :=
  bitIf 7 m.chain.multiple + bitIf 6 m.chain.takenOver + bitIf 5 m.chain.brk.isSome + bitIf 4 m.chain.reversed
    + bitIf 3 m.chain.incomplete + bitIf 2 m.chain.closed + bitIf 1 m.chain.loopBroken + bitIf 0 m.chain.loopSource

/-- Sum of the fine group voltages of a complete sweep in 10 mV (R108). -/
def stringSum (sw : List (Nat × SweepPod)) : Rat :=
  (sw.foldl (fun (a : Int) p => a + p.2.data.fine.foldl (· + ·) 0) 0 : Int) / 1000

/-- String voltage at T against the sum of the fine group voltages, on a sweep without INVALID or MISSING groups: a
difference beyond 10 V + 3 % of the string voltage on two consecutive such sweeps is reported (R108). -/
def Mach.stringSumCheck (m : Mach) (sw : List (Nat × SweepPod)) : Mach :=
  if sw.isEmpty || sw.any (fun p => p.2.missing) || m.groupsInvalid then m
  else
    let v : Rat := (m.meas.latchStr : Rat)
    let run := if 1000 + 3 * v / 100 < absQ (v - stringSum sw) then m.meas.sumRun + 1 else 0
    if 2 ≤ run then
      (m.updMeas (fun x => { x with sumRun := 0, nSum := satInc x.nSum })).countSource .stringSumMismatch []
    else m.updMeas (fun x => { x with sumRun := run })

/-- At T + 9.5 ms the sweep closes. -/
def Mach.sweepClose (m : Mach) : Mach :=
  if !m.chain.inSweep then m
  else
    let sw := m.closedSweep
    let missing := (sw.filter (fun p => p.2.missing)).length
    let a := (m.locateBreak sw).when (!m.chain.delivered) Mach.deliver
    let b := a.updChain (fun c => { c with
      lastEpoch := c.epoch, inSweep := false, incomplete := missing != 0, reversed := c.reversedCur
      nAbsence := satAdd c.nAbsence missing, missRun := a.missRuns sw })
    let d := (((b.sweepStale.stringSumCheck sw).binSweep sw).baselineSweep sw).updMeas (fun x => { x with iLatch := x.latchI })
    d.trace 0x06 2 (u32 m.chain.epoch ++ u8 d.chainStatus)

def execSweepClose (s : State) : Host.Outcome State Fault Refusal := onProc Mach.sweepClose s

/-! ## The line between two modules (R90) -/

/-- Module B takes the line over: its partner is missing and two consecutive slow epochs brought no SAMPLE. -/
def Mach.lineTakeover (m : Mach) : Mach :=
  if m.isB && m.partnerMissing && decide (2 ≤ m.chain.noSample) then
    m.updChain (fun c => { c with takenOver := true, noSample := 0 })
  else m

def execLineTakeover (s : State) : Host.Outcome State Fault Refusal := onProc Mach.lineTakeover s

/-- Mastership may return to A (R90): once A has left BOOT, never during a located break. -/
def Mach.returnOk (m : Mach) : Bool :=
  m.paired && m.chain.takenOver && (if m.isA then m.mode.mode != .boot else !m.partnerMissing) && m.chain.brk.isNone

/-- Mastership is A's again. -/
def Mach.giveBack (m : Mach) : Mach :=
  (m.updChain (fun c => { c with takenOver := false, noSample := 0 })).updPair (fun p => { p with masterAt := none })

/-- The two modules agree over the pair link on the slow-epoch boundary at which mastership returns to A (R90): the one whose
epoch is named, at once where it is the running one. -/
def Mach.lineReturn (m : Mach) (epoch : Nat) : Mach :=
  if !m.returnOk then m
  else if epoch ≤ m.slowEpoch then m.giveBack
  else m.updPair (fun p => { p with masterAt := some epoch })

def execLineMastershipReturn (epoch : Nat) (s : State) : Host.Outcome State Fault Refusal :=
  onProc (fun m => m.lineReturn epoch) s

/-- At the agreed boundary mastership returns; an agreement whose conditions are gone lapses. -/
def Mach.masterEpoch (m : Mach) : Mach :=
  match m.pair.masterAt with
  | none => m
  | some e =>
    if m.slowEpoch < e then m
    else if m.returnOk then m.giveBack
    else m.updPair (fun p => { p with masterAt := none })

/-! ## Each slow epoch -/

/-- 1 ms after a latch a pod applies the masks it has received (R76), unless its watchdog is expired (R94). -/
def PodUnit.latchStep (p : PodUnit) (now id : Nat) : PodUnit :=
  let q := p.timeOut now
  if q.expired || q.latched != some id then q else { q with masks := q.waiting }

/-- Pods whose watchdog has run out stop bleeding, whatever the module does (R94, R171). -/
def Mach.podsExpire (m : Mach) : Mach :=
  m.updChain (fun c => { c with pods := c.pods.map (fun p => (p.1, p.2.timeOut m.now)) })

/-- What a slow-epoch boundary does to the chain: pods that latched apply their masks, a listener counts the epochs whose
SAMPLE has not reached it (R90, R516), mastership returns where that was agreed. -/
def Mach.chainEpoch (m : Mach) : Mach :=
  (m.updChain (fun c => { c with
    pods := c.pods.map (fun p => (p.1, p.2.latchStep m.now (m.slowEpoch % 65536)))
    noSample := if !m.isMaster && m.sweeps m.slowEpoch && c.sampleSeen != some m.slowEpoch then c.noSample + 1
                else c.noSample })).masterEpoch

/-! ## Commissioning step C4 (R57) -/

/-- Every wire of every pod has been tested since C4 began. -/
def Mach.rotationDone (m : Mach) : Bool :=
  !m.podAddrs.isEmpty && m.podAddrs.all (fun a => (List.range 17).all (fun w => (aget m.chain.ow a {}).tested.contains w))

/-- Some group is next to an open wire or carries PLAUSIBILITY. -/
def Mach.c4Bad (m : Mach) : Bool := m.groupsInvalid || m.chain.plausA.any (fun p => p.2.set)

/-- C4 is judged: any OPEN_WIRE or PLAUSIBILITY fails the step; after one rotation over every wire and one insulation reading
C5 follows. -/
def Mach.c4Check (m : Mach) : Mach :=
  if !m.stepActive 4 then m
  else if m.c4Bad then m.setStep 4 true
  else if m.rotationDone && m.iso.c4Reading then m.enterC5
  else m

def execCommissionC4Check (s : State) : Host.Outcome State Fault Refusal := onProc Mach.c4Check s

end Sys2Proof.Machine
end

