-- ==== Sys2Proof/Machine/Measurement.lean ====
section
/-! DEFINITION. Meanings of the commands of chapter 4, String Current, Voltage and Insulation (R98 to R118), with Walnut's
SF-OC evaluation on each sample (R107, R318). -/

namespace Sys2Proof.Machine

/-! ## The current the Walnut channel uses (R107) and SF-OC -/

/-- A sample lies beyond the limit in discharge, and in charge. -/
def beyondOc (p : Profile) (i : Option Int) : Bool × Bool :=
  match i with
  | none => (true, true)
  | some x => (decide (p.ocLimit < x), decide (x < -p.ocLimit))

/-- A demand of Walnut ends once its own cause has gone and no partner demand stands under the same bit (R343). -/
def Mach.dropDemand (m : Mach) (func : Nat) (cause : Bool) : Mach :=
  if cause || (decide (func < 16) && bit m.saf.demP func) then m else m.endDemand 0 func

/-- Walnut evaluates SF-OC on a sample (R318): 50 consecutive samples beyond a limit demand TRIP; the demand stands while
the condition stands and during any hold (R341). -/
def Mach.sfOc (m : Mach) (i hall : Int) : Mach :=
  match m.prof with
  | none => m
  | some p =>
    if !m.saf.walnutLive then m
    else
      let x := m.walnutI i hall
      let b := beyondOc p x
      let a := m.updSaf (fun s => { s with
        runOcDis := if b.1 then s.runOcDis + 1 else 0, runOcChg := if b.2 then s.runOcChg + 1 else 0 })
      if 50 ≤ a.saf.runOcDis || 50 ≤ a.saf.runOcChg then a.demand 0 4 .trip (some .lockout) (x.getD 0)
      else a.dropDemand 4 (b.1 || b.2 || a.holdActive)

/-! ## The isolated stream (R99, R101, R104) -/

/-- Append to the last 64 samples. -/
def push64 (l : List Int) (x : Int) : List Int := (l ++ [x]).drop ((l.length + 1) - 64)

/-- The scale of the shunt path: its samples and counts assume 50 µΩ, 0x2204.00 holds the calibrated value (R100). -/
def Mach.shuntScale (m : Mach) : Rat := 50000 / (m.par 0x2204 0 : Rat)

/-- A shunt sample in 1 mA as the module scales it (R100, R101): saturated at ±2,000 A before. -/
def Mach.shuntI (m : Mach) (i : Int) : Int := Int.tdiv (max (-2000000) (min 2000000 i) * 50000) (m.par 0x2204 0)

/-- A charge of the section in 1 µC as the module scales it (R100). -/
def Mach.shuntQ (m : Mach) (q : Nat) : Nat := q * 50000 / m.par 0x2204 0

/-- Charge difference of a count since an earlier reading, modulo 2^64 (R102). -/
def countDiff (now old : Nat) : Nat := (now + 2 ^ 64 - old) % 2 ^ 64

/-- A counts frame carries the exact counts (R102, R103); the throughput takes their scaled increase, and keeps what lies
below 1 µC for the next one (R100, R160). -/
def Mach.takeCounts (m : Mach) : Mach :=
  let total := (m.meas.qd + m.meas.qc) % 2 ^ 64
  let more := countDiff total m.est.thrCounts * 50000 + m.est.thrRem
  (m.updMeas (fun x => { x with
    cntD := x.qd, cntC := x.qc, addD := 0, addC := 0, rxD := m.shuntQ x.qd, rxC := m.shuntQ x.qc, rxTime := m.fabTime })).updEst
    (fun e => { e with
      throughput := (e.throughput + more / m.par 0x2204 0) % 2 ^ 64, thrRem := more % m.par 0x2204 0, thrCounts := total })

/-- The reference phase φ_k in turns, a time in ns after the latch at which the lead-in starts: f_k = 0.05 Hz × 2^k (R119,
R121). -/
def binTurns (k : Nat) (t : Int) : Rat := (t : Rat) * ((2 ^ k : Nat) : Rat) / 20000000000

/-- A sample joins a half's sum of i e^(−jφ) (R129). -/
def corrAdd (s : Int × Int × Nat) (i : Int) (turns : Rat) : Int × Int × Nat :=
  (s.1 + i * cosFx turns / 1000000000000, s.2.1 - i * cosFx (turns - 1 / 4) / 1000000000000, s.2.2 + 1)

/-- The module's own shunt correlation (R104, R129): a sample of the running bin's window joins the sum of its half, by the
fabric time that the sample carries. -/
def BinRun.sample (r : BinRun) (t : Nat) (i : Int) : BinRun :=
  let begins := 10000000 * (r.start + leadEpochs r.bin)
  let half := 5000000 * windowEpochs r.bin
  let turns := binTurns r.bin ((t : Int) - 10000000 * r.start)
  if t < begins || begins + 2 * half ≤ t then r
  else if t < begins + half then { r with sumA := corrAdd r.sumA i turns }
  else { r with sumB := corrAdd r.sumB i turns }

/-- The slow epoch whose latch instant lies in the 1 µs interval of a sample with a given midpoint (R104). -/
def latchOf (t : Nat) : Option Nat :=
  let e := (t + 499) / 10000000
  if t ≤ 10000000 * e + 500 then some e else none

/-- A Hall voltage in µV as the 16-bit converter of ±10 V reads it, in mA by the active profile's scale in A per V (R105). -/
def Mach.hallMa (m : Mach) (uv : Int) : Int :=
  let code := max (-32768) (min 32767 (uv * 65536 / 20000000))
  match m.prof with
  | none => 0
  | some p => Int.tdiv (code * 20000 * p.hallScale) 65536

/-- The Hall input is sampled (R105, R106): its value and how long it has been outside ±10.4 V, or back inside. -/
def Meas.hall (x : Meas) (t : Nat) (uv ma : Int) : Meas :=
  let off := decide (10400000 < uv.natAbs)
  { x with
    sHall := ma, accHall := x.accHall + ma, accHallN := x.accHallN + 1, hallT := t
    hallOut := if off then some (x.hallOut.getD t) else none
    hallIn := if off then none else if x.hallOut.isSome then some t else x.hallIn }

/-- A valid shunt sample joins what the module forms of the stream (R101, R102, R104, R108). `raw` is unscaled, cut at
±2,000 A. -/
def Meas.shunt (x : Meas) (now : Nat) (raw cur : Int) (str bus : Nat) (ovr latch : Bool) : Meas :=
  { x with
    sShunt := cur, sStr := str, sBus := bus, accShunt := x.accShunt + cur, accStr := x.accStr + str, accBus := x.accBus + bus
    accN := x.accN + 1, overNow := x.overNow || ovr, iHist := push64 x.iHist cur, lastFrame := now
    addD := if 0 < raw then x.addD + raw.natAbs else x.addD, addC := if 0 < raw then x.addC else x.addC + raw.natAbs
    latchI := if latch then cur else x.latchI, latchStr := if latch then str else x.latchStr
    gapTo := if x.gapFrom.isSome && x.gapTo.isNone then some now else x.gapTo
    lostRun := 0, goodRun := x.goodRun + 1 }

/-- A tick's frame (R99): valid, it brings the samples of shunt current and voltages with the fabric time t of their midpoint,
OVERRANGE and now and then the counts; missing or damaged, it is a class C fault. The Hall input lies on the low-voltage side
and is sampled all the same (R105); its operand is in µV. -/
def Mach.streamFrame (m : Mach) (ok ovr : Bool) (t : Nat) (i hall : Int) (str bus : Nat) (counts : Bool) : Mach :=
  let ma := m.hallMa hall
  let a := m.updMeas (fun x => x.hall t hall ma)
  let cur := m.shuntI i
  let raw := max (-2000000) (min 2000000 i)
  if ok then
    let b := a.updMeas (fun x => x.shunt ((t : Int) - m.fabBase).toNat raw cur str bus (ovr || decide (2000000 ≤ i.natAbs))
      (latchOf t).isSome)
    let c := b.updImp (fun p => { p with run := match p.run with
      | none => none
      | some r => some (r.sample t cur) })
    (c.when counts Mach.takeCounts).sfOc cur ma
  else
    let b := (a.updMeas (fun x => { x with lostRun := x.lostRun + 1, goodRun := 0, nLost := satInc x.nLost })).raiseC
      .streamFrame []
    -- without a shunt sample nothing but the rule of STREAM_LOST gives the channel a current (R107)
    b.when b.meas.streamLost (fun x => x.sfOc x.meas.sShunt ma)

def execStreamFrame (ok ovr : Bool) (t : Nat) (i hall : Int) (str bus : Nat) (counts : Bool) (s : State) :
    Host.Outcome State Fault Refusal :=
  onProc (fun m => m.streamFrame ok ovr t i hall str bus counts) s

/-- Three consecutive frames lost (R99). -/
def Mach.streamLoss (m : Mach) : Mach :=
  if decide (3 ≤ m.meas.lostRun) && !m.meas.streamLost then
    (m.updMeas (fun x => { x with streamLost := true, goodRun := 0 })).raiseFault .isolatedStreamLoss []
  else m

def execIsolatedStreamLoss (s : State) : Host.Outcome State Fault Refusal := onProc Mach.streamLoss s

/-- 1,000 consecutive valid frames have arrived (R99). -/
def Mach.streamRecovered (m : Mach) : Mach :=
  if m.meas.streamLost && decide (1000 ≤ m.meas.goodRun) then m.updMeas (fun x => { x with streamLost := false }) else m

def execStreamRecovered (s : State) : Host.Outcome State Fault Refusal := onProc Mach.streamRecovered s

/-! ## The coulomb converter (R101 to R103) -/

/-- One tick's sample joins the discharge or the charge count, 1 nC per mA, in the isolated section (R102); it saturates
at ±2,000 A (R101). -/
def Meas.charge (x : Meas) (i : Int) : Meas :=
  let v := (min i.natAbs 2000000)
  if 0 < i then { x with qd := (x.qd + (x.subD + v) / 1000) % 2 ^ 64, subD := (x.subD + v) % 1000 }
  else { x with qc := (x.qc + (x.subC + v) / 1000) % 2 ^ 64, subC := (x.subC + v) % 1000 }

def execChargeSample (i : Int) (s : State) : Host.Outcome State Fault Refusal := onPowered (fun m => m.updMeas (fun x => x.charge i)) s

/-- The 20 MHz branch has been missing for 1 µs (R103). -/
def Mach.sectionHoldover (m : Mach) : Mach :=
  if m.meas.ownOsc then m
  else m.updMeas (fun x => { x with ownOsc := true, oscFrom := m.now, oscQ := x.qd + x.qc })

def execSectionClockHoldover (s : State) : Host.Outcome State Fault Refusal := onPowered Mach.sectionHoldover s

/-- Every group's bound grows, up to 100 % (R149, R154). -/
def Mach.growBounds (m : Mach) (f : GroupEst → Rat) : Mach :=
  m.updEst (fun e => { e with
    groups := e.groups.map (fun p => (p.1, { p.2 with u := min 100 (p.2.u + f p.2) }))
    bridged := e.bridged || e.running })

/-- A run on the section's own oscillator is bridged (R154): 0.5 % of its charge joins every bound. -/
def Mach.bridgeOsc (m : Mach) (dq : Nat) : Mach := m.growBounds (fun g => qdiv (m.shuntScale * (dq : Rat) / 2) g.c)

/-- The branch has been present for 100 µs (R103), or a restart of the section cuts its run short: the holdover is reported and
bridged (R154), at the release of the processor domain where that is held. -/
def Mach.sectionReturn (m : Mach) : Mach :=
  if !m.meas.ownOsc then m
  else
    let dq : Nat := m.meas.qd + m.meas.qc - m.meas.oscQ
    let a := m.updMeas (fun x => { x with ownOsc := false, oscLast := m.now - x.oscFrom, oscEnd := some m.now })
    if m.clk.procRunning then a.bridgeOsc dq
    else a.updMeas (fun x => { x with heldOsc := some (x.oscLast, dq) })

def execSectionClockReturn (s : State) : Host.Outcome State Fault Refusal := onPowered Mach.sectionReturn s

/-- A run on the own oscillator that ended while the processor domain was held is reported and bridged at its release. -/
def Mach.bridgeHeld (m : Mach) : Mach :=
  match m.meas.heldOsc with
  | none => m
  | some p => (m.updMeas (fun x => { x with oscLast := p.1, heldOsc := none })).bridgeOsc p.2

/-- The Hall path bridges a section restart (R154): state of charge by the signed Hall means, the bound by their
magnitudes, the time available and the rest of the gap as time lost. With a partner in service its state is imported instead
(R156); a lead bridges too, and the state replaces its own if one comes (log entry 163). -/
def Mach.bridgeRestart (m : Mach) (gap : Nat) : Mach :=
  let imax : Rat := match m.prof with
    | none => 0
    | some p => (p.ocLimit : Rat)
  let x := m.meas
  if m.partnerCounts && !m.isMaster then m.updEst (fun e => { e with bridged := e.bridged || e.running, importDue := e.running })
  else
    let q : Rat := (x.gapHall : Rat) / 1000000
    let abs : Rat := (x.gapAbs : Rat) / 1000000
    let avail : Rat := (x.gapAvail : Rat) / 1000000
    let lost : Rat := ((gap - x.gapAvail : Nat) : Rat) / 1000000
    let a := m.updEst (fun e => { e with
      importDue := m.partnerCounts && e.running
      groups := e.groups.map (fun p => (p.1, { p.2 with s := p.2.s - qdiv (100 * q) p.2.c, net := p.2.net + roundQ q }))
      throughput := (e.throughput + (roundQ abs).toNat) % 2 ^ 64 })
    a.growBounds (fun g => qdiv (100 * (abs / 200 + 1000 * avail + imax * lost)) g.c)

/-- A section restart is reported and bridged: CHARGE_GAP is recorded with the interval between the last frame before it and
the first after it (R103, R154). -/
def Mach.bridgeGap (m : Mach) (gap : Nat) : Mach :=
  let a := (m.updMeas (fun x => { x with restarted := true, chargeGap := true, gap := gap })).updEst (fun e => { e with
    nBridged := satInc e.nBridged })
  ((a.bridgeRestart gap).record 0x0502 0 (u32 (gap / 1000000))).updMeas (fun x => { x with
    gapHall := 0, gapAbs := 0, gapAvail := 0, gapFrom := none, gapTo := none })

/-- The section's charge that the model has not used yet, net in nC (R146): the last counts with the samples since. -/
def Mach.unused (m : Mach) : Int :=
  let x := m.meas
  let half : Int := 500 * 2 ^ 64
  let d := fun (cnt add used : Nat) => (((1000 * cnt + add : Nat) : Int) - used + half) % (2 * half) - half
  d x.cntD x.addD m.est.usedD - d x.cntC x.addC m.est.usedC

/-- The section's charge so far is used (R146). -/
def Est.use (e : Est) (x : Meas) : Est :=
  { e with usedD := 1000 * x.cntD + x.addD, usedC := 1000 * x.cntC + x.addC, carry := 0 }

/-- The isolated section restarts (R103): counts from 0. What was counted up to the last frame stays for the model's next step;
the gap runs from that frame to the first one after. -/
def Mach.sectionRestart (m : Mach) : Mach :=
  let a := m.sectionReturn
  (a.updMeas (fun x => { x with
    qd := 0, qc := 0, subD := 0, subC := 0, cntD := 0, cntC := 0, addD := 0, addC := 0, rxD := 0, rxC := 0, rxTime := m.fabTime
    restarted := true, chargeGap := true, gapFrom := some (x.gapFrom.getD x.lastFrame), gapTo := none })).updEst (fun e => { e with
      carry := e.carry + a.unused, usedD := 0, usedC := 0, thrCounts := 0 })

def execSectionRestart (s : State) : Host.Outcome State Fault Refusal := onPowered Mach.sectionRestart s

/-! ## The Hall path (R105, R106) -/

/-- HALL_LOST (R106): the sensor supply is out of tolerance, or the input has been outside ±10.4 V for more than 1 ms. -/
def Mach.hallGone (m : Mach) (supply : Bool) : Mach :=
  let out := match m.meas.hallOut with
    | none => false
    | some t => decide (t + 1000000 < m.meas.hallT)
  (m.updMeas (fun x => { x with hallLost := x.hallLost || supply || out, hallSupply := x.hallSupply || supply })).noteDegraded

def execHallLost (supply : Bool) (s : State) : Host.Outcome State Fault Refusal := onProc (fun m => m.hallGone supply) s

/-- The sensor supply is in tolerance; after 1 s of the input back in range HALL_LOST clears (R106). -/
def Mach.hallBack (m : Mach) : Mach :=
  let back := match m.meas.hallIn with
    | none => m.meas.hallOut.isNone
    | some t => decide (t + second ≤ m.meas.hallT)
  (m.updMeas (fun x => { x with hallSupply := false, hallLost := x.hallLost && !back })).noteDegraded

def execHallRecovered (s : State) : Host.Outcome State Fault Refusal := onProc Mach.hallBack s

/-- Threshold of a current comparator line (R109): SH_OC_DIS and SH_OC_CHG the profile's limit in mA, SH_OVR 2,000 A, the Hall
lines the profile's HALL_TH in 0.1 mV. -/
def Profile.lineTh (p : Profile) (line : Nat) : Int :=
  if line < 2 then p.ocLimit else if line = 2 then 2000000 else p.hallTh

/-- A comparator's line after its input has changed (R109): asserted beyond the threshold in the line's direction (discharge
positive, R5; SH_OVR both ways), held down to 98 % of it. -/
def lineLevel (line : Nat) (old : Bool) (th x : Int) : Bool :=
  let y : Int := if line = 2 then x.natAbs else if line = 1 || line = 4 then -x else x
  if th < y then true else if y < th * 98 / 100 then false else old

/-- The input of a current comparator has changed (R109): SH_OC_DIS, SH_OC_CHG, SH_OVR in mA, HALL_OC_DIS, HALL_OC_CHG in
0.1 mV. -/
def Mach.comparator (m : Mach) (line : Nat) (x : Int) : Mach :=
  match m.prof with
  | none => m
  | some p =>
    if line < 5 then
      let a := m.updMeas (fun y => { y with
        lines := setBit y.lines line (lineLevel line (bit y.lines line) (p.lineTh line) x) })
      -- Foxglove's SF-OC demand stands while a line is asserted (R318, R341)
      a.when (a.meas.lines == 0) (fun y => y.endDemand 1 4)
    else m

def execCurrentComparator (line : Nat) (x : Int) (s : State) : Host.Outcome State Fault Refusal :=
  onPowered (fun m => m.comparator line x) s

/-- Whether the two means of an epoch disagree (R106). -/
def hallOff (iHall iShunt : Int) : Bool :=
  decide (20000 < (iHall - iShunt).natAbs) && decide (2 * iShunt.natAbs < 100 * (iHall - iShunt).natAbs)

/-- HALL_CHECK of a fast epoch (R106). -/
def Mach.hallCheck (m : Mach) : Mach :=
  if m.meas.hallLost || m.meas.streamLost then m
  else if hallOff m.meas.iHall m.meas.iShunt then
    let rise := !m.meas.hallDisagree && decide (10 ≤ m.meas.disRun + 1)
    let a := m.updMeas (fun x => { x with
      disRun := x.disRun + 1, agreeRun := 0, hallDisagree := x.hallDisagree || rise
      nHall := if rise then satInc x.nHall else x.nHall })
    a.when rise (fun y => y.countSource .hallPlausibility [])
  else m.updMeas (fun x => { x with
    disRun := 0, agreeRun := x.agreeRun + 1, hallDisagree := x.hallDisagree && decide (x.agreeRun + 1 < 1000) })

/-- The part of the fast epoch that ended which lies in a section gap, in ns (R154). -/
def Mach.gapPart (m : Mach) : Nat :=
  match m.meas.gapFrom with
  | none => 0
  | some a => min m.now (m.meas.gapTo.getD m.now) - max a (m.now - 1000000)

/-- The measurement at a fast-epoch boundary: means, OVERRANGE, the Hall integrals over a section gap and its bridge once a
frame has come (R154), the Hall check, the end of SECTION_CLOCK_HOLDOVER 60 s after a run (R118). -/
def Mach.measEpoch (m : Mach) : Mach :=
  let x := m.meas
  let iH := if x.accHallN = 0 then x.iHall else x.accHall / (x.accHallN : Int)
  let none_ := x.accN = 0
  let part := if x.accHallN = 0 || x.hallLost then 0 else m.gapPart
  let a := m.updMeas (fun y => { y with
    iShunt := if none_ then y.iShunt else y.accShunt / (y.accN : Int)
    iHall := iH
    vStr := if none_ then y.vStr else y.accStr / y.accN
    vBus := if none_ then y.vBus else y.accBus / y.accN
    accShunt := 0, accHall := 0, accStr := 0, accBus := 0, accN := 0, accHallN := 0
    overrange := y.overNow, overNow := false
    gapHall := y.gapHall + iH * part, gapAbs := y.gapAbs + iH.natAbs * part, gapAvail := y.gapAvail + part
    oscEnd := if m.elapsed? y.oscEnd (60 * second) then none else y.oscEnd })
  let b := match x.gapFrom, x.gapTo with
    | some f, some t => a.bridgeGap (t - f)
    | _, _ => a
  if none_ then b else b.hallCheck

/-! ## Insulation monitoring (R111 to R116) -/

/-- Lowest and highest section of the tie group of a section (R112): ties in force join i + 1 and i + 2. -/
def tieLowest (tie : Nat) : Nat → Nat
  | 0 => 0
  | 1 => 1
  | n + 2 => if bit tie n then tieLowest tie (n + 1) else n + 2

/-- Both string contactors read closed (R112, CONTACTORS_CLOSED). -/
def Mach.contactorsClosed (m : Mach) : Bool := (m.coil 0).fb && (m.coil 1).fb

/-- The lowest node address among the members that serve the module's string (R112); with none the string's own ID. -/
def Mach.servingNode (m : Mach) : Nat :=
  match (m.plant.members.filter (fun x => x.string == m.stringId)).map (fun x => x.addr) with
  | [] => m.stringId
  | a :: t => t.foldl min a

/-- GALVANIC_ID of a slow epoch (R112). -/
def Mach.galvanicId (m : Mach) : Nat :=
  if m.contactorsClosed then tieLowest m.iso.tie (m.par 0x2206 0) else 0x1000 + m.servingNode

/-- The module is eligible to inject (R113). -/
def Mach.eligible (m : Mach) : Bool :=
  m.plant.isMember && !m.inMode [.boot, .lockout] && !(m.mode.mode == .commission && decide (m.mode.commStep < 3))
    && !m.contactorsMove && m.iso.selfTest && m.iso.backoff.isNone

/-- Whether the slow view of an epoch is held and elected this module. -/
def Mach.electedIn (m : Mach) (e : Nat) : Bool := m.iso.views.any (fun v => v.1 == e && v.2)

/-- Injection restarts with its polarity sequence seeded by the node address (R114, R115). -/
def Iso.restart (i : Iso) (addr now : Nat) : Iso :=
  { i with seed := addr, prbs := 0, foreign := 0, stale := true, halfAt := some now }

/-- At slow epoch e + 5, elected in the views of e and e + 1 (R114). -/
def Mach.injStart (m : Mach) : Mach :=
  let n := m.slowEpoch
  if m.iso.state == .idle && m.eligible && decide (5 ≤ n) && m.electedIn (n - 5) && m.electedIn (n - 4) then
    m.updIso (fun i => { i.restart m.fab.addr m.now with state := .injecting })
  else m

def execInjectorStart (s : State) : Host.Outcome State Fault Refusal := onProc Mach.injStart s

/-- At slow epoch e + 4, not elected in the view of e or without it (R114). A module that injects no more raises no flags
(R116). -/
def Mach.injStop (m : Mach) : Mach :=
  if (m.iso.state == .injecting || m.iso.state == .paused) && !(decide (4 ≤ m.slowEpoch) && m.electedIn (m.slowEpoch - 4)) then
    m.updIso (fun i => { i with state := .idle, halfAt := none, alarm := false, warning := false, below := false, above := false })
  else m

def execInjectorStop (s : State) : Host.Outcome State Fault Refusal := onProc Mach.injStop s

/-- A reading of the injector (R111, R116): held in its range, the alarm and warning flags with their 1.25 hysteresis.
SF-ISO's reaction to ISO_ALARM is ALARM: no output and no mode (R315, R318). -/
def Mach.isoReading (m : Mach) (kOhm : Nat) : Mach :=
  let r := max 10 (min 10000 kOhm)
  let flag := fun (old : Bool) (lim : Nat) => if r < lim then true else if 5 * lim < 4 * r then false else old
  m.updIso (fun i => { i with
    reading := r, stale := false, below := decide (kOhm < 10), above := decide (10000 < kOhm), c4Reading := true
    alarm := flag i.alarm (m.par 0x2205 1), warning := flag i.warning (m.par 0x2205 0) })

/-- A half-period of 1 to 30 s ends (R111, R115): the current that does not correlate is compared with the current that does;
twice above 30 % it is a foreign injector. Otherwise a fitted reading, if there is one yet, is reported; one taken in a
half-period above 30 % is not (log entry 156). -/
def Mach.halfPeriod (m : Mach) (corr uncorr : Nat) (reading : Option Nat) : Mach :=
  if m.iso.state != .injecting || !m.elapsed? m.iso.halfAt second then m
  else
    let bad := decide (3 * corr < 10 * uncorr)
    if bad && decide (1 ≤ m.iso.foreign) then
      m.updIso (fun i => { i with
        conflict := true, state := .backoff, backoff := some m.now, foreign := 0, nConflict := satInc i.nConflict, halfAt := none
        alarm := false, warning := false, below := false, above := false })
    else
      let a := m.updIso (fun i => { i with
        prbs := i.prbs + 1, foreign := if bad then 1 else 0, conflict := i.conflict && bad
        halfLen := min (30 * second) (m.now - i.halfAt.getD m.now), halfAt := some m.now })
      match reading with
      | none => a
      | some r => if bad then a else a.isoReading r

def execInjectionHalfPeriod (corr uncorr : Nat) (reading : Option Nat) (s : State) : Host.Outcome State Fault Refusal :=
  onProc (fun m => m.halfPeriod corr uncorr reading) s

/-- The back-off of 60 s plus the node address × 100 ms has run (R115). -/
def Mach.backoffEnd (m : Mach) : Mach :=
  if m.elapsed? m.iso.backoff (60 * second + m.fab.addr * 100 * milli) then
    m.updIso (fun i => { i with backoff := none, state := if i.state == .backoff then .idle else i.state })
  else m

def execIsoBackoffEnd (s : State) : Host.Outcome State Fault Refusal := onProc Mach.backoffEnd s

/-- Measurement status, 0x2208.00 (R118). -/
def Mach.measStatus (m : Mach) : Nat :=
  bitIf 14 (m.meas.ownOsc || m.meas.oscEnd.isSome) + bitIf 13 m.iso.stale + bitIf 12 m.iso.conflict + bitIf 11 m.iso.above
    + bitIf 10 m.iso.below + bitIf 9 m.iso.alarm + bitIf 8 m.iso.warning + bitIf 7 m.meas.restarted
    + bitIf 6 m.meas.chargeGap + bitIf 5 m.meas.streamLost + bitIf 4 m.meas.hallLost + bitIf 3 m.meas.hallDisagree
    + bitIf 2 m.meas.overrange + bitIf 1 m.contactorsClosed + bitIf 0 (m.iso.state == .injecting)

end Sys2Proof.Machine
end

