-- ==== Sys2Proof/Machine/Protection.lean ====
section
/-! DEFINITION. Meanings of the commands of chapter 13, Protection and Safety Functions (R313 to R348), and of the alarm
loop (R91 to R93). -/

namespace Sys2Proof.Machine

/-! ## The alarm loop (R92, R93, R319) -/

/-- Foxglove declares the loop broken (R93): DISCONNECT into SAFE_HOLD and ALARM_LOOP_BROKEN (R319). -/
def Mach.loopBreak (m : Mach) : Mach :=
  if m.chain.loopBroken then m
  else ((m.updChain (fun c => { c with loopBroken := true })).raiseFault .alarmLoopBroken []).demand 1 13 .disconnect
    (some .safeHold) 0

def execAlarmLoopBroken (s : State) : Host.Outcome State Fault Refusal := onPowered Mach.loopBreak s

/-- The loop current has returned within 6 to 14 mA (R93). -/
def Mach.loopRestored (m : Mach) : Mach :=
  (m.updChain (fun c => { c with loopBroken := false })).endDemand 1 13

def execAlarmLoopRestored (s : State) : Host.Outcome State Fault Refusal := onFox Mach.loopRestored s

/-- Role B takes SOURCE (R92): the heartbeat was lost after being seen, or none has been seen for 10 s since power-on. -/
def Mach.takeSource (m : Mach) : Mach :=
  if m.isB && (if m.pair.hbSeen then !m.pair.hbPresent else m.elapsed 0 (10 * second)) then
    m.updChain (fun c => { c with loopSource := true })
  else m

def execLoopSourceTakeover (s : State) : Host.Outcome State Fault Refusal := onPowered Mach.takeSource s

/-! ## Inputs as sampled (R314, R331 to R333, R337 to R339) -/

/-- The input's own cause for a demand stands: it is low or carries a test fault. -/
def Mach.siCause (m : Mach) (k : Nat) : Bool :=
  let i := nth m.saf.si k {}
  i.lowSince.isSome || i.testFault

/-- The inputs of a function code. -/
def siOf (func : Nat) : List Nat := if func = 5 then [0, 1] else if 6 ≤ func && func ≤ 11 then [func - 4] else []

/-- Demands of the inputs end in both channels once no input of the function gives a cause. -/
def Mach.siEnds (m : Mach) : Mach :=
  m.each [5, 6, 7, 8, 9, 10, 11] (fun f x =>
    if (siOf f).any x.siCause then x else (x.dropDemand f false).endDemand 1 f)

/-- One sample of a safety input. -/
def Mach.sampleSi (m : Mach) (high : Nat) (k : Nat) : Mach :=
  let i := nth m.saf.si k {}
  let up := bit high k
  let held := match i.lowSince with
    | none => none
    | some t => if up && k == 6 && !m.sw3On 4 && m.elapsed t (max (m.qualify 6) 1000000) && !bit m.saf.demW 10 then
        some (m.now - t) else none
  m.updSaf (fun s => { s with
    si := updNth s.si k (fun j => { j with
      lowSince := if up then none else match j.lowSince with
        | none => some m.now
        | some t => some t })
    si6Low := match held with
      | none => s.si6Low
      | some d => some d })

/-- What follows the samples of SI0 and SI1 (R332): how long they disagree, and how far a discrepancy may be cleared. -/
def Mach.sampleEstop (m : Mach) : Mach :=
  let a := (nth m.saf.si 0 {}).lowSince.isSome
  let b := (nth m.saf.si 1 {}).lowSince.isSome
  m.updSaf (fun s => { s with
    disagree := if a == b then none else match s.disagree with
      | none => some m.now
      | some t => some t
    discrClear := if s.discrClear = 0 && a && b then 1 else if s.discrClear = 1 && !a && !b then 2 else s.discrClear })

/-- One sample of a contactor's feedback and coil node (R339). -/
def Coil.sample (c : Coil) (node fb : Bool) (now : Nat) : Coil :=
  { c with
    node := node, fb := fb
    nodeAt := if c.node = node then c.nodeAt else now
    fbAt := if c.fb = fb then c.fbAt else now
    picked := if node && fb then true else if !node && !(c.wSw && c.fSw) then false else c.picked
    welded := c.welded && fb && !node }

/-- The J1 inputs are sampled (R314): safety inputs by level, contactor feedback and coil nodes; the contactor sequences
of PRECHARGE (R337) and of an opening (R338) follow the feedback. -/
def Mach.inputSample (m : Mach) (si fb node : Nat) : Mach :=
  let a := (m.each (List.range 8) (fun k x => x.sampleSi si k)).sampleEstop
  let b := (a.each [0, 1, 2] (fun k x => x.updSaf (fun s => { s with
    coils := updNth s.coils k (fun c => c.sample (bit node k) (bit fb k) m.now) }))).siEnds
  b.when (m.clk.procRunning && m.saf.walnutLive) (fun x => (x.dropDemand 15
    (x.saf.coils.any (fun c => c.node && c.openedAt.isSome))).preStep.openStep)

def execInputSample (si fb node : Nat) (s : State) : Host.Outcome State Fault Refusal :=
  onPowered (fun m => m.inputSample si fb node) s

/-- The supply of a safety input (R329). -/
def supplyOf (k : Nat) : Nat := nth [0, 1, 2, 3, 2, 3, 2, 3] k 0

/-- The end of a frame of test pulses for one input (R331): two consecutive frames without a pulse of the own supply, or
with a foreign one, are a test fault, and the input is treated as demanding. -/
def Mach.frameEnd (m : Mach) (k : Nat) : Mach :=
  let i := nth m.saf.si k {}
  if m.isOssd k then m.updSaf (fun s => { s with
    si := updNth s.si k (fun j => { j with missing := 0, foreign := 0, lackOwn := false, sawForeign := false }) })
  else
    let mis := if i.lackOwn then i.missing + 1 else 0
    let frn := if i.sawForeign then i.foreign + 1 else 0
    let bad := decide (2 ≤ mis) || decide (2 ≤ frn)
    let a := m.updSaf (fun s => { s with
      si := updNth s.si k (fun j => { j with
        missing := mis, foreign := frn, lackOwn := false, sawForeign := false, testFault := j.testFault || bad })
      nSiFail := if bad && !i.testFault then satInc s.nSiFail else s.nSiFail })
    let b := a.when (bad && !i.testFault) (fun x => x.raiseFault .siTestFail (u8 k))
    b.when (bad || i.testFault) (fun x => (x.siDemand 1 k).when x.saf.walnutLive (fun y => y.siDemand 0 k))

/-- A pulse of the test supply whose turn it is (R330): frames of 100 ms, T0 to T3 in turn, Tk twice in the frames of
number k modulo 4. The operand names the inputs on which a low fell with the pulse. -/
def Mach.testPulse (m : Mach) (lows : Nat) : Mach :=
  let t := m.saf.nextT
  let a := m.updSaf (fun s => { s with
    si := (List.range 8).map (fun k =>
      let j := nth s.si k {}
      if supplyOf k = t then (if bit lows k then j else { j with lackOwn := true })
      else if bit lows k then { j with sawForeign := true } else j) })
  let again := !m.saf.second && decide (m.saf.frame % 4 = t)
  let last := !again && decide (t = 3)
  let b := a.updSaf (fun s => { s with
    second := again, nextT := if again then t else (t + 1) % 4, frame := if last then s.frame + 1 else s.frame })
  b.when last (fun x => x.each (List.range 8) (fun k y => y.frameEnd k))

def execTestPulse (lows : Nat) (s : State) : Host.Outcome State Fault Refusal := onPowered (fun m => m.testPulse lows) s

def execSafetyInputDemand (chan k : Nat) (s : State) : Host.Outcome State Fault Refusal :=
  onPowered (fun m => m.inputDemand chan k) s

/-- SI0 and SI1 have disagreed for 50 ms (R332). -/
def Mach.siDiscrepancy (m : Mach) : Mach :=
  if m.elapsed? m.saf.disagree (50 * milli) && !m.saf.discrepancy then
    (m.updSaf (fun s => { s with discrepancy := true, discrClear := 0 })).raiseFault .siDiscrepancy []
  else m

def execSiDiscrepancy (s : State) : Host.Outcome State Fault Refusal := onProc Mach.siDiscrepancy s

def execVentilationDemand (chan : Nat) (s : State) : Host.Outcome State Fault Refusal := onPowered (fun m => m.ventilation chan) s

/-- SI6 has returned to high within its 60 s (R333): one SI6_CANCELLED record with the low's duration. -/
def Mach.si6Cancelled (m : Mach) : Mach :=
  let i := nth m.saf.si 6 {}
  let d := match m.saf.si6Low with
    | some d => some d
    | none => match i.lowSince with
      | none => none
      | some t => some (m.now - t)
  match d with
  | none => m
  | some d =>
    if m.sw3On 4 || bit m.saf.demW 10 || bit m.saf.demF 10 || decide (60 * second ≤ d) then m
    else ((m.updSaf (fun s => { s with
        si6Low := none, si := updNth s.si 6 (fun j => { j with lowSince := none }) })).record 0x0304 6 (u32 (d / 1000000)))

def execSi6Cancelled (s : State) : Host.Outcome State Fault Refusal := onProc Mach.si6Cancelled s

/-! ## Walnut's evaluation of a sweep (R79, R80, R318, R320, R321) -/

/-- A reading of a group and the limits it meets, in 10 µV: the reading, the overvoltage and the undervoltage limit. -/
abbrev Checkpt := Int × Int × Int

/-- Fine and coarse readings of a pod's group in 10 µV (R69). -/
def fineOf (r : PodReply) (k : Nat) : Int := nth r.fine k 0
/-- Coarse reading in 10 µV (5 mV steps). -/
def coarseOf (r : PodReply) (k : Nat) : Int := 500 * (nth r.coarse k 0 : Nat)

/-- The checks of a group whose inner wire is open (R79): pair sums of the paths without a reported fault. -/
def pairChecks (p : Profile) (r : PodReply) (lo : Nat) : List Checkpt :=
  let ov : Int := 200 * p.vOv - 5000
  let uv : Int := 200 * p.vUv + 5000
  (if r.flag 14 then [] else [(fineOf r lo + fineOf r (lo + 1), ov, uv)])
    ++ (if r.flag 13 then [] else [(coarseOf r lo + coarseOf r (lo + 1), ov, uv)])

/-- The checks of an INVALID group (R79), one list per open wire: an end wire takes the coarse reading, tightened by 15 mV,
an inner wire the pair sums. -/
def invalidChecks (p : Profile) (r : PodReply) (opened : List Nat) (k : Nat) : List (List Checkpt) :=
  let wire := fun w => if w = 0 || w = 16 then
      (if r.flag 13 then [] else [(coarseOf r k, (100 * p.vOv - 1500 : Int), (100 * p.vUv + 1500 : Int))])
    else pairChecks p r (w - 1)
  ([k, k + 1].filter (fun w => opened.contains w)).map wire

/-- Whether a list of checks lies beyond the limits; an empty list counts as beyond both. -/
def beyondChecks (l : List Checkpt) : Bool × Bool :=
  if l.isEmpty then (true, true) else (l.any (fun c => decide (c.2.1 < c.1)), l.any (fun c => decide (c.1 < c.2.2)))

/-- Beyond its overvoltage and its undervoltage limit: group k (0 to 15) of a pod in Walnut's sweep, by the first row of
R79 that applies. What R80 adds for groups missing for 10 sweeps and for pods missing from both ends is the demand
SWEEP_STALE, which by R319 names SAFE_HOLD. -/
def Mach.groupBeyond (m : Mach) (p : Profile) (a k : Nat) (sp : SweepPod) : Bool × Bool :=
  let ov : Int := 100 * p.vOv
  let uv : Int := 100 * p.vUv
  let r := sp.data
  let g := groupNo a k
  if sp.missing then
    match aget? m.chain.lastGood a with
    | none => (false, false)
    | some q => beyondChecks [(fineOf q k, ov, uv), (coarseOf q k, ov, uv)]
  else if m.groupInvalid g then
    let l := (invalidChecks p r (aget m.chain.ow a {}).opened k).map beyondChecks
    (l.any (fun b => b.1), l.any (fun b => b.2))
  else if r.flag 14 && r.flag 13 then (true, true)
  else if r.flag 14 then beyondChecks [(coarseOf r k, ov - 1500, uv + 1500)]
  else if r.flag 13 then beyondChecks [(fineOf r k, ov, uv)]
  else if (aget m.chain.plausW g {}).set then beyondChecks [(fineOf r k, ov, uv), (coarseOf r k, ov, uv)]
  else beyondChecks [(fineOf r k, ov, uv), (coarseOf r k, ov + 3000, uv - 3000)]

/-- Consecutive sweeps beyond a limit, per group: one more where beyond, none otherwise. -/
def runStep (runs : List (Nat × Nat)) (l : List (Nat × Bool)) : List (Nat × Nat) :=
  (l.filter (fun p => p.2)).map (fun p => (p.1, aget runs p.1 0 + 1))

/-- Every present group reads at least V_UV + 200 mV on both paths (R320), on the coarse one where no fine reading is defined
(R84). -/
def Mach.uvRecovered (m : Mach) (p : Profile) (sw : List (Nat × SweepPod)) : Bool :=
  let lim : Int := 100 * p.vUv + 20000
  sw.all (fun q => !q.2.missing && (List.range 16).all (fun k =>
    (!m.fineDefined (groupNo q.1 k) || decide (lim ≤ fineOf q.2.data k)) && decide (lim ≤ coarseOf q.2.data k)))

/-- Highest internal temperature whose bin-15 entry has q ≥ 128 (R139, R318), in 0.01 °C. -/
def Mach.tIntMax (m : Mach) : Option Int :=
  maxInt? ((m.tIntNow.filter (fun t => decide (128 ≤ (aget m.imp.map (zKey t.1 15) {}).q))).map (fun t => t.2))

/-- Lowest pod NTC reading of a sweep, in 0.01 °C. -/
def ntcMin (sw : List (Nat × SweepPod)) : Option Int :=
  minInt? (sw.flatMap (fun q => if q.2.missing then [] else q.2.data.ntc))

/-- A run goes on while a value lies beyond its limit. -/
def runOn (n : Nat) (v : Option Int) (lim : Int) : Nat :=
  match v with
  | none => n
  | some x => if lim < x then n + 1 else 0

/-- The runs of a sweep for SF-OV, SF-UV and SF-OT (R318). -/
def Mach.sweepRuns (m : Mach) (p : Profile) (sw : List (Nat × SweepPod)) : Mach :=
  let b := sw.flatMap (fun q => (List.range 16).map (fun k => (groupNo q.1 k, m.groupBeyond p q.1 k q.2)))
  let ntc := maxInt? (sw.flatMap (fun q => if q.2.missing then [] else q.2.data.ntc))
  m.updSaf (fun s => { s with
    runOv := runStep s.runOv (b.map (fun x => (x.1, x.2.1))), runUv := runStep s.runUv (b.map (fun x => (x.1, x.2.2)))
    runOt := runOn s.runOt ntc (10 * p.tOt), runTint := if m.tIntMax.isNone then 0 else runOn s.runTint m.tIntMax (10 * p.tOt + 500)
    runOt2 := runOn s.runOt2 ntc (10 * p.tOt + 1000) })

/-- Some group has been beyond its limit for at least n sweeps. -/
def runsAt (l : List (Nat × Nat)) (n : Nat) : Bool := l.any (fun q => decide (n ≤ q.2))

/-- The profile's charge limit at low temperature (R321): off below T_CHG_MIN, back at T_CHG_MIN + 2 K. -/
def coldNext (old : Bool) (p : Profile) (t : Option Int) : Bool :=
  match t with
  | none => old
  | some x => if x < 10 * p.tChgMin then true else if 10 * p.tChgMin + 200 ≤ x then false else old

/-- R80 takes a group as beyond both limits: its pod has been MISSING for 10 sweeps, or is missing from both ends. -/
def Mach.sweepStands (m : Mach) : Bool := !m.chain.absent.isEmpty || m.chain.missRun.any (fun q => decide (10 ≤ q.2))

/-- DISCHARGE_STOP begins with SF-UV's demand (R318, R320). -/
def Mach.uvDemand (m : Mach) (value : Int) : Mach :=
  if bit m.saf.demW 1 then m
  else (m.demand 0 1 .dischargeStop none value).updSaf (fun s => { s with dischargeStop := some m.now, uvOkSince := none })

/-- Walnut evaluates a complete sweep once (R16, R78 to R80, R318 to R321). -/
def Mach.walnutSweep (m : Mach) : Mach :=
  match m.prof with
  | none => m
  | some p =>
    if !m.saf.walnutLive || m.chain.walnut.isEmpty || m.chain.evaluated == some m.chain.walnutEpoch then m
    else
      let sw := m.chain.walnut
      let a := (m.updChain (fun c => { c with evaluated := some c.walnutEpoch
                                              plausW := (m.plausSweep sw c.plausW).1 })).sweepRuns p sw
      let hi := (maxInt? ((m.finesOf sw).map (fun q => q.2))).getD 0
      let lo := (minInt? ((m.finesOf sw).map (fun q => q.2))).getD 0
      let t := (maxInt? ((ntcOf sw).map (fun q => q.2))).getD 0
      let b := a.updSaf (fun s => { s with
        coldStop := coldNext s.coldStop p (ntcMin sw)
        uvOkSince := if !m.uvRecovered p sw then none else match s.uvOkSince with
          | none => some m.now
          | some u => some u })
      let c := if runsAt b.saf.runOv 2 then b.demand 0 0 .disconnect (some .lockout) hi else b.dropDemand 0 (runsAt b.saf.runOv 1)
      let d := c.when (runsAt c.saf.runUv 2) (fun x => x.uvDemand lo)
      let e := if decide (10 ≤ d.saf.runOt) || decide (10 ≤ d.saf.runTint) then d.demand 0 2 .disconnect (some .lockout) t
        else d.dropDemand 2 (decide (0 < d.saf.runOt) || decide (0 < d.saf.runTint))
      let f := if 10 ≤ e.saf.runOt2 then e.demand 0 3 .trip (some .lockout) t else e.dropDemand 3 (decide (0 < e.saf.runOt2))
      if f.sweepStands then f.demand 0 14 .disconnect (some .safeHold) 0 else f.dropDemand 14 false

def execWalnutSweepEvaluation (s : State) : Host.Outcome State Fault Refusal := onProc Mach.walnutSweep s

/-- 2 s after DISCHARGE_STOP the shunt current still exceeds 2 A in discharge (R320): DISCONNECT, into LOCKOUT with SW3-7. -/
def Mach.uvEscalate (m : Mach) : Mach :=
  if m.elapsed? m.saf.dischargeStop (2 * second) && decide (2000 < m.meas.sShunt) && !m.saf.uvEsc then
    (m.updSaf (fun s => { s with uvEsc := true, demW := setBit s.demW 1 false })).demand 0 1 .disconnect
      (some (if m.sw3On 7 then .lockout else .safeHold)) m.meas.sShunt
  else m

def execUvEscalation (s : State) : Host.Outcome State Fault Refusal := onProc Mach.uvEscalate s

/-- Every present group has read at least V_UV + 200 mV for 10 s (R320), and the partner does not demand the stop (R343). -/
def Mach.dischargeRelease (m : Mach) : Mach :=
  if m.saf.dischargeStop.isSome && m.elapsed? m.saf.uvOkSince (10 * second) && !bit m.saf.demP 1 then
    (m.updSaf (fun s => { s with dischargeStop := none })).dropDemand 1 false
  else m

def execDischargeStopRelease (s : State) : Host.Outcome State Fault Refusal := onProc Mach.dischargeRelease s

/-! ## Foxglove's functions (R318) -/

/-- A comparator line has been asserted for 50 µs (R318). -/
def Mach.foxOc (m : Mach) : Mach := if m.meas.lines = 0 then m else m.demand 1 4 .trip (some .lockout) 0

def execFoxgloveOcDemand (s : State) : Host.Outcome State Fault Refusal := onPowered Mach.foxOc s

/-- Foxglove's comparators see a PT input (R318): a demand of SF-OT ends once none of PT0 to PT3 lies beyond its limit, or
SW3-3 is OFF. -/
def Mach.ptFoxglove (m : Mach) (pt : Nat) (temp : Int) : Mach :=
  let a := if pt < 4 then m.updSaf (fun s => { s with ptFox := updNth s.ptFox pt (fun _ => some temp) }) else m
  match a.prof with
  | none => a
  | some p =>
    let beyond := fun (lim : Int) => a.sw3On 3 && a.saf.ptFox.any (fun t => decide (lim < t.getD lim))
    let b := if beyond (10 * p.tOtHw) then a else a.endDemand 1 2
    if beyond (10 * p.tOtHw + 1000) then b else b.endDemand 1 3

/-- A PT input has been beyond T_OT_HW for 100 ms with SW3-3 ON (R318); stage 2 lies 10 K above. -/
def Mach.ptOver (m : Mach) (pt : Nat) (temp : Int) : Mach :=
  match m.prof with
  | none => m
  | some p =>
    if !m.sw3On 3 || decide (4 ≤ pt) || decide (temp ≤ 10 * p.tOtHw) then m
    else
      let a := (m.ptFoxglove pt temp).demand 1 2 .disconnect (some .lockout) temp
      if 10 * p.tOtHw + 1000 < temp then a.demand 1 3 .trip (some .lockout) temp else a

def execPtOvertemp (pt : Nat) (temp : Int) (s : State) : Host.Outcome State Fault Refusal := onPowered (fun m => m.ptOver pt temp) s

/-! ## Sealed switches (R326, R327) -/

/-- Both channels take a seal event (R327): code 16 for the cover, 17 for a switch. -/
def Mach.sealEvent (m : Mach) (func : Nat) : Mach :=
  let a := if func = 16 then m.updSaf (fun s => { s with sealBroken := true }) else m.updSaf (fun s => { s with switchChanged := true })
  let b := a.foxRecord 0x0303 0 (u16 a.switchWord ++ u16 a.committedSwitches)
  (b.demand 1 func .disconnect (some .lockout) 0).when (b.saf.walnutLive && b.clk.procRunning)
    (fun x => x.demand 0 func .disconnect (some .lockout) 0)

/-- The switches are read (R326): an open cover, a reading other than the last, or SW3-8 ON is a seal event (R327). -/
def Mach.switchRead (m : Mach) (sw1 sw2 sw3 : Nat) (cover : Bool) : Mach :=
  let changed := sw1 != m.saf.sw1 || sw2 != m.saf.sw2 || sw3 != m.saf.sw3 || bit sw3 7
  let a := m.updSaf (fun s => { s with sw1 := sw1, sw2 := sw2, sw3 := sw3, cover := cover, switchesRead := true })
  (a.when (!cover && !m.saf.sealBroken) (fun x => x.sealEvent 16)).when (changed && !m.saf.switchChanged) (fun x => x.sealEvent 17)

def execSwitchRead (sw1 sw2 sw3 : Nat) (cover : Bool) (s : State) : Host.Outcome State Fault Refusal :=
  onPowered (fun m => m.switchRead sw1 sw2 sw3 cover) s

/-! ## Coils, holds and feedback (R315, R322, R335 to R340) -/

/-- A channel opens all its coil switches (R315). -/
def Mach.openChan (m : Mach) (chan : Nat) : Mach :=
  m.updSaf (fun s => { s with
    coils := s.coils.map (fun c => if chan = 1 then c.drive c.wSw false m.now else c.drive false c.fSw m.now)
    openW := s.openW && chan != 0, openF := s.openF && chan != 1 })

/-- Some switch of a channel is closed. -/
def Mach.chanClosed (m : Mach) (chan : Nat) : Bool := m.saf.coils.any (fun c => if chan = 1 then c.fSw else c.wSw)

/-- 1.0 ms after the PWM off state a demanding channel opens its coil switches (R315), unless its current evidence holds
them closed and asserts TRIP (R322). -/
def Mach.coilOpen (m : Mach) (chan : Nat) : Mach :=
  if !(if chan = 1 then m.saf.openF else m.saf.openW) then m
  else if m.evidence chan && m.chanClosed chan then
    if (m.holdOf chan).isSome then m
    else (m.updSaf (fun s => s.setHold chan (some m.now))).assertTrip chan
  else m.openChan chan

def execCoilOpen (chan : Nat) (s : State) : Host.Outcome State Fault Refusal := onFox (fun m => m.coilOpen chan) s

/-- A hold ends (R322): its CURRENT_HOLD record and count, the channel's TRIP demand unless a function demands it. -/
def Mach.endHold (m : Mach) (chan : Nat) : Mach :=
  match m.holdOf chan with
  | none => m
  | some t =>
    let dem := if chan = 1 then m.saf.demF else m.saf.demW
    let a := m.updSaf (fun s => { s.setHold chan none with
      nHolds := satInc s.nHolds
      tripDem := if (bitsOf 23 dem).any m.isTripFunc then s.tripDem else setBit s.tripDem chan false
      tripLast := m.now })
    let p := u8 chan ++ u16 (min 65535 ((m.now - t) / 1000000))
    if chan = 1 then a.foxRecord 0x0305 0 p else a.record 0x0305 0 p

/-- A channel's evidence has fallen (R322): it releases its hold and opens its switches. -/
def Mach.holdRelease (m : Mach) (chan : Nat) : Mach :=
  if (m.holdOf chan).isSome && !m.evidence chan then (m.endHold chan).openChan chan else m

def execHoldRelease (chan : Nat) (s : State) : Host.Outcome State Fault Refusal := onFox (fun m => m.holdRelease chan) s

/-- 500 ms after the first hold began both channels open regardless (R322). -/
def Mach.forcedOpen (m : Mach) : Mach :=
  if m.elapsed? m.saf.holdW (500 * milli) || m.elapsed? m.saf.holdF (500 * milli) then
    ((((m.endHold 0).endHold 1).openChan 0).openChan 1).raiseFault .contactorForcedOpen []
  else m

def execContactorForcedOpen (s : State) : Host.Outcome State Fault Refusal := onFox Mach.forcedOpen s

/-- A coil switch is tested (R336): output 0 to 2, switch 0 Walnut or 1 Foxglove. An OFF-pulse of the Walnut switch starts the
drive sequence again (R335). A failed test is COIL_SWITCH_FAIL. -/
def Mach.coilTest (m : Mach) (k sw : Nat) (pass : Bool) : Mach :=
  let a := m.updSaf (fun s => { s with
    tested := aput s.tested (2 * k + sw) m.now, coilBad := updNth s.coilBad (2 * k + sw) (fun _ => !pass)
    coils := if sw = 0 then updNth s.coils k (fun c => { c with driveAt := if c.driveAt.isSome then some m.now else none })
      else s.coils })
  if pass then a
  else ((a.updSaf (fun s => { s with nCoilFail := satInc s.nCoilFail })).raiseFault .coilSwitchFail (u8 k ++ u8 sw)).demand 0 21
    .disconnect (some .lockout) 0

def execCoilSwitchTest (k sw : Nat) (pass : Bool) (s : State) : Host.Outcome State Fault Refusal :=
  onProc (fun m => if k < 3 && sw < 2 then m.coilTest k sw pass else m) s

/-- Feedback not closed 50 ms after the coil node was energised (R339). -/
def Mach.pickupFail (m : Mach) (k : Nat) : Mach :=
  let c := m.coil k
  if c.node && !c.fb && !c.picked && m.elapsed c.nodeAt (50 * milli) then
    (m.raiseFault .contactorPickup (u8 k)).orderShutdown .fault
  else m

def execContactorPickup (k : Nat) (s : State) : Host.Outcome State Fault Refusal := onProc (fun m => m.pickupFail k) s

/-- Feedback still closed 30 ms to 100 ms after the coil node was de-energised (R339). -/
def Mach.dropoutFail (m : Mach) (k : Nat) : Mach :=
  let c := m.coil k
  if !c.node && c.fb && m.elapsed c.nodeAt (30 * milli) && decide (m.now ≤ c.nodeAt + 100 * milli) then m.raiseFault .contactorDropout (u8 k) else m

def execContactorDropout (k : Nat) (s : State) : Host.Outcome State Fault Refusal := onProc (fun m => m.dropoutFail k) s

/-- Feedback closed more than 100 ms with the coil node de-energised (R339): Foxglove in every mode, Walnut from step 8. -/
def Mach.weldedContact (m : Mach) (k : Nat) : Mach :=
  let c := m.coil k
  if !c.node && c.fb && m.elapsed c.nodeAt (100 * milli) && !c.welded then
    let a := m.updSaf (fun s => { s with coils := updNth s.coils k (fun x => { x with welded := true }) })
    let b := a.demand 1 18 .trip (some .lockout) 0
    (b.when (b.saf.walnutLive && b.clk.procRunning) (fun x => x.demand 0 18 .trip (some .lockout) 0)).raiseFault .weldedContact
      (u8 k)
  else m

def execWeldedContact (k : Nat) (s : State) : Host.Outcome State Fault Refusal := onPowered (fun m => m.weldedContact k) s

/-- Feedback or coil node lost for 20 ms after pick-up (R339): DISCONNECT into SAFE_HOLD. -/
def Mach.contactorLost (m : Mach) (k : Nat) : Mach :=
  let c := m.coil k
  if c.picked && ((c.node && !c.fb && m.elapsed c.fbAt (20 * milli))
      || (!c.node && c.wSw && c.fSw && m.elapsed c.nodeAt (20 * milli))) then
    (m.raiseFault .contactorLost (u8 k)).demand 0 19 .disconnect (some .safeHold) 0
  else m

def execContactorLost (k : Nat) (s : State) : Host.Outcome State Fault Refusal := onProc (fun m => m.contactorLost k) s

/-- A string-level DISCONNECT or TRIP is demanded (R316, R340): the stop of SF-UV alone is none. -/
def Mach.stringLevel (m : Mach) : Bool := m.stopMask (m.saf.demW % 65536) || m.saf.demF % 65536 != 0

/-- The coil node still energised 100 ms after both own switches opened on a string-level demand (R340). -/
def Mach.contactorHeld (m : Mach) (k : Nat) : Mach :=
  let c := m.coil k
  if c.node && m.elapsed? c.openedAt (100 * milli) && !m.holdActive && m.stringLevel then
    m.demand 0 15 .trip (some .lockout) 0
  else m

def execContactorHeld (k : Nat) (s : State) : Host.Outcome State Fault Refusal := onProc (fun m => m.contactorHeld k) s

/-- TRIP is released (R341): asserted for 500 ms, and no channel has demanded it for 1 s. -/
def Mach.tripRelease (m : Mach) : Mach :=
  if m.saf.trip && m.saf.tripDem == 0 && m.elapsed m.saf.tripAt (500 * milli) && m.elapsed m.saf.tripLast second then
    (m.updSaf (fun s => { s with trip := false })).foxRecord 0x0302 0 (u8 0)
  else m

def execTripRelease (s : State) : Host.Outcome State Fault Refusal := onFox Mach.tripRelease s

end Sys2Proof.Machine
end

