-- ==== Sys2Proof/Machine/Impedance.lean ====
section
/-! DEFINITION. Meanings of the commands of chapter 5, Impedance Spectroscopy and the Impedance Map (R119 to R143). -/

namespace Sys2Proof.Machine

/-! ## Bins and passes (R119, R120, R122, R123) -/

/-- This module schedules the bins (R123). -/
def Mach.schedules (m : Mach) : Bool := !m.paired || m.isMaster

/-- The mode carries excitation now (R36, R122). -/
def Mach.excites (m : Mach) : Bool :=
  match m.mode.mode with
  | .commission => m.mode.c6Running && m.imp.kind == .baseline
  | .maintain => m.imp.kind != .normal
  | d => d.excites && m.imp.kind == .normal

/-- Excitation is enabled (0x2302.01); it does not stop a baseline. -/
def Mach.excEnabled (m : Mach) : Bool := m.parB 0x2302 1 || m.imp.kind == .baseline

/-- The bins left of the pass; in BUS_FORM bins 0 to 3 are skipped (R122). -/
def Mach.binsLeft (m : Mach) : List Nat :=
  let q := m.imp.queue.getD []
  if m.mode.mode == .busForm then q.dropWhile (fun k => decide (k < 4)) else q

/-- Headroom for an amplitude in mA (R123): |I_ref| + A ≤ 0.95 × the narrower of the estimation and profile limits in the
direction of I_ref. -/
def Mach.headroom (m : Mach) (amp : Nat) : Bool :=
  let i := m.conv.rCmd
  let prof : Nat := match m.prof with
    | none => 0
    | some p => if (if i < 0 then m.saf.coldStop else m.saf.dischargeStop.isSome) then 0 else 1000 * p.iLim
  let lim : Rat := (min prof (if i < 0 then m.est.iChg else m.est.iDis) : Nat)
  decide (100 * (absQ i + amp) ≤ 95 * lim)

/-- The bin ends before the string's next rest slot known (R123). -/
def Mach.restClear (m : Mach) (k start : Nat) : Bool :=
  !m.plant.inRest && (match m.plant.nextRest with
    | none => true
    | some b => decide (10 * (start + leadEpochs k + windowEpochs k) < b))

/-- The EXCITE_REF frame of a bin (R126); START_ID is that of the next latch. -/
def Mach.exciteFrame (m : Mach) (bin id : Nat) : ChainCmd :=
  if bin = 0xFF then .exciteRef bin id 0 0 0
  else .exciteRef bin id ((m.slowEpoch + 1) % 65536) (leadEpochs bin) (windowEpochs bin)

/-- In the non-sweep window the scheduler announces the next bin in the slow epoch before its latch (R123, R126); a frame of the
master that the follower hears goes on from the far end while a break is located (R88), and bin 0xFF stops the running bin. -/
def Mach.exciteRef (m : Mach) (heard : Option (Nat × Nat)) : Mach :=
  match heard with
  | some (bin, id) =>
    if m.schedules then m
    else
      let a := m.when (m.chainWindow && m.chain.brk.isSome) (fun x => x.broadcast (m.exciteFrame bin id))
      if bin = 0xFF then a.abortBin false else a.updImp (fun i => { i with announced := some (bin, id) })
  | none =>
    if !m.schedules || !m.excites || !m.excEnabled || m.imp.run.isSome || m.imp.announced.isSome || !m.chainWindow then m
    else match m.binsLeft with
      | [] => m
      | k :: rest =>
        let id := (m.imp.excId + 1) % 65536
        (m.updImp (fun i => { i with announced := some (k, id), queue := some (k :: rest) })).broadcast (m.exciteFrame k id)

def execExciteRef (heard : Option (Nat × Nat)) (s : State) : Host.Outcome State Fault Refusal :=
  onProc (fun m => m.exciteRef heard) s

/-- At a latch the announced bin starts where the conditions of R123 hold; otherwise it waits and is retried. A bin that only a
takeover or takeback holds off counts as waiting for headroom (log entry 158). -/
def Mach.binStart (m : Mach) : Mach :=
  match m.imp.announced with
  | none => m
  | some (k, id) =>
    let amp := m.ampCap m.mode.mode
    let head := m.headroom amp
    let rest := m.restClear k m.slowEpoch
    let free := !m.pair.acquiring && m.pair.tb.isNone
    if m.imp.run.isSome || !m.excites || !m.excEnabled then m.updImp (fun i => { i with announced := none })
    else if m.schedules && !(head && rest && free) then
      m.updImp (fun i => { i with announced := none, headroomWait := !head || rest, restWait := !rest })
    else m.updImp (fun i => { i with
      announced := none, headroomWait := false, restWait := false, excId := id
      queue := match i.queue with
        | none => none
        | some q => if q.head? = some k then some (q.drop 1) else some q
      run := some { bin := k, excId := id, start := m.slowEpoch, amp := amp, discarded := false, clipped := false
                    rejected := [], rejectedPods := [] } })

def execBinStart (s : State) : Host.Outcome State Fault Refusal := onProc Mach.binStart s

/-- After the pass idle interval the next normal pass begins (R120). -/
def Mach.passStart (m : Mach) : Mach :=
  if m.imp.kind == .normal && m.inMode [.connected, .dispatch, .busForm] && m.imp.queue.isNone && m.imp.run.isNone
      && m.imp.read.isNone && (match m.imp.passEnd with
        | none => true
        | some t => m.elapsed t (second * m.par 0x2302 0)) then
    m.updImp (fun i => { i with queue := some normalPass })
  else m

def execPassStart (s : State) : Host.Outcome State Fault Refusal := onProc Mach.passStart s

/-- A baseline is requested as the next MAINTAIN task (R136). -/
def Mach.baselineRequest (m : Mach) : Mach := m.updImp (fun i => { i with blRequest := true })

def execBaselineRequest (role : Nat) (unlocked : Bool) (s : State) : Host.Outcome State Fault Refusal :=
  onProc (fun m => m.expertWrite role unlocked Mach.baselineRequest) s

/-! ## Reference temperatures, fits and growth (R136 to R139) -/

/-- Mean of listed numbers, rounded to the nearest. -/
def meanInt (l : List Int) : Int :=
  if l.isEmpty then 0 else (2 * l.foldl (fun a x => a + x) 0 + l.length) / (2 * l.length : Nat)

/-- Pod of a group (R63). -/
def podOf (g : Nat) : Nat := (g - 1) / 16 + 1

/-- NTC mean T_s of a group's pod in 0.01 °C (R138). -/
def Mach.podTemp (m : Mach) (g : Nat) : Int :=
  match aget? m.chain.shared (podOf g) with
  | none => 0
  | some p => meanInt p.data.ntc

/-- The groups present. -/
def Mach.presentGroups (m : Mach) : List Nat := (List.range m.nGroups).map (fun i => i + 1)

/-- An ohmic coefficient in 1/K (0.0001 /K). -/
def Mach.beta (m : Mach) (sub : Nat) : Rat := (m.par 0x2303 sub : Rat) / 10000

/-- Internal temperature of a group in 0.01 °C (R139), none without a usable entry. -/
def Mach.tInt (m : Mach) (g : Nat) : Option Int :=
  let z := aget m.imp.map (zKey g 15) {}
  match aget? m.imp.ref (zKey g 15) with
  | none => none
  | some r =>
    if z.q < 64 || !m.fresh z (120 * second) then none
    else
      let a : Rat := ((aget m.imp.ageing g 10000 : Nat) : Rat) / 10000
      let tRef : Rat := ((aget m.imp.refTemp g 0 : Int) : Rat) / 100
      some (roundQ (100 * (tRef - qdiv (lnQ (qdiv (z.re : Rat) (a * r.re))) (m.beta 0))))

/-- After a write of bin 15 every group's internal temperature is computed anew (R139). -/
def Mach.allTInt (m : Mach) : Mach :=
  let step : List (Nat × Int) → Nat → List (Nat × Int) := fun l g =>
    match m.tInt g with
    | none => l
    | some t => aput l g t
  m.updImp (fun i => { i with tInt := m.presentGroups.foldl step [] })

/-- Squared magnitude. -/
def mag2 (re im : Rat) : Rat := re * re + im * im

/-- Parameters of the model of R137, in the units of the fit record. -/
structure ZModel where
  /-- R_Ω in 0.1 µΩ. -/
  rOhm : Rat
  /-- R_ct in 0.1 µΩ. -/
  rCt : Rat
  /-- C_dl in mF. -/
  cDl : Rat
  /-- L_s in nH. -/
  lS : Rat
  /-- σ in 0.1 µΩ·s^−½. -/
  sigma : Rat
  deriving DecidableEq, Repr

/-- Z(ω) of the model at a bin in 0.1 µΩ (R137): R_Ω + jωL_s + R_ct / (1 + jωR_ct C_dl) + σ(1 − j) / √ω. -/
def ZModel.at (p : ZModel) (k : Nat) : Rat × Rat :=
  let w := ofFx fxTwoPi * binHz k
  let x := w * p.rCt * p.cDl / 10000000000
  let d := 1 + x * x
  let s := qdiv p.sigma (sqrtQ w)
  (p.rOhm + p.rCt / d + s, w * p.lS / 100 - p.rCt * x / d - s)

/-- Squared relative deviation of the model from an entry. -/
def ZModel.off (p : ZModel) (e : Nat × ZEntry) : Rat :=
  let z := p.at e.1
  qdiv (mag2 (z.1 - e.2.re) (z.2 - e.2.im)) (mag2 e.2.re e.2.im)

/-- What the fit makes least (R137): squared deviations, each weighted by (q / 255) / |Z|². -/
def ZModel.cost (p : ZModel) (l : List (Nat × ZEntry)) : Rat :=
  l.foldl (fun a e => a + (e.2.q : Rat) / 255 * p.off e) 0

/-- Parameters as a list, and from one. -/
def ZModel.list (p : ZModel) : List Rat := [p.rOhm, p.rCt, p.cDl, p.lS, p.sigma]

/-- Parameters from a list. -/
def ZModel.of (l : List Rat) : ZModel := { rOhm := nth l 0 0, rCt := nth l 1 0, cDl := nth l 2 0, lS := nth l 3 0, sigma := nth l 4 0 }

/-- The parameters of a stored fit. -/
def Fit.model (f : Fit) : ZModel := { rOhm := f.rOhm, rCt := f.rCt, cDl := f.cDl, lS := f.lS, sigma := f.sigma }

/-- The entries as the iteration takes them: bin, weight, REAL and IMAG. -/
def weighted (l : List (Nat × ZEntry)) : List (Nat × Rat × Rat × Rat) :=
  l.map (fun e => (e.1, qdiv ((e.2.q : Rat) / 255) (mag2 e.2.re e.2.im), (e.2.re : Rat), (e.2.im : Rat)))

/-- At most n more iterations from parameters p of a fit that started at p0 (R137): a trial is kept where it lowers the cost.
Says whether the fit converged. -/
def fitIter (l : List (Nat × ZEntry)) (p0 : ZModel) : Nat → ZModel → ZModel × Bool
  | 0, p => (p, false)
  | n + 1, p =>
    let t := ZModel.of (Config.lmTrial (weighted l) p0.list n)
    let q := if t.cost l < p.cost l then t else p
    if Config.lmConverged (weighted l) p0.list n then (q, true) else fitIter l p0 n q

/-- RMS relative residual of a model in 0.1 %, saturating at 255 (R137). -/
def ZModel.residual (p : ZModel) (l : List (Nat × ZEntry)) : Nat :=
  min 255 (roundQ (1000 * sqrtQ (qdiv (l.foldl (fun a e => a + p.off e) 0) l.length))).toNat

/-- The fit of listed entries from the previous fit (R137), at a time and a temperature: at most 20 iterations. -/
def fitOf (entries : List (Nat × ZEntry)) (prev : Fit) (time : Nat) (temp : Int) : Fit :=
  let r := fitIter entries prev.model 20 prev.model
  { rOhm := fitU 4 (roundQ r.1.rOhm), rCt := fitU 4 (roundQ r.1.rCt), cDl := fitU 4 (roundQ r.1.cDl)
    lS := fitU 2 (roundQ r.1.lS), sigma := fitU 2 (roundQ r.1.sigma)
    residual := r.1.residual entries, status := if r.2 then 0 else 2, time := time, temp := temp }

/-- The fit of a group after a pass (R137): 3 where the group is INVALID, 1 with fewer than 12 usable entries, 4 without
a reference. -/
def Mach.fitGroup (m : Mach) (g : Nat) : Fit :=
  let prev := aget m.imp.fits g {}
  let e := ((List.range 16).map (fun k => (k, aget m.imp.map (zKey g k) {}))).filter (fun p =>
    decide (64 ≤ p.2.q) && m.fresh p.2 (3600 * second))
  if m.groupInvalid g then { prev with status := 3 }
  else if e.length < 12 then { prev with status := 1 }
  else
    let f := fitOf e prev m.fabTime (m.podTemp g)
    if f.status = 0 && (aget? m.imp.refFit g).isNone then { f with status := 4 } else f

/-- The growth ratios of a fit with STATUS 0, in 0.001 (R138). -/
def Mach.growthOf (m : Mach) (g : Nat) (f : Fit) : Nat × Nat :=
  let r := aget m.imp.refFit g {}
  let dt : Rat := (m.podTemp g - aget m.imp.refTemp g 0 : Int) / 100
  let ratio := fun (x y : Nat) (b : Rat) => min 65535 (roundQ (1000 * qdiv (x * expQ (b * dt)) y)).toNat
  (ratio f.rOhm r.rOhm (m.beta 0), ratio f.rCt r.rCt (m.beta 1))

/-- The growth ratios that have a value: none while a baseline is pending (R58). -/
def Mach.growthNow (m : Mach) : List (Nat × Nat × Nat) := if m.mode.baselinePending then [] else m.imp.growth

/-- Every group is fitted after a completed pass (R137, R138). -/
def Mach.fitAll (m : Mach) : Mach :=
  m.each m.presentGroups (fun g x =>
    let f := x.fitGroup g
    x.updImp (fun i => { i with
      fits := aput i.fits g f, okFits := if f.status = 0 then aput i.okFits g f else i.okFits
      growth := if f.status = 0 then aput i.growth g (x.growthOf g f) else i.growth }))

/-! ## The baseline (R136) -/

/-- The mean of two results where both have q ≥ 128 and they differ by at most 2 % of their mean magnitude (R136), taken as the
magnitude of their mean (log entry 159). -/
def blMean (a b : ZEntry) : Option ZEntry :=
  let re : Rat := ((a.re + b.re : Int) : Rat) / 2
  let im : Rat := ((a.im + b.im : Int) : Rat) / 2
  if 128 ≤ a.q && 128 ≤ b.q && decide (2500 * mag2 (a.re - b.re) (a.im - b.im) ≤ mag2 re im) then
    some { q := (a.q + b.q) / 2, re := roundQ re, im := roundQ im, time := b.time }
  else none

/-- Entries stored after a stage: those whose last two results agree join the ones stored before. -/
def Mach.blCollect (m : Mach) : List (Nat × ZEntry) :=
  m.imp.blSecond.foldl (fun l p =>
    if (aget? l p.1).isSome then l
    else match aget? m.imp.blFirst p.1 with
      | none => l
      | some a => match blMean a p.2 with
        | none => l
        | some z => aput l p.1 z) m.imp.blStored

/-- Bins that leave some present group without a stored entry. -/
def Mach.blMissing (m : Mach) (stored : List (Nat × ZEntry)) : List Nat :=
  plainPass.filter (fun k => m.presentGroups.any (fun g => (aget? stored (zKey g k)).isNone))

/-- The baseline ends (R136): complete, the reference copy with its time, temperatures, state of charge and fits, every
ageing factor back at 1.0000, committed in one transaction; failed, the previous copy stands. R_ref is the fit's result whether
or not it converged (log entry 160). -/
def Mach.baselineEnd (m : Mach) (stored : List (Nat × ZEntry)) (ok : Bool) : Mach :=
  let groups := m.presentGroups
  let temps := groups.foldl (fun l g =>
    let t := aget m.imp.blNtc (podOf g) (0, 0)
    aput l g (if t.2 = 0 then m.podTemp g else (2 * t.1 + t.2) / (2 * t.2 : Nat))) []
  let soc := (roundQ (1000 * m.est.strRep)).toNat
  let fits := groups.foldl (fun l g => aput l g (fitOf
    ((List.range 16).map (fun k => (k, aget stored (zKey g k) {}))) {} m.fabTime (aget temps g 0))) []
  let a := m.updImp (fun i => { i with blStage := 0, queue := none, blFailed := !ok, blFirst := [], blSecond := []
                                       blStored := [], blNtc := [], passEnd := some m.now })
  let b := if ok then
      ((a.updImp (fun i => { i with ref := stored, refTime := m.fabTime, refTemp := temps, refSoc := soc, refFit := fits
                                    ageing := [] })).updMode (fun x => { x with baselinePending := false })).store
        [.reference stored m.fabTime temps soc fits false, .ageing [] a.imp.ageingAt]
        [.record 0x0602 0 (u8 0)]
    else a.record 0x0602 0 (u8 1)
  b.when (b.mode.mode == .commission && b.mode.c6Running) Mach.c6Stop

/-- The bins of a baseline stage are done (R136): two passes, then at most two repeats of the bins that lack entries. -/
def Mach.baselineStage (m : Mach) : Mach :=
  if m.imp.blStage = 1 then m.updImp (fun i => { i with blStage := 2, queue := some plainPass })
  else
    let stored := m.blCollect
    let missing := m.blMissing stored
    if missing.isEmpty then m.baselineEnd stored true
    else if 4 ≤ m.imp.blStage then m.baselineEnd stored false
    else m.updImp (fun i => { i with blStage := i.blStage + 1, queue := some missing, blStored := stored })

/-- The last bin of a pass is done (R120, R135, R137): fits, and the map committed at most once per hour; a baseline goes
on with its next stage, and the reruns of its bins are no pass. -/
def Mach.passCheck (m : Mach) : Mach :=
  if m.imp.queue.isNone || !m.binsLeft.isEmpty || m.imp.run.isSome || m.imp.read.isSome then m
  else if 3 ≤ m.imp.blStage then m.baselineStage
  else
    let a := (m.updImp (fun i => { i with passes := satInc i.passes, queue := none, passEnd := some m.now })).fitAll
    let due := match a.imp.mapCommit with
      | none => true
      | some t => decide (t + 3600 * second ≤ a.fabTime)
    (a.when due (fun x => (x.updImp (fun i => { i with mapCommit := some x.fabTime })).store
      [.map x.imp.map x.imp.binTimes x.fabTime] [])).when (m.imp.kind == .baseline) Mach.baselineStage

/-! ## Windows and reads (R126 to R130, R134) -/

/-- The module's own shunt phasor of a half in µA (R129): I_h = (2 / N_h) × Σ i[n] e^(−jφ), from a sum in nA. -/
def phasor (s : Int × Int × Nat) : Int × Int := (2 * s.1 / (1000 * s.2.2 : Nat), 2 * s.2.1 / (1000 * s.2.2 : Nat))

/-- The latch that ends a bin's window (R119, R125, R126): a discarded bin is over; otherwise its pods are read. -/
def Mach.binWindowEnd (m : Mach) : Mach :=
  match m.imp.run with
  | none => m
  | some r =>
    if m.slowEpoch != r.start + leadEpochs r.bin + windowEpochs r.bin then m
    else if r.discarded then (m.updImp (fun i => { i with run := none })).passCheck
    else m.updImp (fun i => { i with
      run := none, clipped := false
      read := some { run := r, endEpoch := m.slowEpoch, ia := phasor r.sumA, ib := phasor r.sumB
                     got := [], fails := [], bad := [], asked := [] } })

def execBinWindowEnd (s : State) : Host.Outcome State Fault Refusal := onProc Mach.binWindowEnd s

/-- A pod's results are to be read in this non-sweep window (R128): at most 8 pods per window, in ascending order, each
once, and once more in a later window after a missing reply or a failed CRC. -/
def Mach.corrDue (m : Mach) (r : BinRead) (a : Nat) : Bool :=
  m.podAddrs.contains a && !r.bad.contains a && !r.got.any (fun c => c.pod == a)
    && decide ((r.asked.filter (fun p => p.2 == m.slowEpoch)).length < 8)
    && (match aget? r.asked a with
        | none => (List.range a).all (fun b => b == 0 || (aget? r.asked b).isSome)
        | some e => decide (e < m.slowEpoch) && decide (1 ≤ aget r.fails a 0))

/-- In the non-sweep window the scheduler reads a pod's results (R74, R127, R128); beyond a located break the far end does. -/
def Mach.corrRead (m : Mach) (a : Nat) : Mach :=
  match m.imp.read with
  | none => m
  | some r =>
    if m.corrDue r a && m.chainWindow then
      (m.updImp (fun i => { i with read := some { r with asked := aput r.asked a m.slowEpoch } })).sendTo a
        (.corrRead a r.run.bin r.run.excId)
    else m

def execCorrRead (a : Nat) (s : State) : Host.Outcome State Fault Refusal := onProc (fun m => m.corrRead a) s

/-- A pod's entries of the bin are rejected and the failure is reported (R128). -/
def Mach.podRejected (m : Mach) (r : BinRead) (a : Nat) : Mach :=
  (m.updImp (fun i => { i with read := some { r with bad := insNat r.bad a }, nPod := satInc i.nPod })).countSource
    .impedancePod (u8 a)

/-- A correlation reply is taken (R127, R128, R130): a missing or damaged one counts as a failed read, the second rejects
the pod, as do a STATUS other than 0 and results of another bin (log entry 161). -/
def Mach.corrTake (m : Mach) (a : Nat) (valid : Bool) (bin status excId samples : Nat) (vals : List (Int × Int × Int × Int)) :
    Mach :=
  match m.imp.read with
  | none => m
  | some r =>
    if r.bad.contains a || r.got.any (fun c => c.pod == a) then m
    else if !valid then
      if 1 ≤ aget r.fails a 0 then m.podRejected r a
      else m.updImp (fun i => { i with read := some { r with fails := acount r.fails a } })
    else if status != 0 || bin != r.run.bin || excId != r.run.excId then m.podRejected r a
    else m.updImp (fun i => { i with read := some { r with got := r.got ++ [{ pod := a, samples := samples, vals := vals }] } })

/-- A correlation reply arrives at CQ1 or CQ2, or, port 0, none comes. A damaged frame is discarded and counted (R66); in a pair a
valid one that came over the chain goes on over the pair link (R89, R128), from which CQ2 takes the partner's. -/
def Mach.corrReply (m : Mach) (port a : Nat) (valid : Bool) (bin status excId samples : Nat)
    (vals : List (Int × Int × Int × Int)) : Mach :=
  let b := (m.when (!valid) (fun x => x.countDiscards (if port = 1 then (1, 0) else if port = 2 then (0, 1) else (0, 0)))).when
    (valid && m.paired && port == 1) (fun x => x.emit (.pairCorr a bin status excId samples vals))
  b.corrTake a valid bin status excId samples vals

def execCorrelationReply (port a : Nat) (valid : Bool) (bin status excId samples : Nat) (vals : List (Int × Int × Int × Int))
    (s : State) : Host.Outcome State Fault Refusal :=
  onProc (fun m => m.corrReply port a valid bin status excId samples vals) s

/-- A complex product. -/
def cmul (a b : Rat × Rat) : Rat × Rat := (a.1 * b.1 - a.2 * b.2, a.1 * b.2 + a.2 * b.1)

/-- A complex quotient. -/
def cdiv (a b : Rat × Rat) : Rat × Rat :=
  let n := mag2 b.1 b.2
  (qdiv (a.1 * b.1 + a.2 * b.2) n, qdiv (a.2 * b.1 - a.1 * b.2) n)

/-- z = −g_cal × v / i (R129), in 0.1 µΩ from 0.1 µV and µA. -/
def zOf (k : Nat) (v i : Rat × Rat) : Rat × Rat :=
  let z := cmul (Config.gCal k) (cdiv v (i.1 / 1000000, i.2 / 1000000))
  (-z.1, -z.2)

/-- q = floor(255 × (1 − min(1, d / 0.1))) with d = |z_a − z_b| / |z| (R129), exactly: the greatest n with
d ≤ (255 − n) / 2550. Of z = 0 no d is stated: a free value. -/
def quality (za zb z : Rat × Rat) : Nat :=
  let n2 := mag2 (za.1 - zb.1) (za.2 - zb.2) * 2550 * 2550
  let d2 := mag2 z.1 z.2
  if d2 = 0 then min 255 Config.qualityOfZero
  else ((List.range 256).filter (fun n => decide (n2 ≤ ((255 - n : Nat) : Rat) * ((255 - n : Nat) : Rat) * d2))).foldl max 0

/-- A raw entry of group and bin (R129). -/
def entryOf (k : Nat) (r : BinRead) (v : Int × Int × Int × Int) : ZEntry :=
  let va : Rat × Rat := (v.1, v.2.1)
  let vb : Rat × Rat := (v.2.2.1, v.2.2.2)
  let ia : Rat × Rat := (r.ia.1, r.ia.2)
  let ib : Rat × Rat := (r.ib.1, r.ib.2)
  let z := zOf k (va.1 + vb.1, va.2 + vb.2) (ia.1 + ib.1, ia.2 + ib.2)
  { q := quality (zOf k va ia) (zOf k vb ib) z, re := roundQ z.1, im := roundQ z.2, time := none }

/-- |I_a| and |I_b| are each at least 0.8 × A (R130). -/
def BinRead.strong (r : BinRead) : Bool :=
  let lim : Rat := 800 * r.run.amp
  decide (lim * lim ≤ mag2 r.ia.1 r.ia.2) && decide (lim * lim ≤ mag2 r.ib.1 r.ib.2)

/-- One group's entry at the merge point: written, or rejected and counted (R130). -/
def Mach.writeEntry (m : Mach) (r : BinRead) (a k : Nat) (v : Int × Int × Int × Int) : Mach :=
  let g := groupNo a k
  let e := entryOf r.run.bin r v
  if !r.strong || r.run.rejected.contains g || r.run.rejectedPods.contains a then
    m.updImp (fun i => { i with nRejC := satInc i.nRejC })
  else if e.q < 64 then m.updImp (fun i => { i with nRejQ := satInc i.nRejQ })
  else m.updImp (fun i => { i with
    map := aput i.map (zKey g r.run.bin) { e with time := some m.fabTime }
    blFirst := if i.blStage = 0 then i.blFirst else match aget? i.blSecond (zKey g r.run.bin) with
      | none => i.blFirst
      | some old => aput i.blFirst (zKey g r.run.bin) old
    blSecond := if i.blStage = 0 then i.blSecond
      else aput i.blSecond (zKey g r.run.bin) { e with time := some m.fabTime } })

/-- The entries of a bin are those of an older slow epoch than the bin's accepted ones (R30). -/
def Mach.binStale (m : Mach) (r : BinRead) : Bool :=
  match aget? m.imp.binTags r.run.bin with
  | none => false
  | some t => decide (r.endEpoch < t.2)

/-- All accepted entries of a bin are written together with its completion time, under its EXC_ID and slow epoch (R130, R134);
the merge point drops and counts those of an older epoch (R30). Bin 15 brings the internal temperatures (R139). -/
def Mach.binWrite (m : Mach) : Mach :=
  match m.imp.read with
  | none => m
  | some r =>
    if m.binStale r then
      ((m.updImp (fun i => { i with read := none })).updArch (fun x => { x with stale := satInc x.stale })).passCheck
    else
      let lost := (m.podAddrs.filter (fun a => r.bad.contains a || !r.got.any (fun c => c.pod == a))).length
      let a := m.each r.got (fun c x => x.each (List.range 16) (fun k y => y.writeEntry r c.pod k (nth c.vals k (0, 0, 0, 0))))
      let b := a.updImp (fun i => { i with
        read := none, nDone := satInc i.nDone, binTimes := aput i.binTimes r.run.bin m.fabTime
        binTags := aput i.binTags r.run.bin (r.run.excId, r.endEpoch), nRejC := satAdd i.nRejC (16 * lost) })
      (b.when (r.run.bin == 15) Mach.allTInt).passCheck

def execBinWrite (s : State) : Host.Outcome State Fault Refusal := onProc Mach.binWrite s

/-! ## Ageing (R140) and the slow epoch -/

/-- Thermal equilibrium of a pod (R140): |string current| ≤ 0.05 × learned string capacity per hour, NTC spread ≤ 1.0 °C. The
current is in mA, the capacity in µC. -/
def Mach.inEquilibrium (m : Mach) (cap : Rat) (p : SweepPod) : Bool :=
  match maxInt? p.data.ntc, minInt? p.data.ntc with
  | some hi, some lo => !p.missing && decide (hi - lo ≤ 100)
      && decide ((m.meas.iShunt.natAbs : Rat) * 72000000 ≤ cap)
  | _, _ => false

/-- The start of thermal equilibrium per pod, kept while it holds; the learned string capacity is in µC. -/
def Mach.equilEpoch (m : Mach) (cap : Rat) : Mach :=
  m.updImp (fun i => { i with
    equil := m.chain.shared.foldl (fun l p =>
      if m.inEquilibrium cap p.2 then aput l p.1 (aget i.equil p.1 m.now) else l) [] })

/-- The ageing factor of a group after 2 h of equilibrium, at most once per 24 h (R140), committed to the store; from a bin-15
entry that R139 could use (log entry 162). -/
def Mach.ageingUpdate (m : Mach) (g : Nat) : Mach :=
  let z := aget m.imp.map (zKey g 15) {}
  let last := match aget? m.imp.ageingAt g with
    | none => true
    | some t => decide (t + 86400 * second ≤ m.fabTime)
  match aget? m.imp.ref (zKey g 15), aget? m.imp.equil (podOf g) with
  | some r, some t =>
    if m.elapsed t (7200 * second) && last && decide (64 ≤ z.q) && m.fresh z (120 * second) then
      let dt : Rat := (m.podTemp g - aget m.imp.refTemp g 0 : Int) / 100
      let a := (roundQ (10000 * qdiv z.re (r.re * expQ (-(m.beta 0) * dt)))).toNat
      let x := m.updImp (fun i => { i with
        ageing := if a = 10000 then adel i.ageing g else aput i.ageing g a, ageingAt := aput i.ageingAt g m.fabTime })
      x.store [.ageing x.imp.ageing x.imp.ageingAt] []
    else m
  | _, _ => m

def execAgeingUpdate (g : Nat) (s : State) : Host.Outcome State Fault Refusal := onProc (fun m => m.ageingUpdate g) s

/-- Where no excitation can run the scheduler waits for nothing (R143). -/
def Mach.waitsOver (m : Mach) : Mach :=
  if m.excites && m.excEnabled then m else m.updImp (fun i => { i with headroomWait := false, restWait := i.restWait && m.plant.inRest })

/-- The impedance scheduler at a slow epoch (R125): excitation disabled stops the running bin; a rest slot aborts it; a pass
whose bins left are all skipped in BUS_FORM is over (R122). -/
def Mach.impEpoch (m : Mach) : Mach :=
  if m.imp.run.isSome && m.plant.inRest then (m.abortBin false).updImp (fun i => { i with restWait := true })
  else if m.imp.run.isSome && !m.excEnabled then (m.abortBin true).waitsOver
  else if m.imp.run.isSome then m.updImp (fun i => { i with restWait := false })
  else m.waitsOver.passCheck

/-- AGE of an entry at a time (R133). -/
def ageCode (now : Nat) (z : ZEntry) : Nat :=
  match z.time with
  | none => 0xFF
  | some t =>
    let s := (now - t) / 1000000000
    if s < 64 then s else if s / 60 < 64 then 64 + s / 60 else if s / 3600 < 64 then 128 + s / 3600
    else if s / 86400 < 63 then 192 + s / 86400 else 0xFF

/-- Impedance status, 0x2300.00 (R143). -/
def Mach.impStatus (m : Mach) : Nat :=
  bitIf 9 m.imp.blFailed + bitIf 8 (m.presentGroups.any (fun g => (aget? m.tIntNow g).isNone)) + bitIf 7 m.imp.clipped
    + bitIf 6 (m.imp.blStage != 0) + bitIf 5 (!m.parB 0x2302 1) + bitIf 4 (m.mode.mode == .busForm)
    + bitIf 3 m.imp.restWait + bitIf 2 m.imp.headroomWait + bitIf 1 m.mode.baselinePending + bitIf 0 m.imp.run.isSome

end Sys2Proof.Machine
end

