-- ==== Sys2Proof/Machine/Estimation.lean ====
section
/-! DEFINITION. Meanings of the commands of chapter 6, State Estimation (R144 to R163, R515). -/

namespace Sys2Proof.Machine

/-! ## Parameters of a group's model (R144) -/

/-- A point of the mean OCV branch in V (0x2407.00 is in 0.1 mV). -/
def Mach.ocvMean (m : Mach) (i : Nat) : Rat := ((m.ocvPoint 0 i + m.ocvPoint 1 i : Nat) : Rat) / 20000

/-- Half the difference of the branches at a point, in V. -/
def Mach.ocvHalf (m : Mach) (i : Nat) : Rat := (((m.ocvPoint 1 i : Int) - m.ocvPoint 0 i : Int) : Rat) / 20000

/-- The 5 % interval of a state of charge, 0 to 19. -/
def ocvSeg (s : Rat) : Nat := min 19 (s / 5).floor.toNat

/-- OCV(s, h) in V, linear between the 5 % points (R144). -/
def Mach.ocv (m : Mach) (s h : Rat) : Rat :=
  let i := ocvSeg s
  let x := (clampQ 0 100 s - 5 * i) / 5
  let at_ := fun j => m.ocvMean j + h * m.ocvHalf j
  at_ i + x * (at_ (i + 1) - at_ i)

/-- m = |dOCV/ds| of the mean branch in mV per % (R148). -/
def Mach.ocvSlope (m : Mach) (s : Rat) : Rat :=
  let i := ocvSeg s
  1000 * absQ (m.ocvMean (i + 1) - m.ocvMean i) / 5

/-- The state of charge whose mean OCV is a voltage (R515); the lowest one where the branch is flat. -/
def Mach.ocvInv (m : Mach) (v : Rat) : Rat :=
  if v ≤ m.ocvMean 0 then 0
  else match (List.range 20).find? (fun i => decide (v ≤ m.ocvMean (i + 1))) with
    | none => 100
    | some i => 5 * i + 5 * qdiv (v - m.ocvMean i) (m.ocvMean (i + 1) - m.ocvMean i)

/-- A group's resistances in Ω and τ1 in s at a core temperature (R144), none without a fit of STATUS 0: R0, R1, R2, τ1. -/
def Mach.gParams (m : Mach) (g : Nat) (tc : Rat) : Option (Rat × Rat × Rat × Rat) :=
  match aget? m.imp.okFits g with
  | none => none
  | some f =>
    let dt := tc - (f.temp : Rat) / 100
    let k0 := expQ (-(m.beta 0) * dt)
    let k1 := expQ (-(m.beta 1) * dt)
    some ((f.rOhm : Rat) / 10000000 * k0, (f.rCt : Rat) / 10000000 * k1, (f.sigma : Rat) / 1000000 * k1,
      (f.rCt : Rat) / 10000000 * ((f.cDl : Rat) / 1000))

/-- The ten-second resistance of a group (R161). -/
def Mach.r10 (m : Mach) (g : Nat) (tc : Rat) : Option Rat :=
  match m.gParams g tc with
  | none => none
  | some (r0, r1, r2, t1) =>
    some (r0 + r1 * (1 - expQ (-(qdiv 10 t1))) + r2 * (1 - expQ (-1 / 10)))

/-- Rated group capacity in µC (0x2402.01 is in 0.01 Ah). -/
def Mach.ratedCap (m : Mach) : Rat := (m.par 0x2402 1 : Rat) * 36000000

/-! ## The model step (R146 to R150) -/

/-- The last closed sweep's entry of a group's pod. -/
def Mach.sweepOf (m : Mach) (g : Nat) : Option SweepPod := aget? m.chain.shared (podOf g)

/-- A group's fine voltage of the last sweep in V. -/
def Mach.fineV (m : Mach) (g : Nat) : Rat :=
  match m.sweepOf g with
  | none => 0
  | some p => (fineOf p.data ((g - 1) % 16) : Rat) / 100000

/-- A group is INVALID, MISSING, FINE_FAULT or PLAUSIBILITY (R148). -/
def Mach.groupBad (m : Mach) (g : Nat) : Bool :=
  m.groupInvalid g || (aget m.chain.plausA g {}).set || (match m.sweepOf g with
    | none => true
    | some p => p.missing || p.data.flag 14)

/-- The age of a group's fit lies within a bound. -/
def Mach.fitWithin (m : Mach) (g hours : Nat) : Bool :=
  match aget? m.imp.fits g, aget? m.imp.okFits g with
  | some f, some ok => f.status == 0 && decide (m.fabTime ≤ ok.time + hours * 3600 * second)
  | _, _ => false

/-- Bleed charge of a group over a step in µC: 150 mA while commanded and confirmed, 8 ms of every 10 ms (R146). -/
def Mach.bleedCharge (m : Mach) (g : Nat) (dt : Rat) : Rat :=
  let k := (g - 1) % 16
  match m.sweepOf g with
  | none => 0
  | some p => if bit (aget m.bal.masks (podOf g) 0) k && bit p.data.bleed k then 120000 * dt else 0

/-- The factor that doubles at 50 Hz (R147, R148). -/
def Mach.rateFactor (m : Mach) : Rat := if m.modelRate = 50 then 2 else 1

/-- Entry i, j of the covariance. -/
def GroupEst.cov (e : GroupEst) (i j : Nat) : Rat := nth e.p (4 * i + j) 0

/-- A 4 × 4 matrix by rows. -/
def rows4 (f : Nat → Nat → Rat) : List Rat := (List.range 4).flatMap (fun i => (List.range 4).map (fun j => f i j))

/-- A sum over the four filter states. -/
def sum4 (f : Nat → Rat) : Rat := f 0 + f 1 + f 2 + f 3

/-- How the predicted voltage of R146 moves with s (V per %), v1, v2 and h. -/
def Mach.voltRow (m : Mach) (e : GroupEst) (i : Nat) : Rat :=
  match i with
  | 0 => (m.ocv (5 * ocvSeg e.s + 5) e.h - m.ocv (5 * ocvSeg e.s) e.h) / 5
  | 3 => m.ocv e.s 1 - m.ocv e.s 0
  | _ => -1

/-- The Kalman update by an innovation in V with noise r in V² (R146, R151, log entry 154): gain p hᵀ / (h p hᵀ + r). -/
def Mach.correct (m : Mach) (e : GroupEst) (y r : Rat) : GroupEst :=
  let h := m.voltRow e
  let ph := fun i => sum4 (fun j => e.cov i j * h j)
  let s := sum4 (fun i => h i * ph i) + r
  let k := fun i => qdiv (ph i) s
  { e with
    s := e.s + k 0 * y, v1 := e.v1 + k 1 * y, v2 := e.v2 + k 2 * y, h := clampQ (-1) 1 (e.h + k 3 * y)
    p := rows4 (fun i j => e.cov i j - k i * sum4 (fun n => h n * e.cov n j)) }

/-- The process noise of a filter state; that of v1 and v2 is doubled at 50 Hz (R146, R147). -/
def Mach.noise (m : Mach) (i : Nat) : Rat := Config.procNoise i * (if i = 1 || i = 2 then m.rateFactor else 1)

/-- The coulomb, thermal, polarisation and covariance part of a step (R146): the group's charge in µC, interval in s, mean
square current in A². F is diagonal: each state's factor in its own step. -/
def Mach.predict (m : Mach) (g : Nat) (e : GroupEst) (dq dt sq : Rat) : GroupEst :=
  let i := qdiv dq dt / 1000000
  let (r0, r1, r2, t1) := (m.gParams g e.tc).getD (0, 0, 0, 0)
  let e1 := if t1 = 0 then 0 else expQ (-(dt / t1))
  let e2 := expQ (-(dt / 100))
  let ts : Rat := (m.podTemp g : Rat) / 100
  let rth : Rat := (m.par 0x240F 0 : Rat) / 10000
  let hd : Rat := if 0 < dq then -1 else 1
  let eh := qdiv (absQ dq) (e.c / 20)
  let f := fun k => nth [1, e1, e2, 1 - eh] k 0
  { e with
    s := e.s - qdiv (100 * dq) e.c
    h := clampQ (-1) 1 (e.h + (hd - e.h) * eh)
    v1 := e.v1 * e1 + r1 * i * (1 - e1)
    v2 := e.v2 * e2 + r2 * i * (1 - e2)
    tc := e.tc + dt * qdiv (sq * (r0 + r1 + r2) - qdiv (e.tc - ts) rth) (m.par 0x240F 1 : Rat)
    p := rows4 (fun k n => f k * e.cov k n * f n + (if k = n then m.noise k else 0))
    net := e.net + roundQ dq }

/-- The voltage update under load (R148): noise and bound by the age of the fit. -/
def Mach.loadUpdate (m : Mach) (g : Nat) (e : GroupEst) (fresh : Bool) : GroupEst :=
  let skewed := m.chain.reversed && m.chain.skew != 0
  if !fresh || skewed || m.groupBad g || !m.fitWithin g 24 then e
  else
    let young := m.fitWithin g 1
    let r0 := ((m.gParams g e.tc).getD (0, 0, 0, 0)).1
    let y := m.fineV g - (m.ocv e.s e.h - e.v1 - e.v2 - (m.meas.iLatch : Rat) / 1000 * r0)
    let slope := m.ocvSlope e.s
    let f := m.correct e y (if young then 2564 / 100000000 else 22564 / 100000000)
    if young && decide (1 ≤ slope) then { f with u := min e.u (max (qdiv (15 * m.rateFactor) slope) 1) } else f

/-- The limiter of R150 on a reported value: the same charge, then towards the internal value at the reporting rate. -/
def Mach.report (m : Mach) (rep target dq c dt : Rat) : Rat :=
  let r := rep - qdiv (100 * dq) c
  let lim := (m.par 0x2406 0 : Rat) / 100 * dt / 60
  clampQ 0 100 (r + clampQ (-lim) lim (target - r))

/-- What one step covers: the string's charge in µC, discharge positive, the interval in s, the mean square current in A². -/
structure StepSpan where
  /-- R146; charge of the string since the last step, in µC. -/
  dq : Rat
  /-- R146; time since the last step, in s. -/
  dt : Rat
  /-- R146; mean square of the current over that time, in A². -/
  sq : Rat
  deriving DecidableEq, Repr

/-- One group's step (R146, R148, R150): prediction, correction, core temperature, then the growth of the bound. -/
def Mach.stepGroup (m : Mach) (g : Nat) (e : GroupEst) (w : StepSpan) (fresh : Bool) : GroupEst :=
  let dq := w.dq + m.bleedCharge g w.dt
  let a := m.loadUpdate g (m.predict g e dq w.dt w.sq) fresh
  let b := match aget? m.tIntNow g with
    | none => a
    | some t => { a with tc := a.tc + (1 / 5) * ((t : Rat) / 100 - a.tc) }
  { b with sRep := m.report e.sRep b.s dq b.c w.dt, stale := false
           u := min 100 (b.u + qdiv (100 * (absQ dq / 1000 + 20000 * w.dt)) b.c) }

/-- Least of listed rationals. -/
def minQ : List Rat → Rat
  | [] => 0
  | [x] => x
  | x :: y :: t => min x (minQ (y :: t))

/-- Greatest of listed rationals. -/
def maxQ : List Rat → Rat
  | [] => 0
  | [x] => x
  | x :: y :: t => max x (maxQ (y :: t))

/-- A and B of the string value (R150), in µC, over values of state of charge. -/
def strAB (l : List (Rat × Rat)) : Rat × Rat :=
  (minQ (l.map (fun p => p.1 * p.2 / 100)), minQ (l.map (fun p => (100 - p.1) * p.2 / 100)))

/-- The string value of listed states of charge and capacities, in % (R150). -/
def strSoc (l : List (Rat × Rat)) : Rat := qdiv (100 * (strAB l).1) ((strAB l).1 + (strAB l).2)

/-- The learned string capacity A + B in µC (R150). -/
def Mach.strCap (m : Mach) : Rat :=
  let ab := strAB (m.est.groups.map (fun p => (p.2.s, p.2.c)))
  ab.1 + ab.2

/-- Reported bound of a group (R149). -/
def GroupEst.uRep (e : GroupEst) : Rat := min 100 (e.u + absQ (e.s - e.sRep))

/-- The string bound (R149): the greatest reported bound among the groups that limit the string value. -/
def Mach.strBound (m : Mach) : Rat :=
  let l := m.est.groups.map (fun p => p.2)
  let a := minQ (l.map (fun e => e.sRep * e.c))
  let b := minQ (l.map (fun e => (100 - e.sRep) * e.c))
  if l.isEmpty then 100
  else maxQ ((l.filter (fun e => e.sRep * e.c == a || (100 - e.sRep) * e.c == b)).map GroupEst.uRep)

/-- The step interval in slow epochs (R146). -/
def Mach.stepEpochs (m : Mach) : Nat := if m.modelRate = 50 then 2 else 1

/-- What the step of a partition covers (R31, R146): net charge in nC, squared rms current in mA² × slow epochs, and slow
epochs, those of the steps that it has missed included. -/
def Mach.spanOf (m : Mach) (p : Nat) (irms : Nat) : Int × Nat × Nat :=
  let old := aget m.est.behind p (0, 0, 0)
  (old.1 + m.unused + m.est.carry, old.2.1 + irms * irms * m.stepEpochs, old.2.2 + m.stepEpochs)

/-- A span in the units of the model; the section's charge and current are scaled by 0x2204.00 (R100). -/
def Mach.span (m : Mach) (s : Int × Nat × Nat) : StepSpan :=
  { dq := m.shuntScale * s.1 / 1000, dt := (s.2.2 : Rat) / 100, sq := qdiv (s.2.1 : Rat) (1000000 * s.2.2 : Nat) }

/-- The groups' and the string's values after a step. A partition whose new host has not delivered the last step keeps its
groups' values, stale, and its next step covers the time (R31). -/
def Mach.runModel (m : Mach) (irms : Nat) : Mach :=
  let dt : Rat := (m.stepEpochs : Rat) / 100
  let fresh := decide (m.est.lastStep ≤ m.chain.lastEpoch)
  let late := fun p => m.arch.restarted.contains p
  let gs := m.est.groups.map (fun p =>
    if late (m.partOf p.1) then (p.1, { p.2 with stale := true })
    else (p.1, m.stepGroup p.1 p.2 (m.span (m.spanOf (m.partOf p.1) irms)) fresh))
  let l := gs.map (fun p => (p.2.s, p.2.c))
  let lr := gs.map (fun p => (p.2.sRep, p.2.c))
  let ab := strAB l
  let a := m.updEst (fun e => { e.use m.meas with
    groups := gs, lastStep := m.slowEpoch
    behind := m.arch.restarted.map (fun p => (p, m.spanOf p irms))
    strInt := if gs.isEmpty then 0 else strSoc l
    strRep := if gs.isEmpty then 0 else
      m.report e.strRep (strSoc lr) (m.shuntScale * (m.unused + m.est.carry : Int) / 1000) (ab.1 + ab.2) dt })
  (a.updArch (fun x => { x with restarted := [] })).updBal (fun b => { b with
    bleed := m.est.groups.foldl (fun acc p =>
      let c := (m.bleedCharge p.1 dt).floor.toNat
      if c = 0 then acc else aupd acc p.1 0 (fun x => x + c)) b.bleed })

/-! ## Limits (R161) -/

/-- Derating points T1 to T4 in °C (0x240B.00). -/
def Mach.derate (m : Mach) (i : Nat) : Rat := (signedOf 2 (m.parElem 0x240B 0 2 i) : Rat) / 100

/-- f_T of R161. -/
def Mach.fT (m : Mach) (t : Rat) : Rat :=
  if t ≤ m.derate 0 || m.derate 3 ≤ t then 0
  else if t < m.derate 1 then qdiv (t - m.derate 0) (m.derate 1 - m.derate 0)
  else if m.derate 2 < t then qdiv (m.derate 3 - t) (m.derate 3 - m.derate 2)
  else 1

/-- The present groups with their model, R10 (with its stand-in) and whether any group has a fit. -/
def Mach.limitGroups (m : Mach) : List (GroupEst × Rat) × Bool :=
  let l := m.est.groups.map (fun p => (p.2, m.r10 p.1 p.2.tc))
  let known := l.filterMap (fun p => p.2)
  (l.map (fun p => (p.1, p.2.getD (2 * maxQ known))), !known.isEmpty)

/-- OCV − v1 − v2 of a group (R161). -/
def Mach.emf (m : Mach) (e : GroupEst) : Rat := m.ocv e.s e.h - e.v1 - e.v2

/-- The current limit of a direction in A (R161); discharge or charge. -/
def Mach.currentLimit (m : Mach) (dis : Bool) : Rat :=
  let rated : Rat := (m.par 0x240A (if dis then 2 else 3) : Rat)
  let (l, fit) := m.limitGroups
  let floor_ : Rat := (m.par 0x240A 0 : Rat) / 1000
  let ceil_ : Rat := (m.par 0x240A 1 : Rat) / 1000
  let volt := if !fit then rated / 2
    else minQ (l.map (fun p => qdiv (if dis then m.emf p.1 - floor_ else ceil_ - m.emf p.1) p.2))
  let tcs := l.map (fun p => p.1.tc)
  let temp := if tcs.isEmpty then 0 else rated * m.fT (minQ tcs) * m.fT (maxQ tcs)
  let soc := rated * clampQ 0 1 ((if dis then m.est.strRep - m.strBound else 100 - m.est.strRep - m.strBound) / 5)
  max 0 (min rated (min volt (min temp soc)))

/-- The power limit at a current limit, in W (R161). -/
def Mach.powerLimit (m : Mach) (dis : Bool) (i : Rat) : Rat :=
  let (l, fit) := m.limitGroups
  let v := if !fit then (if dis then (l.length : Rat) * (m.par 0x240A 0 : Rat) / 1000 else (m.meas.vStr : Rat) / 100)
    else (l.map (fun p => if dis then m.emf p.1 - i * p.2 else m.emf p.1 + i * p.2)).foldl (fun a x => a + x) 0
  max 0 (i * v)

/-- A nonnegative rational as a whole number, cut. -/
def cutQ (x : Rat) : Nat := x.floor.toNat

/-- ESTIMATION_LIMITS of a slow epoch (R161): 0 at model rate 0 and before the estimator runs; a follower passes the
lead's (R155). -/
def Mach.estLimits (m : Mach) : Mach :=
  if m.est.follower then m
  else if m.modelRate = 0 || !m.est.running then m.updEst (fun e => { e with iDis := 0, iChg := 0, pDis := 0, pChg := 0 })
  else
    let d := m.currentLimit true
    let c := m.currentLimit false
    m.updEst (fun e => { e with
      iDis := cutQ (1000 * d), iChg := cutQ (1000 * c), pDis := cutQ (m.powerLimit true d), pChg := cutQ (m.powerLimit false c) })

/-- REST_REQUEST (R152): the time since the last qualifying rest or the string bound has reached its threshold. -/
def Mach.restRequest (m : Mach) : Mach :=
  if !m.est.running then m
  else m.updEst (fun e => { e with
    restRequest := e.restRequest || decide (e.lastRest + m.par 0x2408 0 * 60 * second ≤ m.fabTime)
      || decide ((m.par 0x2408 1 : Rat) / 100 ≤ m.strBound) })

/-- This module is the estimation lead (R155). -/
def Mach.estLead (m : Mach) : Bool := !m.paired || m.isMaster || m.pair.lost

/-- What this module would publish as lead (R155, R352). -/
def Mach.leadValues (m : Mach) : LeadValues :=
  { epoch := m.slowEpoch, sRep := m.est.groups.map (fun p => (p.1, p.2.sRep))
    uRep := m.est.groups.map (fun p => (p.1, p.2.uRep)), str := m.est.strRep, bound := m.strBound
    limits := (m.est.iDis, m.est.iChg, m.est.pDis, m.est.pChg), cooling := m.therm.d }

/-- The lead's full state goes to the follower (R156). -/
def Mach.sendFull (m : Mach) : Mach :=
  if m.paired && m.isMaster && m.est.running then
    (m.emit (.estimatorFull m.pairHead m.est.groups)).updEst (fun e => { e with sentAt := m.now })
  else m

/-- What the lead sends at a slow epoch (R155, R156): its values, and its full state every 60 s. -/
def Mach.estSend (m : Mach) : Mach :=
  if !m.paired || !m.isMaster || !m.est.running then m
  else (m.emit (.estimator m.pairHead m.leadValues)).when (m.elapsed m.est.sentAt (60 * second)) Mach.sendFull

/-- The model step at a slow-epoch boundary (R146, R147): a state received from the partner replaces the own one first
(R154, R156). -/
def Mach.modelStep (m : Mach) (irms : Nat) : Mach :=
  let a := match m.est.leadState with
    | none => m
    | some l => m.updEst (fun e => { e with groups := l, leadState := none, running := true, importDue := false })
  let due := a.est.running && a.modelRate != 0 && (a.modelRate == 100 || decide (a.slowEpoch % 2 = 0))
  ((((a.when due (fun x => x.runModel irms)).restRequest).estLimits).estSend).equilEpoch a.strCap

def execModelStep (irms : Nat) (s : State) : Host.Outcome State Fault Refusal := onProc (fun m => m.modelStep irms) s

/-! ## Rests (R151 to R153) and capacity (R157, R158) -/

/-- The rest conditions at a fast epoch: current within ±1.0 A and no excitation (R151). -/
def Mach.restEpoch (m : Mach) : Mach :=
  if decide (m.meas.iShunt.natAbs ≤ 1000) && m.imp.run.isNone then
    m.updEst (fun e => { e with restFrom := match e.restFrom with
      | none => some m.now
      | some t => some t })
  else m.updEst (fun e => { e with restFrom := none, restActive := false })

/-- Capacity in 0.01 Ah of a charge in µC. -/
def capUnits (c : Rat) : Nat := cutQ (c / 36000000)

/-- A new anchor meets the held one (R157): the capacity moves by at most 1 %, or the measurement is rejected. -/
def Mach.learn (m : Mach) (g : Nat) (e : GroupEst) (t : Nat) : Mach :=
  let b : Anchor := { s := e.s, net := e.net, time := t }
  let keep := fun (x : GroupEst) (y : Mach) => y.updEst (fun z => { z with groups := aput z.groups g x })
  match e.anchor with
  | none => keep { e with anchor := some b } m
  | some a =>
    let old := decide (a.time + 2592000 * second < t)
    if absQ (a.s - b.s) < 30 then if old then keep { e with anchor := some b } m else m
    else if old then keep { e with anchor := some b } m
    else
      let meas := qdiv (((b.net - a.net : Int) : Rat) * 100) (a.s - b.s)
      if m.ratedCap / 2 ≤ meas && meas ≤ 12 * m.ratedCap / 10 then
        let c := e.c + clampQ (-(e.c / 100)) (e.c / 100) ((meas - e.c) / 5)
        let x := keep { e with anchor := some b, c := c } m
        (x.updEst (fun z => { z with nCap := satInc z.nCap })).store [.capacity g c (some b)]
          [.record 0x0601 g (u32 (capUnits e.c) ++ u32 (capUnits c))]
      else keep { e with anchor := some b } (m.updEst (fun z => { z with nCapRej := satInc z.nCapRej }))

/-- The rest correction of one group (R148, R151): skipped where the polarisation exceeds 20 mV or the group is bad. -/
def Mach.restGroup (m : Mach) (t : Nat) (g : Nat) : Mach :=
  match aget? m.est.groups g with
  | none => m
  | some e =>
    if m.groupBad g || decide ((20 : Rat) / 1000 < absQ (e.v1 + e.v2)) then m
    else
      let slope := m.ocvSlope e.s
      let f := m.correct e (m.fineV g + e.v1 + e.v2 - m.ocv e.s e.h) (464 / 100000000)
      let f := if 1 ≤ slope then { f with u := min e.u (max (qdiv (3 * m.rateFactor) slope) (3 / 10)) } else f
      let a := m.updEst (fun z => { z with groups := aput z.groups g f })
      if 1 ≤ slope && decide (f.u ≤ 2) then a.learn g f t else a

/-- The correction of a qualifying rest at the last closed sweep (R151 to R154, R157). -/
def Mach.restCorrect (m : Mach) : Mach :=
  let t := m.chain.lastEpoch * 10000000
  let a := m.each (m.est.groups.map (fun p => p.1)) (fun g x => x.restGroup t g)
  let b := a.updEst (fun e => { e with lastRest := t, lastCorr := t, restRequest := false, bridged := false, refAged := false })
  b.when m.est.refAged (fun x => x.record 0x0600 0 (u8 0 ++ u16 (min 65535 ((m.fabTime - m.est.lastRest) / (3600 * second)))))

/-- A rest qualifies at the sweep that completes its 15 s (R151); at model rate 0 nothing is corrected (R147). -/
def Mach.qualifyRest (m : Mach) : Mach :=
  if m.est.running && m.modelRate != 0 && !m.est.restActive && m.elapsed? m.est.restFrom (15 * second) then
    (m.updEst (fun e => { e with restActive := true, nRests := satInc e.nRests })).restCorrect
  else m

def execQualifyingRest (s : State) : Host.Outcome State Fault Refusal := onProc Mach.qualifyRest s

/-- The correction is applied again at sweeps of slow epochs that are multiples of 6,000 while the rest holds (R151). -/
def Mach.restAgain (m : Mach) : Mach :=
  if m.est.running && m.modelRate != 0 && m.est.restActive && m.chain.lastEpoch % 6000 == 0
      && decide (m.est.lastRest < m.chain.lastEpoch * 10000000) then m.restCorrect
  else m

def execRestCorrection (s : State) : Host.Outcome State Fault Refusal := onProc Mach.restAgain s

/-- 48 h without a qualifying rest (R153). -/
def Mach.referenceAged (m : Mach) : Mach :=
  if m.est.running && !m.est.refAged && decide (m.est.lastRest + 172800 * second ≤ m.fabTime) then
    (m.updEst (fun e => { e with refAged := true })).record 0x0600 0
      (u8 1 ++ u16 (min 65535 ((m.fabTime - m.est.lastRest) / (3600 * second))))
  else m

def execReferenceAged (s : State) : Host.Outcome State Fault Refusal := onProc Mach.referenceAged s

/-! ## First start (R515) and the pair (R155, R156) -/

/-- A group as the first sweep after C5 initialises it (R515). -/
def Mach.initGroup (m : Mach) (g : Nat) : GroupEst :=
  let s := m.ocvInv (m.fineV g)
  { s := s, sRep := s, u := 100, tc := (m.podTemp g : Rat) / 100, c := m.ratedCap, p := rows4 Config.startCov }

/-- The estimator is initialised at the first sweep after C5 (R515). -/
def Mach.estInit (m : Mach) : Mach :=
  if !m.est.initDue || m.est.running || m.chain.shared.isEmpty then m
  else
    let gs := m.presentGroups.map (fun g => (g, m.initGroup g))
    let l := gs.map (fun p => (p.2.s, p.2.c))
    m.updEst (fun e => { e.use m.meas with
      running := true, initDue := false, groups := gs, lastRest := m.chain.lastEpoch * 10000000
      strInt := strSoc l, strRep := strSoc l, lastStep := m.slowEpoch })

def execEstimatorInit (s : State) : Host.Outcome State Fault Refusal := onProc Mach.estInit s

/-- The lead's values or full state arrive at the follower (R155, R156); a lead takes nothing but the full state that closes a
charge gap (R154). -/
def Mach.estimator (m : Mach) (values : Option LeadValues) (full : Option (List (Nat × GroupEst))) : Mach :=
  let a := match values with
    | none => m
    | some v => if m.estLead then m else
      (m.updEst (fun e => { e with
        lead := some v, follower := true, iDis := v.limits.1, iChg := v.limits.2.1, pDis := v.limits.2.2.1
        pChg := v.limits.2.2.2 })).updTherm (fun t => { t with leadD := some (v.epoch, v.cooling) })
  match full with
  | none => a
  | some l => if m.estLead && !m.est.importDue then a else
    (a.updEst (fun e => { e with leadState := some l })).updPair (fun p => { p with gotState := p.gotState || !m.estLead })

def execEstimator (values : Option LeadValues) (full : Option (List (Nat × GroupEst))) (ogen : Nat) (s : State) :
    Host.Outcome State Fault Refusal :=
  onProc (fun m => m.pairFrame ogen (fun x => x.estimator values full)) s

/-- The lead's values for a slow epoch have not come by the end of the next one (R156): the follower publishes its own, starting from the last lead
values it holds. -/
def Mach.leadMissing (m : Mach) : Mach :=
  match m.est.lead with
  | none => m
  | some v =>
    if m.est.follower && decide (v.epoch + 3 ≤ m.slowEpoch) then
      m.updEst (fun e => { e with
        follower := false, strRep := v.str
        groups := e.groups.map (fun p => (p.1, { p.2 with sRep := (aget? v.sRep p.1).getD p.2.sRep })) })
    else m

def execLeadValuesMissing (s : State) : Host.Outcome State Fault Refusal := onProc Mach.leadMissing s

/-- The roles move with mastership (R90, R156): a module that leads follows nobody. -/
def Mach.estRole (m : Mach) : Mach := if m.estLead && m.est.follower then m.updEst (fun e => { e with follower := false }) else m

/-- The bridge of a power-on (R154): self-discharge over the gap in hours; s_rep = s_int. -/
def Mach.bridgePowerOn (m : Mach) (gap : Nat) : Mach :=
  let h : Rat := (gap : Rat) / (3600 * second : Nat)
  let a := m.updEst (fun e => { e with
    groups := e.groups.map (fun p =>
      let s := clampQ 0 100 (p.2.s - (m.par 0x240C 0 : Rat) / 1000 * h)
      (p.1, { p.2 with s := s, sRep := s }))
    nBridged := satInc e.nBridged })
  a.growBounds (fun _ => 2 / 10 + h / 100)

/-! ## What the estimator reports (R155, R159, R160, R163) -/

/-- The published string value and bound in % (R155). -/
def Mach.pubSoc (m : Mach) : Rat × Rat :=
  match m.est.follower, m.est.lead with
  | true, some v => (v.str, v.bound)
  | _, _ => if m.est.running then (m.est.strRep, m.strBound) else (0, 100)

/-- SoH_C of a capacity in 0.01 % (R159). -/
def Mach.sohC (m : Mach) (c : Rat) : Nat := cutQ (qdiv (10000 * c) m.ratedCap)

/-- SoH_R of a group in 0.01 % (R159), none without a growth ratio or while BASELINE_PENDING stands. -/
def Mach.sohR (m : Mach) (g : Nat) : Option Nat :=
  if m.mode.baselinePending then none
  else match aget? m.imp.growth g with
    | none => none
    | some (a, b) => some (min 10000 (cutQ (qdiv 100000000 (7 * a + 3 * b : Nat))))

/-- Lowest learned group capacity in µC. -/
def Mach.lowCap (m : Mach) : Rat := minQ (m.est.groups.map (fun p => p.2.c))

/-- Equivalent full cycles in 0.01 cycle (R160). -/
def Mach.efc (m : Mach) : Nat := cutQ (qdiv (100 * m.est.throughput : Nat) (2 * m.ratedCap))

/-- A group's published state of charge and bound in % (R155, R515): the lead's on a follower; 0 and 100 before the
estimator runs. -/
def Mach.pubGroup (m : Mach) (g : Nat) : Rat × Rat :=
  match m.est.follower, m.est.lead with
  | true, some v => ((aget? v.sRep g).getD 0, (aget? v.uRep g).getD 0)
  | _, _ => if !m.est.running then (0, 100) else match aget? m.est.groups g with
    | none => (0, 0)
    | some e => (e.sRep, e.uRep)

/-- The core temperature of a group in °C, none before its first (R515). -/
def Mach.coreTemp (m : Mach) (g : Nat) : Option Rat :=
  if !m.est.running then none else match aget? m.est.groups g with
    | none => none
    | some e => some e.tc

/-- Estimation status, 0x2405.00 (R163), over the groups present. -/
def Mach.estStatus (m : Mach) : Nat :=
  let g := m.est.groups
  let present := m.presentGroups
  bitIf 10 (present.any (fun k => (m.sohR k).isNone))
    + bitIf 9 (present.any (fun k => decide (m.ocvSlope (aget g k {}).s < 1)))
    + bitIf 8 m.est.restActive + bitIf 7 m.est.follower
    + bitIf 6 (g.any (fun p => decide (1 / 100 < absQ (p.2.s - p.2.sRep))) || decide (1 / 100 < absQ (m.est.strInt - m.est.strRep)))
    + bitIf 5 (present.any (fun k => (aget? m.imp.okFits k).isNone)) + bitIf 4 m.est.bridged + bitIf 3 (m.modelRate == 0)
    + bitIf 2 (m.modelRate == 50) + bitIf 1 m.est.refAged + bitIf 0 m.est.restRequest

/-- The throughput is committed at every increase of 0.10 cycle (R160). -/
def Mach.throughputEpoch (m : Mach) : Mach :=
  if decide (0 < m.ratedCap) && decide (m.ratedCap / 5 ≤ ((m.est.throughput : Rat) - m.est.thrCommit)) then
    (m.updEst (fun e => { e with thrCommit := e.throughput })).store [.throughput m.est.throughput m.est.thrCounts] []
  else m

end Sys2Proof.Machine
end

