-- ==== Sys2Proof/Machine/Balancing.lean ====
section
/-! DEFINITION. Meanings of the commands of chapter 7, Cell Balancing (R164 to R174). -/

namespace Sys2Proof.Machine

/-- Bleeding is stopped by mode (R36, R170). -/
def Mach.bleedModeOff (m : Mach) : Bool := !m.mode.mode.bleeds

/-- Bleeding is stopped other than by the mode (R170): by a setting, by the model rate, or by a reaction that entered LOCKOUT or
SAFE_HOLD. -/
def Mach.bleedStopped (m : Mach) : Bool :=
  !m.parB 0x2501 0 || m.modelRate == 0 || (m.inMode [.safeHold, .lockout] && m.mode.cause == .safetyReaction)

/-- A pod's highest NTC reading lies above the limit (R166). -/
def Mach.podHot (m : Mach) (a : Nat) : Bool :=
  match aget? m.chain.shared a with
  | none => false
  | some p => match maxInt? p.data.ntc with
    | none => false
    | some t => !p.missing && decide (m.parS 0x2501 5 2 < t)

/-- Excluded by flags or voltage (R166). -/
def Mach.exclFlags (m : Mach) (g : Nat) : Bool :=
  m.groupBad g || decide (m.fineV g < ((m.par 0x240A 0 + m.par 0x2501 6 : Nat) : Rat) / 1000)

/-- Excluded by its reported bound (R166). -/
def Mach.exclBound (m : Mach) (g : Nat) : Bool :=
  decide ((m.par 0x2501 4 : Rat) / 100 < (aget m.est.groups g {}).uRep)

/-- A group is excluded from bleeding (R166). -/
def Mach.bleedExcluded (m : Mach) (g : Nat) : Bool := m.exclFlags g || m.exclBound g || m.podHot (podOf g)

/-- Insert by falling excess, the lower group first on equal excess (R167). -/
def insExcess (l : List (Nat × Rat)) (x : Nat × Rat) : List (Nat × Rat) := insertBy (fun h y => decide (y.2 ≤ h.2)) x l

/-- The mask in force has a group's bit. -/
def Mach.inMask (m : Mach) (g : Nat) : Bool := bit (aget m.bal.masks (podOf g) 0) ((g - 1) % 16)

/-- The balance target in µC (R165). -/
def Mach.balTarget (m : Mach) : Rat :=
  let a := minQ (m.est.groups.map (fun p => p.2.s * p.2.c / 100))
  minQ (m.est.groups.map (fun p => p.2.c - a))

/-- Excess of each group in µC (R165). -/
def Mach.balExcess (m : Mach) : List (Nat × Rat) :=
  m.est.groups.map (fun p => (p.1, m.balTarget - (100 - p.2.s) * p.2.c / 100))

/-- A pod's mask (R167). -/
def Mach.decidePod (m : Mach) (e : List (Nat × Rat)) (a : Nat) : Nat :=
  let on := (m.par 0x2501 1 : Rat) / 10000 * m.ratedCap
  let off := (m.par 0x2501 2 : Rat) / 10000 * m.ratedCap
  let cand := e.filter (fun p => podOf p.1 == a && !m.bleedExcluded p.1
    && (decide (on ≤ p.2) || (m.inMask p.1 && decide (off < p.2))))
  maskOf (((cand.foldl insExcess []).take (m.par 0x2501 3)).map (fun p => (p.1 - 1) % 16))

/-- The window of a bin runs (R169): from the latch that ends the lead-in to the one that ends the window. -/
def Mach.binWindow (m : Mach) : Bool :=
  match m.imp.run with
  | none => false
  | some r => decide (r.start + leadEpochs r.bin ≤ m.slowEpoch)
      && decide (m.slowEpoch < r.start + leadEpochs r.bin + windowEpochs r.bin)

/-- A decision epoch of the estimation lead, once its sweep is complete (R165 to R168); where bleeding is off every mask is 0
(R170). -/
def Mach.balDecide (m : Mach) : Mach :=
  if !m.estLead || !m.est.running || m.chain.walnutEpoch % 100 != 0 then m
  else
    let e := m.balExcess
    let masks := if m.bleedModeOff || m.bleedStopped then []
      else (m.podAddrs.map (fun a => (a, m.decidePod e a))).filter (fun p => p.2 != 0)
    m.updBal (fun b => { b with
      decided := masks, target := cutQ (m.balTarget / 3600000), excess := e.map (fun p => (p.1, (p.2 / 3600000).floor))
      nDecisions := satInc b.nDecisions
      nDeferred := if m.binWindow && masks != b.decided then satInc b.nDeferred else b.nDeferred })

def execBalancingDecision (s : State) : Host.Outcome State Fault Refusal := onProc Mach.balDecide s

/-- A mask without its excluded groups. -/
def Mach.trimMask (m : Mach) (a mask : Nat) : Nat :=
  maskOf ((bitsOf 16 mask).filter (fun k => !m.bleedExcluded (groupNo a k)))

/-- Masks without the groups excluded on this epoch's sweep, which stay out until a decision adds them again (R168); none
where bleeding is off (R170). -/
def Mach.trimmed (m : Mach) (l : List (Nat × Nat)) : List (Nat × Nat) :=
  if m.bleedModeOff || m.bleedStopped then []
  else (l.map (fun p => (p.1, m.trimMask p.1 p.2))).filter (fun p => p.2 != 0)

/-- The masks that a BLEED carries (R168 to R170): none where bleeding is off, those held during a bin window, minus the
groups excluded on this epoch's sweep. -/
def Mach.bleedMasks (m : Mach) : List (Nat × Nat) :=
  m.trimmed (if m.binWindow then (if m.bal.deferred then m.bal.held else m.bal.masks) else m.bal.decided)

/-- The module with its sweep as it stands: while it is in progress a pod that has not answered counts as MISSING. -/
def Mach.sweepNow (m : Mach) : Mach :=
  if m.chain.inSweep && !m.chain.delivered then m.updChain (fun c => { c with shared := m.closedSweep }) else m

/-- The exclusions of this epoch's sweep and their flags (R166, R174); `now` is the module with that sweep. -/
def Mach.exclusions (m now : Mach) : Mach :=
  let gs := m.est.groups.map (fun p => p.1)
  let ex := gs.filter now.bleedExcluded
  m.updBal (fun b => { b with
    nExcl := satAdd b.nExcl (ex.filter (fun g => !b.excluded.contains g)).length, excluded := ex
    podHot := m.podAddrs.any now.podHot, boundHigh := gs.any now.exclBound, exclFlag := gs.any now.exclFlags
    wdtSeen := m.mode.mode.bleeds && now.chain.shared.any (fun q => !q.2.missing && q.2.data.flag 15) })

/-- The masks of a BLEED (R168 to R172): the lead's own on this epoch's sweep, the follower's the last it received. -/
def Mach.masksNow (m now : Mach) : List (Nat × Nat) :=
  if m.estLead then now.bleedMasks else if m.bleedModeOff || m.bleedStopped then [] else m.bal.leadMasks

/-- The masks come into force, those held for a bin window stay (R169), and the lead gives them to its partner (R172). -/
def Mach.bleedApply (m now : Mach) : Mach :=
  let masks := m.masksNow now
  let b := m.updBal (fun x => { x with
    held := now.trimmed (if m.binWindow && !x.deferred then x.masks else x.held)
    decided := if m.estLead then now.trimmed x.decided else x.decided
    deferred := m.binWindow, masks := masks, zeroDue := false })
  b.when (b.paired && b.isMaster) (fun x => x.emit (.masks x.pairHead masks))

/-- A BLEED is due (R74, R168, R170): at T + 9.0 ms, or at once in the non-sweep window where every mask has become 0. -/
def Mach.bleedDue (m : Mach) : Bool := m.chainWindow && (m.bal.zeroDue || decide (m.fastEpoch % 10 = 9))

/-- The BLEED broadcast (R74, R168 to R172): the chain master sends it, the far end repeats it while a break is located; none
is sent in STORAGE, where only the flags and the partner's masks follow. -/
def Mach.bleedSend (m : Mach) : Mach :=
  if !m.bleedDue then m
  else
    let now := m.sweepNow
    let a := (m.exclusions now).bleedApply now
    if m.mode.mode == .storage then a else a.broadcast (.bleed 1 a.bal.masks)

def execBleed (s : State) : Host.Outcome State Fault Refusal := onProc Mach.bleedSend s

/-- The lead's masks arrive (R172): the follower holds them, and would send them as new lead until its first decision. -/
def Mach.takeMasks (m : Mach) (l : List (Nat × Nat)) : Mach :=
  if m.estLead then m else m.updBal (fun b => { b with leadMasks := l, decided := l, following := true })

def execMasks (l : List (Nat × Nat)) (ogen : Nat) (s : State) : Host.Outcome State Fault Refusal :=
  onProc (fun m => m.pairFrame ogen (fun x => x.takeMasks l)) s

/-- Groups bleeding, 0x2500.01. -/
def Mach.nBleeding (m : Mach) : Nat := m.bal.masks.foldl (fun a p => a + popCount 16 p.2) 0

/-- Balancing status, 0x2500.00 (R174). -/
def Mach.balStatus (m : Mach) : Nat :=
  bitIf 8 m.bal.wdtSeen + bitIf 7 (m.bal.following && !m.estLead) + bitIf 6 m.bal.podHot + bitIf 5 m.bal.boundHigh
    + bitIf 4 m.bal.exclFlag + bitIf 3 m.bal.deferred + bitIf 2 m.bleedStopped + bitIf 1 m.bleedModeOff
    + bitIf 0 (m.nBleeding != 0)

end Sys2Proof.Machine
end

