-- ==== Sys2Proof/Machine/Fabric.lean ====
section
/-! DEFINITION. Meanings of the commands of chapter 10, The Uapor Fabric (R225 to R260): ports, addresses, routes, time and
safe messages. -/

namespace Sys2Proof.Machine

/-! ## Ports (R230, R231, R237) -/

/-- A port. -/
def Mach.port (m : Mach) (p : Nat) : Port := nth m.fab.ports p {}

/-- Change a port. -/
def Mach.updPort (m : Mach) (p : Nat) (f : Port → Port) : Mach :=
  m.updFab (fun x => { x with ports := updNth x.ports p f })

/-- Plane of a port: 0 A, 1 B (R225). -/
def planeOf (p : Nat) : Nat := p / 2

/-- The code of a port state (0x2801). -/
def PortState.code : PortState → Nat
  | .empty => 0 | .rejected => 1 | .noLock => 2 | .hello => 3 | .delay => 4 | .up => 5 | .miswired => 6 | .heldDown => 7

/-- Ports of a plane that are UP. -/
def Mach.upPorts (m : Mach) (plane : Nat) : List Nat :=
  [2 * plane, 2 * plane + 1].filter (fun p => (m.port p).state == .up)

/-- Flood an own frame of a type, with its next SEQ (R233, R234). -/
def Mach.flood (m : Mach) (type : Nat) (o : Nat → Out) : Mach :=
  let q := (aget m.fab.seqs type 0 + 1) % 65536
  (m.updFab (fun x => { x with seqs := aput x.seqs type q })).emit (o q)

/-- The code of a tier. -/
def Tier.code : Tier → Nat
  | .auto => 0 | .hint => 1 | .stored => 2 | .established => 3

/-- The code of a time state (0x2806.00). -/
def TimeState.code : TimeState → Nat
  | .unsync => 0 | .acquiring => 1 | .synced => 2 | .holdover => 3 | .grandmaster => 4

/-- The own links that are UP on a plane: neighbour address, local port, remote port (R240). -/
def Mach.ownLinks (m : Mach) (plane : Nat) : List (Nat × Nat × Nat) :=
  (m.upPorts plane).map (fun p => ((m.port p).addr, p, (m.port p).peerPort))

/-- The LSA database of a plane. -/
def Mach.lsaDb (m : Mach) (plane : Nat) : List LsaRec := if plane = 0 then m.fab.dbA else m.fab.dbB

/-- The links a node lists on a plane. -/
def Mach.linksOf (m : Mach) (plane addr : Nat) : List (Nat × Nat × Nat) :=
  if addr = m.fab.addr then m.ownLinks plane
  else match (m.lsaDb plane).find? (fun r => r.addr == addr) with
    | none => []
    | some r => r.links

/-- Insert into a sorted list of (address, port), by address. -/
def insPair (l : List (Nat × Nat)) (x : Nat × Nat) : List (Nat × Nat) := insertBy (fun h y => decide (h.1 ≤ y.1)) x l

/-- Neighbours of a node over links that both ends list (R240), by rising address, with the local port. -/
def Mach.neighbours (m : Mach) (plane addr : Nat) : List (Nat × Nat) :=
  ((m.linksOf plane addr).filter (fun l =>
    (m.linksOf plane l.1).any (fun k => k.1 == addr && k.2.1 == l.2.2 && k.2.2 == l.2.1))).foldl
      (fun a l => insPair a (l.1, l.2.1)) []

/-- One level of the search: from (address, egress) entries in order of their paths, the nodes not yet seen. -/
def Mach.nextLevel (m : Mach) (plane : Nat) (seen : List Nat) (level : List (Nat × Nat)) : List (Nat × Nat) :=
  level.foldl (fun acc e => (m.neighbours plane e.1).foldl (fun acc n =>
    if seen.contains n.1 || acc.any (fun x => x.1 == n.1) then acc else acc ++ [(n.1, e.2)]) acc) []

/-- Shortest paths by hop count from the own node, ties by the first differing hop's lower neighbour (R241); at most the
given number of levels. -/
def Mach.searchFrom (m : Mach) (plane : Nat) : Nat → Nat → List Nat → List (Nat × Nat) → List (Nat × Nat × Nat)
  | 0, _, _, _ => []
  | n + 1, hops, seen, level =>
    match level with
    | [] => []
    | _ :: _ => level.map (fun e => (e.1, e.2, hops))
        ++ m.searchFrom plane n (hops + 1) (seen ++ level.map (fun e => e.1)) (m.nextLevel plane (seen ++ level.map (fun e => e.1)) level)

/-- The route table of a plane (R241): destinations more than 32 hops away are unreachable (R243). -/
def Mach.routes (m : Mach) (plane : Nat) : List (Nat × Nat × Nat) :=
  m.searchFrom plane 32 1 [m.fab.addr] (m.neighbours plane m.fab.addr)

/-- The tree of shortest paths from a node as (address, parent), ties as in the routes (R242). -/
def Mach.treeFrom (m : Mach) (plane : Nat) : Nat → List Nat → List Nat → List (Nat × Nat)
  | 0, _, _ => []
  | n + 1, seen, level =>
    let next := level.foldl (fun acc e => (m.neighbours plane e).foldl (fun acc n =>
      if seen.contains n.1 || acc.any (fun x => x.1 == n.1) then acc else acc ++ [(n.1, e)]) acc) []
    if next.isEmpty then []
    else next ++ m.treeFrom plane n (seen ++ next.map (fun x => x.1)) (next.map (fun x => x.1))

/-- The ports of the plane's broadcast tree, which is rooted at its lowest reachable address (R242): those towards the own
parent and the own children, the lowest port where two links join the same nodes. -/
def Mach.treePorts (m : Mach) (plane : Nat) : List Nat :=
  let own := m.fab.addr
  let root := (m.routes plane).foldl (fun a r => min a r.1) own
  let tree := m.treeFrom plane 1024 [root] [root]
  let nb := (m.neighbours plane own).filter (fun n => tree.any (fun e => e == (own, n.1) || e == (n.1, own)))
  (nb.filter (fun n => nb.all (fun k => k.1 != n.1 || decide (n.2 ≤ k.2)))).map (fun n => n.2)

/-- The longest shortest path from a node (R243). -/
def Mach.depthFrom (m : Mach) (plane addr : Nat) : Nat :=
  (m.searchFrom plane 1024 1 [addr] (m.neighbours plane addr)).foldl (fun a e => max a e.2.2) 0

/-- Diameter of a plane (R243) over the nodes reachable. -/
def Mach.diameter (m : Mach) (plane : Nat) : Nat :=
  (m.fab.addr :: (m.searchFrom plane 1024 1 [m.fab.addr] (m.neighbours plane m.fab.addr)).map (fun e => e.1)).foldl
    (fun a x => max a (m.depthFrom plane x)) 0

/-- Routes, diameters and what follows from them after a change of the links or the database (R240, R243, R258). -/
def Mach.recompute (m : Mach) : Mach :=
  let a := m.updFab (fun x => { x with
    routesA := m.routes 0, routesB := m.routes 1, diamA := min 255 (m.diameter 0), diamB := min 255 (m.diameter 1)
    diamBad := decide (32 < m.diameter 0) || decide (32 < m.diameter 1) })
  (a.when (a.fab.diamBad && !m.fab.diamBad) (fun x => x.raiseFault .diameterExceeded [])).noteDegraded

/-- The node originates its LSA on a plane (R240). -/
def Mach.originate (m : Mach) (plane : Nat) : Mach :=
  let seq := (if plane = 0 then m.fab.lsaSeq.1 else m.fab.lsaSeq.2) + 1
  (m.updFab (fun x => { x with lsaSeq := if plane = 0 then (seq % 2 ^ 32, x.lsaSeq.2) else (x.lsaSeq.1, seq % 2 ^ 32) })).flood 2
    (fun q => .lsa plane q m.fab.addr (seq % 2 ^ 32) (m.ownLinks plane))

/-- A transceiver is inserted, or bring-up starts (R230 step 1), in a cage whose last one was removed. -/
def Mach.inserted (m : Mach) (p : Nat) : Mach :=
  if (m.port p).state == .empty then m.updPort p (fun x => { x with txDisable := true, delays := [], t1 := none }) else m

def execTransceiverInserted (p : Nat) (s : State) : Host.Outcome State Fault Refusal := onProc (fun m => m.inserted p) s

/-- Page A0h has been read and checked against R228 (R230 step 2); page A2h gives the received power in 0.1 µW, 0 where the
transceiver does not implement it, at insertion and again every second (R228, R259). -/
def Mach.pageRead (m : Mach) (p : Nat) (ok : Bool) (power : Nat) : Mach :=
  m.updPort p (fun x => if x.state == .empty then
    { x with state := if ok then .noLock else .rejected, txDisable := !ok, rxPower := power }
    else { x with rxPower := power })

def execTransceiverCheck (p : Nat) (ok : Bool) (power : Nat) (s : State) : Host.Outcome State Fault Refusal :=
  onProc (fun m => m.pageRead p ok power) s

/-- Block lock (R230 step 4). -/
def execBlockLock (p : Nat) (s : State) : Host.Outcome State Fault Refusal :=
  onProc (fun m => if (m.port p).state == .noLock then m.updPort p (fun x => { x with state := .hello, missed := 0 }) else m) s

/-- HELLOs are sent from block lock on, on a miswired port too (R226, R230). -/
def Mach.helloSend (m : Mach) (p : Nat) : Mach :=
  let st := (m.port p).state
  if st == .hello || st == .delay || st == .up || st == .miswired then
    m.emit (.hello p m.fab.addr m.saf.sw2 m.fab.time.code m.fab.tier.code (m.port p).peer)
  else m

def execHelloSend (p : Nat) (s : State) : Host.Outcome State Fault Refusal := onProc (fun m => m.helloSend p) s

/-- The port is the pair link (R227): A.P1 to B.P1. -/
def Mach.isPairPort (m : Mach) (p : Nat) : Bool :=
  m.paired && p == 1 && (m.port 1).peerPort == 1

/-- What a HELLO on the pair link tells (R291, R292): the partner's serial and address; the same role, or
SINGLE, is a conflict. -/
def Mach.pairHello (m : Mach) (p : Nat) : Mach :=
  if !m.isPairPort p then m
  else
    let same := (m.port 1).peerRole == m.saf.sw2 || (m.port 1).peerRole == 0
    let a := m.updPair (fun x => { x with
      linkSerial := (m.port 1).peer, pAddr := (m.port 1).addr, roleConflict := same
      changed := x.changed || (x.pSerial != 0 && (m.port 1).peer != x.pSerial) })
    a.when (same && !m.pair.roleConflict) (fun x => x.raiseFault .pairRoleConflict [])

/-- A neighbour's HELLO (R230 step 6, R231, R237): once each side reports the other's serial the wiring is checked. On an UP
port another address or port of the neighbour is a change of the link (R240). -/
def Mach.helloFrame (m : Mach) (p serial addr peerPort role peerSees : Nat) : Mach :=
  let a := m.updPort p (fun x => { x with
    peer := serial, addr := addr, peerPort := peerPort, peerRole := role, peerSeesMe := peerSees, missed := 0 })
  let b := if (a.port p).state == .hello && peerSees == m.fab.serial then
      a.updPort p (fun x => { x with state := if planeOf p = planeOf peerPort then .delay else .miswired, delays := [], t1 := none })
    else a
  let moved := (m.port p).state == .up && ((m.port p).addr != addr || (m.port p).peerPort != peerPort)
  (b.when moved (fun x => (x.originate (planeOf p)).recompute)).pairHello p

def execHelloFrame (p serial addr peerPort role peerSees : Nat) (s : State) : Host.Outcome State Fault Refusal :=
  onProc (fun m => m.helloFrame p serial addr peerPort role peerSees) s

/-- A port leaves its link (R231): from UP the departure is counted and reported, LSAs follow; the third within 60 s holds
the port down. -/
def Mach.portDown (m : Mach) (p : Nat) (removed : Bool) : Mach :=
  let st := (m.port p).state
  if st == .up then
    let downs := m.now :: ((m.port p).downs.filter (fun t => decide (m.now < t + 60 * second)))
    let hold := decide (3 ≤ downs.length)
    let a := m.updPort p (fun x => { x with
      state := if removed then .empty else if hold then .heldDown else .noLock
      txDisable := removed, downs := if hold then [] else downs, heldAt := m.now, nDown := satInc x.nDown
      addr := 0xFFFF, peerSeesMe := 0, rxPower := if removed then 0 else x.rxPower })
    (((a.countSource .linkDown (u8 p)).originate (planeOf p))).recompute
  else if st == .heldDown then (if removed then m.updPort p (fun x => { x with state := .empty, txDisable := true }) else m)
  else m.updPort p (fun x => { x with
    state := if removed then .empty else if st == .empty || st == .rejected then st else .noLock
    txDisable := removed || x.txDisable, rxPower := if removed then 0 else x.rxPower })

def execPortDown (p : Nat) (removed : Bool) (s : State) : Host.Outcome State Fault Refusal :=
  onProc (fun m => m.portDown p removed) s

/-- A held-down port restarts at step 4 after 10 s (R231). -/
def execPortHoldDownEnd (p : Nat) (s : State) : Host.Outcome State Fault Refusal :=
  onProc (fun m => if (m.port p).state == .heldDown && m.elapsed (m.port p).heldAt (10 * second) then
    m.updPort p (fun x => { x with state := .noLock }) else m) s

/-- A PDELAY request is sent (R230 step 7, R252); its departure stamp is in ns × 2^16. -/
def Mach.pdelaySend (m : Mach) (p t1 : Nat) : Mach :=
  let st := (m.port p).state
  if st == .delay || st == .up then
    let q := ((m.port p).pseq + 1) % 65536
    (m.updPort p (fun x => { x with pseq := q, t1 := some (q, t1) })).emit (.pdelay p true q)
  else m

def execPdelaySend (p t1 : Nat) (s : State) : Host.Outcome State Fault Refusal := onProc (fun m => m.pdelaySend p t1) s

/-- A port comes UP (R230 step 8). -/
def Mach.portUp (m : Mach) (p : Nat) : Mach :=
  (((m.updPort p (fun x => { x with state := .up })).updFab (fun x => { x with
    firstUp := match x.firstUp with
      | none => some m.now
      | some t => some t })).originate (planeOf p)).recompute

/-- A PDELAY frame (R252): a request is answered; a response to the outstanding request gives one link delay,
((t4 − t1) − (T3 − T2)) / 2; the sixteenth brings the port UP. -/
def Mach.pdelay (m : Mach) (p pseq : Nat) (resp : Option (Nat × Nat × Nat)) : Mach :=
  match resp with
  | none => m.when ((m.port p).state == .delay || (m.port p).state == .up) (fun x => x.emit (.pdelay p false pseq))
  | some (t2, t3, t4) =>
    match (m.port p).t1 with
    | none => m
    | some (q, t1) =>
      if q != pseq then m
      else
        let d : Int := (((t4 : Int) - t1) - ((t3 : Int) - t2)) / 2
        let a := m.updPort p (fun x => { x with delays := (d :: x.delays).take 16, t1 := none })
        if (a.port p).state == .delay && (a.port p).delays.length == 16 then a.portUp p else a

def execPdelay (p pseq : Nat) (resp : Option (Nat × Nat × Nat)) (s : State) : Host.Outcome State Fault Refusal :=
  onProc (fun m => m.pdelay p pseq resp) s

/-! ## LSAs (R240) -/

/-- A sequence is newer than another, modulo 2^32. -/
def newer32 (a b : Nat) : Bool := decide (0 < (a + 2 ^ 32 - b) % 2 ^ 32) && decide ((a + 2 ^ 32 - b) % 2 ^ 32 < 2 ^ 31)

/-- Set a plane's database. -/
def Mach.setDb (m : Mach) (plane : Nat) (f : List LsaRec → List LsaRec) : Mach :=
  m.updFab (fun x => if plane = 0 then { x with dbA := f x.dbA } else { x with dbB := f x.dbB })

/-- An LSA arrives on a port that is UP (R226, R235, R240, R242): a newer one is stored and flooded, and the routes are computed anew. -/
def Mach.lsa (m : Mach) (p serial addr seq : Nat) (links : List (Nat × Nat × Nat)) : Mach :=
  let plane := planeOf p
  let old := (m.lsaDb plane).find? (fun r => r.serial == serial)
  let new_ := match old with
    | none => true
    | some r => newer32 seq r.seq
  if (m.port p).state != .up then m
  else if serial = m.fab.serial || !new_ then m.updSafe (fun x => { x with nDisc := satInc x.nDisc })
  else
    let r : LsaRec := { serial := serial, addr := addr, seq := seq, links := links, at_ := m.now }
    let a := m.setDb plane (fun l => l.filter (fun x => x.serial != serial) ++ [r])
    (a.emits (((m.upPorts plane).filter (fun q => q != p)).map (fun q => .forward q 2 2))).recompute

def execLsa (p serial addr seq : Nat) (links : List (Nat × Nat × Nat)) (s : State) : Host.Outcome State Fault Refusal :=
  onProc (fun m => m.lsa p serial addr seq links) s

/-- The node originates its LSAs (R240). -/
def execLsaRefresh (s : State) : Host.Outcome State Fault Refusal := onProc (fun m => (m.originate 0).originate 1) s

/-- A stored LSA has not been refreshed for 3 s (R240). -/
def Mach.lsaAged (m : Mach) (plane serial : Nat) : Mach :=
  (m.setDb plane (fun l => l.filter (fun r => !(r.serial == serial && m.elapsed r.at_ (3 * second))))).recompute

def execLsaAged (plane serial : Nat) (s : State) : Host.Outcome State Fault Refusal := onProc (fun m => m.lsaAged plane serial) s

/-! ## Addresses (R236 to R239) -/

/-- The hint of the switches (R236). -/
def Mach.hintNow (m : Mach) : Nat := m.fab.sw4 * 64 + m.fab.sw5

/-- Some port is UP. -/
def Mach.anyUp (m : Mach) : Bool := m.fab.ports.any (fun p => p.state == .up)

/-- A claim starts (R238), once a port is UP: 200 ms of listening. -/
def Mach.claimStart (m : Mach) : Mach :=
  m.updFab (fun x => { x with claim := .listen, claimAt := m.now, taken := [], hint := m.hintNow, lost := false })

/-- A claim that the node begins: SW4 and SW5 are read (R236). -/
def Mach.addressClaim (m : Mach) (sw4 sw5 : Nat) : Mach :=
  if m.fab.claim == .idle && m.fab.addr == 0xFFFF && m.anyUp then
    (m.updFab (fun x => { x with sw4 := sw4, sw5 := sw5 })).claimStart
  else m

def execAddressClaim (sw4 sw5 : Nat) (s : State) : Host.Outcome State Fault Refusal := onProc (fun m => m.addressClaim sw4 sw5) s

/-- The candidate of R238: the stored address, else the hint, else the highest address not taken. -/
def Fab.choose (f : Fab) : Nat × Tier :=
  let free := fun a => !f.taken.contains a && !f.excludedAddr.contains a
  if f.storedAddr < 1024 && free f.storedAddr then (f.storedAddr, .stored)
  else if f.hint != 1023 && free f.hint then (f.hint, .hint)
  else (((List.range 1024).reverse.find? free).getD 0xFFFF, .auto)

/-- A candidate is claimed on both planes (R238). -/
def Mach.claimFlood (m : Mach) : Mach :=
  let a := m.updFab (fun x => { x with cand := x.choose, claim := .wait, claimAt := m.now, lost := false })
  a.flood 3 (fun q => .claim q a.fab.cand.1 a.fab.cand.2.code 0)

/-- The 200 ms of listening end (R238). -/
def Mach.listenEnd (m : Mach) : Mach :=
  if m.fab.claim == .listen && m.elapsed m.fab.claimAt (200 * milli) then m.claimFlood else m

def execClaimListenEnd (s : State) : Host.Outcome State Fault Refusal := onProc Mach.listenEnd s

/-- An address is taken (R238). -/
def Mach.takeAddr (m : Mach) (a : Nat) (t : Tier) : Mach :=
  (m.updFab (fun x => { x with addr := a, tier := t, claim := .idle, claimAt := m.now, conflict := false })).recompute

/-- 100 ms after the claim (R238): the candidate is taken, or marked taken and the choice repeated. -/
def Mach.waitEnd (m : Mach) : Mach :=
  if m.fab.claim == .wait && m.elapsed m.fab.claimAt (100 * milli) then
    if m.fab.lost then (m.updFab (fun x => { x with taken := insNat x.taken x.cand.1 })).claimFlood
    else m.takeAddr m.fab.cand.1 m.fab.cand.2
  else m

def execClaimWaitEnd (s : State) : Host.Outcome State Fault Refusal := onProc Mach.waitEnd s

/-- A rival claim wins over the own one (R238): higher tier, then lower serial. -/
def Mach.rivalWins (m : Mach) (serial tier own : Nat) : Bool :=
  decide (own < tier) || (tier == own && decide (serial < m.fab.serial))

/-- A CLAIM frame (R238, R239): kind 0 CLAIM, 1 DEFEND, 2 RELEASE. -/
def Mach.claim (m : Mach) (serial addr tier kind : Nat) : Mach :=
  if serial = m.fab.serial then m
  else if kind = 2 then m.updFab (fun x => { x with taken := delNat x.taken addr })
  else if m.fab.addr = addr && addr != 0xFFFF then
    if m.rivalWins serial tier m.fab.tier.code then
      let both := tier == 3 && m.fab.tier == .established
      let a := m.updFab (fun x => { x with
        addr := 0xFFFF, tier := .auto, conflict := x.conflict || both
        excludedAddr := if both then insNat x.excludedAddr addr else x.excludedAddr })
      let b := (a.when both (fun x => ((x.flood 3 (fun q => .claim q addr m.fab.tier.code 2)).updSafe (fun y => { y with nConf := satInc y.nConf
        })).raiseFault .addressConflict (u16 addr))).updPlant (fun x => { x with leaving := x.leaving || x.isMember })
      b.claimStart
    else m.flood 3 (fun q => .claim q addr m.fab.tier.code 1)
  else
    let a := if m.fab.claim == .idle then m else m.updFab (fun x => { x with
      taken := if x.claim == .listen then insNat x.taken addr else x.taken })
    if a.fab.claim == .wait && a.fab.cand.1 == addr && m.rivalWins serial tier a.fab.cand.2.code then
      a.updFab (fun x => { x with lost := true })
    else a

def execClaim (serial addr tier kind : Nat) (s : State) : Host.Outcome State Fault Refusal :=
  onProc (fun m => m.claim serial addr tier kind) s

/-- 10 s after an address was taken it is ESTABLISHED and committed (R238). -/
def Mach.established (m : Mach) : Mach :=
  if m.fab.addr != 0xFFFF && m.fab.tier != .established && m.fab.claim == .idle && m.elapsed m.fab.claimAt (10 * second) then
    (m.updFab (fun x => { x with tier := .established, storedAddr := x.addr })).store [.address m.fab.addr] []
  else m

def execAddressEstablished (s : State) : Host.Outcome State Fault Refusal := onProc Mach.established s

/-! ## Forwarding (R235, R241, R242, R244, R245) -/

/-- The ports a frame goes out of (R241, R242): floods out of every UP port, broadcasts along the tree; the flood of an LSA is
that of the command LSA. -/
def Mach.egress (m : Mach) (p : Nat) (f : FabFrame) : List Nat :=
  let plane := planeOf p
  let up := (m.upPorts plane).filter (fun q => q != p)
  if f.local_ || f.type == 2 then []
  else if [3, 4, 6].contains f.type then up
  else if f.bcast then up.filter (fun q => (m.treePorts plane).contains q)
  else if f.dst = m.fab.addr then []
  else match (if plane = 0 then m.fab.routesA else m.fab.routesB).find? (fun r => r.1 == f.dst) with
    | none => []
    | some r => [r.2.1]

/-- A frame is discarded without forwarding (R235); its TTL counts where it would be sent on, and an own flood that comes back is
a duplicate. -/
def Mach.discards (m : Mach) (p : Nat) (f : FabFrame) : Bool :=
  !f.hcrcOk || f.ver != 1 || !([1, 2, 3, 4, 5, 6, 8, 9].contains f.type) || decide (f.size < f.len + 20)
    || (!(m.egress p f).isEmpty && decide (f.ttl ≤ 1))
    || ([3, 4, 6].contains f.type && (f.serial == m.fab.serial || m.fab.flooded.contains (f.type, f.serial, f.seq)))

/-- What a port takes in (R226, R230): every frame while UP, HELLO and PDELAY before, HELLO alone while MISWIRED. -/
def Mach.takesIn (m : Mach) (p : Nat) (f : FabFrame) : Bool :=
  match (m.port p).state with
  | .up => true
  | .delay => f.type == 1 || f.type == 5
  | .hello => f.type == 1
  | .miswired => f.type == 1
  | _ => false

/-- FQ receives a frame on a port (R235, R244): discarded and counted, or sent on, with a stomped FCS where its own has proved
bad; a frame whose egress queue is full is dropped and counted (R245). -/
def Mach.frameForward (m : Mach) (p : Nat) (f : FabFrame) (full : Bool) : Mach :=
  if !m.takesIn p f then m
  else
  let a := m.countEvent (0x0400 + p) 1
  let b := if f.stomped then a.updPort p (fun x => { x with nStomp := satInc x.nStomp })
    else if !f.fcsOk then a.updPort p (fun x => { x with nFcs := satInc x.nFcs }) else a
  if b.discards p f then b.updSafe (fun x => { x with nDisc := satInc x.nDisc })
  else
    let c := if [3, 4, 6].contains f.type then
      b.updFab (fun x => { x with flooded := ((f.type, f.serial, f.seq) :: x.flooded).take 4096 }) else b
    c.each (m.egress p f) (fun q x =>
      if full then x.updSafe (fun y => { y with nDrops := satInc y.nDrops })
      else ((x.countEvent (0x0500 + q) 1).emit (.forward q f.type f.cls)).when (f.stomped || !f.fcsOk) (fun y => y.emit (.stomped q)))

def execFrameForward (p : Nat) (f : FabFrame) (full : Bool) (s : State) : Host.Outcome State Fault Refusal :=
  onProc (fun m => m.frameForward p f full) s

/-! ## Fabric time (R249 to R253) -/

/-- Rank of a candidate beats another (R250). -/
def GmRank.beats (a b : GmRank) : Bool :=
  decide (a.source < b.source) || (a.source == b.source && (decide (a.prio < b.prio)
    || (a.prio == b.prio && decide (a.serial < b.serial))))

/-- The own time source (R250, R251): free while the PTP source is not enabled. -/
def Mach.ptpSource (m : Mach) : Nat := if m.parB 0x2807 1 then m.fab.ptp else 2

/-- The own rank (R250). -/
def Mach.ownRank (m : Mach) : GmRank :=
  { source := m.ptpSource, prio := m.par 0x2807 0, serial := m.fab.serial, addr := m.fab.addr }

/-- The present grandmaster has announced within 300 ms. -/
def Mach.gmAlive (m : Mach) : Bool :=
  match m.fab.gmAt with
  | none => false
  | some t => !m.elapsed t (300 * milli)

/-- The node is a candidate (R250): the grandmaster, or a node that ranks better than it. -/
def Mach.gmCandidate (m : Mach) : Bool :=
  m.fab.time == .grandmaster || (match m.fab.gmRank with
    | none => true
    | some g => !m.gmAlive || m.ownRank.beats g)

def execAnnounceSend (s : State) : Host.Outcome State Fault Refusal :=
  onProc (fun m => if m.gmCandidate then m.flood 6 (fun q => .announce q m.ownRank) else m) s

/-- An ANNOUNCE (R250). -/
def Mach.announce (m : Mach) (r : GmRank) : Mach :=
  let better := r.beats m.ownRank
  m.updFab (fun x => { x with
    gmAt := if r.addr = x.gm then some m.now else x.gmAt
    gmRank := if r.addr = x.gm then some r else x.gmRank
    betterAt := if better then some m.now else x.betterAt
    better := if better then some r else x.better })

def execAnnounce (r : GmRank) (s : State) : Host.Outcome State Fault Refusal := onProc (fun m => m.announce r) s

/-- The module becomes grandmaster (R250). -/
def Mach.becomeGm (m : Mach) : Mach :=
  ((m.updFab (fun x => { x with
    time := .grandmaster, gm := x.addr, gmRank := some m.ownRank, gmAt := some m.now, hops := 0, offset := 0 })).updPlant
      (fun x => { x with gmSince := m.now })).noteDegraded

/-- The election (R250): no better-ranked ANNOUNCE for 300 ms, and the own time SYNCED to the present grandmaster or none
announcing for 300 ms; with none heard, 1 s after the first port came UP or 10 s after leaving BOOT with no port UP. -/
def Mach.gmElection (m : Mach) : Mach :=
  let quiet := match m.fab.betterAt with
    | none => true
    | some t => m.elapsed t (300 * milli)
  let ok := match m.fab.gmRank with
    | none => m.elapsed? m.fab.firstUp second
        || (!m.anyUp && m.mode.mode != .boot && decide (m.mode.since + 10 * second ≤ m.fabTime))
    | some g => if m.gmAlive then m.ownRank.beats g && m.fab.time == .synced else true
  if m.fab.time == .grandmaster || !quiet || !ok then m else m.becomeGm

def execGrandmasterElection (s : State) : Host.Outcome State Fault Refusal := onProc Mach.gmElection s

/-- A mode in which the first acquisition may step the time (R249). -/
def Mach.mayStep (m : Mach) : Bool := m.inMode [.boot, .commission, .storage, .standby, .safeHold, .lockout]

/-- The servo's steer: at most ±10 ppm, changed by at most 10 ppm per second (R249). -/
def nextSteer (old offset : Int) : Int :=
  let want := max (-10000) (min 10000 (Config.steer old offset))
  max (old - 10) (min (old + 10) want)

/-- The time state after a SYNC with an offset in 0.1 ns (R253): its state, good run and bad run. -/
def Fab.syncState (f : Fab) (offset : Int) : Fab :=
  let good := if offset.natAbs ≤ 400 then f.goodRun + 1 else 0
  let bad := if 1000 < offset.natAbs then f.badRun + 1 else 0
  match f.time with
  | .unsync => { f with time := .acquiring, goodRun := good, badRun := 0 }
  | .synced => if 4 ≤ bad then { f with time := .acquiring, goodRun := 0, badRun := 0 } else { f with badRun := bad, goodRun := good }
  | .acquiring => if 16 ≤ good then { f with time := .synced, wasSynced := true, goodRun := good, badRun := 0 } else { f with goodRun := good }
  | .holdover => if 16 ≤ good then { f with time := .synced, wasSynced := true, goodRun := good, badRun := 0 } else { f with goodRun := good }
  | .grandmaster => f

/-- A time step discards every record, view and command held (R263). -/
def Plant.discard (p : Plant) : Plant :=
  { p with
    ownSums := [], ownHeads := [], bodies := [], parts := [], cap := none, accepted := [], differing := [], candRuns := []
    views := [], absent := [], heads := [], slowViews := [], cmds := [], issued := [], covered := [], lacking := []
    allocs := [], outcomes := [], restPlan := [], nextRest := none, viewHeld := false, slowHeld := false }

/-- The time plane for a first SYNC on a plane (R253): the plane with fewer hops to the grandmaster, A on a tie, where both
have a route to it, else the plane of the SYNC. -/
def Mach.timePlaneFor (m : Mach) (gm plane : Nat) : Nat :=
  match m.fab.routesA.find? (fun r => r.1 == gm), m.fab.routesB.find? (fun r => r.1 == gm) with
  | some a, some b => if a.2.2 ≤ b.2.2 then 0 else 1
  | _, _ => plane

/-- The link delay of a port in ns × 2^16: the mean of its last 16 exchanges (R252). -/
def Port.linkDelay (x : Port) : Int := x.delays.foldl (· + ·) 0 / max 1 (x.delays.length : Int)

/-- The offset from the grandmaster in 0.1 ns (R252): (receive stamp − link delay) − (ORIGIN + CORR), stamp and CORR in ns × 2^16,
ORIGIN in ns. -/
def Port.syncOffset (x : Port) (rx origin : Nat) (corr : Int) : Int :=
  10 * ((rx : Int) - x.linkDelay - (65536 * (origin : Int) + corr)) / 65536

/-- A SYNC arrives on a port that is UP (R226, R249, R250, R252, R253). On the time plane it feeds the servo; the
first acquisition steps the time where R249 lets it. A grandmaster yields to a better-ranked one that has taken over. -/
def Mach.syncFrame (m : Mach) (p rx origin : Nat) (corr : Int) (gm hops source : Nat) : Mach :=
  let plane := planeOf p
  let offset := (m.port p).syncOffset rx origin corr
  let yields := m.fab.time == .grandmaster && (match m.fab.better with
    | none => false
    | some g => g.addr == gm && gm != m.fab.addr)
  if (m.port p).state != .up || (m.fab.time == .grandmaster && !yields) then m
  else
    let a := m.updFab (fun x => { x with
      missA := if plane = 0 then 0 else x.missA, missB := if plane = 1 then 0 else x.missB
      time := if yields then .acquiring else x.time
      timePlane := if x.time == .unsync then m.timePlaneFor gm plane else x.timePlane
      gm := gm, gmRank := match x.better with
        | some g => if g.addr = gm then some g else x.gmRank
        | none => match x.gmRank with
          | some g => if g.addr = gm then some g else some { source := source, prio := 255, serial := 0, addr := gm }
          | none => some { source := source, prio := 255, serial := 0, addr := gm }
      gmAt := if gm = x.gm then x.gmAt else some m.now })
    if plane != a.fab.timePlane then a
    else
      let step := !a.fab.acquired && decide (10000 < offset.natAbs) && a.mayStep
      let b := if step then ({ a with fabBase := a.fabBase - offset / 10 }).updPlant Plant.discard else a
      let rest := if step then 0 else offset
      (b.updFab (fun x => { x.syncState rest with
        acquired := true, untraceable := false, offset := rest, hops := hops
        steer := if step then x.steer else nextSteer x.steer offset })).noteDegraded

def execSync (p rx origin : Nat) (corr : Int) (gm hops source : Nat) (s : State) : Host.Outcome State Fault Refusal :=
  onProc (fun m => m.syncFrame p rx origin corr gm hops source) s

/-- Ten fast epochs without a valid SYNC on either plane have passed (R253); the one in which the last SYNC came is the first
counted. -/
def Mach.toHoldover (m : Mach) : Mach :=
  if (m.fab.time == .acquiring || m.fab.time == .synced) && decide (10 < m.fab.missA) && decide (10 < m.fab.missB) then
    (m.updFab (fun x => { x with time := .holdover, goodRun := 0, badRun := 0 })).noteDegraded
  else m

def execTimeHoldover (s : State) : Host.Outcome State Fault Refusal := onProc Mach.toHoldover s

/-- A PTP message on J5 of a domain (R250, R251): locked with its offset in ns, or the source lost. -/
def Mach.ptpSync (m : Mach) (domain : Nat) (locked : Bool) (offset : Int) : Mach :=
  if !m.parB 0x2807 1 || domain != m.par 0x2807 2 then m
  else if locked then
    let a := m.updFab (fun x => { x with ptp := 0, ptpOffset := offset })
    if m.fab.time == .grandmaster then a.updFab (fun x => { x with
      acquired := true, untraceable := false, steer := nextSteer x.steer (10 * offset) }) else a
  else m.updFab (fun x => { x with ptp := if x.ptp = 0 then 1 else x.ptp, ptpLost := if x.ptp = 0 then m.now else x.ptpLost })

def execPtpSync (domain : Nat) (locked : Bool) (offset : Int) (s : State) : Host.Outcome State Fault Refusal :=
  onProc (fun m => m.ptpSync domain locked offset) s

/-- The fabric at a fast-epoch boundary: the grandmaster's SYNC (R252), SYNCs missed and the change of time plane (R253),
the age of a lost PTP source (R250). -/
def Mach.fabEpoch (m : Mach) : Mach :=
  let a := m.updFab (fun x =>
    let ma := x.missA + 1
    let mb := x.missB + 1
    { x with
      missA := ma, missB := mb, ports := x.ports.map (fun p => { p with missed := p.missed + 1 })
      timePlane := if x.timePlane = 0 then (if 3 < ma && mb ≤ 3 then 1 else 0) else (if 3 < mb && ma ≤ 3 then 0 else 1)
      ptp := if x.ptp = 1 && m.elapsed x.ptpLost (3600 * second) then 2 else x.ptp })
  a.when (a.fab.time == .grandmaster) (fun x =>
    x.flood 4 (fun q => .sync q (1000000 * x.fastEpoch) x.ptpSource (x.fastEpoch % 2 ^ 32)))

/-! ## Safe messages (R255 to R257, R342 to R344) -/

/-- Demands a PAIR_SAFE message carries (R342): string-level demands in force at the sender. -/
def Mach.stringDemands (m : Mach) : Nat := (m.saf.demW ||| m.saf.demF) % 65536

/-- SDATA of a connection's message (R342). -/
def Mach.safeData (m : Mach) (conn : Nat) : List Nat :=
  let pcrc := match m.prof with
    | none => 0
    | some p => p.pcrc
  if conn = 1 then u16 m.stringDemands ++ u32 pcrc ++ u16 m.switchWord
  else u8 (ofBool (bit m.saf.demW 11 || bit m.saf.demF 11)) ++ u32 pcrc

/-- Destination of a connection's messages (R255, R342): PAIR_SAFE goes to the partner, PLANT_STOP is broadcast. -/
def Mach.safeDst (m : Mach) (conn : Nat) : Nat := if conn = 1 then m.pair.pAddr else 0x8000

/-- Walnut forms a safe message (R256, R342): PAIR_SAFE in a pair, PLANT_STOP with SW3-6 ON; the same bytes go on plane A, then on
plane B. -/
def Mach.safeSend (m : Mach) (conn : Nat) : Mach :=
  let ok := m.saf.walnutLive && ((conn == 1 && m.paired) || (conn == 2 && m.sw3On 6))
  if !ok then m
  else
    let q := (aget m.safe.sseq conn 0 + 1) % 2 ^ 32
    (m.updSafe (fun x => { x with sseq := aput x.sseq conn q })).emits ([0, 1].map (fun p =>
      .safe p conn (m.safeDst conn) q m.fabTime (m.safeData conn)))

def execSafeMessageSend (conn : Nat) (s : State) : Host.Outcome State Fault Refusal := onProc (fun m => m.safeSend conn) s

/-- Timeout of a connection in ns (R342). -/
def connTimeout (conn : Nat) : Nat := if conn = 1 then 30 * milli else 50 * milli

/-- The plant-stop sources listed in 0x2B04.01. -/
def Mach.stopSources (m : Mach) : List Nat :=
  ((List.range 8).map (fun i => m.parElem 0x2B04 1 2 i)).filter (fun a => a != 0xFFFF)

/-- A connection is configured with a sender (R342, R343). -/
def Mach.connKnown (m : Mach) (conn src : Nat) : Bool :=
  (conn == 1 && m.paired && src == m.pair.pAddr) || (conn == 2 && m.sw3On 6 && m.stopSources.contains src)

/-- The connection as held, or a fresh one. -/
def Mach.connOf (m : Mach) (conn src : Nat) : SafeConn :=
  (m.safe.conns.find? (fun c => c.conn == conn && c.src == src)).getD
    { conn := conn, src := src, last := none, at_ := 0, copy := [], plane := 0, both := true, state := 0, rearm := 0 }

/-- Set a connection. -/
def Mach.setConn (m : Mach) (c : SafeConn) : Mach :=
  m.updSafe (fun x => { x with conns := x.conns.filter (fun d => !(d.conn == c.conn && d.src == c.src)) ++ [c] })

/-- Walnut's own cause for a string-level demand (R318, R329, R340, R80), by function code. -/
def Mach.ownCause (m : Mach) (f : Nat) : Bool :=
  match f with
  | 0 => runsAt m.saf.runOv 1
  | 1 => m.saf.dischargeStop.isSome
  | 2 => decide (0 < m.saf.runOt) || decide (0 < m.saf.runTint)
  | 3 => decide (0 < m.saf.runOt2)
  | 4 => decide (0 < m.saf.runOcDis) || decide (0 < m.saf.runOcChg) || m.holdActive
  | 12 => false
  | 13 => false
  | 14 => m.sweepStands
  | 15 => m.saf.coils.any (fun c => c.node && c.openedAt.isSome)
  | f => (siOf f).any m.siCause

/-- The reaction of a string-level demand bit (R318, R319, R329, R340). -/
def Mach.bitReaction (m : Mach) (f : Nat) : Reaction × Option Mode :=
  match f with
  | 0 => (.disconnect, some .lockout)
  | 1 => (.dischargeStop, none)
  | 2 => (.disconnect, some .lockout)
  | 3 => (.trip, some .lockout)
  | 4 => (.trip, some .lockout)
  | 7 => (.trip, some .lockout)
  | 8 => (.trip, some .lockout)
  | 11 => if m.sw3On 5 then (.trip, some .lockout) else (.disconnect, some .safeHold)
  | 15 => (.trip, some .lockout)
  | _ => (.disconnect, some .safeHold)

/-- A PAIR_SAFE message is acted on (R343): each demand bit as the own demand, a bit that has gone ended unless the own
cause stands; other profiles or switches raise PAIR_PROFILE_MISMATCH. -/
def Mach.pairSafe (m : Mach) (demand pcrc switches : Nat) : Mach :=
  let own := match m.prof with
    | none => 0
    | some p => p.pcrc
  let differs := pcrc != own || switches % 16 != m.saf.sw1 % 16 || switches / 64 % 256 != m.saf.sw3 % 256
  let a := m.updSaf (fun s => { s with demP := demand, pairSafeLost := false })
  let b := a.each (List.range 16) (fun f x =>
    if bit demand f then
      let (re, dest) := x.bitReaction f
      let y := x.demand 2 f re dest 0
      if f = 1 && x.saf.dischargeStop.isNone then y.updSaf (fun s => { s with dischargeStop := some m.now }) else y
    else if bit m.saf.demP f then x.dropDemand f (x.ownCause f) else x)
  (b.when (differs && !b.saf.pairProfile) (fun x => x.raiseFault .pairProfileMismatch [])).updSaf
    (fun s => { s with pairProfile := differs })

/-- PLANT_STOP_DEGRADED stands while a listed source is not live (R344). -/
def Mach.plantStopCheck (m : Mach) : Mach :=
  let bad := m.stopSources.map (fun a => (m.connOf 2 a).state != 0)
  let any := bad.any id
  let all := !bad.isEmpty && bad.all id
  let a := (m.when (any && !m.saf.plantDegraded) (fun x => x.raiseFault .plantStopDegraded [])).updSaf
    (fun s => { s with plantDegraded := any })
  if all then a.demand 3 12 .disconnect (some .safeHold) 0 else a

/-- A message delivered to its consumer (R343). -/
def Mach.safeDeliver (m : Mach) (conn : Nat) (sdata : List Nat) : Mach :=
  if conn = 1 then m.pairSafe (leVal (sdata.take 2)) (leVal ((sdata.drop 2).take 4)) (leVal ((sdata.drop 6).take 2))
  else if leVal (sdata.take 1) = 1 then m.demand 3 12 .disconnect (some .safeHold) 0
  else m

/-- The plant stop demand ends when no live listed source says STOP (R343). -/
def Mach.plantStopEnd (m : Mach) : Mach :=
  let stops := m.stopSources.any (fun a => (m.connOf 2 a).state == 0 && leVal ((m.connOf 2 a).copy.take 1) == 1)
  let all := !m.stopSources.isEmpty && m.stopSources.all (fun a => (m.connOf 2 a).state != 0)
  if stops || all then m else m.dropDemand 12 false

/-- A copy of a message passed checks 1 to 3 (R257 checks 4 and 5, R344). A connection TIMED_OUT, or in ERROR once its
fault has been cleared, takes the message as its new reference and is live after two further consecutive ones. -/
def Mach.safeAccept (m : Mach) (c : SafeConn) (plane sseq : Nat) (sdata : List Nat) : Mach :=
  let new_ : SafeConn := { c with last := some sseq, at_ := m.now, copy := sdata, plane := plane, both := false }
  match c.last with
  | none => if c.state = 2 && m.isPending .safeCopyMismatch then m
    else if c.state = 0 then (m.setConn new_).safeDeliver c.conn sdata
    else m.setConn { new_ with rearm := 0 }
  | some last =>
    let d := (sseq + 2 ^ 32 - last) % 2 ^ 32
    if d = 0 then
      if c.both || decide (c.at_ + 2 * milli < m.now) then m
      else if plane = c.plane then m
      else if sdata = c.copy then m.setConn { c with both := true }
      else ((m.setConn { c with state := 2, both := true, last := none }).updSafe (fun x => { x with nMism := satInc x.nMism })).raiseFault
        .safeCopyMismatch (u16 c.conn)
    else if d ≤ 16 then
      let a := m.updSafe (fun x => { x with nLost := satAdd x.nLost (d - 1) })
      if c.state = 0 then (a.setConn new_).safeDeliver c.conn sdata
      else if d = 1 && 1 ≤ c.rearm then (a.setConn { new_ with state := 0, rearm := 0 }).safeDeliver c.conn sdata
      else a.setConn { new_ with rearm := if d = 1 then c.rearm + 1 else 0 }
    else m.updSafe (fun x => { x with nSeqErr := satInc x.nSeqErr, nChecks := acount x.nChecks 4 })

/-- Check 2 of R257: the connection is configured, both senders and the destination are its own, the PLANE flag is the receiving
plane's. -/
def Mach.safeMatch (m : Mach) (plane flag conn src hdrSrc dst : Nat) : Bool :=
  m.connKnown conn src && hdrSrc == src && dst == (if conn = 1 then m.fab.addr else 0x8000) && flag == plane

/-- A SAFE frame copy (R257): SCRC, then connection, senders and plane, then its age, each failure counted against its
check. -/
def Mach.safeFrame (m : Mach) (plane flag conn src hdrSrc dst sseq sendTime : Nat) (sdata : List Nat) (scrcOk : Bool) : Mach :=
  let fail := fun (k : Nat) => m.updSafe (fun x => { x with nChecks := acount x.nChecks k })
  if !scrcOk then fail 1
  else if !m.safeMatch plane flag conn src hdrSrc dst then fail 2
  else if m.fabTime + 1000 < sendTime || sendTime + connTimeout conn < m.fabTime then fail 3
  else
    let a := m.safeAccept (m.connOf conn src) plane sseq sdata
    let b := if conn = 2 then a.plantStopCheck.plantStopEnd else a.updSaf (fun s => { s with
      pairSafeLost := (a.connOf 1 src).state != 0 })
    b

def execSafeFrame (plane flag conn src hdrSrc dst sseq sendTime : Nat) (sdata : List Nat) (scrcOk : Bool) (s : State) :
    Host.Outcome State Fault Refusal :=
  onProc (fun m => m.safeFrame plane flag conn src hdrSrc dst sseq sendTime sdata scrcOk) s

/-- The second copy has not come within 2 ms (R257 check 6): counted for the plane on which it is missing. -/
def Mach.safeCopyMissing (m : Mach) (conn src : Nat) : Mach :=
  let c := m.connOf conn src
  if c.both || c.last.isNone || !m.elapsed c.at_ (2 * milli) then m
  else (m.setConn { c with both := true }).updSafe (fun x =>
    if c.plane = 0 then { x with nMissB := satInc x.nMissB } else { x with nMissA := satInc x.nMissA })

def execSafeCopyMissing (conn src : Nat) (s : State) : Host.Outcome State Fault Refusal :=
  onProc (fun m => m.safeCopyMissing conn src) s

/-- No message accepted within the connection's timeout (R257 check 7, R344). -/
def Mach.safeTimeout (m : Mach) (conn src : Nat) : Mach :=
  let c := m.connOf conn src
  if !m.connKnown conn src || c.state != 0 || !m.elapsed c.at_ (connTimeout conn) then m
  else
    let a := m.setConn { c with state := 1, last := none, rearm := 0, both := true }
    if conn = 1 then a.updSaf (fun s => { s with pairSafeLost := true }) else a.plantStopCheck

def execSafeConnectionTimeout (conn src : Nat) (s : State) : Host.Outcome State Fault Refusal :=
  onProc (fun m => m.safeTimeout conn src) s

/-- The pair link is UP (R227, R248). -/
def Mach.pairLinkUp (m : Mach) : Bool := m.isPairPort 1 && (m.port 1).state == .up

/-- A route to an address exists on either plane. -/
def Mach.reaches (m : Mach) (a : Nat) : Bool :=
  m.fab.routesA.any (fun r => r.1 == a) || m.fab.routesB.any (fun r => r.1 == a)

/-- Hops to an address on a plane. -/
def Mach.hopsOn (m : Mach) (plane a : Nat) : Option Nat :=
  ((if plane = 0 then m.fab.routesA else m.fab.routesB).find? (fun r => r.1 == a)).map (fun r => r.2.2)

/-- The plane of a unicast DATA frame whose protocol's chapter names none (R246): the one with fewer hops, A on a tie, or the only
one with a route. -/
def Mach.planeTo (m : Mach) (dst : Nat) : Option Nat :=
  match m.hopsOn 0 dst, m.hopsOn 1 dst with
  | some a, some b => some (if a ≤ b then 0 else 1)
  | some _, none => some 0
  | none, some _ => some 1
  | none, none => none

/-- The plane that pair traffic takes (R248): A over the pair link while it is UP, else as routed. -/
def Mach.pairPlane (m : Mach) : Option Nat := if m.pairLinkUp then some 0 else m.planeTo m.pair.pAddr

/-- The planes on which a DATA frame sent leaves: unicast by R246, pair traffic by R248, relayed host frames on the plane chosen
for them (R408), broadcasts on both. -/
def Mach.outPlanes (m : Mach) (o : Out) : List Nat :=
  match o with
  | .summaryTo dst _ => (m.planeTo dst).toList
  | .slowHeadTo dst _ => (m.planeTo dst).toList
  | .bodyPart dst _ _ _ => (m.planeTo dst).toList
  | .recordRequest dst _ => (m.planeTo dst).toList
  | .headRequest dst _ => (m.planeTo dst).toList
  | .plantCmdTo dst _ => (m.planeTo dst).toList
  | .cmdRequest issuer _ => (m.planeTo issuer).toList
  | .membership dst _ _ _ _ _ => (m.planeTo dst).toList
  | .relayOut _ _ plane => [plane]
  | .pairPhase _ _ _ _ => m.pairPlane.toList
  | .estimator _ _ => m.pairPlane.toList
  | .estimatorFull _ _ => m.pairPlane.toList
  | .masks _ _ => m.pairPlane.toList
  | .pairReply _ _ => m.pairPlane.toList
  | .pairCorr _ _ _ _ _ _ => m.pairPlane.toList
  | .alive _ _ _ _ => m.pairPlane.toList
  | .checkpoint _ _ => m.pairPlane.toList
  | .content _ _ => m.pairPlane.toList
  | .takeback _ _ => m.pairPlane.toList
  | .release _ _ => m.pairPlane.toList
  | .config _ _ _ _ _ => m.pairPlane.toList
  | .pairRequest _ _ _ _ _ _ => m.pairPlane.toList
  | .summary _ => [0, 1]
  | .slowHead _ => [0, 1]
  | .plantCmd _ => [0, 1]
  | _ => []

/-- Fabric status, 0x2800.00 (R260). -/
def Mach.fabStatus (m : Mach) : Nat :=
  bitIf 11 (m.fab.time == .grandmaster && m.ptpSource == 0 && decide (1000 < m.fab.ptpOffset.natAbs))
    + bitIf 10 (m.ptpSource == 0 && m.fab.time == .grandmaster) + bitIf 9 m.fab.untraceable
    + bitIf 8 (m.paired && !m.pairLinkUp && !m.reaches m.pair.pAddr) + bitIf 7 (m.paired && !m.pairLinkUp)
    + bitIf 6 m.fab.diamBad + bitIf 5 m.fab.conflict + bitIf 4 (m.fab.claim != .idle)
    + bitIf 3 (m.fab.ports.any (fun p => p.state == .miswired)) + bitIf 2 m.timeHoldover + bitIf 1 m.planeLost
    + bitIf 0 (m.fab.time == .grandmaster)

end Sys2Proof.Machine
end

