-- ==== Sys2Proof/Machine/PlantRecords.lean ====
section
/-! DEFINITION. Fast summaries, slow records and plant views: meanings of the commands of chapter 11, Plant View and Dispatch,
up to the slow plant view (R261 to R277). -/

namespace Sys2Proof.Machine

/-! ## Fields, bytes and check sums (R264, R266) -/

/-- Offsets 0 to 59 of a fast summary (R264). -/
def Summary.body (s : Summary) : List Nat :=
  u32 s.epoch ++ u16 s.mv ++ u16 s.founder ++ u16 s.string ++ u8 s.mode ++ u8 s.flags ++ u32 s.soc ++ u16 s.bound
    ++ u16 s.cap ++ u16 s.vStr ++ sBytes 2 s.pAct ++ u16 s.pDis ++ u16 s.pChg ++ u16 s.excRes ++ u16 s.cmdSeq
    ++ u32 s.digest ++ u32 s.ahash ++ u32 s.slowCrc ++ sBytes 2 s.pAlloc ++ u16 s.pseq ++ u16 s.mcount
    ++ List.replicate 10 0

/-- ICRC of a fast summary. -/
def Summary.icrc (s : Summary) : Nat := crc32c s.body

/-- Offsets 0 to 123 of a slow record head (R266). -/
def SlowHead.body (h : SlowHead) : List Nat :=
  u32 h.epoch ++ u16 h.string ++ u16 h.sflags ++ u16 h.skew ++ u16 h.galv ++ u32 h.rIso ++ u32 h.restAge ++ u32 h.soc
    ++ u16 h.bound ++ u16 h.sohC ++ u16 h.sohR ++ sBytes 2 (h.tIntMax.getD (-32768)) ++ u16 h.vMax ++ u16 h.vMin
    ++ sBytes 4 h.iLatch ++ u32 h.efc ++ u32 h.tie ++ u8 h.section_ ++ u8 h.pods ++ u8 h.mode ++ List.replicate 73 0

/-- ICRC of a slow record head. -/
def SlowHead.icrc (h : SlowHead) : Nat := crc32c h.body

/-- The epoch that a 4-byte field names, within ±2^31 of the running one (R261). -/
def nearEpoch (n e : Nat) : Nat :=
  let d := (e + 2 ^ 32 - n % 2 ^ 32) % 2 ^ 32
  if d < 2 ^ 31 then n + d else n + d - 2 ^ 32

/-- A value other than 0 that more than half of the membership entries carry (R273, R286). -/
def majority (vals : List Nat) (entries : Nat) : Option Nat :=
  vals.find? (fun v => v != 0 && decide (entries < 2 * (vals.filter (fun w => w == v)).length))

/-! ## The own fast summary (R264) -/

/-- TIME_OK: the time state is SYNCED or GRANDMASTER. -/
def Mach.timeOk (m : Mach) : Bool := m.fab.time == .synced || m.fab.time == .grandmaster

/-- The excitation reserve in mA (R124): of the running bin, or of the next one while the module waits for headroom. -/
def Mach.excReserve (m : Mach) : Nat :=
  if m.plant.inRest || !m.parB 0x2302 1 || !m.inMode [.connected, .dispatch, .busForm, .maintain] then 0
  else match m.imp.run with
    | some r => r.amp
    | none => if m.imp.headroomWait then m.ampCap m.mode.mode else 0

/-- A power limit of the string in W (R264): the smallest of the estimation limit, the profile current, 0 while its direction is
stopped (R321), and the converter capacity of R205, each current times the mean string voltage. Where no outer loop runs no
phase is in IDLE or RUN and the capacity is 0. -/
def Mach.powerBound (m : Mach) (est : Nat) (stopped : Bool) : Rat :=
  let v : Rat := (m.meas.vStr : Rat) / 100
  let prof : Rat := match m.prof with
    | none => 0
    | some p => if stopped then 0 else (p.iLim : Rat) * v
  let cap : Rat := if m.conv.loop == .none then 0 else m.conv.cap
  min (est : Rat) (min prof (absQ cap / 1000 * v))

/-- The module serves its string alone: single, or its partner missing (R300). -/
def Mach.alone (m : Mach) : Bool := !m.paired || m.partnerMissing

/-- FLAGS of the own summary. -/
def Mach.sumFlags (m : Mach) : Nat :=
  bitIf 0 m.timeOk + bitIf 1 m.imp.run.isSome + bitIf 2 m.plant.inRest + bitIf 3 m.contactorsClosed
    + bitIf 4 m.est.follower + bitIf 5 m.partnerMissing + bitIf 6 (m.isPending .plantDiverged)

/-- ICRC of the latest own slow head. -/
def Mach.slowCrc (m : Mach) : Nat :=
  match m.plant.ownHeads with
  | [] => 0
  | h :: _ => h.icrc

/-- The own digest of an epoch, 0 if none. -/
def Mach.digestOf (m : Mach) (n : Nat) : Nat :=
  match m.plant.views.find? (fun v => v.epoch == n) with
  | none => 0
  | some v => v.digest

/-- The own allocation vector of an epoch. -/
def Mach.allocOf (m : Mach) (e : Nat) : Option Alloc := m.plant.allocs.find? (fun a => a.epoch == e)

/-- The own allocation hash for an epoch, 0 if none. -/
def Mach.ahashOf (m : Mach) (e : Nat) : Nat :=
  match m.allocOf e with
  | none => 0
  | some a => a.hash

/-- The summary that describes this module at boundary n (R264); DIGEST, AHASH and PSEQ are completed when it is sent. -/
def Mach.capture (m : Mach) (n : Nat) : Summary :=
  let mem := m.plant.isMember
  { epoch := n % 2 ^ 32, mv := if mem then m.plant.mv % 65536 else 0, founder := if mem then m.plant.founder else 0xFFFF
    string := m.stringId, mode := m.modeByte, flags := m.sumFlags
    soc := fitU 4 (cutQ (1000 * m.pubSoc.1)), bound := fitU 2 (cutQ (100 * m.pubSoc.2))
    cap := fitU 2 (capUnits m.lowCap / 10 : Nat), vStr := fitU 2 (m.meas.vStr / 10 : Nat)
    pAct := fitS 2 (m.stringPower / 100).floor
    pDis := fitU 2 (cutQ (m.powerBound m.est.pDis m.saf.dischargeStop.isSome / 100))
    pChg := fitU 2 (cutQ (m.powerBound m.est.pChg m.saf.coldStop / 100))
    excRes := fitU 2 (m.excReserve / 10 : Nat), cmdSeq := m.plant.cseqAt, digest := 0, ahash := 0, slowCrc := m.slowCrc
    pAlloc := fitS 2 m.plant.allocPrev, pseq := n % 32768, mcount := if mem then m.plant.members.length else 0 }

/-- The follower's summary takes the lead's string content (R300): offsets 8 to 29 and 44 to 45. -/
def Summary.withContent (s c : Summary) : Summary :=
  { s with
    string := c.string, mode := c.mode, flags := c.flags, soc := c.soc, bound := c.bound, cap := c.cap, vStr := c.vStr
    pAct := c.pAct, pDis := c.pDis, pChg := c.pChg, excRes := c.excRes, pAlloc := c.pAlloc }

/-- A summary enters the accepted ones, oldest of 16 epochs dropped. -/
def Plant.accept (p : Plant) (n addr : Nat) (s : Summary) : Plant :=
  { p with accepted := (n, addr, s) :: p.accepted.filter (fun a => decide (n ≤ a.1 + 16)) }

/-- The accepted summary of an address for an epoch. -/
def Plant.summaryAt (p : Plant) (n addr : Nat) : Option Summary :=
  match p.accepted.find? (fun a => a.1 == n && a.2.1 == addr) with
  | none => none
  | some a => some a.2.2

/-- The captured summary is broadcast (R37, R264, R300): in every mode after BOOT, once per fast epoch. The follower of a
pair takes the lead's content where that came in time, and otherwise publishes its own with SOLE. -/
def Mach.summarySend (m : Mach) : Mach :=
  match m.plant.cap with
  | none => m
  | some c =>
    if m.mode.mode == .boot || m.fab.addr == 0xFFFF || c.epoch != m.fastEpoch % 2 ^ 32 then m
    else
      let n := m.fastEpoch
      let content := match m.pair.content with
        | some (e, x) => if m.paired && m.est.follower && e == n then some x else none
        | none => none
      let sole := m.alone || (m.est.follower && content.isNone)
      let own := { c with
        digest := if m.plant.isMember then m.digestOf (n - 1) else 0
        ahash := if m.plant.isMember then m.ahashOf (n + 2) else 0
        pseq := n % 32768 + (if sole then 32768 else 0) }
      let s := match content with
        | none => own
        | some x => own.withContent x
      ((m.updPlant (fun p => { p.accept n m.fab.addr s with
          cap := none, ownSums := (s :: p.ownSums).take 256 })).updPair (fun p => { p with sole := sole })).emit (.summary s)

def execFastSummarySend (s : State) : Host.Outcome State Fault Refusal := onProc Mach.summarySend s

/-! ## Summaries received (R265, R271, R300) -/

/-- The plane-wide digest of a view (R272): CRC-32C over founder, MV and every address with its record's ICRC. -/
def viewDigest (founder mv : Nat) (entries : List (Member × Option Summary)) : Nat :=
  let d := crc32c (u16 founder ++ u32 mv ++ entries.flatMap (fun e => u16 e.1.addr ++ u32 (match e.2 with
    | none => 0
    | some s => s.icrc)))
  if d = 0 then 1 else d

/-- Change the view of an epoch. -/
def Plant.updView (p : Plant) (n : Nat) (f : FastView → FastView) : Plant :=
  { p with views := p.views.map (fun v => if v.epoch == n then f v else v) }

/-- The view of an epoch. -/
def Plant.view (p : Plant) (n : Nat) : Option FastView := p.views.find? (fun v => v.epoch == n)

/-- The view of an epoch is held, in time or late. -/
def Plant.holds (p : Plant) (n : Nat) : Bool :=
  match p.view n with
  | none => false
  | some v => v.state == 1 || v.state == 3

/-- What a held view shows of an issuer's CMD_SEQ, if its record is present (R281). -/
def Plant.coverage (p : Plant) (n issuer : Nat) : Option Nat :=
  match p.view n with
  | none => none
  | some v => match v.entries.find? (fun e => e.1.addr == issuer) with
    | none => none
    | some e => match e.2 with
      | none => none
      | some s => some s.cmdSeq

/-- CMD_SEQ c covers sequence s (R281): equal, or after it by less than 2^15. -/
def covers (c s : Nat) : Bool := c != 0 && decide ((c + 65536 - s) % 65536 < 32768)

/-- A summary answers a repair request or comes in its window. -/
def Mach.inWindow (m : Mach) (s : Summary) (inTime : Bool) : Bool := inTime && s.epoch == m.fastEpoch % 2 ^ 32

/-- String contents already consumed (R300): of two with the same STRING and PSEQ, both with SOLE 0, the first is kept. -/
def Mach.consume (m : Mach) (s : Summary) : Mach :=
  if 32768 ≤ s.pseq || m.pair.seen.contains (s.string, s.pseq) then m
  else m.updPair (fun p => { p with seen := ((s.string, s.pseq) :: p.seen).take 1024 })

/-- A summary of another view that this one yields to (R271, merge). -/
def Mach.mergesInto (m : Mach) (s : Summary) : Bool :=
  m.plant.isMember && s.founder != 0xFFFF && s.founder != m.plant.founder
    && (decide (m.plant.members.length < s.mcount)
      || (s.mcount == m.plant.members.length && decide (s.founder < m.plant.founder)))

/-- A summary of epoch n accepted, or both copies discarded because they differ (R247, R265). -/
def Mach.takeSummary (m : Mach) (src : Nat) (s : Summary) : Mach :=
  let n := m.fastEpoch
  if m.plant.differing.contains (n, src) then m
  else match m.plant.summaryAt n src with
  | some old =>
    if old = s then m
    else (m.updPlant (fun p => { p with
      accepted := p.accepted.filter (fun a => !(a.1 == n && a.2.1 == src))
      differing := (n, src) :: p.differing.filter (fun d => decide (n ≤ d.1 + 16)) })).updPlantCnt (fun c =>
        { c with copyMism := satInc c.copyMism })
  | none =>
    (m.updPlant (fun p => { p.accept n src s with
      lastMember := if s.founder != 0xFFFF then some m.now else p.lastMember
      mergeNow := p.mergeNow || m.mergesInto s })).consume s

/-! ## Slow records (R266) -/

/-- INJECTING with the flags and STALE that only an injecting module raises (R114, R116). -/
def Mach.isoFlags (m : Mach) : Nat :=
  if m.iso.state == .injecting then 128 + bitIf 8 m.iso.alarm + bitIf 9 m.iso.warning + bitIf 10 m.iso.stale else 0

/-- SFLAGS of the own slow head. -/
def Mach.slowFlags (m : Mach) : Nat :=
  bitIf 0 m.timeOk + bitIf 1 m.chain.reversed + bitIf 2 m.chain.incomplete + bitIf 3 m.est.restRequest
    + bitIf 4 m.est.refAged + bitIf 5 m.mode.baselinePending + bitIf 6 m.eligible
    + m.isoFlags
    + bitIf 11 m.est.bridged

/-- Lowest SoH_R among the groups that have one, 0xFFFF for none (0x2400.05). -/
def Mach.strSohR (m : Mach) : Nat :=
  (m.est.groups.filterMap (fun p => m.sohR p.1)).foldl min 0xFFFF

/-- Time since the last qualifying rest in s (0x2405.01). -/
def Mach.restAge (m : Mach) : Nat := (m.fabTime - m.est.lastRest) / second

/-- The own slow head of slow epoch k (R266). -/
def Mach.formHead (m : Mach) (k : Nat) : SlowHead :=
  { epoch := k % 2 ^ 32, string := m.stringId, sflags := m.slowFlags, skew := m.chain.skew, galv := m.iso.id
    rIso := if m.iso.state == .injecting then m.iso.reading else 0xFFFFFFFF, restAge := fitU 4 m.restAge
    soc := fitU 4 (cutQ (1000 * m.pubSoc.1)), bound := fitU 2 (cutQ (100 * m.pubSoc.2)), sohC := m.sohC m.lowCap
    sohR := m.strSohR, tIntMax := m.tIntMax, vMax := fitU 2 (m.highestGroup.getD 0), vMin := fitU 2 (m.lowestGroup.getD 0)
    iLatch := m.meas.latchI, efc := m.efc, tie := m.iso.tie, section_ := m.par 0x2206 0
    pods := m.chain.serials.length, mode := m.modeByte }

/-- The body of the own slow record (R266): 432 group voltages, published states of charge, core temperatures and flag bytes, and the
27 × 3 pod temperatures. -/
def Mach.formBody (m : Mach) : List Nat :=
  let g := (List.range 432).map (fun i => i + 1)
  let v := m.finesOf m.chain.shared
  g.flatMap (fun k => u16 (fitU 2 ((aget? v k).getD 0)))
    ++ g.flatMap (fun k => u16 (fitU 2 (cutQ (100 * (m.pubGroup k).1))))
    ++ g.flatMap (fun k => sBytes 2 (match m.coreTemp k with
      | none => -32768
      | some t => fitS 2 (roundQ (100 * t))))
    ++ g.flatMap (fun k => u8 (m.groupFlags k))
    ++ (List.range 27).flatMap (fun i => (List.range 3).flatMap (fun j => sBytes 2 (match aget? m.chain.shared (i + 1) with
      | none => -32768
      | some p => if p.missing then -32768 else nth p.data.ntc j (-32768))))

/-- The slow record of the running slow epoch is formed after its sweep closes, and its head broadcast (R266); once. -/
def Mach.slowSend (m : Mach) : Mach :=
  let k := m.slowEpoch
  if m.mode.mode == .boot || m.fab.addr == 0xFFFF || !m.plant.isMember || m.plant.ownHeads.any (fun h => h.epoch == k % 2 ^ 32) then m
  else
    let h := m.formHead k
    (m.updPlant (fun p => { p with
      ownHeads := (h :: p.ownHeads).take 64, bodies := ((k, m.formBody) :: p.bodies).take 4
      heads := (k, m.fab.addr, h) :: p.heads.filter (fun x => decide (k ≤ x.1 + 64)) })).emit (.slowHead h)

def execSlowRecordSend (s : State) : Host.Outcome State Fault Refusal := onProc Mach.slowSend s

/-- A BODY_REQUEST for one of the last 4 slow epochs is answered in two frames (R266). -/
def Mach.bodyRequest (m : Mach) (src epoch : Nat) : Mach :=
  let k := nearEpoch m.slowEpoch epoch
  match aget? m.plant.bodies k with
  | none => m
  | some b => if k + 4 ≤ m.slowEpoch then m
    else (m.emit (.bodyPart src k 0 (b.take 1593))).emit (.bodyPart src k 1 (b.drop 1593))

def execBodyRequest (src epoch : Nat) (s : State) : Host.Outcome State Fault Refusal :=
  onProc (fun m => m.bodyRequest src epoch) s

/-- A BODY_PART is kept (R266). -/
def Mach.bodyPart (m : Mach) (src epoch part : Nat) (bytes : List Nat) : Mach :=
  m.updPlant (fun p => { p with parts := ((src, nearEpoch m.slowEpoch epoch, part, bytes) :: p.parts).take 16 })

def execBodyPart (src epoch part : Nat) (bytes : List Nat) (s : State) : Host.Outcome State Fault Refusal :=
  onProc (fun m => m.bodyPart src epoch part bytes) s

/-- A HEAD_REQUEST is answered with the retained head (R266, R274, R275). -/
def Mach.headRequest (m : Mach) (src epoch : Nat) : Mach :=
  match m.plant.ownHeads.find? (fun h => h.epoch == epoch) with
  | none => m
  | some h => m.emit (.slowHeadTo src h)

def execHeadRequest (src epoch : Nat) (s : State) : Host.Outcome State Fault Refusal :=
  onProc (fun m => m.headRequest src epoch) s

/-- A RECORD_REQUEST is answered with the retained fast summary (R274). -/
def Mach.recordRequest (m : Mach) (src epoch : Nat) : Mach :=
  match m.plant.ownSums.find? (fun x => x.epoch == epoch) with
  | none => m
  | some x => m.emit (.summaryTo src x)

def execRecordRequest (src epoch : Nat) (s : State) : Host.Outcome State Fault Refusal :=
  onProc (fun m => m.recordRequest src epoch) s

/-! ## The slow plant view, injector election and rest plan (R113, R114, R275, R287) -/

/-- The entries of the slow view of a slow epoch over a held fast view: a present member's head whose ICRC equals its
SLOW_CRC, or an absence. -/
def Plant.slowEntries (p : Plant) (k : Nat) (v : FastView) : List (Member × Option SlowHead) :=
  v.entries.map (fun e => (e.1, match e.2 with
    | none => none
    | some s => match p.heads.find? (fun h => h.1 == k && h.2.1 == e.1.addr) with
      | none => none
      | some h => if h.2.2.icrc = s.slowCrc then some h.2.2 else none))

/-- Every member present in the fast view has its head. -/
def slowComplete (v : FastView) (l : List (Member × Option SlowHead)) : Bool :=
  (v.entries.zip l).all (fun x => x.1.2.isNone || x.2.2.isSome)

/-- Insert a string by REST_AGE descending, then ID ascending. -/
def insRest (x : Nat × Nat) : List (Nat × Nat) → List (Nat × Nat) :=
  insertBy (fun h y => decide (y.1 < h.1) || (h.1 == y.1 && decide (h.2 ≤ y.2))) x

/-- The head of each string: its lowest-address present member's. -/
def stringHeads (l : List (Member × Option SlowHead)) : List (Nat × SlowHead) :=
  l.foldl (fun a e => match e.2 with
    | none => a
    | some h => if (aget? a e.1.string).isSome then a else aput a e.1.string h) []

/-- The strings that take a rest slot (R287). -/
def restPick (l : List (Member × Option SlowHead)) (n : Nat) : List Nat :=
  let cand := (stringHeads l).filter (fun p => bit p.2.sflags 3 && p.2.mode % 16 == 6)
  ((cand.foldl (fun a p => insRest (p.2.restAge, p.1) a) []).map (fun p => p.2)).take n

/-- The rest concurrency in force at a fast epoch. -/
def Plant.restAt (p : Plant) (n : Nat) : Nat :=
  match p.restHist.find? (fun h => decide (h.1 ≤ n)) with
  | none => p.st.rest
  | some h => h.2

/-- The first fast epoch of the next rest period of a string among those planned. -/
def Plant.nextOwn (p : Plant) (own n : Nat) : Option Nat :=
  match p.restPlan.find? (fun b => decide (n < b.1) && b.2.contains own) with
  | none => none
  | some b => some b.1

/-- The rest plan that the slow view of slow epoch k fixes, where it names a rest period (R287). -/
def Mach.planRest (m : Mach) (k : Nat) (l : List (Member × Option SlowHead)) : Mach :=
  let b := 10 * k + 70000
  if b % 20000 != 0 then m
  else m.updPlant (fun p =>
    let q := { p with restPlan := aput (p.restPlan.filter (fun x => decide (m.fastEpoch ≤ x.1 + 20000))) b
                        (restPick l (p.restAt (b - 69988))) }
    { q with nextRest := q.nextOwn m.stringId m.fastEpoch })

/-- The eligible member of an ID with the lowest address (R113). -/
def electedOf (l : List (Member × Option SlowHead)) (id : Nat) : Option Nat :=
  match l.find? (fun e => match e.2 with
    | none => false
    | some h => h.galv == id && bit h.sflags 6) with
  | none => none
  | some e => some e.1.addr

/-- The member set of an ID. -/
def membersOf (l : List (Member × Option SlowHead)) (id : Nat) : List Nat :=
  (l.filter (fun e => match e.2 with
    | none => false
    | some h => h.galv == id)).map (fun e => e.1.addr)

/-- What the slow record of an ID's injector gives the other members of that ID (R116): reading, flags and STALE. BELOW_RANGE
and ABOVE_RANGE are in no slow record. -/
def Iso.hear (i : Iso) (h : SlowHead) : Iso :=
  if i.state == .injecting || i.state == .paused || !bit h.sflags 7 || h.rIso == 0xFFFFFFFF then i
  else { i with reading := h.rIso, alarm := bit h.sflags 8, warning := bit h.sflags 9, stale := bit h.sflags 10
                below := false, above := false }

/-- What a held slow view gives the injector (R113, R114, R116): its election, what the elected one reports, and a restart of
its measurement, also of a paused one, where the member set of its ID has changed. -/
def Mach.isoView (m : Mach) (k : Nat) (l : List (Member × Option SlowHead)) : Mach :=
  let id := match l.find? (fun e => e.1.addr == m.fab.addr) with
    | some (_, some h) => h.galv
    | _ => m.iso.id
  let el := electedOf l id
  let ms := membersOf l id
  let head := match l.find? (fun e => some e.1.addr == el) with
    | some (_, some h) => some h
    | _ => none
  m.updIso (fun i =>
    let j := { i with elected := el, members := ms, views := ((k, el == some m.fab.addr) :: i.views).take 8 }
    let j := match head with
      | some h => j.hear h
      | none => j
    if (i.state == .injecting || i.state == .paused) && ms != i.members then j.restart m.fab.addr m.now else j)

/-- The slow plant view of slow epoch k closes at 10k + 12.7 ms (R275). -/
def Mach.slowClose (m : Mach) : Mach :=
  let n := m.fastEpoch
  if !m.plant.isMember || n % 10 != 2 || n < 12 then m
  else
    let k := (n - 12) / 10
    match m.plant.view (n - 1) with
    | none => m.updPlant (fun p => { p with slowHeld := false, slowViews := ((k, false, []) :: p.slowViews).take 64 })
    | some v =>
      let l := m.plant.slowEntries k v
      let held := v.state == 1 && slowComplete v l
      let a := m.updPlant (fun p => { p with
        slowHeld := held, lastSlow := if held then k else p.lastSlow, slowViews := ((k, held, l) :: p.slowViews).take 64 })
      if held then (a.isoView k l).planRest k l else a

def execSlowViewClose (s : State) : Host.Outcome State Fault Refusal := onProc Mach.slowClose s

/-- A slow view not held at its close that a head or a repaired fast view has since completed is held late; late holding
serves the rest plan (R274, R287). -/
def Mach.slowRepair (m : Mach) (k : Nat) : Mach :=
  match m.plant.slowViews.find? (fun v => v.1 == k), m.plant.view (10 * k + 11) with
  | some (_, false, _), some v =>
    let l := m.plant.slowEntries k v
    if m.plant.holds (10 * k + 11) && slowComplete v l then
      (m.updPlant (fun p => { p with
        slowViews := p.slowViews.map (fun x => if x.1 == k then (k, true, l) else x) })).planRest k l
    else m
  | _, _ => m

/-- A slow record head arrives (R266, R275). -/
def Mach.slowHead (m : Mach) (src : Nat) (h : SlowHead) (crcOk : Bool) : Mach :=
  if !crcOk then m
  else
    let k := nearEpoch m.slowEpoch h.epoch
    (m.updPlant (fun p => { p with
      heads := (k, src, h) :: p.heads.filter (fun x => decide (k ≤ x.1 + 64) && !(x.1 == k && x.2.1 == src)) })).slowRepair k

def execSlowRecordHead (src : Nat) (h : SlowHead) (crcOk : Bool) (s : State) : Host.Outcome State Fault Refusal :=
  onProc (fun m => m.slowHead src h crcOk) s

end Sys2Proof.Machine
end

