-- ==== Sys2Proof/Machine/PlantDispatch.lean ====
section
/-! DEFINITION. Plant commands, membership, view closing and the dispatch function: meanings of the commands of chapter 11,
Plant View and Dispatch (R267 to R289), the tie mask request of chapter 4 and the join time-out of chapter 2. -/

namespace Sys2Proof.Machine

/-! ## Issue (R278 to R280) -/

/-- A plant command is issued in the running fast epoch (R280): effect at least 5 epochs later, at most 16 an epoch, ADMIT
and REMOVE at multiples of 100, no cap below −1 (R279). -/
def Mach.issueOk (m : Mach) (ctype : Nat) (arg0 arg1 : Int) (effect : Nat) : Bool :=
  decide (m.fastEpoch + 5 ≤ effect) && decide (m.plant.issuedNow < 16)
    && ((ctype != 7 && ctype != 8) || effect % 100 == 0) && (ctype != 3 || (decide (-1 ≤ arg0) && decide (-1 ≤ arg1)))

/-- Issue a plant command: the next CSEQ, broadcast, and held like any other until its effect epoch. -/
def Mach.issueCmd (m : Mach) (ctype target : Nat) (arg0 arg1 : Int) (effect role : Nat) : Mach :=
  let q := (m.plant.cseq + 1) % 65536
  let c : PlantCmd := { issuer := m.fab.addr, ctype := ctype, cseq := q, effect := effect, target := target, arg0 := arg0
                        arg1 := arg1, role := role }
  (m.updPlant (fun p => { p with
    cseq := q, issuedNow := p.issuedNow + 1, issued := (c :: p.issued).take 256, cmds := p.cmds ++ [c] })).emit (.plantCmd c)

/-- What a request object takes (R7, R9, R288, R421 check 7; log entry 168): a listed mode code, a tie mask with its reserved bit
0, a set-point in the range of 0x2704.00, a balancing gain of 0 to 1,000, a rest concurrency of 0 to 16. -/
def plantArgsOk (ctype : Nat) (arg0 arg1 : Int) : Bool :=
  match ctype with
  | 1 => decide (0 ≤ arg0) && decide (arg0 ≤ 11)
  | 4 => decide (0 ≤ arg0)
  | 5 => decide (1000 ≤ arg0) && decide (arg0 ≤ 16000)
  | 6 => decide (0 ≤ arg1) && decide (arg1 ≤ (if arg0 = 1 then 1000 else 16))
  | _ => true

/-- A write to a request object (R280, R423): ROLE below OPERATOR (R10), RANGE for a value it does not take, CONDITION where the
command is refused at issue, otherwise it is issued with effect i + 8. -/
def Mach.plantRequest (m : Mach) (ctype target : Nat) (arg0 arg1 : Int) (role : Nat) : Mach :=
  let e := m.fastEpoch + 8
  if role < 1 then m.emit (.writeStatus 0x14 0)
  else if !plantArgsOk ctype arg0 arg1 then m.emit (.writeStatus 0x17 0)
  else if !m.issueOk ctype arg0 arg1 e then m.emit (.writeStatus 0x21 0)
  else (m.issueCmd ctype target arg0 arg1 e role).emit (.writeStatus 0 e)

def execPlantPowerRequest (p : Int) (role : Nat) (s : State) : Host.Outcome State Fault Refusal :=
  onProc (fun m => m.plantRequest 2 0xFFFF p 0 role) s

def execBalancingGainRequest (v role : Nat) (s : State) : Host.Outcome State Fault Refusal :=
  onProc (fun m => m.plantRequest 6 0xFFFF 1 v role) s

def execRestConcurrencyRequest (v role : Nat) (s : State) : Host.Outcome State Fault Refusal :=
  onProc (fun m => m.plantRequest 6 0xFFFF 2 v role) s

def execStringLimitRequest (dis chg : Int) (role : Nat) (s : State) : Host.Outcome State Fault Refusal :=
  onProc (fun m => m.plantRequest 3 m.stringId dis chg role) s

def execPlantModeRequest (target mode role : Nat) (s : State) : Host.Outcome State Fault Refusal :=
  onProc (fun m => m.plantRequest 1 target mode 0 role) s

def execPlantBusVoltageRequest (target v role : Nat) (s : State) : Host.Outcome State Fault Refusal :=
  onProc (fun m => m.plantRequest 5 target v 0 role) s

def execTieMaskRequest (mask role : Nat) (s : State) : Host.Outcome State Fault Refusal :=
  onProc (fun m => m.plantRequest 4 0xFFFF (signedOf 4 mask) 0 role) s

/-! ## Membership (R267 to R271) -/

/-- The first fast epoch that is a multiple of 100 and at least 10 epochs after a given one (R269). -/
def effectAfter (n : Nat) : Nat := (n + 109) / 100 * 100

/-- The first listed address after a given one in ascending order, wrapping (R269). -/
def successor (l : List Nat) (a : Nat) : Option Nat :=
  match l.find? (fun x => decide (a < x)) with
  | some x => some x
  | none => l.head?

/-- Addresses of the membership entries, ascending. -/
def Plant.addrs (p : Plant) : List Nat := p.members.map (fun x => x.addr)

/-- Insert an entry by address; an address already listed stays as it is. -/
def insMember (x : Member) : List Member → List Member
  | [] => [x]
  | h :: t => if x.addr < h.addr then x :: h :: t else if x.addr = h.addr then h :: t else h :: insMember x t

/-- The serial of a node as its link-state advertisement gave it. -/
def Mach.serialOf (m : Mach) (a : Nat) : Option Nat :=
  match (m.fab.dbA ++ m.fab.dbB).find? (fun l => l.addr == a) with
  | none => none
  | some l => some l.serial

/-- The latest accepted summary of an address. -/
def Plant.latest (p : Plant) (a : Nat) : Option Summary :=
  match p.accepted.find? (fun x => x.2.1 == a) with
  | none => none
  | some x => some x.2.2

/-- The string ID that a new entry takes: that of its latest summary (log entry 20). -/
def Plant.stringOf (p : Plant) (a : Nat) : Nat :=
  match p.latest a with
  | none => a
  | some s => s.string

/-- The module holds a membership view and a plant state: founded or received (R268, R269); commissioning step C3 ends. -/
def Mach.join (m : Mach) (mv founder : Nat) (members : List Member) (st : PlantState) : Mach :=
  let a := m.updPlant (fun p => { p with
    isMember := true, mv := mv, mvAt := m.fastEpoch, founder := founder, members := members
    founded := founder == m.fab.addr, st := st, hasState := true, transfer := none, leaving := false, outRun := 0
    mergeRun := 0, views := [], absent := [], restHist := [(m.fastEpoch, st.rest)] })
  let tie := st.tie % 2 ^ 31
  let b := (a.updIso (fun i => { i with tie := tie })).when (tie != m.iso.tie) (fun x => x.store [.tieMask tie] [])
  (b.when (b.stepActive 3) Mach.enterC4).noteDegraded

/-- The module leaves or is removed (R271): a candidate without MV; from DISPATCH it returns to CONNECTED. -/
def Mach.leave (m : Mach) : Mach :=
  let a := m.updPlant (fun p => { p with
    isMember := false, mv := 0, founder := 0xFFFF, members := [], founded := false, leaving := false, st := {}
    hasState := false, views := [], absent := [], candRuns := [], slowViews := [], allocs := [], outcomes := []
    restPlan := [], nextRest := none, viewHeld := false, slowHeld := false, diverged := false, outRun := 0, mergeRun := 0
    lacking := [], covered := [], lastMember := none })
  (a.when (m.mode.mode == .dispatch) (fun x => x.automatic .connected .timeout)).noteDegraded

/-- The own membership entry. -/
def Mach.ownEntry (m : Mach) : Member := { addr := m.fab.addr, string := m.stringId, serial := m.fab.serial }

/-- Found a view of this module alone, with the plant state's reset values and the stored tie mask (R268, R269). -/
def Mach.found (m : Mach) : Mach := m.join 1 m.fab.addr [m.ownEntry] { tie := m.iso.tie }

/-- A grandmaster without a member summary for 1 s, or without a port UP, founds a view (R268). -/
def Mach.viewFounding (m : Mach) : Mach :=
  let since := max m.plant.gmSince (m.plant.lastMember.getD 0)
  if m.fab.time == .grandmaster && !m.plant.isMember && m.fab.addr != 0xFFFF && (!m.anyUp || m.elapsed since second) then
    m.found
  else m

def execViewFounding (s : State) : Host.Outcome State Fault Refusal := onProc Mach.viewFounding s

/-- Without a port UP the candidate address is taken without flooding (R238). -/
def Mach.takeAlone (m : Mach) : Mach :=
  if m.fab.addr != 0xFFFF then m
  else
    let c := ({ m.fab with hint := m.hintNow, taken := [] }).choose
    m.takeAddr c.1 c.2

/-- C3 with no fabric link up for 10 s: the membership view holds the module alone and the step completes (R57, R238). -/
def Mach.joinTimeout (m : Mach) : Mach :=
  if m.stepActive 3 && !m.anyUp && m.elapsed m.mode.stepSince (10 * second) then
    if m.plant.isMember then m.enterC4 else m.takeAlone.found
  else m

def execPlantJoinTimeout (s : State) : Host.Outcome State Fault Refusal := onProc Mach.joinTimeout s

/-- A command of a type for a target waits to take effect. -/
def Plant.waits (p : Plant) (ctype target : Nat) : Bool := p.cmds.any (fun c => c.ctype == ctype && c.target == target)

/-- The successor issues ADMIT for a candidate accepted in 100 consecutive epochs, with an address, its time and out of
BOOT (R269). -/
def Mach.admitIssue (m : Mach) (a : Nat) : Mach :=
  let ready := match m.plant.latest a with
    | none => false
    | some x => bit x.flags 0 && x.mode % 16 != 0 && x.founder == 0xFFFF
  let e := effectAfter m.fastEpoch
  match m.serialOf a with
  | none => m
  | some ser =>
    if m.plant.isMember && ready && decide (100 ≤ aget m.plant.candRuns a 0) && successor m.plant.addrs a == some m.fab.addr
        && !m.plant.waits 7 a && decide (m.plant.members.length < 1024) && m.issueOk 7 0 0 e then
      m.issueCmd 7 a (signedOf 4 (ser % 2 ^ 32)) (signedOf 4 (ser / 2 ^ 32 % 2 ^ 32)) e 0xFF
    else m

def execAdmitIssue (a : Nat) (s : State) : Host.Outcome State Fault Refusal := onProc (fun m => m.admitIssue a) s

/-- Addresses present in the last held view. -/
def Plant.present (p : Plant) : List Nat :=
  match p.view p.lastFast with
  | none => []
  | some v => (v.entries.filter (fun e => e.2.isSome)).map (fun e => e.1.addr)

/-- The successor among the members present issues REMOVE for a member absent from 10 consecutive views (R270). -/
def Mach.removeIssue (m : Mach) (a : Nat) : Mach :=
  let e := effectAfter m.fastEpoch
  if m.plant.isMember && decide (10 ≤ aget m.plant.absent a 0) && successor m.plant.present a == some m.fab.addr
      && !m.plant.waits 8 a && m.issueOk 8 0 0 e then
    m.issueCmd 8 a 0 0 e 0xFF
  else m

def execRemoveIssue (a : Nat) (s : State) : Host.Outcome State Fault Refusal := onProc (fun m => m.removeIssue a) s

/-- A member leaves at a multiple of 100 (R271): out of step, merging, or after an address conflict. -/
def Mach.membershipLeave (m : Mach) : Mach :=
  if m.plant.isMember && m.plant.leaving && m.fastEpoch % 100 == 0 then m.leave else m

def execMembershipLeave (s : State) : Host.Outcome State Fault Refusal := onProc Mach.membershipLeave s

/-- The issuer's transfer of the membership view and plant state reaches a candidate before the effect epoch (R269). -/
def Mach.viewTransfer (m : Mach) (effect mv founder : Nat) (members : List Member) (st : PlantState) : Mach :=
  if m.plant.isMember || !decide (m.fastEpoch < effect) then m
  else m.updPlant (fun p => { p with transfer := some (effect, mv, founder, members, st) })

def execMembershipViewTransfer (effect mv founder : Nat) (members : List Member) (st : PlantState) (s : State) :
    Host.Outcome State Fault Refusal :=
  onProc (fun m => m.viewTransfer effect mv founder members st) s

/-! ## Admission and effect of plant commands (R279, R281, R282) -/

/-- Whether a command is admitted (R281), once the view of e − 4 is held: none while that view is not. -/
def Mach.admission (m : Mach) (c : PlantCmd) : Option Bool :=
  if m.plant.holds (c.effect - 4) then
    some (match m.plant.coverage (c.effect - 4) c.issuer with
      | none => false
      | some q => covers q c.cseq)
  else none

/-- Order of application: effect, issuer, CSEQ (R281). -/
def PlantCmd.before (a b : PlantCmd) : Bool :=
  decide (a.effect < b.effect) || (a.effect == b.effect && (decide (a.issuer < b.issuer)
    || (a.issuer == b.issuer && decide (a.cseq < b.cseq))))

/-- Insert a command in the order of application. -/
def insCmd (c : PlantCmd) : List PlantCmd → List PlantCmd
  | [] => [c]
  | h :: t => if c.before h then c :: h :: t else h :: insCmd c t

/-- Commands in the order of application. -/
def sortCmds (l : List PlantCmd) : List PlantCmd := l.foldl (fun a c => insCmd c a) []

/-- The tie mask that a TIE_MASK command carries: bit 31 is reserved and counts for nothing (R7, R112). -/
def PlantCmd.tieMask (c : PlantCmd) : Nat := twos 4 c.arg0 % 2 ^ 31

/-- What a command does to the plant state (R279). -/
def PlantState.apply (st : PlantState) (c : PlantCmd) : PlantState :=
  match c.ctype with
  | 2 => { st with power := c.arg0 }
  | 3 => { st with caps := aput st.caps c.target (c.arg0, c.arg1) }
  | 4 => { st with tie := c.tieMask }
  | 6 => if c.arg0 = 1 then { st with gain := c.arg1.toNat } else if c.arg0 = 2 then { st with rest := c.arg1.toNat } else st
  | _ => st

/-- The plant state in force at fast epoch e: what stands and every admitted command with effect by then (R282, R283). -/
def Mach.stateAt (m : Mach) (e : Nat) : PlantState :=
  (sortCmds (m.plant.cmds.filter (fun c => decide (c.effect ≤ e) && m.admission c == some true))).foldl PlantState.apply
    { m.plant.st with tie := m.iso.tie }

/-- Some command with effect by fast epoch e cannot be judged yet, or an admitted body is lacking (R282, R286). -/
def Mach.unresolved (m : Mach) (e : Nat) : Bool :=
  !m.plant.lacking.isEmpty || m.plant.cmds.any (fun c => decide (c.effect ≤ e) && (m.admission c).isNone)

/-- A command leaves those that wait. -/
def Plant.done (p : Plant) (c : PlantCmd) : Plant :=
  { p with
    cmds := p.cmds.filter (fun d => !(d.issuer == c.issuer && d.cseq == c.cseq))
    doneCmds := ((c.issuer, c.cseq) :: p.doneCmds).take 4096 }

/-- The module serves the strings a command names. -/
def Mach.targeted (m : Mach) (c : PlantCmd) : Bool := c.target == 0xFFFF || c.target == m.stringId

/-- MV rises by 1 at each epoch in which the view changes (R267). -/
def Mach.viewChanged (m : Mach) (l : List Member) : Mach :=
  if l = m.plant.members then m
  else m.updPlant (fun p => { p with
    members := l, mv := if p.mvAt = m.fastEpoch && p.mv != 0 then p.mv else (p.mv + 1) % 2 ^ 32, mvAt := m.fastEpoch })

/-- The effect of an admitted command (R279). `next` is the boundary at which a mode request is applied. -/
def Mach.takeEffect (m : Mach) (c : PlantCmd) (next : Nat) : Mach :=
  let a := m.updPlant (fun p => (p.done c))
  match c.ctype with
  | 1 => if m.targeted c then
      match Mode.ofCode c.arg0.toNat with
      | none => a.updPlantCnt (fun x => { x with dropped := satInc x.dropped })
      | some d => (a.queueMode { dest := d, cause := .plantCommand, effect := max c.effect next, fromPartner := false }).updPlantCnt
          (fun x => { x with appliedLate := if c.effect < next then satInc x.appliedLate else x.appliedLate })
    else a
  | 4 => ((a.updPlant (fun p => { p with st := p.st.apply c })).updIso (fun i => { i with tie := c.tieMask })).store
      [.tieMask c.tieMask] []
  | 5 => if m.targeted c && decide (1000 ≤ c.arg0) && decide (c.arg0 ≤ 16000) then
      (a.setPar 0x2704 0 c.arg0.toNat).store [.param (objKey 0x2704 0) c.arg0.toNat] []
    else a
  | 6 => a.updPlant (fun p =>
      let q := { p with st := p.st.apply c }
      { q with restHist := if q.st.rest = p.st.rest then p.restHist else ((m.fastEpoch, q.st.rest) :: p.restHist).take 64 })
  | 7 =>
    let ser := twos 4 c.arg0 + 2 ^ 32 * twos 4 c.arg1
    (a.viewChanged (insMember { addr := c.target, string := m.plant.stringOf c.target, serial := ser } m.plant.members)).updPlant
      (fun p => { p with candRuns := adel p.candRuns c.target })
  | 8 => if c.target = m.fab.addr && m.plant.isMember then a.leave
    else a.viewChanged (m.plant.members.filter (fun x => x.addr != c.target))
  | _ => a.updPlant (fun p => { p with st := p.st.apply c })

/-- A command is dropped everywhere and counted (R281). -/
def Mach.dropCmd (m : Mach) (c : PlantCmd) : Mach :=
  (m.updPlant (fun p => p.done c)).updPlantCnt (fun x => { x with dropped := satInc x.dropped })

/-- One command that waits meets boundary n: applied, dropped, or kept while its view may still be held late. -/
def Mach.dueCmd (m : Mach) (n : Nat) (c : PlantCmd) : Mach :=
  match m.admission c with
  | some true => m.takeEffect c n
  | some false => m.dropCmd c
  | none => if c.effect + 256 < n then m.dropCmd c else m

/-- The plant commands with effect by fast epoch n, in order (R277 step 9, R281, R282). -/
def Mach.dueCmds (m : Mach) (n : Nat) : Mach :=
  m.each (sortCmds (m.plant.cmds.filter (fun c => decide (c.effect ≤ n)))) (fun c x => x.dueCmd n c)

/-- One admitted command of a type, named by its issuer and sequence: a MODE command asks for its mode once admitted, any
other takes effect at its epoch, or at once where it is learned later (R282). The boundary of its epoch applies what this
has not (log entry 21). -/
def Mach.admitted (m : Mach) (ctype issuer cseq : Nat) : Mach :=
  match m.plant.cmds.find? (fun c => c.ctype == ctype && c.issuer == issuer && c.cseq == cseq) with
  | none => m
  | some c =>
    if m.admission c == some true && (ctype == 1 || decide (c.effect ≤ m.fastEpoch)) then m.takeEffect c (m.fastEpoch + 1)
    else m

def execMode (issuer cseq : Nat) (s : State) : Host.Outcome State Fault Refusal := onProc (fun m => m.admitted 1 issuer cseq) s

def execPlantPower (issuer cseq : Nat) (s : State) : Host.Outcome State Fault Refusal :=
  onProc (fun m => m.admitted 2 issuer cseq) s

def execStringLimit (issuer cseq : Nat) (s : State) : Host.Outcome State Fault Refusal :=
  onProc (fun m => m.admitted 3 issuer cseq) s

def execTieMask (issuer cseq : Nat) (s : State) : Host.Outcome State Fault Refusal :=
  onProc (fun m => m.admitted 4 issuer cseq) s

def execBusVoltage (issuer cseq : Nat) (s : State) : Host.Outcome State Fault Refusal :=
  onProc (fun m => m.admitted 5 issuer cseq) s

def execPlantParam (issuer cseq : Nat) (s : State) : Host.Outcome State Fault Refusal :=
  onProc (fun m => m.admitted 6 issuer cseq) s

def execAdmitMember (issuer cseq : Nat) (s : State) : Host.Outcome State Fault Refusal :=
  onProc (fun m => m.admitted 7 issuer cseq) s

def execRemove (issuer cseq : Nat) (s : State) : Host.Outcome State Fault Refusal :=
  onProc (fun m => m.admitted 8 issuer cseq) s

/-- A plant command frame arrives (R278, R281): a body not yet known waits for its admission. -/
def Mach.plantCommand (m : Mach) (c : PlantCmd) (crcOk : Bool) : Mach :=
  let key := fun (d : PlantCmd) => d.issuer == c.issuer && d.cseq == c.cseq
  if !crcOk || c.ctype == 0 || decide (8 < c.ctype) || m.plant.cmds.any key || m.plant.doneCmds.contains (c.issuer, c.cseq) then m
  else m.updPlant (fun p => { p with
    cmds := p.cmds ++ [{ c with effect := nearEpoch m.fastEpoch (c.effect % 2 ^ 32) }]
    lacking := p.lacking.filter (fun k => k != (c.issuer, c.cseq)) })

def execPlantCommandReceived (c : PlantCmd) (crcOk : Bool) (s : State) : Host.Outcome State Fault Refusal :=
  onProc (fun m => m.plantCommand c crcOk) s

/-- A COMMAND_REQUEST is answered with the retained command (R274, R281). -/
def Mach.commandRequest (m : Mach) (src cseq : Nat) : Mach :=
  match m.plant.issued.find? (fun c => c.cseq == cseq) with
  | none => m
  | some c => m.emit (.plantCmdTo src c)

def execCommandRequest (src cseq : Nat) (s : State) : Host.Outcome State Fault Refusal :=
  onProc (fun m => m.commandRequest src cseq) s

/-! ## Provisional view, close, late holding (R272 to R274) -/

/-- The runs of R269: consecutive fast epochs in which a candidate's summary was accepted. -/
def Plant.countCands (p : Plant) (n : Nat) : Plant :=
  let here := (p.accepted.filter (fun a => a.1 == n && a.2.2.founder == 0xFFFF)).map (fun a => a.2.1)
  { p with candRuns := here.foldl (fun t a => aput t a (aget p.candRuns a 0 + 1)) [] }

/-- At n + 700 µs (R272): the provisional view and its digest; heads still missing for a slow view are requested (R275). -/
def Mach.provisional (m : Mach) : Mach :=
  let n := m.fastEpoch
  if !m.plant.isMember || (m.plant.view n).isSome then m
  else
    let entries := m.plant.members.map (fun x => (x, m.plant.summaryAt n x.addr))
    let v : FastView := { epoch := n, entries := entries, founder := m.plant.founder, mv := m.plant.mv
                          digest := viewDigest m.plant.founder m.plant.mv entries, state := 0 }
    let a := m.updPlant (fun p => ({ p with views := (v :: p.views).take 256 }).countCands n)
    if n % 10 != 1 || n < 11 then a
    else
      let k := (n - 11) / 10
      a.each ((v.entries.zip (m.plant.slowEntries k v)).filter (fun x => x.1.2.isSome && x.2.2.isNone))
        (fun x y => y.emit (.headRequest x.1.1.addr k))

def execProvisionalView (s : State) : Host.Outcome State Fault Refusal := onProc Mach.provisional s

/-- The sequences after one up to another, at most 16 (R280, R281). -/
def seqsBetween (old new_ : Nat) : List Nat :=
  let d := (new_ + 65536 - old) % 65536
  (List.range (min d 16)).map (fun i => (new_ + 65536 - i) % 65536)

/-- What a held view covers (R281): bodies not yet known are requested from their issuers. An issuer seen for the first time
is taken as known up to there. -/
def Mach.coverView (m : Mach) (v : FastView) : Mach :=
  m.each v.entries (fun e x => match e.2 with
    | none => x
    | some s =>
      let a := e.1.addr
      let old := (aget? x.plant.covered a).getD s.cmdSeq
      let miss := (seqsBetween old s.cmdSeq).filter (fun q =>
        q != 0 && !x.plant.cmds.any (fun c => c.issuer == a && c.cseq == q) && !x.plant.doneCmds.contains (a, q))
      (x.updPlant (fun p => { p with
        covered := aput p.covered a s.cmdSeq
        lacking := p.lacking ++ (miss.map (fun q => (a, q))).filter (fun k => !p.lacking.contains k) })).each miss
        (fun q y => y.emit (.cmdRequest a q)))

/-- A view is held: it covers commands, and absences are counted over consecutive closed views (R270). -/
def Mach.holdView (m : Mach) (v : FastView) (late : Bool) : Mach :=
  let a := m.updPlant (fun p =>
    let q := p.updView v.epoch (fun x => { x with state := if late then 3 else 1 })
    if late then q
    else { q with
      viewHeld := true, lastFast := v.epoch, outRun := 0
      absent := v.entries.foldl (fun t e => if e.2.isSome then t else aput t e.1.addr (aget p.absent e.1.addr 0 + 1)) [] })
  a.coverView v

/-- The issuer sends an admitted candidate the membership view and the plant state (R269). -/
def Mach.sendViews (m : Mach) (n : Nat) : Mach :=
  m.each (m.plant.cmds.filter (fun c => c.ctype == 7 && c.issuer == m.fab.addr && c.effect == n + 4
      && m.admission c == some true)) (fun c x =>
    let ser := twos 4 c.arg0 + 2 ^ 32 * twos 4 c.arg1
    x.emit (.membership c.target c.effect (m.plant.mv + 1) m.plant.founder
      (insMember { addr := c.target, string := m.plant.stringOf c.target, serial := ser } m.plant.members) (m.stateAt c.effect)))

/-- At n + 1.7 ms the view of epoch n closes (R273): held when the own digest is the majority digest of the summaries of
n + 1; otherwise counted, and the missing summaries are requested (R274). 100 views not held make the member leave (R271). -/
def Mach.viewClose (m : Mach) : Mach :=
  let n := m.fastEpoch - 1
  match m.plant.view n with
  | none => m
  | some v =>
    if v.state != 0 then m
    else
      let vals := v.entries.filterMap (fun e => (m.plant.summaryAt (n + 1) e.1.addr).map (fun s => s.digest))
      let maj := majority vals v.entries.length
      let a := m.updPlant (fun p => p.updView n (fun x => { x with major := maj }))
      if maj == some v.digest then (a.holdView v false).sendViews n
      else
        let b := (a.updPlant (fun p => { p.updView n (fun x => { x with state := 2 }) with
          viewHeld := false, absent := [], outRun := p.outRun + 1, leaving := p.leaving || decide (100 ≤ p.outRun + 1)
          })).updPlantCnt (fun c => { c with notHeld := satInc c.notHeld })
        b.each (v.entries.filter (fun e => e.2.isNone)) (fun e x => x.emit (.recordRequest e.1.addr (n % 2 ^ 32)))

def execViewClose (s : State) : Host.Outcome State Fault Refusal := onProc Mach.viewClose s

/-- A summary that answers a repair request completes a view not held (R274): held late once its digest is the majority. -/
def Mach.repair (m : Mach) (src : Nat) (s : Summary) : Mach :=
  let n := nearEpoch m.fastEpoch s.epoch
  match m.plant.view n with
  | none => m
  | some v =>
    if v.state != 2 || !v.entries.any (fun e => e.1.addr == src) then m
    else
      let es := v.entries.map (fun e => if e.1.addr == src then (e.1, some s) else e)
      let w := { v with entries := es, digest := viewDigest v.founder v.mv es }
      let a := m.updPlant (fun p => p.updView n (fun _ => w))
      if v.major == some w.digest then
        ((a.holdView w true).updPlantCnt (fun c => { c with late := satInc c.late })).updPlant (fun p => { p with outRun := 0 })
          |>.when (decide (11 ≤ n) && n % 10 == 1) (fun x => x.slowRepair ((n - 11) / 10))
      else a

/-- A fast summary arrives (R247, R265, R274): accepted for the running epoch inside its window, or the answer to a repair; one
with a wrong ICRC is discarded and counted. -/
def Mach.fastSummary (m : Mach) (src : Nat) (s : Summary) (crcOk inTime : Bool) : Mach :=
  if !crcOk then m.updSafe (fun x => { x with nDisc := satInc x.nDisc })
  else if src == m.fab.addr then m
  else if m.inWindow s inTime then m.takeSummary src s
  else m.repair src s

def execFastSummary (src : Nat) (r : Summary) (crcOk inTime : Bool) (s : State) : Host.Outcome State Fault Refusal :=
  onProc (fun m => m.fastSummary src r crcOk inTime) s

/-! ## The dispatch function (R283 to R285) -/

/-- A string while power is shared out (R284): room, weight and what it has been given. -/
structure Share where
  /-- String ID. -/
  string : Nat
  /-- room[j], 100 W. -/
  room : Nat
  /-- w[j]. -/
  w : Nat
  /-- alloc[j] before its sign, 100 W. -/
  alloc : Nat
  deriving DecidableEq, Repr

/-- The weighted shares of one round: the new allocations and what was given. -/
def shareOut (need wsum : Nat) : List Share → List Share × Nat
  | [] => ([], 0)
  | j :: t =>
    let a := min (need * j.w / wsum) (j.room - j.alloc)
    let r := shareOut need wsum t
    ({ j with alloc := j.alloc + a } :: r.1, r.2 + a)

/-- One unit to each string in order while need remains. -/
def unitsOut : Nat → List Share → List Share × Nat
  | _, [] => ([], 0)
  | 0, l => (l, 0)
  | n + 1, j :: t =>
    let r := unitsOut n t
    ({ j with alloc := j.alloc + 1 } :: r.1, r.2 + 1)

/-- The rounds of R284: what stays unmet, and every string. -/
def rounds : Nat → Nat → List Share → List Share → Nat × List Share
  | 0, need, opened, full => (need, full ++ opened)
  | fuel + 1, need, opened, full =>
    if need = 0 || opened.isEmpty then (need, full ++ opened)
    else
      let wsum := opened.foldl (fun a j => a + j.w) 0
      let r := shareOut need wsum opened
      let q := if r.2 = 0 then unitsOut need r.1 else r
      rounds fuel (need - q.2) (q.1.filter (fun j => j.alloc != j.room)) (full ++ q.1.filter (fun j => j.alloc == j.room))

/-- The record of each string: that of its lowest-address present member (R283, R299). -/
def stringRecords (v : FastView) : List (Nat × Summary) :=
  v.entries.foldl (fun a e => match e.2 with
    | none => a
    | some s => if (aget? a e.1.string).isSome then a else aput a e.1.string s) []

/-- A string is eligible (R283). -/
def stringEligible (rest : List Nat) (p : Nat × Summary) : Bool :=
  p.2.mode % 16 == 6 && bit p.2.flags 0 && !bit p.2.flags 6 && !rest.contains p.1

/-- The limit of a string after its cap (R284, R279). -/
def capped (lim : Nat) (cap : Int) : Nat := if cap = -1 then lim else min lim cap.toNat

/-- room[j]: the limit in the direction of p less the excitation reserve, rounded up (R284). -/
def roomOf (st : PlantState) (j : Nat) (s : Summary) : Nat :=
  let c := aget st.caps j (-1, -1)
  let lim := if 0 ≤ st.power then capped s.pDis c.1 else capped s.pChg c.2
  lim - (s.excRes * s.vStr + 99999) / 100000

/-- x[j]: usable charge in the direction of p, in 0.001 % (R284). -/
def usableOf (st : PlantState) (s : Summary) : Int :=
  if 0 ≤ st.power then (s.soc : Int) - 10 * s.bound else 100000 - (s.soc : Int) - 10 * s.bound

/-- xbar, the capacity-weighted mean; 0 with no eligible string; the spec states no mean where no capacity is reported. -/
def usableMean (st : PlantState) (l : List (Nat × Summary)) : Int :=
  let num : Int := l.foldl (fun (a : Int) p => a + max (usableOf st p.2) 0 * (p.2.cap : Int)) 0
  let den : Nat := l.foldl (fun a p => a + p.2.cap) 0
  if l.isEmpty then 0 else if den = 0 then (Config.divByZero num).floor else num / (den : Int)

/-- f[j]: the balancing factor, 0 to 2,000 (R284). -/
def factorOf (st : PlantState) (xbar : Int) (s : Summary) : Nat :=
  (max 0 (min 2000 (1000 + ((st.gain : Int) * (usableOf st s - xbar)).tdiv 1000))).toNat

/-- The eligible strings at the start: nothing given yet. -/
def sharesOf (st : PlantState) (l : List (Nat × Summary)) : List Share :=
  l.map (fun p =>
    let r := roomOf st p.1 p.2
    { string := p.1, room := r, w := r * factorOf st (usableMean st l) p.2, alloc := 0 })

/-- The shares of R284 for a plant state and the eligible strings' records: what stays unmet, and every eligible string. -/
def dispatchShares (st : PlantState) (l : List (Nat × Summary)) : Nat × List Share :=
  let js := sharesOf st l
  let opened := js.filter (fun j => decide (0 < j.w))
  let n := opened.length + 2
  let r := rounds (n * n) st.power.natAbs opened []
  (r.1, r.2 ++ js.filter (fun j => !decide (0 < j.w)))

/-- The hash of A(e) (R285): CRC-32C over e and the vector; 0 is sent as 1. -/
def allocHash (e : Nat) (l : List AllocEntry) : Nat :=
  let h := crc32c (u32 (e % 2 ^ 32) ++ u16 l.length ++ l.flatMap (fun x => u16 x.string ++ sBytes 2 (fitS 2 x.p) ++ u8 x.flags ++ [0]))
  if h = 0 then 1 else h

/-- A(e) from the view of e − 4, the plant state in force at e and the strings resting at e (R283 to R285). -/
def allocate (e : Nat) (st : PlantState) (v : FastView) (rest : List Nat) : Alloc :=
  let dir : Int := if 0 ≤ st.power then 1 else -1
  let el := (stringRecords v).filter (stringEligible rest)
  let r := dispatchShares st el
  let strings := v.entries.foldl (fun a x => insNat a x.1.string) []
  let entries := strings.map (fun j => match r.2.find? (fun x => x.string == j) with
    | none => { string := j, p := 0, flags := bitIf 1 (rest.contains j) }
    | some x => { string := j, p := dir * x.alloc, flags := 1 + bitIf 1 (rest.contains j) + bitIf 2 (x.alloc == x.room) })
  { epoch := e, entries := entries, hash := allocHash e entries, short := dir * r.1 }

/-- The strings resting at a fast epoch, none while the module holds no plan for its period (R287). -/
def Plant.restOf (p : Plant) (e : Nat) : Option (List Nat) := aget? p.restPlan (e - e % 20000)

/-- The dispatch host computes the allocation for n + 4 from the view of n just closed (R277 step 6, R283); without that view
in time, without the body of an admitted command, without a rest plan or past the deadline there is no own hash (R286). -/
def Mach.allocCompute (m : Mach) (missed : Bool) : Mach :=
  match m.plant.views.find? (fun v => v.state != 0) with
  | none => m
  | some v =>
    let e := v.epoch + 4
    if missed || v.state != 1 || (m.allocOf e).isSome || m.unresolved e || !m.plant.isMember then m
    else match m.plant.restOf e with
    | none => m
    | some r => m.updPlant (fun p => { p with allocs := (allocate e (m.stateAt e) v r :: p.allocs).take 8 })

def execAllocationCompute (missed : Bool) (s : State) : Host.Outcome State Fault Refusal :=
  onProc (fun m => m.allocCompute missed) s

/-- At e − 2 + 700 µs the outcome for epoch e (R286): 0 A(e) applies, 1 the hold rule, 2 diverged. A hash that differs from
the majority raises PLANT_DIVERGED and withdraws the module from DISPATCH at e, its partner with it (R42). -/
def Mach.hashCheck (m : Mach) : Mach :=
  let n := m.fastEpoch
  let e := n + 2
  if !m.plant.isMember || (aget? m.plant.outcomes e).isSome then m
  else
    let vals := m.plant.members.filterMap (fun x => (m.plant.summaryAt n x.addr).map (fun s => s.ahash))
    let own := m.ahashOf e
    let set := fun (o : Nat) => m.updPlant (fun p => { p with
      outcomes := aput (p.outcomes.filter (fun x => decide (n ≤ x.1))) e o, hashAgreed := o == 0
      diverged := if o = 0 then false else p.diverged || o == 2 })
    match majority vals m.plant.members.length with
    | none => set 1
    | some maj =>
      if own = 0 then set 1
      else if own = maj then set 0
      else
        let a := ((set 2).updPlantCnt (fun c => { c with hashDis := satInc c.hashDis })).raiseFault .plantDiverged []
        if m.mode.mode == .dispatch then
          (a.queueMode { dest := .connected, cause := .fault, effect := e, fromPartner := false }).when
            (m.paired && !m.partnerMissing) (fun y => y.emit (.pairRequest y.pairHead 5 e 0 0 false))
        else a

def execHashCheck (s : State) : Host.Outcome State Fault Refusal := onProc Mach.hashCheck s

/-- After 100 held epochs the module withdraws from DISPATCH at the next boundary, without a fault (R286). -/
def Mach.holdWithdraw (m : Mach) : Mach :=
  if 100 ≤ m.plant.holdRun && m.mode.mode == .dispatch then m.automatic .connected .timeout else m

def execAllocHoldWithdraw (s : State) : Host.Outcome State Fault Refusal := onProc Mach.holdWithdraw s

/-! ## Rest slots (R287) -/

/-- A rest period begins (R125, R286, R287): in its slot the string's allocation is 0 and a running bin is aborted. -/
def Mach.restStart (m : Mach) : Mach :=
  let n := m.fastEpoch
  let b := n - n % 20000
  match aget? m.plant.restPlan b with
  | none => m
  | some l =>
    if m.plant.resting == some (b, l) then m
    else
      let own := l.contains m.stringId
      let a := m.updPlant (fun p =>
        let q := { p with resting := some (b, l), inRest := own, own := if own then 0 else p.own }
        { q with nextRest := q.nextOwn m.stringId n })
      a.when (own && m.imp.run.isSome) (fun x => (x.abortBin false).updImp (fun i => { i with restWait := true }))

def execRestSlotStart (s : State) : Host.Outcome State Fault Refusal := onProc Mach.restStart s

/-- A rest period of 20 s ends (R287), and with it the wait on it (R125). -/
def Mach.restEnd (m : Mach) : Mach :=
  match m.plant.resting with
  | none => m
  | some (b, _) => 
    if b + 20000 ≤ m.fastEpoch then
      (m.updPlant (fun p => { p with resting := none, inRest := false })).updImp (fun i => { i with restWait := false })
    else m

def execRestSlotEnd (s : State) : Host.Outcome State Fault Refusal := onProc Mach.restEnd s

/-! ## The fast-epoch boundary (R41, R269, R277, R286) -/

/-- The own power in an allocation vector. -/
def Alloc.ofString (a : Alloc) (j : Nat) : Int :=
  match a.entries.find? (fun x => x.string == j) with
  | none => 0
  | some x => x.p

/-- The hold rule (R286): the allocation before the run for 3 epochs, then 0. -/
def Plant.hold (p : Plant) : Plant :=
  let keep := if p.holdRun = 0 then p.own else p.holdVal
  { p with allocHold := true, holdRun := p.holdRun + 1, holdVal := keep, own := if p.holdRun + 1 ≤ 3 then keep else 0 }

/-- The allocation of fast epoch n comes into force (R285, R286). -/
def Mach.allocInForce (m : Mach) (n : Nat) : Mach :=
  let a := if !m.plant.isMember then
      m.updPlant (fun p => { p with own := 0, inForce := none, allocHold := false, holdRun := 0, hashAgreed := false })
    else match aget? m.plant.outcomes n, m.allocOf n with
      | some 0, some al => m.updPlant (fun p => { p with
          inForce := some al, own := al.ofString m.stringId, allocHold := false, holdRun := 0 })
      | some 2, _ => m.updPlant (fun p => { p with own := 0, allocHold := false, holdRun := 0 })
      | _, _ => (m.updPlant Plant.hold).updPlantCnt (fun c => { c with heldAlloc := satInc c.heldAlloc })
  a.updPlant (fun p => { p with own := if p.inRest then 0 else p.own })

/-- The candidate that holds the view and the plant state becomes a member at the effect epoch (R269). -/
def Mach.joinAt (m : Mach) (n : Nat) : Mach :=
  match m.plant.transfer with
  | none => m
  | some (e, mv, founder, members, st) =>
    if n < e then m
    else if e = n && members.any (fun x => x.addr == m.fab.addr) then m.join mv founder members st
    else m.updPlant (fun p => { p with transfer := none })

/-- What fast-epoch boundary n does in this chapter before the mode changes: membership, commands, allocation, merge run. -/
def Mach.plantEpoch (m : Mach) (n : Nat) : Mach :=
  let a := m.updPlant (fun p =>
    let run := if p.mergeNow && p.isMember then p.mergeRun + 1 else 0
    { p with
      issuedNow := 0, cseqAt := p.cseq, allocPrev := p.own, mergeRun := run, mergeNow := false
      leaving := p.leaving || decide (100 ≤ run) })
  ((a.joinAt n).dueCmds n).allocInForce n

/-- The summary of boundary n is captured after the mode changes (R264). -/
def Mach.captureEpoch (m : Mach) (n : Nat) : Mach := m.updPlant (fun p => { p with cap := some (m.capture n) })

/-- Plant status, 0x2900.00 (R289). -/
def Mach.plantStatus (m : Mach) : Nat :=
  bitIf 10 m.plant.inRest + bitIf 9 m.plant.nextRest.isSome
    + bitIf 8 (match m.plant.inForce with
      | none => false
      | some a => a.short != 0)
    + bitIf 7 m.plant.leaving + bitIf 6 (m.isPending .plantDiverged) + bitIf 5 m.plant.allocHold
    + bitIf 4 m.plant.hashAgreed + bitIf 3 m.plant.slowHeld + bitIf 2 m.plant.viewHeld + bitIf 1 m.plant.founded
    + bitIf 0 m.plant.isMember

end Sys2Proof.Machine
end

