-- ==== Sys2Proof/Machine/RedundantPair.lean ====
section
/-! DEFINITION. Meanings of the commands of chapter 12, Redundant Pair (R290 to R312), with the forwarded request of R42 and
the comparison of R195. -/

namespace Sys2Proof.Machine

/-! ## What the pair's members know of each other (R184, R298, R310) -/

/-- Own home phases that this module does not own. -/
def Mach.homeLacking (m : Mach) : Bool := (bitsOf 12 m.homeMask).any (fun k => !bit m.ownMask k)

/-- Home phases of the partner (R184). -/
def Mach.partnerHome (m : Mach) : Nat :=
  maskOf ((List.range (min m.nPhases 12)).filter (fun k => m.paired && !bit m.homeMask k))

/-- VERSION_MISMATCH (R310): the partner reports another PAIR_VER. -/
def Mach.verMismatch (m : Mach) : Bool :=
  match m.pair.pVer with
  | none => false
  | some v => v != m.pair.ver

/-- A checkpoint of the partner is fresh (R298): at most 5 fast epochs old, of the own PAIR_VER. -/
def Mach.cpFresh (m : Mach) : Bool :=
  match m.pair.cp with
  | none => false
  | some c => decide (m.fastEpoch ≤ c.epoch + 5) && c.ver == m.pair.ver

/-! ## Takeover (R301 to R304) -/

/-- The partner is declared lost (R294, R295, R301): in BOOT, SAFE_HOLD and LOCKOUT it is only noted; otherwise this module
takes over: OGEN + 1, a bin running is discarded, K0 recomputes on the own phases at once with the outer integrator frozen for
one period (R302 steps 3 and 4), and the phases the partner owned are to be acquired. A takeback under way ends (R308). -/
def Mach.declareLost (m : Mach) : Mach :=
  if !m.paired || m.pair.lost then m
  else
    let back := m.updPair (fun p => { p with
      lost := true, aliveAt := none
      tb := match p.tb with
        | none => none
        | some t => if t.stage ≤ 1 then some { t with stage := 3 } else none })
    if m.inMode [.boot, .safeHold, .lockout] then (back.record 0x0403 m.pair.pAddr (u8 m.modeByte)).noteDegraded
    else
      let a := back.updPair (fun p => { p with
        ogen := (p.ogen + 1) % 2 ^ 32, acquiring := true, toAcquire := p.pOwn % 4096, nTake := satInc p.nTake
        toTime := m.fabTime, masterAt := none })
      ((a.recount.discardBin false).estRole).noteDegraded

/-- No edge on PAIR_HB_IN for 30 µs (R294, R295). With the pair link UP and an ALIVE frame within the last 25 µs it is the
line that failed. -/
def Mach.heartbeatLost (m : Mach) (aliveRecent : Bool) : Mach :=
  if !m.paired then m
  else
    if m.pairLinkUp && m.pair.lineFault then m
    else if m.pairLinkUp && aliveRecent && m.pair.aliveAt.isSome then
      (m.updPair (fun p => { p with lineFault := true, nLine := satInc p.nLine })).raiseFault .pairHbLine []
    else m.declareLost

/-- What Foxglove holds of the line PAIR_HB_IN (R92, R294), whether or not the processor domain runs. -/
def Mach.heartbeatLine (m : Mach) (present : Bool) : Mach :=
  m.updPair (fun p => { p with
    hbPresent := present, hbSeen := p.hbSeen || present, hbSince := if present then some (p.hbSince.getD m.now) else none })

/-- A change on the heartbeat line: Foxglove's part, and what the processor domain makes of it while it runs. -/
def onHeartbeat (present : Bool) (f : Mach → Mach) (s : State) : Host.Outcome State Fault Refusal :=
  onPowered (fun m =>
    let a := m.when m.paired (fun x => x.heartbeatLine present)
    a.when m.clk.procRunning f) s

def execPartnerHeartbeatLost (aliveRecent : Bool) (s : State) : Host.Outcome State Fault Refusal :=
  onHeartbeat false (fun m => m.heartbeatLost aliveRecent) s

/-- With HB_LINE_FAULT and the pair link UP, no ALIVE frame for 40 µs declares the partner lost (R295). -/
def Mach.aliveTimeout (m : Mach) : Mach := if m.pair.lineFault && m.pairLinkUp then m.declareLost else m

def execAliveTimeout (s : State) : Host.Outcome State Fault Refusal := onProc Mach.aliveTimeout s

/-- The heartbeat has been present for 1 ms (R294): a partner that was lost is back and resynchronises, for which the estimation
lead sends it its full state (R156). -/
def Mach.heartbeatPresent (m : Mach) : Mach :=
  if !m.paired then m
  else ((m.updPair (fun p => { p with lost := false })).noteDegraded).when m.pair.lost Mach.sendFull

def execHeartbeatPresent (s : State) : Host.Outcome State Fault Refusal := onHeartbeat true Mach.heartbeatPresent s

/-- An acquired phase starts from the partner's checkpoint, or from acc_k = 0 without a fresh one, with the duty of its loop
(R302 step 7); without a current of its own its error counts as 0. -/
def Mach.startFrom (m : Mach) (fresh : Bool) (k : Nat) : Mach :=
  let acc := if fresh then (m.phase k).acc else 0
  let e := match (m.phase k).avg with
    | none => 0
    | some i => m.phaseError k i
  m.updPhase k (fun p => { p with acc := acc, duty := clampQ 0 1 (m.phaseDuty e acc) })

/-- At d + 15 µs the partner's phases are acquired (R302 steps 5 to 7), unless this module has meanwhile entered a mode in
which it releases its phases (R304). The operands are the deepest dip of the string current in 0.1 % and the recovery in µs,
as the takeover showed them. A phase starts only in a mode that switches the converter. -/
def Mach.takeoverAcquire (m : Mach) (dip rec : Nat) : Mach :=
  if !m.pair.acquiring then m
  else if m.inMode [.boot, .safeHold, .lockout] then m.updPair (fun p => { p with acquiring := false, toAcquire := 0 })
  else
    let mask := m.pair.toAcquire
    let fresh := m.cpFresh
    let cold := mask != 0 && !fresh && m.switching
    let a := (m.acquireMask mask).each (bitsOf 12 mask) (fun k x => x.startFrom fresh k)
    let b := a.updPair (fun p => { p with
      acquiring := false, toAcquire := 0, acquired := mask, cpStale := cold, toDip := dip, toRec := rec
      nCold := if cold then satInc p.nCold else p.nCold })
    b.recount.record 0x0400 m.pair.pAddr (u32 m.pair.ogen ++ u16 mask ++ u16 dip)

def execTakeoverAcquisition (dip rec : Nat) (s : State) : Host.Outcome State Fault Refusal :=
  onProc (fun m => m.takeoverAcquire dip rec) s

/-! ## Heartbeat (R293) -/

/-- The conditions of PQ's requests (R293); `k0` says whether K0 has completed an outer period within 100 µs. -/
def Mach.hbAllowed (m : Mach) (k0 : Bool) : Bool := !m.inMode [.boot, .safeHold, .lockout] && k0 && m.saf.walnutLive

/-- Flags of the ALIVE frame: RELEASED, TAKEBACK_READY (R296). -/
def Mach.aliveFlags (m : Mach) : Nat := bitIf 1 m.pair.ready + bitIf 0 m.pair.released

/-- PQ requests a toggle (R293); on every second request FQ sends an ALIVE frame. -/
def Mach.heartbeat (m : Mach) (k0 : Bool) : Mach :=
  if !m.hbAllowed k0 then m
  else
    let a := m.updPair (fun p => { p with
      hbOut := !p.hbOut, hbOn := true, hbAt := some m.now, hbPhase := (p.hbPhase + 1) % 2 })
    a.when (m.paired && m.pair.hbPhase == 1) (fun x => x.emit (.alive m.pairHead m.modeByte m.ownMask m.aliveFlags))

def execHeartbeatToggle (k0 : Bool) (s : State) : Host.Outcome State Fault Refusal := onProc (fun m => m.heartbeat k0) s

/-- 40 µs without a request: Foxglove takes it as the release request for every owned phase (R293). -/
def Mach.heartbeatLapse (m : Mach) : Mach := (m.releaseMask m.ownMask).updPair (fun p => { p with hbOn := false })

def execHeartbeatLapse (s : State) : Host.Outcome State Fault Refusal := onFox Mach.heartbeatLapse s

/-! ## Frames from the partner (R195, R296, R298, R300) -/

/-- A partner that goes from COMMISSION to STANDBY has completed its commissioning (R39, R292): PARTNER_CHANGED clears and the
serial on the pair link is committed. -/
def Mach.partnerCommissioned (m : Mach) (mode : Nat) : Mach :=
  if m.pair.changed && m.partnerMode == some .commission && Mode.ofCode (mode % 16) == some .standby then
    (m.updPair (fun p => { p with pSerial := p.linkSerial, changed := false })).store [.partner m.pair.linkSerial] []
  else m

/-- The partner sets RELEASED before the phases have changed hands (R308): the takeback it announced is abandoned. -/
def Takeback.abandonedBy (t : Takeback) (flags : Nat) : Takeback :=
  if bit flags 0 && !t.taker && !t.planned && decide (t.stage ≤ 1) then { t with stage := 3 } else t

/-- An ALIVE frame (R292, R295, R296, R304, R308). From a partner that was declared lost, or whose phases this module has
acquired, and that still owns phases (of these, once the loss is over) it shows that both were alive: role B releases what it
acquired, and both raise PAIR_HB_LINE. -/
def Mach.alive (m : Mach) (mode own flags ver ogen : Nat) : Mach :=
  if !m.paired then m
  else m.pairFrame ogen (fun x =>
    let both := (x.pair.lost && own % 4096 != 0) || own % 4096 &&& x.pair.acquired != 0
    let a := (x.partnerCommissioned mode).updPair (fun p => { p with
      tb := p.tb.map (fun t => t.abandonedBy flags), aliveAt := some m.now, pMode := some mode, pOwn := own % 4096, pFlags := flags, pVer := some ver
      lost := p.lost && !both })
    let b := if both then
        ((if x.isB then a.releaseMask x.pair.acquired else a).updPair (fun p => { p with
          acquired := 0, acquiring := false, toAcquire := 0 })).raiseFault .pairHbLine []
      else a
    b.noteDegraded)

def execAlive (mode own flags ver ogen : Nat) (s : State) : Host.Outcome State Fault Refusal :=
  onProc (fun m => m.alive mode own flags ver ogen) s

/-- A phase held in SHADOW takes the partner's duty and integrator (R298). -/
def Phase.shadowed (p : Phase) (duty : Nat) (acc : Int) : Phase :=
  if p.own then p else { p with shadow := (duty : Rat) / 65536, acc := (acc : Rat) / 16777216 }

/-- A CHECKPOINT (R208, R298, R305, R310): kept while fresh, with the states of the partner's phases; the phases in SHADOW are
loaded; from the loop lead integ and r_cmd are taken where they are of this boundary, and by a module that resynchronises the rest of
the loop state too. -/
def Mach.checkpoint (m : Mach) (c : Option Checkpoint) (crcOk : Bool) (ogen : Nat) : Mach :=
  if !m.paired then m
  else m.pairFrame ogen (fun x => match c with
    | none => x
    | some c =>
      let a := x.updPair (fun p => { p with pVer := some c.ver })
      let c : Checkpoint := { c with epoch := nearEpoch m.fastEpoch c.epoch }
      if !crcOk || c.ver != m.pair.ver || c.epoch + 5 < m.fastEpoch then a
      else
        let b := ((a.updPair (fun p => { p with cp := some c, nCp := satInc p.nCp })).updConv (fun v => { v with
            pPhases := padTo 12 (c.states.take 12) })).each (List.range 12) (fun k y =>
          y.updPhase k (fun p => p.shadowed (nth c.duty k 0) (nth c.acc k 0)))
        if m.estLead || c.epoch != m.fastEpoch then b
        else (b.updConv (fun v => { v with
          integ := (c.integ : Rat), rCmd := (c.rCmd : Rat) })).when m.pair.resync (fun y => y.updConv (fun v => { v with
            vSet := (c.vSet : Rat), iPhRef := (c.iPhRef : Rat), softStop := bit c.flags 3
            ceiling := c.ceiling.map (fun i => (i : Rat)) })))

def execCheckpoint (c : Option Checkpoint) (crcOk : Bool) (ogen : Nat) (s : State) : Host.Outcome State Fault Refusal :=
  onProc (fun m => m.checkpoint c crcOk ogen) s

/-- The lead's CONTENT for a fast epoch (R300). -/
def Mach.contentFrame (m : Mach) (epoch : Nat) (c : Summary) (ogen : Nat) : Mach :=
  if !m.paired then m
  else m.pairFrame ogen (fun x => x.updPair (fun p => { p with content := some (nearEpoch m.fastEpoch epoch, c) }))

def execContent (epoch : Nat) (c : Summary) (ogen : Nat) (s : State) : Host.Outcome State Fault Refusal :=
  onProc (fun m => m.contentFrame epoch c ogen) s

/-- A host request forwarded by the partner (R42): applied at the same boundary. MAINTAIN brings the task that both modules
run (R50, log entry 150); a request out of SAFE_HOLD releases this module's line too where its own condition holds (R46,
R317). -/
def Mach.forwarded (m : Mach) (code effect task dur : Nat) (due : Bool) (ogen : Nat) : Mach :=
  if !m.paired then m
  else m.pairFrame ogen (fun x => match Mode.ofCode code with
    | none => x
    | some d =>
      let a := (x.queueMode { dest := d, cause := .partner, effect := effect, fromPartner := true }).when (d == .maintain) (fun y =>
        (y.updMode (fun o => { o with taskReq := task, taskDur := some dur })).updImp (fun i => { i with
          blRequest := i.blRequest || due }))
      a.when (x.mode.mode == .safeHold && d != .safeHold && x.condition d) Mach.releaseLine)

def execRequest (code effect task dur : Nat) (due : Bool) (ogen : Nat) (s : State) : Host.Outcome State Fault Refusal :=
  onProc (fun m => m.forwarded code effect task dur due ogen) s

/-- The partner's CONFIG (R195, R296): CARRIER_MISMATCH while the carrier objects differ; its bitstream mode is kept for C5
(R190, log entry 152). -/
def Mach.pairConfig (m : Mach) (settings : List Nat) (inMode pcrc ogen : Nat) : Mach :=
  if !m.paired then m
  else m.pairFrame ogen (fun x => (x.updPair (fun p => { p with
    pConfig := some (settings, pcrc), pInMode := some inMode })).updPwm (fun p => { p with
    mismatch := settings != m.carrierSettings }))

def execPairConfig (settings : List Nat) (inMode pcrc ogen : Nat) (s : State) : Host.Outcome State Fault Refusal :=
  onProc (fun m => m.pairConfig settings inMode pcrc ogen) s

/-- An ENGINEER accepts the partner now on the pair link (R292): its serial is committed. -/
def Mach.partnerAccept (m : Mach) : Mach :=
  (m.updPair (fun p => { p with pSerial := p.linkSerial, changed := false })).store [.partner m.pair.linkSerial] []

def execPartnerAccept (role : Nat) (unlocked : Bool) (s : State) : Host.Outcome State Fault Refusal :=
  onProc (fun m => m.expertWrite role unlocked Mach.partnerAccept) s

/-! ## Takeback and planned release (R305 to R310) -/

/-- The conditions of TAKEBACK_READY that this module sees (R306). -/
def Mach.takebackCond (m : Mach) : Bool :=
  m.paired && m.pair.hbPresent && m.pair.hbOn && m.pairLinkUp && m.partnerMode == some m.mode.mode && m.noFault
    && m.fab.time == .synced && !m.pwm.mismatch && m.pair.gotState && !m.pair.changed && !m.pair.released
    && !m.verMismatch && m.homeLacking

/-- The conditions have held for the takeback stable time (R306). The operand says that the partner has no uncleared U or F
fault. -/
def Mach.takebackReady (m : Mach) (partnerClear : Bool) : Mach :=
  if partnerClear && m.takebackCond && m.elapsed? m.pair.stableSince (second * m.par 0x2A01 0) then
    m.updPair (fun p => { p with ready := true })
  else m

def execTakebackReady (partnerClear : Bool) (s : State) : Host.Outcome State Fault Refusal :=
  onProc (fun m => m.takebackReady partnerClear) s

/-- R announces its takeback at a slow-epoch boundary with no bin running, no dip floor and FT_LATCHED clear (R306). -/
def Mach.announceTakeback (m : Mach) : Mach :=
  if m.pair.ready && m.pair.tb.isNone && m.imp.run.isNone && !m.conv.dipHold && !m.pwm.latch then
    (m.updPair (fun p => { p with
      tb := some { start := m.fastEpoch + 10, taker := true, planned := false, moving := m.homeMask, stage := 0, sigma := 1 } })).emit
      (.takeback m.pairHead (m.fastEpoch + 10))
  else m

/-- S receives a TAKEBACK frame (R307): never to a partner that has changed (R292). -/
def Mach.takeback (m : Mach) (start ogen : Nat) : Mach :=
  if !m.paired || m.pair.changed then m
  else m.pairFrame ogen (fun x => x.updPair (fun p => { p with
    tb := some { start := start, taker := false, planned := false, moving := m.partnerHome, stage := 0, sigma := 1 } }))

def execTakeback (start ogen : Nat) (s : State) : Host.Outcome State Fault Refusal := onProc (fun m => m.takeback start ogen) s

/-- The RELEASE frame of a partner (R309): this module takes its phases over the ladder of R307. -/
def Mach.releaseFrame (m : Mach) (start ogen : Nat) : Mach :=
  if !m.paired then m
  else m.pairFrame ogen (fun x => x.updPair (fun p => { p with
    tb := some { start := start, taker := true, planned := true, moving := p.pOwn, stage := 0, sigma := 1 } }))

def execRelease (start ogen : Nat) (s : State) : Host.Outcome State Fault Refusal :=
  onProc (fun m => m.releaseFrame start ogen) s

/-- A planned release starts (R309): the own phases go to the partner over the ladder of R307 from a start 10 ms ahead. -/
def Mach.startRelease (m : Mach) : Mach :=
  (m.updPair (fun p => { p with
    released := true, ready := false
    tb := some { start := m.fastEpoch + 10, taker := false, planned := true, moving := m.ownMask, stage := 0, sigma := 1 } })).emit
    (.release m.pairHead (m.fastEpoch + 10))

/-- A write of phase release (R308, R309). On a module whose own takeback has not yet moved its phases the takeback is
abandoned; a release under way stays. -/
def Mach.phaseRelease (m : Mach) (on : Bool) : Mach :=
  if !on then m.updPair (fun p => { p with released := false, stableSince := none, ready := false })
  else if m.paired && m.partnerMode == some m.mode.mode && !m.partnerMissing && m.pair.hbPresent && !m.pair.changed then
    match m.pair.tb with
    | some t =>
      if t.taker && !t.planned && decide (t.stage ≤ 1) then
        m.updPair (fun p => { p with released := true, ready := false, tb := some { t with stage := 3 } })
      else if t.planned && !t.taker then m.updPair (fun p => { p with released := true })
      else m.startRelease
    | none => m.startRelease
  else m.emit (.writeStatus 0x21 0)

def execPhaseRelease (on : Bool) (role : Nat) (unlocked : Bool) (s : State) : Host.Outcome State Fault Refusal :=
  onProc (fun m => m.expertWrite role unlocked (fun x => x.phaseRelease on)) s

/-- The moving phases change hands (R307 steps 3 to 5): OGEN + 1 on both; S releases them, R acquires them with cleared
integrators. A planned release is recorded by the module that releases. -/
def Mach.handOver (m : Mach) (t : Takeback) : Mach :=
  let a := (m.updPair (fun p => { p with ogen := (p.ogen + 1) % 2 ^ 32 })).discardBin false
  let b := if t.taker then
      (a.acquireMask t.moving).each (bitsOf 12 t.moving) (fun k x => x.updPhase k (fun p => { p with acc := 0 }))
    else (a.releaseMask t.moving).updPair (fun p => { p with acquired := 0 })
  b.when (t.planned && !t.taker) (fun x => x.record 0x0402 m.pair.pAddr (u32 x.pair.ogen ++ u16 t.moving))

/-- The takeback is over (R307): RESYNCING clears; the module that took its phases back counts and records it. -/
def Mach.takebackOver (m : Mach) (t : Takeback) : Mach :=
  let a := m.updPair (fun p => { p with tb := none, resync := p.resync && !t.taker, ready := false, stableSince := none })
  a.when (t.taker && !t.planned) (fun x => (x.updPair (fun p => { p with nBack := satInc p.nBack })).record 0x0401 m.pair.pAddr
    (u32 m.pair.ogen ++ u16 t.moving))

/-- At t0 (R306, R307): in a switching mode the share begins to fall; otherwise the phases change hands at once. -/
def Mach.takebackStart (m : Mach) : Mach :=
  match m.pair.tb with
  | none => m
  | some t =>
    if t.stage != 0 || !decide (t.start ≤ m.fastEpoch) then m
    else if m.switching then m.updPair (fun p => { p with tb := some { t with stage := 1, sigma := 1 } })
    else (m.handOver t).takebackOver t

def execTakebackStart (s : State) : Host.Outcome State Fault Refusal := onProc Mach.takebackStart s

/-- The share has reached 0 (R307 step 3). -/
def Mach.takebackHandover (m : Mach) : Mach :=
  match m.pair.tb with
  | none => m
  | some t => if t.stage == 1 && t.sigma == 0 then (m.handOver t).updPair (fun p => { p with tb := some { t with stage := 2 } }) else m

def execTakebackHandover (s : State) : Host.Outcome State Fault Refusal := onProc Mach.takebackHandover s

/-- The share has reached 1 again (R307 step 7). -/
def Mach.takebackEnd (m : Mach) : Mach :=
  match m.pair.tb with
  | none => m
  | some t => if t.stage == 2 && t.sigma == 1 then m.takebackOver t else m

def execTakebackEnd (s : State) : Host.Outcome State Fault Refusal := onProc Mach.takebackEnd s

/-! ## The epoch boundaries (R296, R298, R300, R307, R308) -/

/-- The share at a fast-epoch boundary (R307, R308): 1/100 an epoch, held while FT_LATCHED or a dip floor is in force, at its
final value in a mode that does not switch. A share that returns to 1 ends the takeback. -/
def Mach.sigmaEpoch (m : Mach) : Mach :=
  match m.pair.tb with
  | none => m
  | some t =>
    let held := m.pwm.latch || m.conv.dipHold
    let down := if !m.switching then 0 else if held then t.sigma else max 0 (t.sigma - 1 / 100)
    let up := if !m.switching then 1 else if held then t.sigma else min 1 (t.sigma + 1 / 100)
    let u : Takeback := if t.stage = 0 then t else if t.stage = 1 then { t with sigma := down } else { t with sigma := up }
    m.updPair (fun p => { p with tb := if u.stage = 3 && u.sigma == 1 then none else some u })

/-- TAKEBACK_RAMP (R307, R312): the share schedule runs. -/
def Mach.takebackRamp (m : Mach) : Bool :=
  match m.pair.tb with
  | none => false
  | some t => t.stage != 0

/-- Code of the loop mode (0x2700.01). -/
def LoopMode.code : LoopMode → Nat
  | .none => 0 | .current => 1 | .power => 2 | .voltage => 3 | .precharge => 4

/-- The own checkpoint at a boundary (R298). -/
def Mach.formCheckpoint (m : Mach) : Checkpoint :=
  let own := fun k => (nth m.pwm.phases k {}).own
  { epoch := m.fastEpoch, ver := m.pair.ver, loop := m.conv.loop.code, nAct := m.conv.nAct
    states := (List.range 12).map m.phaseState, rCmd := m.conv.rCmd.floor, integ := m.conv.integ.floor
    iPhRef := m.conv.iPhRef.floor, vSet := m.conv.vSet.floor.toNat
    ceiling := match m.conv.ceiling with
      | none => none
      | some c => some c.floor
    flags := bitIf 4 m.takebackRamp + bitIf 3 m.conv.softStop + bitIf 2 m.conv.ceiling.isSome + bitIf 1 m.pwm.latch
      + bitIf 0 m.conv.dipHold
    duty := (List.range 12).map (fun k => if own k then min 65535 ((nth m.pwm.phases k {}).duty * 65536).floor.toNat else 0)
    acc := (List.range 12).map (fun k => if own k then ((nth m.pwm.phases k {}).acc * 16777216).floor else 0) }

/-- What fast-epoch boundary does for the pair: the share, HB_LINE_FAULT cleared after 1 s of heartbeat, the stable time, the
own CHECKPOINT and, from the lead, CONTENT. -/
def Mach.pairEpoch (m : Mach) : Mach :=
  if !m.paired then m
  else
    let a := m.sigmaEpoch.updPair (fun p => { p with
      lineFault := p.lineFault && !m.elapsed? p.hbSince second
      stableSince := if m.takebackCond then some (p.stableSince.getD m.now) else none
      ready := p.ready && m.takebackCond })
    (a.when (!m.pair.lost) (fun x =>
      x.emit (.checkpoint m.pairHead (if m.switching then some m.formCheckpoint else none)))).when
      (m.estLead && !m.pair.lost) (fun x => x.emit (.content m.pairHead (m.capture m.fastEpoch)))

/-- What a slow-epoch boundary does for the pair: CONFIG is sent, and a takeback that is ready is announced (R195, R306). -/
def Mach.pairSlow (m : Mach) : Mach :=
  if !m.paired then m
  else
    let pcrc := match m.prof with
      | none => 0
      | some p => p.pcrc
    (m.emit (.config m.pairHead m.carrierSettings (m.par 0x2606 0) pcrc m.pair.pSerial)).announceTakeback

/-- Pair status, 0x2A00.00 (R312). -/
def Mach.pairStatus (m : Mach) : Nat :=
  bitIf 11 m.pair.sole + bitIf 10 m.pair.cpStale + bitIf 9 m.verMismatch + bitIf 8 m.pair.changed
    + bitIf 7 m.pair.roleConflict + bitIf 6 m.pair.lineFault + bitIf 5 m.pair.released
    + bitIf 4 m.takebackRamp
    + bitIf 3 m.pair.resync + bitIf 2 ((bitsOf 12 m.ownMask).any (fun k => bit m.partnerHome k))
    + bitIf 1 m.partnerMissing + bitIf 0 m.pair.hbPresent

end Sys2Proof.Machine
end

