-- ==== Sys2Proof/Machine/Thermal.lean ====
section
/-! DEFINITION. Meanings of the commands of chapter 14, Thermal Control (R349 to R361), but the frames on CAN1, which are
chapter 19's. -/

namespace Sys2Proof.Machine

/-! ## Inputs (R349, R350) -/

/-- The resistance of a PT input at one conversion (R350): a temperature in 0.01 °C, or none outside 750 to 1,800 Ω, an
event of PT_SENSOR when it leaves that range. Foxglove's comparators see PT0 to PT3 by themselves (R318). -/
def Mach.ptConvert (m : Mach) (pt : Nat) (temp : Option Int) : Mach :=
  let a := match temp with
    | none => m
    | some t => m.ptFoxglove pt t
  if !a.clk.procRunning || a.mode.mode == .boot || decide (8 ≤ pt) then a
  else
    let bad := temp.isNone
    let rise := bad && !nth a.therm.ptBad pt false
    (a.updTherm (fun t => { t with
      pt := updNth t.pt pt (fun _ => temp), ptBad := updNth t.ptBad pt (fun _ => bad)
      nPt := if rise then satInc t.nPt else t.nPt })).when rise (fun x => x.countSource .ptSensor [])

def execPtConversion (pt : Nat) (temp : Option Int) (s : State) : Host.Outcome State Fault Refusal :=
  onPowered (fun m => m.ptConvert pt temp) s

/-- The internal temperatures that are valid now (R139), in 0.01 °C. -/
def Mach.validTInt (m : Mach) : List Int :=
  m.tIntNow.map (fun p => p.2)

/-- Core temperatures of the groups in 0.01 °C (0x2404.00). -/
def Mach.coreTemps (m : Mach) : List Int := m.est.groups.map (fun p => roundQ (100 * p.2.tc))

/-- The greater of two readings that may be absent. -/
def maxOpt (a b : Option Int) : Option Int :=
  match a, b with
  | none, y => y
  | x, none => x
  | some x, some y => some (max x y)

/-- The highest reading among the PT inputs with role HOT_SPOT (0x2C02). -/
def Mach.hotSpot (m : Mach) : Option Int :=
  maxInt? ((List.range 8).filterMap (fun k => if m.par 0x2C02 (k + 1) = 1 then nth m.therm.pt k none else none))

/-- The control temperature T_ctl in 0.01 °C (R351). -/
def Mach.controlTemp (m : Mach) : Option Int :=
  maxOpt (if m.validTInt.isEmpty then maxInt? m.coreTemps else maxInt? m.validTInt) m.hotSpot

/-! ## The demand law (R351 to R354) -/

/-- r0 + r1 of the present groups in Ω, one for each with a fit of STATUS 0 (R137). -/
def Mach.fitResistances (m : Mach) : List Rat :=
  m.presentGroups.filterMap (fun g => match aget? m.imp.okFits g with
    | none => none
    | some f => some (((f.rOhm + f.rCt : Nat) : Rat) / 10000000))

/-- r_s of R351: the sum over the present groups, a group without a fit counting with the string's mean. -/
def Mach.stringResistance (m : Mach) : Rat :=
  let l := m.fitResistances
  qdiv ((l.foldl (fun a x => a + x) 0) * (m.presentGroups.length : Rat)) (l.length : Rat)

/-- The modes that use feedforward (R351). -/
def Mach.ffMode (m : Mach) : Bool := m.inMode [.dispatch, .busForm, .maintain]

/-- No feedforward is available: no fit, or no rated cooling power (R351). -/
def Mach.ffMissing (m : Mach) : Bool := m.fitResistances.isEmpty || m.par 0x2C01 3 == 0

/-- Predicted heat q_ff in W (R351). -/
def Mach.predictedHeat (m : Mach) : Rat :=
  if m.ffMode && !m.ffMissing then
    let i := absQ (m.conv.target / 1000)
    i * i * m.stringResistance
  else 0

/-- The deviation e in K (R351); without any temperature the spec states none, and it is a free value (log entry 6). -/
def Mach.coolError (m : Mach) : Rat :=
  match m.controlTemp with
  | some t => ((t - m.parS 0x2C01 0 2 : Int) : Rat) / 100
  | none => (((Config.freeNat m.freeCtr : Nat) : Rat) - ((Config.freeNat (m.freeCtr + 1) : Nat) : Rat)) / 100

/-- The output block receives a new demand (R355). -/
def Mach.newDemand (m : Mach) (d : Rat) : Mach :=
  (m.updTherm (fun t => { t with d := d, noD := 0, hadD := true, fallback := false })).noteDegraded

/-- The law of R351 from an integrator, with or without feedforward. -/
def Mach.coolLaw (m : Mach) (integ : Rat) (ff : Bool) : Mach :=
  let q := if ff then m.predictedHeat else 0
  let dff := if q = 0 then 0 else qdiv q ((m.par 0x2C01 3 : Nat) : Rat)
  let e := m.coolError
  let lo : Rat := (m.par 0x2C01 4 : Nat)
  let held := (decide (100 ≤ m.therm.d) && decide (0 < e)) || (decide (m.therm.d ≤ lo) && decide (e < 0))
  let next := if held then integ else clampQ (-100) 100 (integ + ((m.par 0x2C01 2 : Nat) : Rat) / 10000 * e)
  let d := clampQ lo 100 (dff + ((m.par 0x2C01 1 : Nat) : Rat) / 10 * e + next)
  let a := m.updTherm (fun t => { t with
    dff := dff, qff := q, integ := next, frozen := decide (next = integ), ffUnavail := m.ffMode && m.ffMissing
    fromLead := false })
  ((a.when m.controlTemp.isNone (fun x => x.nextFree.nextFree)).newDemand d)

/-- The lead's demand that a follower holds in this slow epoch (R352): it lasts to the end of the next slow epoch. -/
def Mach.leadDemand (m : Mach) : Option Rat :=
  match m.therm.leadD with
  | none => none
  | some (k, d) => if m.estLead || decide (k + 2 ≤ m.slowEpoch) then none else some d

/-- The demand with its role (R351, R352): the lead's own law; a follower takes the lead's demand, or computes its own
from the last one it received. -/
def Mach.coolRole (m : Mach) (ff : Bool) : Mach :=
  match m.leadDemand with
  | some d => (m.updTherm (fun t => { t with
      fromLead := true, dff := 0, qff := 0, frozen := true, ffUnavail := m.ffMode && m.ffMissing })).newDemand d
  | none => m.coolLaw (if m.therm.fromLead then m.therm.d else m.therm.integ) ff

/-- The highest pod NTC reading of the last sweep in 0.01 °C (R354). -/
def Mach.hottestNtc (m : Mach) : Option Int := maxInt? ((ntcOf m.chain.shared).map (fun p => p.2))

/-- In STORAGE cooling runs from the limit until 5 K below it (R354). -/
def Mach.storageCools (m : Mach) : Bool :=
  match m.hottestNtc with
  | none => m.therm.storeCool
  | some t =>
    let lim := m.parS 0x2C01 6 2
    if lim ≤ t then true else if t ≤ lim - 500 then false else m.therm.storeCool

/-- THERMAL_DEMAND of a slow epoch (R351 to R354). -/
def Mach.thermalDemand (m : Mach) : Mach :=
  let a := m.updTherm (fun t => { t with tCtl := m.controlTemp })
  match m.mode.mode with
  | .boot => m
  | .storage =>
    let cool := m.storageCools
    let b := a.updTherm (fun t => { t with storeCool := cool, idle := !cool })
    if cool then b.coolRole false
    else (b.updTherm (fun t => { t with dff := 0, qff := 0, frozen := true, ffUnavail := false, fromLead := false })).newDemand 0
  | _ => (a.updTherm (fun t => { t with storeCool := false, idle := false })).coolRole true

def execThermalDemand (s : State) : Host.Outcome State Fault Refusal := onProc Mach.thermalDemand s

/-! ## Fallback, fans and valves (R355 to R357) -/

/-- No new demand for 5 slow epochs after BOOT (R355). -/
def Mach.thermalFallback (m : Mach) : Mach :=
  if m.mode.mode != .boot && m.therm.hadD && !m.therm.fallback && decide (5 ≤ m.therm.noD) then
    (m.updTherm (fun t => { t with fallback := true, nFallback := satInc t.nFallback })).noteDegraded
  else m

def execThermalFallback (s : State) : Host.Outcome State Fault Refusal := onProc Mach.thermalFallback s

/-- The demand the outputs follow, in % (R355): the fallback demand in fallback, else the last one received. -/
def Mach.demandInForce (m : Mach) : Rat :=
  if m.therm.fallback && m.therm.hadD then ((m.par 0x2C01 5 : Nat) : Rat) else m.therm.d

/-- Duty of a fan in % (R356), fans 0 to 3. -/
def Mach.fanDuty (m : Mach) (f : Nat) : Rat :=
  let lo : Rat := (m.par 0x2C05 (f + 1) : Nat)
  if m.demandInForce = 0 then 0 else lo + (100 - lo) * m.demandInForce / 100

/-- Voltage of a valve output in mV (R355, R357), outputs 0 and 1, quantised to 10 mV. -/
def Mach.valveMv (m : Mach) (v : Nat) : Nat :=
  if !m.therm.hadD then 10000
  else
    let v0 : Rat := (m.par 0x2C06 (v + 3) : Nat)
    let v1 : Rat := (m.par 0x2C06 (v + 5) : Nat)
    10 * (roundQ ((v0 + (v1 - v0) * m.demandInForce / 100) / 10)).toNat

/-- Minimum speed of a fan in rpm; 0 where it is not fitted. -/
def Mach.fanMin (m : Mach) (f : Nat) : Nat := m.par 0x2C05 (f + 5)

/-- A fan's speed averaged over 1 s (R356). -/
def Mach.fanSpeed (m : Mach) (f rpm : Nat) : Mach :=
  if m.mode.mode == .boot || decide (4 ≤ f) then m
  else
    let n := m.fanMin f
    let slow := decide (0 < n) && decide (rpm < n) && decide (30 ≤ m.fanDuty f)
    let good := decide (0 < n) && decide (n ≤ rpm)
    let since := fun (b : Bool) (o : Option Nat) => if b then some (o.getD m.now) else none
    let a := m.updTherm (fun t => { t with
      speed := updNth t.speed f (fun _ => rpm), slowAt := updNth t.slowAt f (since slow)
      okAt := updNth t.okAt f (since good), fanLost := if n = 0 then updNth t.fanLost f (fun _ => false) else t.fanLost })
    a.noteDegraded

def execFanSpeed (fan rpm : Nat) (s : State) : Host.Outcome State Fault Refusal := onProc (fun m => m.fanSpeed fan rpm) s

/-- A fitted fan below its minimum speed for 5 s at 30 % duty or more is lost (R356). -/
def Mach.loseFan (m : Mach) (f : Nat) : Mach :=
  if decide (f < 4) && decide (0 < m.fanMin f) && !nth m.therm.fanLost f false
      && m.elapsed? (nth m.therm.slowAt f none) (5 * second) then
    ((m.updTherm (fun t => { t with
      fanLost := updNth t.fanLost f (fun _ => true), nFan := satInc t.nFan })).countSource .fanLost []).noteDegraded
  else m

def execFanLost (fan : Nat) (s : State) : Host.Outcome State Fault Refusal := onProc (fun m => m.loseFan fan) s

/-- A lost fan recovers after 10 s at or above its minimum speed (R356). -/
def Mach.recoverFan (m : Mach) (f : Nat) : Mach :=
  if nth m.therm.fanLost f false && m.elapsed? (nth m.therm.okAt f none) (10 * second) then
    (m.updTherm (fun t => { t with fanLost := updNth t.fanLost f (fun _ => false) })).noteDegraded
  else m

def execFanRecovered (fan : Nat) (s : State) : Host.Outcome State Fault Refusal := onProc (fun m => m.recoverFan fan) s

/-! ## Coolant units (R358, R359) -/

/-- Coolant units configured (0x2C07.00). -/
def Mach.coolUnits (m : Mach) : Nat := m.par 0x2C07 0

/-- This module transmits COOL_DEMAND (R358): single, or lead of the pair, or a follower whose partner is missing. -/
def Mach.coolSender (m : Mach) : Bool := m.estLead || m.partnerMissing

/-- TX_DEMAND (R361): units are configured, and a demand exists. -/
def Mach.txDemand (m : Mach) : Bool := m.coolSender && m.therm.hadD && decide (0 < m.coolUnits)

/-- Payload of COOL_DEMAND with its SEQ (R358). -/
def Mach.coolPayload (m : Mach) (seq : Nat) : List Nat :=
  u8 (2 * m.demandInForce).floor.toNat
    ++ u8 (if m.therm.fallback then 2 else if m.therm.idle then 0 else 1)
    ++ sBytes 2 (match m.therm.tCtl with
      | none => -32768
      | some t => fitS 2 (roundQ ((t : Rat) / 10)))
    ++ u16 (fitU 2 (m.therm.qff / 100).floor) ++ u8 (seq % 256) ++ u8 0

/-- A unit becomes lost (R359): an event of COOLANT_UNIT_LOST and COOLING_REDUCED. -/
def Mach.loseUnit (m : Mach) (u : Nat) : Mach :=
  if nth m.therm.unitLost u false then m
  else ((m.updTherm (fun t => { t with
    unitLost := updNth t.unitLost u (fun _ => true), nUnit := satInc t.nUnit })).countSource .coolantUnitLost []).noteDegraded

/-- A COOL_STATUS payload of 8 bytes from unit u + 1 (R359): STATE 2 loses the unit, STATE 1 ends its loss. -/
def Mach.coolStatus (m : Mach) (u : Nat) (data : List Nat) : Mach :=
  if m.mode.mode == .boot || decide (m.coolUnits ≤ u) || data.length != 8 then m
  else
    let a := m.updTherm (fun t => { t with
      units := updNth t.units u (fun _ => data), unitAt := updNth t.unitAt u (fun _ => some m.now) })
    match nth data 0 0 with
    | 1 => (a.updTherm (fun t => { t with unitLost := updNth t.unitLost u (fun _ => false) })).noteDegraded
    | 2 => a.loseUnit u
    | _ => a

def execCoolStatus (unit : Nat) (data : List Nat) (s : State) : Host.Outcome State Fault Refusal :=
  onProc (fun m => m.coolStatus unit data) s

/-- A unit's last COOL_STATUS is older than 500 ms, or it has sent none since BOOT (R359). -/
def Mach.unitTimeout (m : Mach) (u : Nat) : Mach :=
  let old := match nth m.therm.unitAt u none with
    | none => true
    | some t => m.elapsed t (500 * milli)
  if m.mode.mode != .boot && decide (u < m.coolUnits) && old then m.loseUnit u else m

def execCoolantUnitLost (unit : Nat) (s : State) : Host.Outcome State Fault Refusal :=
  onProc (fun m => m.unitTimeout unit) s

/-- Thermal status, 0x2C00.00 (R361). -/
def Mach.thermalStatus (m : Mach) : Nat :=
  bitIf 9 m.therm.frozen + bitIf 8 m.txDemand + bitIf 7 m.therm.fromLead + bitIf 6 (m.therm.ptBad.any id)
    + bitIf 5 m.therm.idle + bitIf 4 (m.therm.unitLost.any id) + bitIf 3 (m.therm.fanLost.any id)
    + bitIf 2 m.therm.ffUnavail + bitIf 1 (decide (0 < m.therm.dff)) + bitIf 0 m.therm.fallback

end Sys2Proof.Machine
end

