-- ==== Sys2Proof/Machine/CanBus.lean ====
section
/-! DEFINITION. Meanings of the commands of chapter 19, CAN FD Channels (R427 to R443), and COOL_DEMAND of chapter 14, which
makes objects 0 to 3 pending. The host's writes of chapter 19 stand with the mailbox. -/

namespace Sys2Proof.Machine

/-! ## Message objects (R431, R432) -/

/-- A message object entry, decoded (R431). -/
structure CanCfg where
  /-- ENABLED. -/
  enabled : Bool
  /-- CHANNEL: 0 CAN1, 1 CAN2. -/
  chan : Nat
  /-- TX. -/
  tx : Bool
  /-- IDE. -/
  ide : Bool
  /-- FDF. -/
  fdf : Bool
  /-- BRS. -/
  brs : Bool
  /-- SOURCE: 0 HOST, 1 MAP, 2 MODULE. -/
  src : Nat
  /-- DLC. -/
  dlc : Nat
  /-- ID. -/
  id : Nat
  /-- PERIOD in ms. -/
  period : Nat
  /-- MAP_INDEX. -/
  mapIdx : Nat
  /-- MAP_SUB. -/
  mapSub : Nat
  /-- MAP_OFFSET. -/
  mapOff : Nat
  /-- Offsets 13 to 15. -/
  reserved : Nat
  deriving DecidableEq, Repr

/-- Decode the 16 bytes of an entry, little-endian (R431). -/
def canDecode (e : Nat) : CanCfg :=
  { enabled := bit e 0, chan := e / 2 % 2, tx := bit e 2, ide := bit e 3, fdf := bit e 4, brs := bit e 5
    src := e / 64 % 4, dlc := e / 2 ^ 8 % 256, id := e / 2 ^ 16 % 2 ^ 32, period := e / 2 ^ 48 % 65536
    mapIdx := e / 2 ^ 64 % 65536, mapSub := e / 2 ^ 80 % 256, mapOff := e / 2 ^ 88 % 65536, reserved := e / 2 ^ 104 }

/-- Data bytes of a DLC: beyond 8 the FD lengths. -/
def dlcBytes (d : Nat) : Nat := if d ≤ 8 then d else nth [12, 16, 20, 24, 32, 48, 64] (d - 9) 64

/-- Entries 0 to 7, which the module keeps (R432): COOL_DEMAND of unit k + 1 in object k, COOL_STATUS of unit k - 3 in
object k; SOURCE MODULE. -/
def Mach.coolEntry (m : Mach) (k : Nat) : Nat :=
  let u := k % 4
  let on := decide (u < m.coolUnits) && (decide (4 ≤ k) || m.coolSender)
  let flags := bitIf 0 on + bitIf 2 (decide (k < 4)) + bitIf 4 (m.par 0x3003 0 == 1) + 128
  let id := m.par 0x2C07 1 + (if k < 4 then 0 else 0x40) + u + 1
  flags + 8 * 2 ^ 8 + id * 2 ^ 16

/-- The entry of an object in force, as 16 bytes (R431, R432, R435). -/
def Mach.canEntry (m : Mach) (k : Nat) : Nat := if k < 8 then m.coolEntry k else m.parElem 0x3010 0 16 k

/-- The entry of an object in force, decoded. -/
def Mach.canCfg (m : Mach) (k : Nat) : CanCfg := canDecode (m.canEntry k)

/-- Buffer and status of an object. -/
def Mach.canObj (m : Mach) (k : Nat) : CanObj := aget m.can.objs k {}

/-- Change an object's buffer and status. -/
def Mach.updObj (m : Mach) (k : Nat) (f : CanObj → CanObj) : Mach :=
  m.updCan (fun c => { c with objs := aupd c.objs k {} f })

/-- A channel. -/
def Mach.chan (m : Mach) (ch : Nat) : CanChan := nth m.can.chans ch {}

/-- Change a channel. -/
def Mach.updChan (m : Mach) (ch : Nat) (f : CanChan → CanChan) : Mach :=
  m.updCan (fun c => { c with chans := updNth c.chans ch f })

/-- Count one event on a channel's counter (R442): received, sent, drops, unmatched, acknowledge errors, bus-offs,
abandoned, overruns. -/
def CanChan.count (c : CanChan) (i : Nat) : CanChan := { c with cnt := updNth c.cnt i satInc }

/-- The channel takes part in the bus (R428, R443). -/
def CanChan.running (c : CanChan) : Bool := c.mode != 0 && c.integrated

/-- Error-passive (R438): a counter at 128 or more. -/
def CanChan.passive (c : CanChan) : Bool := decide (128 ≤ c.tec) || decide (128 ≤ c.rec_)

/-- Error state, 0x3006: 0 ERROR_ACTIVE, 1 ERROR_PASSIVE, 2 BUS_OFF, 3 STOPPED. -/
def CanChan.errState (c : CanChan) : Nat :=
  if !c.running then 3 else if c.busOff then 2 else if c.passive then 1 else 0

/-- State of an object in 0x3012: 0 DISABLED, 1 IDLE, 2 PENDING, 3 SUSPENDED. -/
def Mach.objState (m : Mach) (k : Nat) : Nat :=
  if !(m.canCfg k).enabled then 0
  else if (m.canObj k).suspended then 3 else if (m.canObj k).pending then 2 else 1

/-- The numbers of the message objects. -/
def objNumbers : List Nat := List.range 128

/-- CAN status, 0x3000.00 (R443). -/
def Mach.canStatus (m : Mach) : Nat :=
  (List.range 2).foldl (fun a ch =>
    let c := m.chan ch
    a + 256 ^ ch * (bitIf 5 (match c.overflow with
        | none => false
        | some t => decide (m.now < t + second))
      + bitIf 4 (objNumbers.any (fun k => (m.canObj k).suspended && (m.canCfg k).chan == ch))
      + bitIf 3 c.alone + bitIf 2 c.busOff + bitIf 1 (c.running && !c.busOff && c.passive) + bitIf 0 c.running)) 0

/-! ## Becoming pending (R433, R358) -/

/-- A transmit object becomes pending with data (R433). One that is pending keeps one frame with the newest data; `due`
says that it fell due by time, and the overrun is counted. A suspended or disabled object takes no frame (R440). -/
def Mach.canPend (m : Mach) (k : Nat) (data : List Nat) (due : Bool) : Mach :=
  let e := m.canCfg k
  let o := m.canObj k
  if !e.enabled || !e.tx || o.suspended then m
  else
    let a := m.updObj k (fun x => { x with
      pending := true, next := padTo (dlcBytes e.dlc) data, attempts := if x.pending then x.attempts else 0 })
    a.when (due && o.pending) (fun x => x.updChan e.chan (fun c => c.count 7))

/-- COOL_DEMAND (R358): a frame for each configured unit while this module transmits and a demand exists. -/
def Mach.coolDemand (m : Mach) : Mach :=
  if m.mode.mode == .boot || !m.txDemand then m
  else m.each (List.range (min m.coolUnits 4)) (fun u x =>
    (x.canPend u (x.coolPayload (nth x.therm.seq u 0)) true).updTherm (fun t => { t with
      seq := updNth t.seq u (fun n => (n + 1) % 256) }))

def execCoolDemand (s : State) : Host.Outcome State Fault Refusal := onProc Mach.coolDemand s

/-- The data an object sends by its SOURCE (R433). -/
def Mach.canData (m : Mach) (k : Nat) : List Nat :=
  match (m.canCfg k).src with
  | 0 => (m.canObj k).data
  | 1 => (m.canObj k).mapped
  | _ => (m.canObj k).next

/-- A periodic object falls due at a fabric-time multiple of PERIOD ms (R433). -/
def Mach.canPeriodic (m : Mach) (k : Nat) : Mach :=
  let p := (m.canCfg k).period
  if decide (0 < p) && decide (m.fabTime / 1000000 % p = 0) && decide (k < 128) then m.canPend k (m.canData k) true else m

def execCanPeriodic (k : Nat) (s : State) : Host.Outcome State Fault Refusal := onProc (fun m => m.canPeriodic k) s

/-! ## Receiving (R436, R437) -/

/-- A frame enters a channel's queue (R436); at a full queue the newest is dropped and counted. -/
def Mach.canQueue (m : Mach) (ch : Nat) (f : CanFrame) : Mach :=
  m.updChan ch (fun c =>
    if c.queue.length < 256 then { c with queue := c.queue ++ [f] }
    else { c.count 2 with overflow := some m.now })

/-- The receive error counter after a successful reception (ISO 11898-1, R438): one less; from above 127 a value from 119
to 127, which is free (log entry 6). -/
def recDown (n r : Nat) : Nat := if r ≤ 127 then r - 1 else 119 + Config.freeNat n % 9

/-- A frame arrives on a channel (R436). With errors (`err` above 0) it enters no queue and the receive error counter rises
by that much. -/
def Mach.canReceive (m : Mach) (ch : Nat) (f : CanFrame) (err : Nat) : Mach :=
  let c := m.chan ch
  if decide (2 ≤ ch) || !c.running || c.busOff then m
  else if 0 < err then m.updChan ch (fun x => { x with rec_ := if x.mode = 1 then min 255 (x.rec_ + err) else x.rec_ })
  else
    let n := if f.rtr then 0 else min f.data.length (dlcBytes (if f.fdf then f.dlc else min f.dlc 8))
    let g := { f with time := m.fabTime, own := false, data := if f.rtr then [] else f.data.take n }
    let a := m.updChan ch (fun x => { x.count 0 with
      alone := false, rec_ := if x.mode = 1 then recDown m.freeCtr x.rec_ else x.rec_ })
    (a.when (decide (127 < c.rec_)) Mach.nextFree).canQueue ch g

def execCanFrameReceived (ch : Nat) (frame : CanFrame) (err : Nat) (s : State) : Host.Outcome State Fault Refusal :=
  onProc (fun m => m.canReceive ch frame err) s

/-- The receive object of a frame (R437): the lowest-numbered enabled one of the channel with its IDE and identifier. -/
def Mach.canMatch (m : Mach) (ch : Nat) (f : CanFrame) : Option Nat :=
  objNumbers.find? (fun k =>
    let e := m.canCfg k
    e.enabled && !e.tx && e.chan == ch && e.ide == f.ide && e.id == f.id)

/-- Deliver one frame (R437); frames in objects 4 to 7 reach the thermal function (R432). -/
def Mach.canDeliver (m : Mach) (ch : Nat) (f : CanFrame) : Mach :=
  if f.own then m
  else match m.canMatch ch f with
    | none => m.updChan ch (fun c => c.count 3)
    | some k =>
      let a := m.updObj k (fun o => { o with
        data := f.data, dlc := f.dlc, time := f.time, rtr := f.rtr, count := (o.count + 1) % 2 ^ 32 })
      if decide (4 ≤ k) && decide (k < 8) && !f.rtr then a.coolStatus (k - 4) f.data else a

/-- Hazel empties a queue (R436, R437), oldest frame first. -/
def Mach.canDrain (m : Mach) (ch : Nat) : Mach :=
  (m.updChan ch (fun c => { c with queue := [] })).each (m.chan ch).queue (fun f x => x.canDeliver ch f)

def execCanQueueDrain (ch : Nat) (s : State) : Host.Outcome State Fault Refusal := onProc (fun m => m.canDrain ch) s

/-! ## Transmitting (R434, R438 to R440) -/

/-- An object goes before another (R434): the lower identifier first, the base bits of a 29-bit identifier against an 11-bit
one; on equal priority the lower object number. -/
def CanCfg.before (a b : CanCfg) (ka kb : Nat) : Bool :=
  let base := fun (c : CanCfg) => if c.ide then c.id / 2 ^ 18 else c.id
  let x := if a.ide && b.ide then a.id else base a
  let y := if a.ide && b.ide then b.id else base b
  decide (x < y) || (x == y && decide (ka < kb))

/-- The pending object that a channel attempts next (R434). -/
def Mach.canNext (m : Mach) (ch : Nat) : Option Nat :=
  objNumbers.foldl (fun best k =>
    let e := m.canCfg k
    if !e.enabled || !e.tx || e.chan != ch || !(m.canObj k).pending || (m.canObj k).suspended then best
    else match best with
      | none => some k
      | some b => if e.before (m.canCfg b) k b then some k else best) none

/-- The frame an object sends (R433, R436). -/
def Mach.canFrame (m : Mach) (k : Nat) (passive : Bool) : CanFrame :=
  let e := m.canCfg k
  { id := e.id, ide := e.ide, fdf := e.fdf, brs := e.brs, esi := e.fdf && passive, rtr := false, dlc := e.dlc
    data := padTo (dlcBytes e.dlc) (m.canObj k).next, time := m.fabTime, own := true }

/-- The transmit error counter rises; above 255 the channel goes bus-off (ISO 11898-1, R438). -/
def CanChan.txError (c : CanChan) (n now : Nat) : CanChan :=
  let t := c.tec + n
  if 255 < t && !c.busOff then { c.count 5 with tec := t, busOff := true, busOffAt := now } else { c with tec := t }

/-- An unsuccessful attempt of an object (R434): at 1 + the retransmission limit attempts the frame is abandoned. -/
def Mach.canFailed (m : Mach) (ch k : Nat) : Mach :=
  if 1 + m.par 0x3004 (ch + 1) ≤ (m.canObj k).attempts + 1 then
    (m.updObj k (fun o => { o with pending := false, attempts := 0 })).updChan ch (fun c => c.count 6)
  else m.updObj k (fun o => { o with attempts := o.attempts + 1 })

/-- An acknowledge error (R439): 8 on the counter while error-active, or with a dominant bit during a passive error flag;
ALONE after 16 in a row. -/
def CanChan.noAck (c : CanChan) (dominant : Bool) (now : Nat) : CanChan :=
  let d := { c.count 4 with ackRun := c.ackRun + 1, alone := c.alone || decide (15 ≤ c.ackRun) }
  if c.passive && !dominant then d else d.txError 8 now

/-- The highest-priority pending frame of a channel is attempted (R434) with an outcome (R438 to R440). -/
def Mach.canTransmit (m : Mach) (ch : Nat) (r : TxOutcome) : Mach :=
  let c := m.chan ch
  if decide (2 ≤ ch) || c.mode != 1 || !c.running || c.busOff then m
  else match m.canNext ch with
    | none => m
    | some k =>
      match r with
      | .sent loop =>
        let f := m.canFrame k c.passive
        let a := m.updChan ch (fun x => { x.count 1 with
          tec := x.tec - 1, ackRun := 0, alone := false, loop := if f.fdf && f.brs then loop else x.loop })
        (a.updObj k (fun o => { o with
          pending := false, attempts := 0, bitErr := 0, data := if (m.canCfg k).src = 0 then o.data else f.data
          dlc := f.dlc, time := f.time
          rtr := false, count := (o.count + 1) % 2 ^ 32 })).canQueue ch f
      | .noAck dominant => (m.updChan ch (fun x => x.noAck dominant m.now)).canFailed ch k
      | .bitError =>
        let a := (m.updChan ch (fun x => { x.txError 8 m.now with ackRun := 0 })).updObj k (fun o => { o with
          bitErr := min 255 (o.bitErr + 1) })
        if 3 ≤ (a.canObj k).bitErr then a.updObj k (fun o => { o with suspended := true, pending := false, attempts := 0 })
        else a.canFailed ch k
      | .lost => (m.updChan ch (fun x => { x with ackRun := 0 })).canFailed ch k
      | .error => (m.updChan ch (fun x => { x.txError 8 m.now with ackRun := 0 })).canFailed ch k

def execCanTransmit (ch : Nat) (outcome : TxOutcome) (s : State) : Host.Outcome State Fault Refusal :=
  onProc (fun m => m.canTransmit ch outcome) s

/-- Recovery from bus-off (R438) after its delay (0x3005.00): error-active with both counters at 0. -/
def Mach.canRecover (m : Mach) (ch : Nat) : Mach :=
  let c := m.chan ch
  if c.busOff && m.elapsed c.busOffAt (m.par 0x3005 0 * milli) then
    m.updChan ch (fun x => { x with busOff := false, tec := 0, rec_ := 0 })
  else m

def execCanBusOffRecovery (ch : Nat) (s : State) : Host.Outcome State Fault Refusal := onProc (fun m => m.canRecover ch) s

/-! ## Modes of a channel (R428) and object resume (R440) -/

/-- A changed mode or bit timing restarts the channel (R428): it stops, both error counters 0, until it has integrated. -/
def Mach.canRestart (m : Mach) (ch : Nat) : Mach :=
  if nth m.can.restart ch false then
    (m.updChan ch (fun c => { c with
      mode := m.par 0x3001 (ch + 1), integrated := false, busOff := false, tec := 0, rec_ := 0 })).updCan
      (fun c => { c with restart := updNth c.restart ch (fun _ => false) })
  else m

def execCanChannelRestart (ch : Nat) (s : State) : Host.Outcome State Fault Refusal := onProc (fun m => m.canRestart ch) s

/-- A channel has seen 11 recessive bits after BOOT (R428): it starts in its configured mode. -/
def Mach.canIntegrate (m : Mach) (ch : Nat) : Mach :=
  if m.mode.mode == .boot || nth m.can.restart ch false || m.par 0x3001 (ch + 1) == 0 then m
  else m.updChan ch (fun c => { c with mode := m.par 0x3001 (ch + 1), integrated := true })

def execCanIntegration (ch : Nat) (s : State) : Host.Outcome State Fault Refusal := onProc (fun m => m.canIntegrate ch) s

/-- An object resume takes effect (R440, R423). -/
def Mach.canResume (m : Mach) (k : Nat) : Mach := m.updObj k (fun o => { o with suspended := false, bitErr := 0 })

/-- A host write of object data takes effect (R433, R423). -/
def Mach.canHostData (m : Mach) (k : Nat) (data : List Nat) : Mach :=
  (m.updObj k (fun o => { o with data := data })).canPend k data false

/-- A new message object table is in force (R435): an object that is no longer an enabled transmit object has no pending
frame. -/
def Mach.canTableEffect (m : Mach) : Mach :=
  m.each objNumbers (fun k x =>
    let e := x.canCfg k
    if (x.canObj k).pending && !(e.enabled && e.tx) then x.updObj k (fun o => { o with pending := false, attempts := 0 })
    else x)

/-- A mode or bit-timing object took effect: the channel's restart is due (R428). -/
def Mach.canRestartDue (m : Mach) (ch : Nat) : Mach :=
  m.updCan (fun c => { c with restart := updNth c.restart ch (fun _ => true) })

/-! ## Checks of written values (R429 to R433) -/

/-- Nominal and data bit timing of a channel, as bytes (0x3002). -/
def Mach.canNominal (m : Mach) (ch : Nat) : List Nat := leBytes 4 (m.par 0x3002 (ch + 1))
/-- Data bit timing of a channel, as bytes. -/
def Mach.canDataTiming (m : Mach) (ch : Nat) : List Nat := leBytes 6 (m.par 0x3002 (ch + 3))

/-- Kernel clocks of a bit: prescaler × (1 + SEG1 + SEG2). -/
def bitClocks (t : List Nat) : Nat := nth t 0 0 * (1 + nth t 1 0 + nth t 2 0)

/-- Ranges of a bit timing (R429). -/
def timingRange (data : Bool) (t : List Nat) : Bool :=
  let within := fun lo hi x => decide (lo ≤ x) && decide (x ≤ hi)
  within 1 32 (nth t 0 0) && within (if data then 1 else 2) (if data then 16 else 64) (nth t 1 0)
    && within 1 (if data then 8 else 32) (nth t 2 0) && decide (1 ≤ nth t 3 0)
    && (!data || (decide (nth t 4 0 ≤ 1) && decide (nth t 5 0 ≤ 63)))

/-- Relations of a channel's bit timings (R429): SJW within the segments, 1 Mbit/s and 4 Mbit/s, the data rate at least
the nominal one. -/
def timingRelation (nom data : List Nat) : Bool :=
  let sjw := fun (t : List Nat) => decide (nth t 3 0 ≤ min (nth t 1 0) (nth t 2 0))
  sjw nom && sjw data && decide (20 ≤ bitClocks nom) && decide (5 ≤ bitClocks data) && decide (bitClocks data ≤ bitClocks nom)

/-- TDC is enabled wherever the data rate exceeds 1 Mbit/s (R430). -/
def tdcOk (data : List Nat) : Bool := decide (20 ≤ bitClocks data) || nth data 4 0 == 1

/-- Range of an entry of the message object table (R431): reserved bits 0, SOURCE and DLC listed. -/
def CanCfg.inRange (e : CanCfg) : Bool :=
  decide (e.id < 2 ^ (if e.ide then 29 else 11)) && e.reserved == 0 && decide (e.dlc ≤ 15) && decide (e.src ≤ 2)

/-- Consistency of an entry other than 0 to 7 (R431 to R433), given the length of the mapped object. -/
def CanCfg.consistent (e : CanCfg) (mapLen : Option Nat) : Bool :=
  (!e.brs || e.fdf) && (e.fdf || decide (e.dlc ≤ 8)) && (e.tx || (e.period == 0 && e.src == 0)) && e.src != 2
    && (e.src != 1 || (match mapLen with
      | none => false
      | some n => decide (e.mapOff + dlcBytes e.dlc ≤ n)))

/-- Length of an object that an OBSERVER may read and that is not streamed (R433). -/
def mapLength (idx sub : Nat) : Option Nat :=
  if (idx == 0x2E01 || idx == 0x2E02) && sub == 0 then none
  else match objFind idx sub with
    | none => none
    | some r => if r.acc == .wo then none else some r.len

/-- A table written with these bytes passes R432 and R433: entries 0 to 7 as the module keeps them, the others consistent,
and BRS objects only under a timing whose TDC is right (R430). -/
def Mach.canTableOk (m : Mach) (v : Nat) : Bool :=
  objNumbers.all (fun k =>
    let raw := v / 256 ^ (16 * k) % 256 ^ 16
    let e := canDecode raw
    if k < 8 then raw == m.coolEntry k
    else e.consistent (mapLength e.mapIdx e.mapSub) && (!(e.enabled && e.brs) || tdcOk (m.canDataTiming e.chan)))

/-- Every entry of a written table is in range. -/
def canTableRange (v : Nat) : Bool := objNumbers.all (fun k => (canDecode (v / 256 ^ (16 * k) % 256 ^ 16)).inRange)

end Sys2Proof.Machine
end

