-- ==== Sys2Proof/Machine/Faults.lean ====
section
/-! DEFINITION. Meanings of the commands of chapter 15, Fault Collection (R362 to R376, R513). -/

namespace Sys2Proof.Machine

/-! ## Raises and events (R362 to R366) -/

/-- A detector reports a source with its parameter bytes: class U and F sources are raised, class C and counting sources
record an event (R362, R363, R374). -/
def Mach.reportFault (m : Mach) (s : Src) (params : List Nat) : Mach :=
  match s.native with
  | none => m.countSource s params
  | some .c => m.raiseC s params
  | some k => m.raiseAs s k params

def execFaultRaise (src : Src) (params : List Nat) (s : State) : Host.Outcome State Fault Refusal :=
  onProc (fun m => m.reportFault src params) s

/-- An event of a counting source (R363); a source with a native class has no counting. -/
def execCountingEvent (src : Src) (params : List Nat) (s : State) : Host.Outcome State Fault Refusal :=
  onProc (fun m => if src.counting then m.countSource src params else m) s

/-! ## Acknowledging and clearing (R368) -/

/-- Every pending source raised with a sequence up to s is acknowledged. -/
def Mach.faultAck (m : Mach) (seq : Nat) : Mach :=
  (m.updFlt (fun f => { f with
    pending := f.pending.map (fun r => if r.seq ≤ seq then { r with acked := true } else r) })).record 0x0203 0 (u32 seq)

/-- A write to a request object: OPERATOR or above, or ROLE (R10); accepted, it acts at once. -/
def Mach.operatorWrite (m : Mach) (role : Nat) (f : Mach → Mach) : Mach :=
  if role < 1 then m.emit (.writeStatus 0x14 0) else (f m).emit (.writeStatus 0 m.fastEpoch)

def execFaultAcknowledge (seq role : Nat) (s : State) : Host.Outcome State Fault Refusal :=
  onProc (fun m => m.operatorWrite role (fun x => x.faultAck seq)) s

/-- A pending raise that a clear of s clears: class U, raised up to s, live bit 0. -/
def Mach.clears (m : Mach) (seq : Nat) (r : Raise) : Bool := r.cls == .u && decide (r.seq ≤ seq) && !m.isLive r.src

/-- The result of a clear of s, from what stays pending (R368 step 4). -/
def Mach.clearOutcome (m : Mach) (seq : Nat) (rest : List Raise) : Nat :=
  if rest.isEmpty then 1
  else if rest.any (fun r => r.cls == .u && decide (r.seq ≤ seq) && m.isLive r.src) then 2
  else if rest.any (fun r => decide (seq < r.seq)) then 3
  else 4

/-- What follows the clear of a source in its own chapter: the inputs' test faults (R331), the discrepancy (R332), the
demand of a lost contactor (R514), Foxglove's refusal to rearm (R188). -/
def Mach.afterClear (m : Mach) (s : Src) : Mach :=
  match s with
  | .siTestFail => (m.updSaf (fun x => { x with si := x.si.map (fun i => { i with testFault := false }) })).siEnds
  | .siDiscrepancy => m.updSaf (fun x => { x with discrepancy := false, discrClear := 0 })
  | .contactorLost => (m.endDemand 0 19).endDemand 1 19
  | .fastTripLocked => m.updPwm (fun p => { p with clearPass := p.refused })
  | _ => m

/-- The clear of R368: refused while COLLECTOR_SELF stands; class F sources are never cleared by it. -/
def Mach.faultClear (m : Mach) (seq : Nat) : Mach :=
  if m.flt.selfFault then (m.updFlt (fun f => { f with clearResult := 5 })).record 0x0204 0 (u32 seq ++ u8 5)
  else
    let gone := m.flt.pending.filter (m.clears seq)
    let rest := m.flt.pending.filter (fun r => !m.clears seq r)
    let res := m.clearOutcome seq rest
    let kept := m.flt.latch.filter (fun l => rest.any (fun r => r.src == l.src))
    let a := m.updFlt (fun f => { f with
      pending := rest, hist := f.hist.filter (fun h => !gone.any (fun r => r.src.id == h.1))
      latch := if kept.isSome then kept else rest.head?
      overflow := f.overflow && decide (1 < rest.length), clearResult := res })
    (a.each (gone.map (fun r => r.src)) (fun s x => x.afterClear s)).record 0x0204 0 (u32 seq ++ u8 res)

def execFaultClear (seq role : Nat) (s : State) : Host.Outcome State Fault Refusal :=
  onProc (fun m => m.operatorWrite role (fun x => x.faultClear seq)) s

/-! ## The collector's own fault (R370) -/

/-- A copy mismatch or parity error: COLLECTOR_SELF and SAFE_HOLD demanded from the comparator (R370, code 20 of R514). -/
def Mach.collectorSelf (m : Mach) : Mach :=
  (m.updFlt (fun f => { f with selfFault := true })).demand 0 20 .disconnect (some .safeHold) 0

def execCollectorSelf (s : State) : Host.Outcome State Fault Refusal := onProc Mach.collectorSelf s

/-! ## Fault injection (R371 to R373) -/

/-- The injection points of R372: a source (function code, 0x090 for the loop break) and a channel. -/
def Mach.injectPoint (m : Mach) (src chan : Nat) : Bool :=
  match chan with
  | 0 => [0, 1, 2, 4, 5, 6, 7, 8, 9, 10, 11].contains src
  | 1 => (src == 2 && m.sw3On 3) || [4, 5, 6, 7, 8, 9, 10, 11, 0x090].contains src
  | _ => false

/-- The shortest duration in µs of an injection that can pass (R372). -/
def shortestPass (src chan : Nat) : Nat :=
  if src < 3 then (if chan = 0 then 100 else 1000)
  else if src = 4 then (if chan = 0 then 70 else 60) else if src = 0x090 then 200 else 700

/-- The other channel has a path fault found at BOOT (R61): WALNUT_LOCKSTEP_FAIL or FOXGLOVE_PATH_FAIL. -/
def Mach.otherPathFault (m : Mach) (chan : Nat) : Bool := bit m.mode.bootResult (if chan = 0 then 3 else 2)

/-- The collector accepts an injection (R371). -/
def Mach.injectOk (m : Mach) (src chan : Nat) : Bool :=
  !m.inMode [.boot, .lockout] && m.saf.walnutLive && !m.otherPathFault chan && m.saf.demW == 0 && m.saf.demF == 0
    && !m.holdActive && !(src == 0x090 && m.isLive .alarmLoopBroken) && m.flt.inj.isNone
    && (match m.flt.injEnd with
      | none => true
      | some t => m.elapsed t second)
    && m.injectPoint src chan

/-- The collector takes an injection request: it runs, or is REFUSED (R371, R372). -/
def Mach.inject (m : Mach) (src chan dur : Nat) : Mach :=
  let a := m.updFlt (fun f => { f with injRequest := src + 2 ^ 16 * chan + 2 ^ 24 * dur })
  if m.injectOk src chan then
    a.updFlt (fun f => { f with
      inj := some { src := src, chan := chan, dur := dur, start := m.fabTime, response := none }
      injResult := 1, injResponse := 0, injections := satInc f.injections })
  else a.updFlt (fun f => { f with injResult := 5 })

/-- FAULT_INJECTION, a write of 0x2D05.00: SERVICE, a listed channel and a duration of 1 to 1,000 µs. -/
def Mach.injectWrite (m : Mach) (src chan dur role : Nat) : Mach :=
  if role < 3 then m.emit (.writeStatus 0x14 0)
  else if 1 < chan || dur = 0 || 1000 < dur then m.emit (.writeStatus 0x17 0)
  else (m.inject src chan dur).emit (.writeStatus (if m.injectOk src chan then 0 else 0x21) m.fastEpoch)

def execFaultInjection (src chan dur role : Nat) (s : State) : Host.Outcome State Fault Refusal :=
  onProc (fun m => m.injectWrite src chan dur role) s

/-- An injection ends with a result and the time to the masked demand: the INJECTION record (R372, R373). -/
def Mach.finishInjection (m : Mach) (i : Injection) (result response : Nat) : Mach :=
  (m.updFlt (fun f => { f with inj := none, injResult := result, injResponse := response, injEnd := some m.now })).recordCls
    0x0205 i.src (u8 i.chan ++ u16 i.dur ++ u8 result ++ u16 response) 128

/-- The duration ends (R372): PASSED where the masked demand appeared within it, which a duration below the shortest of the
table does not allow. The injected event of a collector source is
counted, and neither latches nor escalates. -/
def Mach.injectEnd (m : Mach) (response : Option Nat) : Mach :=
  match m.flt.inj with
  | none => m
  | some i =>
    match response with
    | some r =>
      if i.dur < r || i.dur < shortestPass i.src i.chan then m.finishInjection i 3 0
      else (m.finishInjection i 2 r).updFlt (fun f => { f with
        counts := if i.src = 0x090 then acount f.counts 0x090 else f.counts })
    | none => m.finishInjection i 3 0

def execInjectionEnd (response : Option Nat) (s : State) : Host.Outcome State Fault Refusal :=
  onProc (fun m => m.injectEnd response) s

/-- A real event of the injected source (R373): the injection ends at once, ABORTED_REAL. -/
def Mach.injectAbort (m : Mach) : Mach :=
  match m.flt.inj with
  | none => m
  | some i => (m.finishInjection i 4 0).updFlt (fun f => { f with injAborted := satInc f.injAborted })

def execInjectionAbort (s : State) : Host.Outcome State Fault Refusal := onProc Mach.injectAbort s

end Sys2Proof.Machine
end

