-- ==== Sys2Proof/Machine/Seedbank.lean ====
section
/-! DEFINITION. Meanings of the commands of chapter 16, Seedbank Event Recorder (R377 to R391). -/

namespace Sys2Proof.Machine

/-! ## Records (R379, R385) -/

/-- The class byte that R385 allows with an event code; an escalated or an F raise beside a U raise. -/
def codeClassOk (code cls : Nat) : Bool :=
  let event := [0x0100, 0x0101, 0x0102, 0x0103, 0x0104, 0x0105, 0x0106, 0x0107, 0x0108, 0x0203, 0x0204, 0x0300, 0x0301,
    0x0302, 0x0303, 0x0304, 0x0305, 0x0400, 0x0401, 0x0402, 0x0403, 0x0500, 0x0501, 0x0502, 0x0600, 0x0601, 0x0602,
    0x0800, 0x0801, 0x0802]
  (event.contains code && cls == 0) || ((code == 0x0200 || code == 0x0201) && [2, 3, 19].contains cls)
    || (code == 0x0202 && cls == 1) || (code == 0x0205 && cls == 128)
    || (decide (0x0900 ≤ code) && decide (code ≤ 0x09FF) && (cls == 0 || cls == 2))

/-- A record enters the staging queue (R379); codes R385 does not list are never written; class C is suppressed (R383). -/
def Mach.createRecord (m : Mach) (code source cls : Nat) (params : List Nat) : Mach :=
  if !codeClassOk code cls then m
  else if code = 0x0202 then m.recordC source params false
  else m.recordCls code source params cls

def execRecordCreate (code source cls : Nat) (params : List Nat) (s : State) : Host.Outcome State Fault Refusal :=
  onProc (fun m => m.createRecord code source cls params) s

/-- The oldest staged record is committed (R378, R379), but not while a clear runs (R387). -/
def Mach.commitRecord (m : Mach) : Mach :=
  if m.seed.clear.isSome then m else (m.updSeed Seed.commitOne).reportLost

def execRecordCommit (s : State) : Host.Outcome State Fault Refusal := onProc Mach.commitRecord s

/-! ## Clearing (R387, R388) -/

/-- The clear request is refused by the module's state (R387). -/
def Mach.clearRefused (m : Mach) : Bool :=
  m.mode.mode == .lockout || m.anyPending .f || m.seed.clear.isSome

/-- An accepted clear begins (R387): step 1 commits the staging queue; RECORDER_CLEARED takes the next SEQ. -/
def Mach.clearStart (m : Mach) (what iface cert : Nat) : Mach :=
  let r := m.mkRec 0x0801 0 (u8 what ++ u32 m.seed.nextLseq) 0
  m.updSeed (fun d => { d.commitAll with
    nextSeq := seqNext d.nextSeq, clearResult := 1
    clear := some { what := what, start := m.fabTime, iface := iface, cert := cert, cleared := r, waiting := [] } })

/-- RECORDER_CLEAR, a write of 0x2E05.00: SERVICE, reserved bits 0, not refused by the state. -/
def Mach.clearWrite (m : Mach) (what role iface cert : Nat) : Mach :=
  if role < 3 then m.emit (.writeStatus 0x14 0)
  else if 4 ≤ what then m.emit (.writeStatus 0x17 0)
  else
    let a := m.updSeed (fun d => { d with clearRequest := what })
    if a.clearRefused then
      (a.updSeed (fun d => { d with clearResult := 3 })).emit (.writeStatus 0x21 0)
    else (a.clearStart what iface cert).emit (.writeStatus 0 m.fastEpoch)

def execRecorderClear (what role iface cert : Nat) (s : State) : Host.Outcome State Fault Refusal :=
  onProc (fun m => m.clearWrite what role iface cert) s

/-- The ledger slot of a ledger sequence (R388): 1 to 32 once each, then 33 to 64 in turn. -/
def ledgerSlot (lseq : Nat) : Nat := if lseq ≤ 32 then lseq - 1 else 32 + (lseq - 33) % 32

/-- The ledger entry of a clear (R388). -/
def SeedClear.entry (c : SeedClear) (d : Seed) : LedgerEntry :=
  let seq := fun (o : Option SeedRec) => match o with
    | none => 0
    | some r => r.seq
  { time := c.start, lseq := d.nextLseq, what := c.what, iface := c.iface, cert := c.cert
    firstSeq := if bit c.what 0 then seq d.ring.head? else 0
    lastSeq := if bit c.what 0 then seq d.ring.getLast? else 0 }

/-- Number a list from 0. -/
def numbered {α : Type} (l : List α) : List (Nat × α) := (List.range l.length).zip l

/-- Steps 2 to 4 of a clear (R387): the ledger entry, the emptied regions, RECORDER_CLEARED; what waited takes slot 0. -/
def Seed.finishClear (d : Seed) (c : SeedClear) : Seed :=
  let a := { d with
    ledger := aput d.ledger (ledgerSlot d.nextLseq) (c.entry d), nextLseq := d.nextLseq + 1, clear := none, clearResult := 2
    ring := if bit c.what 0 then [] else d.ring, ringHead := if bit c.what 0 then 0 else d.ringHead
    snaps := if bit c.what 1 then numbered c.waiting else d.snaps
    snapCount := if bit c.what 1 then c.waiting.length else d.snapCount }
  a.store c.cleared

/-- A running clear completes (R387). -/
def Mach.clearDone (m : Mach) : Mach :=
  match m.seed.clear with
  | none => m
  | some c => m.updSeed (fun d => d.finishClear c)

def execRecorderClearDone (s : State) : Host.Outcome State Fault Refusal := onProc Mach.clearDone s

/-- Seedbank status, 0x2E00.00 (R391). -/
def Mach.seedStatus (m : Mach) : Nat :=
  bitIf 5 (decide (33 < m.seed.nextLseq)) + bitIf 4 m.seed.clear.isSome + bitIf 3 (decide (16 ≤ m.seed.snapCount))
    + bitIf 2 m.seed.lost + bitIf 1 (decide (768 < m.seed.staging.length)) + bitIf 0 (decide (1024 ≤ m.seed.vault.length))

end Sys2Proof.Machine
end

