-- ==== Sys2Proof/Machine/Reset.lean ====
section
/-! DEFINITION. What a reset of the processor domain and a loss of supply leave of the state (chapter 21; R14, R56, R468,
R475): the shared operations of the commands that bring them about. -/

namespace Sys2Proof.Machine

/-- Protection after a processor-domain reset (R56, R468): Foxglove's part stays, Walnut's starts over, the Walnut coil
switches open and its demand of TRIP ends. -/
def Saf.procReset (s : Saf) (now : Nat) : Saf :=
  { ({} : Saf) with
    sw1 := s.sw1, sw2 := s.sw2, sw3 := s.sw3, cover := s.cover, profile := s.profile, profileOk := s.profileOk
    switchesRead := s.switchesRead, sealBroken := s.sealBroken, switchChanged := s.switchChanged, demF := s.demF
    override := s.override, openF := s.openF, trip := s.trip, tripAt := s.tripAt, tripDem := setBit s.tripDem 0 false
    tripLast := if bit s.tripDem 0 then now else s.tripLast, holdF := s.holdF
    coils := s.coils.map (fun c => c.drive false c.fSw now), si := s.si, discrepancy := s.discrepancy
    discrClear := s.discrClear, disagree := s.disagree, foxEvents := s.foxEvents, si6Low := s.si6Low, frame := s.frame
    nextT := s.nextT, second := s.second, tested := s.tested, ptFox := s.ptFox }

/-- The power stage after a processor-domain reset (R14, R185, R468): every owned phase is released; the fast-trip latch and
the rearm history stay. -/
def Pwm.procReset (p : Pwm) : Pwm :=
  { ({} : Pwm) with
    phases := p.phases.map (fun x => if x.own then { ({} : Phase) with own := true, releasing := true } else {})
    ft := p.ft, ftOff := p.ftOff, latch := p.latch, latchAt := p.latchAt, capture := p.capture, rearms := p.rearms
    refused := p.refused, tripPending := p.tripPending }

/-- The Foxglove-domain part of the clock and reset state. -/
def Clk.procReset (c : Clk) (cause : RCause) : Clk :=
  { ({} : Clk) with
    firstBoot := c.firstBoot, lastCause := cause, pllLocked := c.pllLocked, clockFail := c.clockFail, foxRc := c.foxRc, button := c.button
    resetN := c.resetN, buttonHeld := c.buttonHeld, resetNHeld := c.resetNHeld, buttonStuck := c.buttonStuck
    resetNStuck := c.resetNStuck, buttonOpen := c.buttonOpen, resetNOpen := c.resetNOpen, stuckNew := c.stuckNew
    arm := c.arm, bootstrap := c.bootstrap, warning := c.warning, warnAt := c.warnAt, dipLow := c.dipLow
    capped := c.capped, capRef := c.capRef, capLo := c.capLo, capHi := c.capHi
    supplyHigh := c.supplyHigh, supply := c.supply, supplyLow := c.supply, inPower := c.inPower }

/-- The recorder's MRAM regions and counters, which no reset clears (R377, R382): SEQ goes on after the newest record. -/
def Seed.kept (d : Seed) : Seed :=
  { ({} : Seed) with
    vault := d.vault, ring := d.ring, ringHead := d.ringHead, snaps := d.snaps, snapCount := d.snapCount
    ledger := d.ledger, nextLseq := d.nextLseq, lastSeq := d.lastSeq, nextSeq := seqNext d.lastSeq
    nLost := d.nLost, nSuppressed := d.nSuppressed, nCoalesced := d.nCoalesced }

/-- What the store holds in MRAM (R392 to R397); a compaction under way is found abandoned at the next BOOT (R399). -/
def Nv.kept (n : Nv) : Nv :=
  { ({} : Nv) with
    base := n.base, baseBad := n.baseBad, superA := n.superA, superB := n.superB, journal := n.journal, gen := n.gen, active := n.active, head := n.head
    headRseq := n.headRseq, rseq := n.rseq, compact := n.compact }

/-- What NOR and the fuses hold (R444, R447, R451). -/
def Upd.kept (u : Upd) : Upd :=
  { ({} : Upd) with
    slots := u.slots, designated := u.designated, fused := u.fused, revoked := u.revoked, result := u.result
    trial := u.trial, boots := u.boots, hwRev := u.hwRev }

/-- The isolated section runs on through a processor-domain reset (R17, R103); the counts as received, which only power-on and a
section restart set to 0, stay (R117). -/
def Meas.procReset (x : Meas) : Meas :=
  { ({} : Meas) with
    qd := x.qd, qc := x.qc, subD := x.subD, subC := x.subC, ownOsc := x.ownOsc, oscFrom := x.oscFrom, oscQ := x.oscQ
    oscEnd := x.oscEnd, heldOsc := x.heldOsc, lastFrame := x.lastFrame, gapFrom := x.gapFrom, gapTo := x.gapTo
    cntD := x.cntD, cntC := x.cntC, rxD := x.rxD, rxC := x.rxC, rxTime := x.rxTime, gapHall := x.gapHall
    gapAbs := x.gapAbs, gapAvail := x.gapAvail, lines := x.lines, dipLine := x.dipLine }

/-- The loop port of Foxglove and the pods outside the module (R92, R94). -/
def Chain.procReset (c : Chain) : Chain :=
  { ({} : Chain) with loopSource := c.loopSource, loopSet := c.loopSet, loopBroken := c.loopBroken, pods := c.pods }

/-- The heartbeat as Foxglove sees and drives it (R293, R294): PAIR_HB_OUT stops toggling at its level. -/
def Pair.procReset (p : Pair) : Pair :=
  { ({} : Pair) with hbOut := p.hbOut, hbPresent := p.hbPresent, hbSeen := p.hbSeen, hbSince := p.hbSince }

/-- What the hardware fixes of the fabric: option switches and serial (R236, R237). -/
def Fab.kept (f : Fab) : Fab := { ({} : Fab) with sw4 := f.sw4, sw5 := f.sw5, serial := f.serial }

/-- The processor domain is reset (R14, R467, R468): PWM off and phases released at once, Walnut's coil switches open, the
heartbeat stops; every part of the domain starts over, the Foxglove domain and the nonvolatile memories stay. -/
def Mach.procReset (m : Mach) (cause : RCause) : Mach :=
  { ({} : Mach) with
    now := m.now, fabBase := m.fabBase, freeCtr := m.freeCtr, out := m.out
    mode := { ({} : ModeSt) with cause := .processorReset }
    conv := { ({} : Conv) with dipTh := m.conv.dipTh, dipRef := m.conv.dipRef }
    chain := m.chain.procReset, meas := m.meas.procReset, pwm := m.pwm.procReset, fab := m.fab.kept
    pair := m.pair.procReset, saf := m.saf.procReset m.now, seed := m.seed.kept, nv := m.nv.kept, upd := m.upd.kept
    clk := m.clk.procReset cause, fact := m.fact }

/-- The supply has fallen to 13.5 V (R475): both domains are reset; only the nonvolatile memories, the fuses, the factory's
data, the switches as they are set and the levels of the FT inputs stay. -/
def Mach.powerDown (m : Mach) : Mach :=
  { ({} : Mach) with
    chain := { ({} : Chain) with pods := m.chain.pods.map (fun p => (p.1, { p.2 with lastFrame := 0 })) }
    freeCtr := m.freeCtr, out := m.out, seed := m.seed.kept, nv := m.nv.kept, upd := m.upd.kept, fact := m.fact
    fab := m.fab.kept, pwm := { ({} : Pwm) with ft := m.pwm.ft }
    saf := { ({} : Saf) with sw1 := m.saf.sw1, sw2 := m.saf.sw2, sw3 := m.saf.sw3, cover := m.saf.cover }
    clk := { ({} : Clk) with powered := false } }

end Sys2Proof.Machine
end

