-- ==== Sys2Proof/Machine/Update.lean ====
section
/-! DEFINITION. Meanings of the commands of chapter 20, Firmware Update and Security (R444 to R462), that work on images;
sessions are the mailbox's. -/

namespace Sys2Proof.Machine

/-! ## Slots -/

/-- A slot. -/
def Mach.slot (m : Mach) (k : Nat) : Slot := nth m.upd.slots k {}

/-- Change a slot. -/
def Upd.setSlot (u : Upd) (k : Nat) (f : Slot → Slot) : Upd := { u with slots := updNth u.slots k f }

/-- The slot that is not designated (R447). -/
def Mach.inactiveSlot (m : Mach) : Nat := if m.upd.designated = 0 then 1 else 0

/-- The slot a load fills: the inactive one, slot A under the recovery loader (R454). -/
def Mach.loadSlot (m : Mach) : Nat := if m.mode.recovery then 0 else m.inactiveSlot

/-- FW_VERSION of a slot's header, 0 without one. -/
def Mach.fwOf (m : Mach) (k : Nat) : Nat :=
  match (m.slot k).header with
  | none => 0
  | some h => h.fwVersion

/-- No trust anchor is installed (R458): the table reads 0. -/
def Mach.anchorsEmpty (m : Mach) : Bool := m.par 0x3110 0 == 0

/-! ## Loading (R447 to R449) -/

/-- The first failing check of a header, as its result code (R447). -/
def Mach.headerFail (m : Mach) (sid : Nat) (h : ImgHeader) (signerOk sigOk unwrapOk : Bool) : Option Nat :=
  let other := match m.upd.loader with
    | none => false
    | some s => s != sid
  if !m.mode.recovery && (m.mode.mode == .boot || m.upd.trial || other) then some 13
  else if h.magic != 0x55345843 || h.hdrVer != 1 then some 3
  else if 3 < h.keySlot || bit m.upd.revoked h.keySlot || !signerOk then some 4
  else if !sigOk then some 5
  else if m.upd.hwRev < h.hwMin || h.hwMax < m.upd.hwRev then some 6
  else if h.bodyLen = 0 || 12582912 < h.bodyLen || h.bodyLen ≤ h.entry then some 7
  else if h.secVer < m.upd.fused then some 8
  else if !unwrapOk then some 9
  else none

/-- A load ends with its slot EMPTY (R449). -/
def Upd.dropLoad (u : Upd) (k : Nat) : Upd :=
  { u.setSlot k (fun _ => {}) with loader := none, checking := false, keyHeld := false, lastChunk := none }

/-- An image is refused: result, count and IMAGE_REFUSED (R447, R460). -/
def Mach.refuseImage (m : Mach) (k res fw : Nat) : Mach :=
  (m.updUpd (fun u => { u with result := res, nRefused := satInc u.nRefused })).record 0x0901 k (u8 res ++ u32 fw)

/-- A header is written (R447): refused with CONDITION at its first failing check, or the slot is LOADING. A new header of
the loading session starts the load again (R449). -/
def Mach.imageHeader (m : Mach) (sid : Nat) (h : ImgHeader) (signerOk sigOk unwrapOk : Bool) : Mach :=
  let k := m.loadSlot
  let m0 := m.when (m.upd.loader == some sid) (fun x => x.updUpd (fun u => u.dropLoad k))
  match m.headerFail sid h signerOk sigOk unwrapOk with
  | some r => (m0.refuseImage k r h.fwVersion).emit (.writeStatus 0x21 0)
  | none =>
    (m0.updUpd (fun u => { u.setSlot k (fun _ => { state := .loading, header := some h }) with
      loader := some sid, chunks := 0, lastChunk := none, loadAt := m.now, checking := false, keyHeld := true
      result := 1 })).emit (.writeStatus 0 m.fastEpoch)

/-- Chunks an image of this header takes (R448). -/
def ImgHeader.nChunks (h : ImgHeader) : Nat := (h.bodyLen + 65535) / 65536

/-- The chunks of the load that runs, 0 without one. -/
def Mach.chunkCount (m : Mach) : Nat :=
  match (m.slot m.loadSlot).header with
  | none => 0
  | some h => h.nChunks

/-- A chunk is written (R448): in ascending order, a repeat of the last one changes nothing; any other is refused. While a
brown-out warning stands it is answered BUSY (R473). The chunk's bytes are known by their digest. -/
def Mach.imageChunk (m : Mach) (sid k digest : Nat) : Mach :=
  if m.clk.warning then m.emit (.writeStatus 0x30 0)
  else if m.upd.loader != some sid then m.emit (.writeStatus 0x21 0)
  else if k = m.upd.chunks && decide (k < m.chunkCount) then
    (m.updUpd (fun u => { u with
      chunks := k + 1, lastChunk := some digest, loadAt := m.now, checking := k + 1 == m.chunkCount })).emit
      (.writeStatus 0 m.fastEpoch)
  else if k + 1 = m.upd.chunks && m.upd.lastChunk == some digest then m.emit (.writeStatus 0 m.fastEpoch)
  else (m.updUpd (fun u => { u with result := 12 })).emit (.writeStatus 0x21 0)

/-- The body check after the last chunk (R448): VALID, or INVALID with the check that failed. -/
def Mach.bodyCheck (m : Mach) (hashOk tagOk : Bool) : Mach :=
  if !m.upd.checking then m
  else
    let k := m.loadSlot
    let done := fun (st : SlotState) => m.updUpd (fun u => { u.setSlot k (fun s => { s with state := st }) with
      loader := none, checking := false, keyHeld := false })
    if hashOk && tagOk then
      let sec := match (m.slot k).header with
        | none => 0
        | some h => h.secVer
      ((done .valid).updUpd (fun u => { u with result := 2 })).record 0x0900 k (u32 (m.fwOf k) ++ u16 sec)
    else (done .invalid).refuseImage k (if hashOk then 11 else 10) (m.fwOf k)

def execImageBodyCheck (hashOk tagOk : Bool) (s : State) : Host.Outcome State Fault Refusal :=
  onProc (fun m => m.bodyCheck hashOk tagOk) s

/-- The load that runs is abandoned (R449). -/
def Mach.abandonLoad (m : Mach) : Mach := m.updUpd (fun u => { u.dropLoad m.loadSlot with result := 14 })

/-- 600 s have passed without an accepted chunk (R449). -/
def Mach.loadTimeout (m : Mach) : Mach :=
  if m.upd.loader.isSome && !m.upd.checking && m.elapsed m.upd.loadAt (600 * second) then m.abandonLoad else m

def execLoadAbandoned (s : State) : Host.Outcome State Fault Refusal := onProc Mach.loadTimeout s

/-! ## Activation, trial and confirmation (R450 to R454) -/

/-- The states in which an activation is accepted (R450); the recovery loader activates in BOOT (R454). -/
def Mach.activateOk (m : Mach) : Bool :=
  let s := m.slot m.loadSlot
  let ver := match s.header with
    | none => false
    | some h => (match m.pair.pVer with
      | none => false
      | some v => v != h.pairVer)
  (s.state == .valid) && (m.mode.recovery
    || (!m.paired && m.mode.mode == .standby)
    || (m.paired && ver && m.mode.mode == .standby)
    || (m.paired && !ver && m.mode.mode != .boot && m.ownMask == 0 && m.pair.hbPresent
        && (List.range (min m.nPhases 12)).all (fun k => bit m.pair.pOwn k)))

/-- Activation (R450): the slot becomes the designated one in TRIAL, and the processor domain is reset; what was staged has
been committed by then (R379: 1 ms, the reset 100 ms). -/
def Mach.activate (m : Mach) : Mach :=
  let k := m.loadSlot
  if m.activateOk then
    let a := m.updUpd (fun u => { u.setSlot k (fun s => { s with state := .trial }) with
      designated := k, trial := true, boots := 0, result := 16 })
    (((a.record 0x0902 k (u32 (m.fwOf k))).updSeed Seed.commitAll).emit (.writeStatus 0 m.fastEpoch)).procReset .activation
  else (m.updUpd (fun u => { u with result := 15 })).emit (.writeStatus 0x21 0)

/-- A slot whose header the fuses now shut out (R452). -/
def Slot.shutOut (s : Slot) (fused revoked : Nat) : Bool :=
  match s.header with
  | none => false
  | some h => decide (h.secVer < fused) || bit revoked h.keySlot

/-- The slots a confirmation revokes: REVOKE without the image's own slot (R445, R452). -/
def ImgHeader.revokes (h : ImgHeader) : List Nat := (bitsOf 4 h.revoke).filter (fun k => k != h.keySlot)

/-- Revoke what the fuses now shut out (R452). -/
def Upd.shutOut (u : Upd) : Upd :=
  { u with slots := u.slots.map (fun s => if s.shutOut u.fused u.revoked then { s with state := .revoked } else s) }

/-- The trial is confirmed (R452): the trial slot ACTIVE, the slot that was active VALID, the fuses blown, slots revoked. -/
def Mach.confirmTrial (m : Mach) : Mach :=
  let k := m.upd.designated
  match (m.slot k).header with
  | none => m
  | some h =>
    let a := m.updUpd (fun u =>
      ({ (u.setSlot k (fun s => { s with state := .active })).setSlot m.inactiveSlot (fun s =>
            if s.state == .active then { s with state := .valid } else s) with
         trial := false, fused := max u.fused h.secVer
         revoked := h.revokes.foldl (fun a i => setBit a i true) u.revoked, result := 17 } : Upd).shutOut)
    a.record 0x0903 k (u32 h.fwVersion ++ u8 a.upd.fused)

/-- An ENGINEER's write of confirm, after the module has left BOOT (R452). -/
def Mach.confirm (m : Mach) : Mach :=
  if m.upd.trial && m.mode.mode != .boot then m.confirmTrial.emit (.writeStatus 0 m.fastEpoch)
  else m.emit (.writeStatus 0x21 0)

/-- The trial time has passed out of BOOT with no class F fault pending (R452). -/
def Mach.trialTime (m : Mach) : Mach :=
  if m.upd.trial && m.mode.mode != .boot && !m.anyPending .f && m.elapsed m.upd.trialAt (second * m.par 0x3101 5) then
    m.confirmTrial
  else m

def execTrialTimeExpiry (s : State) : Host.Outcome State Fault Refusal := onProc Mach.trialTime s

/-- The bootstrap window of 300 s is over (R458). -/
def Mach.bootstrapEnd (m : Mach) : Mach :=
  if m.elapsed? m.clk.bootstrap (300 * second) then m.updClk (fun c => { c with bootstrap := none }) else m

def execBootstrapWindowEnd (s : State) : Host.Outcome State Fault Refusal := onFox Mach.bootstrapEnd s

/-! ## The boot ROM (R54 step 4, R449, R451, R454) -/

/-- A slot the boot ROM may boot: authenticated, and holding an image that is not revoked or invalid. -/
def Mach.bootable (m : Mach) (k : Nat) (auth : Bool) : Bool :=
  auth && (match (m.slot k).state with
    | .valid => true
    | .trial => true
    | .active => true
    | _ => false)

/-- BOOT finds a slot LOADING and empties it (R449). -/
def Mach.emptyLoading (m : Mach) : Mach :=
  if m.upd.slots.any (fun s => s.state == .loading) then
    m.updUpd (fun u => { u with
      slots := u.slots.map (fun s => if s.state == .loading then {} else s), result := 14 })
  else m

/-- The boot ROM boots the other slot and makes it the designated one: ALT_SLOT (R451, R54, R61). -/
def Mach.altSlot (m : Mach) : Mach :=
  let k := m.inactiveSlot
  (m.updUpd (fun u => { u.setSlot k (fun s => { s with state := .active }) with designated := k })).updMode (fun x =>
    { x with bootResult := setBit x.bootResult 8 true })

/-- The rollback of a trial (R451): the trial slot INVALID, result ROLLED_BACK. -/
def Mach.rollBack (m : Mach) : Mach :=
  let k := m.upd.designated
  (m.updUpd (fun u => { u.setSlot k (fun s => { s with state := .invalid }) with
    trial := false, result := 18, nRoll := satInc u.nRoll })).record 0x0904 k (u32 (m.fwOf k))

/-- With no bootable slot the recovery loader runs (R454). -/
def Mach.recoveryLoader (m : Mach) : Mach := (m.updMode (fun x => { x with recovery := true })).record 0x0908 0 []

/-- Step 4 of the ladder: the designated slot, or the other on failure or after the third unconfirmed trial boot, or the
recovery loader. The operands say which slots authenticate. -/
def Mach.bootRom (m : Mach) (authA authB : Bool) : Mach :=
  let auth := fun k => if k = 0 then authA else authB
  let a := m.emptyLoading
  let b := a.when a.upd.trial (fun x => x.updUpd (fun u => { u with boots := u.boots + 1 }))
  let d := b.upd.designated
  let ok := b.bootable d (auth d)
  let c := b.when (b.upd.trial && (decide (3 ≤ b.upd.boots) || !ok)) Mach.rollBack
  if c.bootable d (auth d) then c
  else if c.bootable c.inactiveSlot (auth c.inactiveSlot) then c.altSlot
  else c.recoveryLoader

/-- Update status, 0x3100.00 (R462). -/
def Mach.updStatus (m : Mach) : Nat :=
  bitIf 5 (bit m.mode.bootResult 8) + bitIf 4 (m.clk.bootstrap.isSome && m.anchorsEmpty) + bitIf 3 m.anchorsEmpty
    + bitIf 2 m.mode.recovery + bitIf 1 m.upd.trial + bitIf 0 m.upd.loader.isSome

end Sys2Proof.Machine
end

