-- ==== Sys2Proof/Machine/Objects.lean ====
section
/-! DEFINITION. What every object reads as (the object tables of chapters 1 to 24): the bytes of its value, little-endian.
Writable objects that live in the parameter store read from there; the others from the state that holds them. -/

namespace Sys2Proof.Machine

/-! ## Values as bytes; `objBytes` cuts or fills them to the object's length -/

/-- A number. -/
def nb (v : Nat) : List Nat := leBytes 8 v
/-- A signed number. -/
def ib (v : Int) : List Nat := sBytes 8 v
/-- A flag. -/
def bb (b : Bool) : List Nat := [ofBool b]
/-- An exact number, its whole part in the object's unit. -/
def qb (x : Rat) : List Nat := ib x.floor
/-- One entry per group 1 to 432. -/
def perGroup (f : Nat → List Nat) : List Nat := (List.range 432).flatMap (fun i => f (i + 1))
/-- One entry per number below n. -/
def perNum (n : Nat) (f : Nat → List Nat) : List Nat := (List.range n).flatMap f

/-- Round to the nearest integer, ties to even. -/
def roundEven (x : Rat) : Int :=
  let f := x.floor
  let d := x - f
  if d < 1 / 2 then f else if 1 / 2 < d then f + 1 else if f % 2 = 0 then f else f + 1

/-- An F32 of an exact number (R6): IEEE 754 binary32 with its subnormal numbers and infinities. -/
def f32 (x : Rat) : List Nat :=
  if x = 0 then u32 0
  else
    let a := absQ x
    let e := max (-126) (expOf a)
    let r := (roundEven (a * (2 : Rat) ^ (23 - e))).toNat
    u32 ((if x < 0 then 2 ^ 31 else 0) + min 0x7F800000 ((e + 126).toNat * 2 ^ 23 + r))

/-- A quiet NaN as F32. -/
def f32NaN : List Nat := u32 0x7FC00000

/-- S16 of 0.01 °C, 0x8000 for no value. -/
def tempB (t : Option Int) : List Nat := sBytes 2 (t.getD (-32768))

/-! ## Chapters 1 to 4 -/

/-- Architecture objects (R32). -/
def Mach.readArch (m : Mach) (idx sub : Nat) : List Nat :=
  match idx with
  | 0x2000 => bb (m.arch.lost.contains (sub - 1))
  | 0x2001 => nb m.arch.gen
  | 0x2002 => if sub = 9 then nb m.arch.dispatchHost else nb (nth m.arch.host (sub - 1) 0)
  | 0x2003 => nb m.arch.stale
  | 0x2004 => nb m.partSize
  | 0x2005 => nb m.modelRate
  | 0x2006 => if sub = 5 then nb 0 else nb (aget m.arch.holds sub 0)
  | 0x2007 => nb (aget m.arch.worst sub 0)
  | _ => nb (m.arch.boundClass.foldl (fun a c => setBit a c true) (bitIf 0 (!m.arch.boundClass.isEmpty)))

/-- Mode and start-up objects (R60). -/
def Mach.readMode (m : Mach) (idx sub : Nat) : List Nat :=
  match idx with
  | 0x2010 => nb m.mode.bootResult
  | 0x2011 => if sub = 1 then bb m.mode.baselinePending
              else if sub = 0 then nb (m.mode.commStep + (if m.mode.commFailed then 0x80 else 0)) else nb 0
  | 0x2012 => nb m.degradedCauses
  | 0x2013 => if sub = 0 then nb m.mode.cause.code else if sub = 1 then nb m.mode.since else nb m.mode.prev.code
  | 0x2016 => bb m.clk.arm.isSome
  | _ => if sub = 0 then nb m.mode.taskReq else nb m.mode.outcome

/-- Chain objects (R95). -/
def Mach.readChain (m : Mach) (idx sub : Nat) : List Nat :=
  match idx with
  | 0x2100 => nb (if !m.paired then 0 else if m.isMaster then 1 else 2)
  | 0x2101 => nb (if sub = 0 then m.chain.serials.length else m.nGroups)
  | 0x2102 => nb (nth m.chain.serials (sub - 1) 0)
  | 0x2103 => nb (nth m.chain.fwd (sub - 1) 0)
  | 0x2104 => nb (nth m.chain.rev (sub - 1) 0)
  | 0x2107 => match sub with
    | 0 => nb m.chainStatus
    | 1 => nb m.chain.lastEpoch
    | 2 => nb m.chain.skew
    | _ => nb (m.chain.brk.getD 0xFF)
  | 0x2108 => perGroup (fun g => u8 (m.groupFlags g))
  | 0x2109 => perGroup (fun g => sBytes 4 (match aget? m.chain.shared (podOf g) with
    | none => 0
    | some p => nth p.data.fine ((g - 1) % 16) 0))
  | 0x210A => perGroup (fun g => u16 (match aget? m.chain.shared (podOf g) with
    | none => 0
    | some p => 5 * nth p.data.coarse ((g - 1) % 16) 0))
  | 0x210B => perNum 27 (fun i => perNum 3 (fun j => sBytes 2 (match aget? m.chain.shared (i + 1) with
    | none => 0
    | some p => nth p.data.ntc j 0)))
  | 0x2110 => nb (nth [m.chain.disc1, m.chain.disc2, m.chain.nRetry, m.chain.nAbsence, m.chain.nReverse, m.chain.nMismatch,
      m.chain.nOpen] (sub - 1) 0)
  | _ => m.commPods.flatMap u64

/-- Injector state code (0x2203.03). -/
def InjState.code : InjState → Nat
  | .idle => 0 | .injecting => 1 | .paused => 2 | .backoff => 3 | .selfTestFail => 4

/-- Measurement objects (R117). -/
def Mach.readMeas (m : Mach) (idx sub : Nat) : List Nat :=
  match idx with
  | 0x2200 => ib (if sub = 0 then m.meas.iShunt else if sub = 1 then m.meas.iHall else m.meas.iLatch)
  | 0x2201 => nb (nth [m.meas.rxD, m.meas.rxC, m.meas.rxTime, m.meas.gap, m.meas.oscLast] sub 0)
  | 0x2202 => nb (if sub = 0 then m.meas.vStr else m.meas.vBus)
  | 0x2203 => match sub with
    | 0 => nb m.iso.reading
    | 1 => nb (m.iso.elected.getD 0xFFFF)
    | 2 => nb m.iso.id
    | _ => nb m.iso.state.code
  | 0x2207 => nb (nth [m.meas.nLost, m.meas.nHall, m.meas.nSum, m.iso.nConflict] (sub - 1) 0)
  | 0x2208 => nb m.measStatus
  | _ => if sub = 0 then nb m.iso.tie else nb 0

/-! ## Chapters 5 to 7 -/

/-- An Impedance Map entry as read at a time (R132, R133). -/
def ZEntry.bytes (now : Nat) (z : ZEntry) : List Nat := sBytes 3 z.re ++ sBytes 3 z.im ++ u8 (ageCode now z) ++ u8 z.q

/-- The entry of a group that is not present (R132). -/
def zAbsent : ZEntry := {}

/-- A map as read. -/
def Mach.mapBytes (m : Mach) (l : List (Nat × ZEntry)) : List Nat :=
  perGroup (fun g => perNum 16 (fun k =>
    (if g ≤ m.nGroups then aget l (zKey g k) {} else zAbsent).bytes m.fabTime))

/-- A model fit record (R137). -/
def Fit.bytes (f : Fit) : List Nat :=
  u32 f.rOhm ++ u32 f.rCt ++ u32 f.cDl ++ u16 f.lS ++ u16 f.sigma ++ u8 f.residual ++ u8 f.status

/-- The highest valid internal temperature and its group (R141). -/
def Mach.tIntBest (m : Mach) : Option (Nat × Int) := bestBy (fun a b => decide (a > b)) m.tIntNow

/-- Impedance objects (R142). -/
def Mach.readImp (m : Mach) (idx sub : Nat) : List Nat :=
  match idx with
  | 0x2300 => match sub with
    | 0 => nb m.impStatus
    | 1 => nb (match m.imp.run with | none => 0xFF | some r => r.bin)
    | 2 => nb m.imp.excId
    | _ => nb m.imp.passes
  | 0x2304 => (List.range 16).flatMap (fun k => f32 (Config.gCal k).1 ++ f32 (Config.gCal k).2)
  | 0x2310 => m.mapBytes m.imp.map
  | 0x2311 => match sub with
    | 0 => m.mapBytes m.imp.ref
    | 1 => nb (if m.mode.baselinePending then 0 else m.imp.refTime)
    | 2 => perGroup (fun g => sBytes 2 (aget m.imp.refTemp g 0))
    | _ => nb m.imp.refSoc
  | 0x2312 => perNum 16 (fun k => u64 (aget m.imp.binTimes k 0))
  | 0x2320 => perGroup (fun g => (aget m.imp.fits g {}).bytes)
  | 0x2321 => perGroup (fun g => u16 (aget m.growthNow g (0, 0)).1 ++ u16 (aget m.growthNow g (0, 0)).2)
  | 0x2322 => perGroup (fun g => u16 (aget m.imp.ageing g 10000))
  | 0x2330 => match sub with
    | 0 => perGroup (fun g => tempB (aget? m.tIntNow g))
    | 1 => match m.tIntBest with
      | none => f32NaN
      | some p => f32 ((p.2 : Rat) / 100)
    | _ => match m.tIntBest with
      | none => nb 0
      | some p => nb p.1
  | 0x2340 => nb (nth [m.imp.nDone, m.imp.nAborted, m.imp.nDiscarded, m.imp.nRejC, m.imp.nRejQ, m.imp.nPod] (sub - 1) 0)
  | _ => bb m.imp.blRequest

/-- The estimator's model of a group read as a number, 0 for a group not present and before the estimator runs (R515). -/
def Mach.estGroup (m : Mach) (f : GroupEst → Nat) (g : Nat) : Nat :=
  if !m.est.running then 0 else match aget? m.est.groups g with
  | none => 0
  | some e => f e

/-- Estimation objects (R162). -/
def Mach.readEst (m : Mach) (idx sub : Nat) : List Nat :=
  match idx with
  | 0x2400 => match sub with
    | 0 => qb (1000 * m.pubSoc.1)
    | 1 => qb (if m.est.running then 1000 * m.est.strInt else 0)
    | 2 => qb (100 * m.pubSoc.2)
    | 3 => nb (if m.est.running then capUnits m.lowCap else 0)
    | 4 => nb (if m.est.running then m.sohC m.lowCap else 0)
    | 5 => nb (if m.est.running then m.strSohR else 0)
    | 6 => nb m.efc
    | _ => nb m.est.throughput
  | 0x2401 =>
    if sub = 0 then perGroup (fun g => u32 (cutQ (1000 * (m.pubGroup g).1)))
    else perGroup (fun g => u16 (cutQ (100 * (m.pubGroup g).2)))
  | 0x2402 => perGroup (fun g => u32 (m.estGroup (fun e => capUnits e.c) g))
  | 0x2403 =>
    if sub = 0 then perGroup (fun g => u16 (m.estGroup (fun e => m.sohC e.c) g))
    else perGroup (fun g => u16 (if m.est.running then (m.sohR g).getD 0xFFFF else 0))
  | 0x2404 => perGroup (fun g => tempB (match m.coreTemp g with
    | none => none
    | some t => some (roundQ (100 * t))))
  | 0x2405 => if sub = 0 then nb m.estStatus else if sub = 1 then nb m.restAge else nb m.est.lastCorr
  | 0x2409 => nb (nth [m.est.iDis, m.est.iChg, m.est.pDis, m.est.pChg] sub 0)
  | _ => nb (nth [m.est.nRests, m.est.nCap, m.est.nCapRej, m.est.nBridged] (sub - 1) 0)

/-- Balancing objects (R173). -/
def Mach.readBal (m : Mach) (idx sub : Nat) : List Nat :=
  match idx with
  | 0x2500 => match sub with
    | 0 => nb m.balStatus
    | 1 => nb m.nBleeding
    | 2 => perNum 27 (fun i => u16 (aget m.bal.masks (i + 1) 0))
    | _ => nb m.bal.target
  | 0x2502 =>
    if sub = 0 then perGroup (fun g => sBytes 4 (aget m.bal.excess g 0))
    else perGroup (fun g => u32 (aget m.bal.bleed g 0 / 36000000))
  | _ => nb (nth [m.bal.nDecisions, m.bal.nDeferred, m.bal.nExcl] (sub - 1) 0)

/-! ## Chapters 8 to 10 -/

/-- Sync state code (0x2603.00). -/
def SyncState.code : SyncState → Nat
  | .free => 0 | .acquire => 1 | .locked => 2 | .holdover => 3 | .glide => 4

/-- Power-stage objects (R200). -/
def Mach.readPsi (m : Mach) (idx sub : Nat) : List Nat :=
  match idx with
  | 0x2603 => if sub = 0 then nb m.pwm.sync.code else if sub = 1 then qb (100 * m.carrierHz) else ib m.pwm.phaseErr
  | 0x2604 => nb (m.phaseState (sub - 1))
  | 0x2607 => ib ((nth m.pwm.phases (sub - 1) {}).avg.getD (-2147483648))
  | 0x2608 => nb (if sub = 0 then m.ownMask else m.homeMask)
  | 0x2609 => nb m.psiStatus
  | 0x260B => nb (nth [m.pwm.nTrips, m.pwm.nRearms, m.pwm.nStream, m.pwm.nEdges, m.pwm.nInter, m.pwm.nCbc] (sub - 1) 0)
  | 0x260C => nb (if sub = 0 then m.pwm.ft else m.pwm.capture)
  | _ => nb m.streamFaultMask

/-- Converter objects (R223). -/
def Mach.readConv (m : Mach) (idx sub : Nat) : List Nat :=
  match idx with
  | 0x2700 => match sub with
    | 0 => nb m.convStatus
    | 1 => nb m.conv.loop.code
    | 2 => qb m.conv.iRef
    | 3 => qb m.conv.rCmd
    | 4 => qb m.conv.target
    | 5 => qb m.conv.vSet
    | 6 => qb m.conv.hi
    | 7 => qb m.conv.lo
    | 8 => qb m.conv.cap
    | _ => nb m.conv.nAct
  | 0x2709 => nb (nth m.pwm.phases (sub - 1) {}).cause
  | 0x270A => nb (nth [m.conv.nDis, m.conv.nDip, m.conv.nRestart, m.conv.nUnres] (sub - 1) 0)
  | _ => ib m.conv.residual

/-- A route table: egress port and hops per address (R241). -/
def routeBytes (l : List (Nat × Nat × Nat)) : List Nat :=
  perNum 1024 (fun a => match l.find? (fun r => r.1 == a) with
    | none => [0xFF, 0]
    | some r => u8 r.2.1 ++ u8 r.2.2)

/-- Nodes a route table reaches, this one included. -/
def Mach.reachCount (m : Mach) (l : List (Nat × Nat × Nat)) : Nat := (insNat (reachSet l) m.fab.addr).length

/-- Fabric objects (R259). -/
def Mach.readFab (m : Mach) (idx sub : Nat) : List Nat :=
  let p := m.port (sub - 1)
  match idx with
  | 0x2800 => match sub with
    | 0 => nb m.fabStatus
    | 1 => nb m.fab.addr
    | 2 => nb m.fab.tier.code
    | 3 => nb m.hintNow
    | _ => nb m.fab.storedAddr
  | 0x2801 => nb p.state.code
  | 0x2802 => nb p.addr
  | 0x2803 => qb (qdiv (10 * p.delays.foldl (· + ·) 0 : Int) (65536 * max 1 p.delays.length : Nat))
  | 0x2804 => nb (nth [m.reachCount m.fab.routesA, m.reachCount m.fab.routesB, m.fab.diamA, m.fab.diamB] (sub - 1) 0)
  | 0x2805 => routeBytes (if sub = 1 then m.fab.routesA else m.fab.routesB)
  | 0x2806 => match sub with
    | 0 => nb m.fab.time.code
    | 1 => nb m.fab.gm
    | 2 => ib m.fab.offset
    | 3 => ib m.fab.steer
    | 4 => nb m.fab.hops
    | _ => nb m.fab.timePlane
  | 0x2808 => nb p.nFcs
  | 0x2809 => nb p.nStomp
  | 0x280A => nb p.nDown
  | 0x280B => nb p.rxPower
  | 0x280C => nb (nth [m.safe.nDisc, m.safe.nDrops, m.safe.nConf] (sub - 1) 0)
  | _ => nb (nth [m.safe.nMissA, m.safe.nMissB, m.safe.nMism, m.safe.nSeqErr, m.safe.nLost] (sub - 1) 0)

/-! ## Chapters 11 and 12 -/

/-- A fast summary with its ICRC (R264). -/
def Summary.bytes (s : Summary) : List Nat := s.body ++ u32 s.icrc

/-- A slow record head with its ICRC (R266). -/
def SlowHead.bytes (h : SlowHead) : List Nat := h.body ++ u32 h.icrc

/-- The last held fast view (0x2902.00), one entry per member, an absence 0. -/
def Mach.fastViewBytes (m : Mach) : List Nat :=
  match m.plant.view m.plant.lastFast with
  | none => []
  | some v => v.entries.flatMap (fun e => match e.2 with
    | none => List.replicate 64 0
    | some s => s.bytes)

/-- The last held slow view (0x2902.01). -/
def Mach.slowViewBytes (m : Mach) : List Nat :=
  match m.plant.slowViews.find? (fun v => v.1 == m.plant.lastSlow) with
  | none => []
  | some v => v.2.2.flatMap (fun e => match e.2 with
    | none => List.replicate 128 0
    | some h => h.bytes)

/-- The membership view (0x2900.04): unused entries 0xFF. -/
def Mach.memberBytes (m : Mach) : List Nat :=
  m.plant.members.flatMap (fun x => u16 x.addr ++ u16 x.string ++ u64 x.serial)
    ++ List.replicate (12 * (1024 - m.plant.members.length)) 0xFF

/-- An allocation vector A(e) (R285). -/
def Alloc.bytes (a : Alloc) : List Nat :=
  u16 a.entries.length ++ a.entries.flatMap (fun x => u16 x.string ++ sBytes 2 x.p ++ u8 x.flags ++ [0])

/-- Absences in the last held fast view. -/
def Mach.absences (m : Mach) : Nat :=
  match m.plant.view m.plant.lastFast with
  | none => 0
  | some v => (v.entries.filter (fun e => e.2.isNone)).length

/-- Discharge and charge cap in force for the own string (R279), −1 for none. -/
def Mach.ownCaps (m : Mach) : Int × Int := aget m.plant.st.caps m.stringId (-1, -1)

/-- Plant objects (R288). -/
def Mach.readPlant (m : Mach) (idx sub : Nat) : List Nat :=
  match idx with
  | 0x2900 => match sub with
    | 0 => nb m.plantStatus
    | 1 => nb m.plant.mv
    | 2 => nb m.plant.founder
    | 3 => nb m.plant.members.length
    | _ => m.memberBytes
  | 0x2901 => nb (nth [m.plant.lastFast, m.plant.lastSlow, m.absences] sub 0)
  | 0x2902 => if sub = 0 then m.fastViewBytes else m.slowViewBytes
  | 0x2903 => match sub with
    | 0 => ib (100 * m.plant.own)
    | 1 => (match m.plant.inForce with | none => [] | some a => a.bytes)
    | 2 => (match m.plant.inForce with | none => nb 0 | some a => nb a.hash)
    | _ => (match m.plant.inForce with | none => nb 0 | some a => ib a.short)
  | 0x2904 => if sub = 0 then ib m.plant.st.power else nb 0
  | 0x2905 => if sub = 0 then nb m.plant.st.gain else nb 0
  | 0x2906 => if sub = 0 then nb m.plant.st.rest else if sub = 2 then nb (m.plant.nextRest.getD 0) else nb 0
  | 0x2907 => if sub = 1 then ib m.ownCaps.1 else if sub = 2 then ib m.ownCaps.2 else nb 0
  | 0x2909 => nb (nth [m.plantCnt.notHeld, m.plantCnt.late, m.plantCnt.dropped, m.plantCnt.appliedLate, m.plantCnt.hashDis,
      m.plantCnt.heldAlloc, m.plantCnt.copyMism] (sub - 1) 0)
  | 0x290A => nb m.plant.cseq
  | _ => nb 0

/-- Pair objects (R311). -/
def Mach.readPair (m : Mach) (idx sub : Nat) : List Nat :=
  match idx with
  | 0x2A00 => match sub with
    | 0 => nb m.pairStatus
    | 1 => nb m.saf.sw2
    | 2 => nb m.pair.ogen
    | 3 => nb m.pair.pAddr
    | 4 => nb m.pair.pSerial
    | 5 => nb (match m.partnerMode with | none => 0xFF | some d => d.code)
    | _ => nb m.pair.pOwn
  | 0x2A02 => if sub = 0 then bb m.pair.released else nb 0
  | 0x2A03 => nb (nth [m.pair.nTake, m.pair.nBack, m.pair.nLine, m.pair.nCp, m.pair.nCold] (sub - 1) 0)
  | _ => nb (nth [m.pair.toTime, m.pair.toDip, m.pair.toRec] sub 0)

/-! ## Chapters 13 to 16 -/

/-- A profile record with its PCRC (R323). -/
def Profile.bytes (p : Profile) : List Nat := p.body ++ u32 p.pcrc

/-- Safety objects (R346 to R348). -/
def Mach.readSafe (m : Mach) (idx sub : Nat) : List Nat :=
  match idx with
  | 0x2B00 => match sub with
    | 0 => nb m.safetyStatus
    | 1 => nb m.saf.profile
    | 2 => (match m.prof with | none => [] | some p => p.bytes)
    | 3 => nb m.switchWord
    | _ => nb m.committedSwitches
  | 0x2B01 => nb ((if sub = 0 then m.saf.demW else if sub = 1 then m.saf.demF else m.saf.demP) % 65536)
  | 0x2B02 => nb (m.contactorState (sub - 1))
  | 0x2B03 => nb m.siWord
  | 0x2B05 => u64 m.saf.last.time ++ u8 m.saf.last.func ++ u8 m.saf.last.chan ++ u8 m.saf.last.reaction
      ++ u8 m.saf.last.mode ++ sBytes 4 m.saf.last.value
  | _ => nb (nth [m.saf.nDisc, m.saf.nTrips, m.saf.nCoilFail, m.saf.nSiFail, m.saf.nHolds] (sub - 1) 0)

/-- Thermal objects (R360). -/
def Mach.readTherm (m : Mach) (idx sub : Nat) : List Nat :=
  match idx with
  | 0x2C00 => match sub with
    | 0 => nb m.thermalStatus
    | 1 => qb (100 * m.demandInForce)
    | 2 => tempB m.therm.tCtl
    | 3 => qb (100 * m.therm.dff)
    | _ => qb m.therm.qff
  | 0x2C03 => tempB (nth m.therm.pt (sub - 1) none)
  | 0x2C04 => if sub < 5 then qb (100 * m.fanDuty (sub - 1)) else nb (nth m.therm.speed (sub - 5) 0)
  | 0x2C06 => nb (m.valveMv (sub - 1))
  | 0x2C08 => nth m.therm.units (sub - 1) []
  | _ => nb (nth [m.therm.nFan, m.therm.nUnit, m.therm.nFallback, m.therm.nPt] (sub - 1) 0)

/-- The latch read through a function, 0 while it is empty. -/
def Mach.latchB (m : Mach) (f : Raise → List Nat) : List Nat :=
  match m.flt.latch with
  | none => []
  | some r => f r

/-- Fault objects (R375). -/
def Mach.readFlt (m : Mach) (idx sub : Nat) : List Nat :=
  match idx with
  | 0x2D00 => match sub with
    | 0 => nb m.faultStatus
    | 1 => m.latchB (fun r => nb r.src.id)
    | 2 => m.latchB (fun r => nb r.cls.code)
    | 3 => m.latchB (fun r => nb r.time)
    | 4 => m.latchB (fun r => nb r.seq)
    | 5 => m.latchB (fun r => r.params)
    | _ => nb (m.flt.nextSeq - 1)
  | 0x2D01 => if sub = 2 then nb m.flt.clearResult else nb 0
  | 0x2D02 => match sub with
    | 0 => leBytes 64 m.pendingMask
    | 1 => leBytes 64 m.liveMask
    | 2 => leBytes 64 m.ackMask
    | 3 => perNum 512 (fun i => u32 (match m.flt.pending.find? (fun r => r.src.id == i) with
      | none => 0
      | some r => r.seq))
    | _ => perNum 512 (fun i => u32 (aget m.flt.counts i 0))
  | 0x2D05 => if sub = 0 then leBytes 6 m.flt.injRequest else if sub = 1 then nb m.flt.injResult else nb m.flt.injResponse
  | _ => nb (nth [m.flt.raisesC, m.flt.raisesU, m.flt.raisesF, m.flt.escalations, m.flt.injections, m.flt.injAborted]
      (sub - 1) 0)

/-- A record slot as it reads (R381, R384). -/
def SeedRec.read (r : SeedRec) : List Nat := if r.damaged then leBytes 32 (Config.damagedSlot r.seq) else r.bytes

/-- The ring in physical order of its 8,192 slots (R389). -/
def Seed.ringBytes (d : Seed) : List Nat :=
  perNum 8192 (fun s => match d.ring[(s + 8192 - d.ringHead) % 8192]? with
    | none => List.replicate 32 0
    | some r => r.read)

/-- The vault in physical order. -/
def Seed.vaultBytes (d : Seed) : List Nat := padTo 32768 (d.vault.flatMap SeedRec.read)

/-- A record lies before another in the order of SEQ, which wraps (R382). -/
def seqBefore (a b : Nat) : Bool := decide ((b + 2 ^ 32 - a) % 2 ^ 32 < 2 ^ 31)

/-- The read window (R389): up to 64 ring records from the window start on. -/
def Mach.windowBytes (m : Mach) : List Nat :=
  ((m.seed.ring.dropWhile (fun r => !seqBefore (m.par 0x2E03 0) r.seq)).take 64).flatMap SeedRec.read

/-- Widths of the captured registers before and after COALESCED (R386). -/
def snapWidths1 : List Nat := [4, 4, 2, 2, 2, 1, 1, 1, 2]
/-- Widths after COALESCED, up to EXTREMES. -/
def snapWidths2 : List Nat :=
  [4, 64, 4, 4, 2, 4] ++ List.replicate 12 1 ++ [2, 4, 4, 4, 4, 4] ++ List.replicate 12 4 ++ List.replicate 64 2
    ++ [2, 2, 2, 2, 2, 2, 2, 1]

/-- Numbers in fields of the given widths. -/
def fields : List Nat → List Int → List Nat
  | [], _ => []
  | _, [] => []
  | w :: ws, v :: vs => sBytes w v ++ fields ws vs

/-- A snapshot slot before its SCRC (R386). -/
def Snap.body (s : Snap) : List Nat :=
  s.trigger.bytes ++ u64 s.captureTime ++ fields snapWidths1 s.regs ++ u8 s.coalesced
    ++ fields snapWidths2 (s.regs.drop 9) ++ [0] ++ fields [8, 4, 8, 4] (s.regs.drop (9 + snapWidths2.length))
    ++ List.replicate 116 0

/-- A snapshot slot (R386); damaged ones read as they stand (R384). -/
def Snap.bytes (s : Snap) : List Nat :=
  if s.damaged then leBytes 512 (Config.damagedSlot (2 ^ 32 + s.trigger.seq)) else s.body ++ u32 (crc32c s.body)

/-- A clear-ledger entry (R388). -/
def LedgerEntry.bytes (e : LedgerEntry) : List Nat :=
  let b := u64 e.time ++ u32 e.lseq ++ u8 e.what ++ u8 e.iface ++ [0, 0] ++ u32 e.cert ++ u32 e.firstSeq ++ u32 e.lastSeq
  if e.damaged then leBytes 32 (Config.damagedSlot (2 ^ 33 + e.lseq)) else b ++ u32 (crc32c b)

/-- Seedbank objects (R390). -/
def Mach.readSeed (m : Mach) (idx sub : Nat) : List Nat :=
  match idx with
  | 0x2E00 => nb (nth [m.seedStatus, m.seed.lastSeq, m.seed.ringHead, m.seed.ring.length, m.seed.vault.length] sub 0)
  | 0x2E01 => m.seed.vaultBytes
  | 0x2E02 => m.seed.ringBytes
  | 0x2E03 => m.windowBytes
  | 0x2E04 =>
    if sub = 0 then perNum 64 (fun k => u32 (match aget? m.seed.snaps k with
      | none => 0
      | some s => s.trigger.seq))
    else (match aget? m.seed.snaps (sub - 1) with
      | none => []
      | some s => s.bytes)
  | 0x2E05 =>
    if sub = 0 then nb m.seed.clearRequest else if sub = 1 then nb m.seed.clearResult
    else perNum 64 (fun k => match aget? m.seed.ledger k with
      | none => List.replicate 32 0
      | some e => e.bytes)
  | _ => nb (nth [m.seed.nLost, m.seed.nSuppressed, m.seed.nDamaged, m.seed.nCoalesced] (sub - 1) 0)

/-! ## Chapters 17 to 24 -/

/-- Store status, 0x2F00.00 (R406). -/
def Mach.storeStatus (m : Mach) : Nat :=
  bitIf 6 m.nv.lockAssumed + bitIf 5 m.nv.baseDamaged + bitIf 4 m.nv.replayError + bitIf 3 m.nv.flushed
    + bitIf 2 m.nv.reserveWait + bitIf 1 m.nv.compact.isSome + bitIf 0 (m.nv.active == 1)

/-- Store objects (R405). -/
def Mach.readNv (m : Mach) (idx sub : Nat) : List Nat :=
  match idx with
  | 0x2F00 => nb (nth [m.storeStatus, m.nv.fillBytes * 100 / journalBytes, m.nv.gen, m.nv.compAt, m.nv.rseq] sub 0)
  | 0x2F01 => m.nv.damaged.flatMap u32
  | _ => nb (nth [m.nv.nComp, m.nv.nAband, m.nv.nTorn, m.nv.nDamaged, m.nv.nFlush, m.nv.flushDur] (sub - 1) 0)

/-- The device name (0x1000.00). -/
def deviceName : List Nat := "Celaux CX-432 String Controller Module".toList.map Char.toNat

/-- Identity and mode objects (R426). -/
def Mach.readId (m : Mach) (idx sub : Nat) : List Nat :=
  match idx with
  | 0x1000 => match sub with
    | 0 => deviceName
    | 1 => m.fact.part
    | 2 => nb m.fab.serial
    | 3 => nb m.upd.hwRev
    | 4 => nb m.fact.date
    | 5 => nb (m.fwOf m.upd.designated)
    | 6 => nb m.fact.rom
    | 7 => nb m.pair.ver
    | 8 => nb 1
    | _ => nb m.fact.foxRev
  | _ => match sub with
    | 0 => nb m.mode.mode.code
    | 1 => nb m.mbx.modeReq
    | 2 => nb m.mbx.modeStatus
    | 3 => nb m.mbx.modeEffect
    | _ => nb m.modeByte

/-- One entry of the session table (R426). -/
def Session.bytes (s : Session) (now : Nat) : List Nat :=
  u16 s.sid ++ u8 s.role.code ++ u8 s.iface ++ u16 s.size ++ u16 s.relay ++ u32 s.cert ++ bb s.unlock.isSome ++ [0]
    ++ u16 ((now - s.last) / second)

/-- Session, global and host port objects (R426), as session sid reads them. -/
def Mach.readHost (m : Mach) (sid idx sub : Nat) : List Nat :=
  match idx with
  | 0x1200 =>
    if sub = 0 then (m.mbx.sessions.filter (fun s => s.opened)).flatMap (fun s => s.bytes m.now)
    else bb ((m.mbx.sessions.find? (fun s => s.sid == sid)).any (fun s => s.unlock.isSome))
  | 0x1300 => match sub with
    | 0 => nb m.fabTime
    | 1 => nb m.fastEpoch
    | 2 => nb (m.now / second)
    | _ => (match m.plant.ownSums with | [] => [] | s :: _ => s.bytes)
  | 0x1400 => if sub = 5 then leBytes 4 m.mbx.ipv4 else if sub = 6 then leBytes 6 m.fact.mac else bb m.mbx.link
  | _ => nb (nth [m.mbx.nDisc, m.mbx.nRefused, m.mbx.nAband, m.mbx.nAbort, m.mbx.nRelay, m.mbx.nRelRef] (sub - 1) 0)

/-- CAN objects (R442). -/
def Mach.readCan (m : Mach) (idx sub : Nat) : List Nat :=
  match idx with
  | 0x3000 => nb m.canStatus
  | 0x3006 => nb (m.chan (sub - 1)).errState
  | 0x3007 =>
    if sub < 3 then u8 (min 255 (m.chan (sub - 1)).tec) ++ u8 (m.chan (sub - 1)).rec_ else nb (m.chan (sub - 3)).loop
  | 0x3008 => nb (nth (m.chan 0).cnt (sub - 1) 0)
  | 0x3009 => nb (nth (m.chan 1).cnt (sub - 1) 0)
  | 0x3011 => (m.canObj (sub - 1)).data
  | 0x3012 =>
    let o := m.canObj (sub - 1)
    u64 o.time ++ u32 o.count ++ u8 o.dlc ++ u8 (m.objState (sub - 1)) ++ u8 o.bitErr ++ [0]
  | _ => nb 0

/-- Slot state code (0x3100.01). -/
def SlotState.code : SlotState → Nat
  | .empty => 0 | .loading => 1 | .valid => 2 | .trial => 3 | .active => 4 | .revoked => 5 | .invalid => 6

/-- A header as read, 0 while its slot is EMPTY. -/
def Slot.headerBytes (s : Slot) : List Nat :=
  match s.header with
  | none => []
  | some h => leBytes 512 h.raw

/-- Update and security objects (R461). -/
def Mach.readUpd (m : Mach) (idx sub : Nat) : List Nat :=
  match idx with
  | 0x3100 => match sub with
    | 0 => nb m.updStatus
    | 1 => nb (m.slot 0).state.code
    | 2 => nb (m.slot 1).state.code
    | 3 => nb m.upd.designated
    | 4 => (m.slot 0).headerBytes
    | 5 => (m.slot 1).headerBytes
    | 6 => nb m.upd.fused
    | _ => nb m.upd.result
  | 0x3101 => match sub with
    | 0 => if m.upd.loader.isSome then (m.slot m.loadSlot).headerBytes else []
    | 2 => nb m.upd.chunks
    | 6 => nb m.upd.boots
    | _ => nb 0
  | 0x3110 => if sub = 2 then u16 m.fact.cert.length ++ m.fact.cert else nb m.upd.revoked
  | _ => nb (nth [m.upd.nAuth, m.upd.nRefused, m.upd.nRoll] (sub - 1) 0)

/-- Clock and power status, 0x3200.00 (R478). -/
def Mach.clkStatus (m : Mach) : Nat :=
  bitIf 7 m.clk.supplyHigh + bitIf 6 m.clk.resetNStuck + bitIf 5 m.clk.buttonStuck + bitIf 4 m.clk.foxRc
    + bitIf 3 (decide (0 < m.clk.spread)) + bitIf 2 m.clk.capped + bitIf 1 m.clk.warning + bitIf 0 m.clk.pllLocked

/-- Reset cause code (R467). -/
def RCause.code : RCause → Nat
  | .powerOn => 0 | .resetButton => 1 | .resetN => 2 | .stuckRelease => 3 | .watchdog => 4 | .clockFail => 5
  | .activation => 6 | .request => 7

/-- Clock, reset and power objects (R477), and observation objects (R510). -/
def Mach.readClk (m : Mach) (idx sub : Nat) : List Nat :=
  match idx with
  | 0x3200 => nb (nth [m.clkStatus, m.clk.supply, m.clk.supplyLow, m.clk.inPower] sub 0)
  | 0x3201 => if sub = 0 then nb m.clk.lastCause.code else if sub = 1 then nb m.clk.resets else bb m.clk.resetReq
  | 0x3203 => nb (nth [m.clk.nDips, m.clk.nStuck, m.clk.nWatchdog, m.clk.nClock] (sub - 1) 0)
  | 0x3300 => nb (if sub = 1 then m.obs.nSent else m.obs.nDropped)
  | _ => perNum 256 (fun k => u64 (aget m.obs.counters k 0))

/-! ## All of them -/

/-- Objects that a host may write and that live elsewhere than in the parameter store. -/
def ownHome : List (Nat × Nat) :=
  [(0x1100, 1), (0x1200, 1), (0x2011, 1), (0x2011, 2), (0x2011, 5), (0x2016, 0), (0x2017, 0), (0x2341, 0), (0x2A02, 0),
   (0x2A02, 1), (0x2D05, 0), (0x2E05, 0), (0x3101, 0), (0x3101, 1), (0x3101, 3), (0x3101, 4), (0x3201, 2)]

/-- What an object other than a parameter reads as. -/
def Mach.readOwn (m : Mach) (sid idx sub : Nat) : List Nat :=
  match idx / 256 with
  | 0x10 => m.readId idx sub
  | 0x11 => m.readId idx sub
  | 0x20 => if idx < 0x2010 then m.readArch idx sub else m.readMode idx sub
  | 0x21 => m.readChain idx sub
  | 0x22 => m.readMeas idx sub
  | 0x23 => m.readImp idx sub
  | 0x24 => m.readEst idx sub
  | 0x25 => m.readBal idx sub
  | 0x26 => m.readPsi idx sub
  | 0x27 => m.readConv idx sub
  | 0x28 => m.readFab idx sub
  | 0x29 => m.readPlant idx sub
  | 0x2A => m.readPair idx sub
  | 0x2B => m.readSafe idx sub
  | 0x2C => m.readTherm idx sub
  | 0x2D => m.readFlt idx sub
  | 0x2E => m.readSeed idx sub
  | 0x2F => m.readNv idx sub
  | 0x30 => m.readCan idx sub
  | 0x31 => m.readUpd idx sub
  | 0x32 => m.readClk idx sub
  | 0x33 => m.readClk idx sub
  | _ => m.readHost sid idx sub

/-- The bytes of an object as session sid reads them (R419): a WO object reads 0 (R10); empty where there is no object. -/
def Mach.objBytes (m : Mach) (sid idx sub : Nat) : List Nat :=
  match objFind idx sub with
  | none => []
  | some r =>
    if r.acc == .wo then List.replicate r.len 0
    else if r.acc == .ro || ownHome.contains (idx, sub) || idx == 0x3011 then padTo r.len (m.readOwn sid idx sub)
    else leBytes r.len (m.par idx sub)

/-- The bytes of the mapped objects as a capture holds them (R419, R433): refreshed at every fast-epoch boundary. -/
def Mach.canCapture (m : Mach) : Mach :=
  m.each (objNumbers.filter (fun k => (m.canCfg k).enabled && (m.canCfg k).src == 1)) (fun k x =>
    x.updObj k (fun o => { o with mapped := x.objBytes 0 (x.canCfg k).mapIdx (x.canCfg k).mapSub }))

end Sys2Proof.Machine
end

