-- ==== Sys2Proof/Machine/Mailbox.lean ====
section
/-! DEFINITION. Meanings of the commands of chapter 18, Host Mailbox (R407 to R420, R426): sessions, transfers, reads,
the relay and the host port. Writes are in HostWrite.lean. -/

namespace Sys2Proof.Machine

/-! ## Sessions (R412 to R414) -/

/-- The session of a SID. -/
def Mach.session (m : Mach) (sid : Nat) : Option Session := m.mbx.sessions.find? (fun s => s.sid == sid)

/-- Change the session of a SID. -/
def Mach.updSession (m : Mach) (sid : Nat) (f : Session → Session) : Mach :=
  m.updMbx (fun x => { x with sessions := x.sessions.map (fun s => if s.sid == sid then f s else s) })

/-- A session ends and its mailbox is free (R414); a load it carries is abandoned (R449). -/
def Mach.endSession (m : Mach) (sid : Nat) : Mach :=
  (m.when (m.upd.loader == some sid) Mach.abandonLoad).updMbx (fun x => { x with
    sessions := x.sessions.filter (fun s => s.sid != sid) })

/-- A frame to a session with its next TSEQ (R409). -/
def Mach.sendFrame (m : Mach) (sid cmd status seg : Nat) (first more : Bool) (body : List Nat) : Mach :=
  match m.session sid with
  | none => m
  | some s =>
    (m.updSession sid (fun x => { x with tx := x.tx + 1 })).emit (.mailbox
      { sid := sid, cmd := cmd, status := status, tseq := s.tx + 1, seg := seg % 65536, first := first, more := more
        body := body, target := s.source, via := if s.iface = 0 then none else some (s.relay, s.relayId) })

/-- The module closes a session before the TSEQ of either direction would wrap (R457). -/
def Mach.closeWrap (m : Mach) (sid : Nat) : Mach :=
  match m.session sid with
  | none => m
  | some s =>
    if 0xFFFFFFFF ≤ s.rx || 0xFFFFFFFE ≤ s.tx then (m.sendFrame sid 0x04 0 0 false false []).endSession sid else m

/-- The module accepts a frame of an open session (R413). -/
def Session.accepts (s : Session) (f : MbxFrame) : Bool :=
  f.tagOk && s.iface == f.iface && decide (s.rx < f.tseq) && decide (32 + f.len ≤ s.size)

/-- A frame that R413 does not accept. -/
def Mach.discardFrame (m : Mach) : Mach := m.updMbx (fun x => { x with nDisc := satInc x.nDisc })

/-- A frame of a session (R413): accepted, it renews the idle interval and is handed on; a SID that is not known is answered
SESSION without encryption; any other frame is discarded and counted. -/
def Mach.onFrame (m : Mach) (cmd : Nat) (f : MbxFrame) (k : Session → Mach → Mach) : Mach :=
  match m.session f.sid with
  | none => m.emit (.plainFrame cmd 0x43 f.sid)
  | some s =>
    if s.opened && s.accepts f then
      (k s (m.updSession f.sid (fun x => { x with rx := f.tseq, last := m.now, relayId := f.relayId }))).closeWrap f.sid
    else m.discardFrame

/-- Mailboxes the module holds: 16 (R412), one under the recovery loader (R454). -/
def Mach.mailboxes (m : Mach) : Nat := if m.mode.recovery then 1 else 16

/-- A size that may be granted (R412): a power of two from 256 to 4,096 bytes, at most 1,024 to a relayed session. -/
def sizeOk (iface size : Nat) : Bool :=
  [256, 512, 1024].contains size || (iface == 0 && [2048, 4096].contains size)

/-- The first SID from a start on that no session holds. -/
def freeSid (l : List Session) : Nat → Nat → Nat
  | 0, sid => sid
  | n + 1, sid => if l.any (fun s => s.sid == sid) then freeSid l n (sid % 65535 + 1) else sid

/-- A HELLO is refused without encryption (R412). -/
def Mach.refuseHello (m : Mach) (status : Nat) : Mach :=
  (m.updMbx (fun x => { x with nRefused := satInc x.nRefused })).emit (.plainFrame 0x02 status 0)

/-- An authentication failure (R460): AUTH_FAILED at most once per 10 s for a source address, its count covering the
suppressed ones. -/
def Mach.authFailed (m : Mach) (source iface : Nat) : Mach :=
  let a := m.updUpd (fun u => { u with nAuth := satInc u.nAuth })
  let rest := a.upd.authLog.filter (fun e => e.1 != source)
  match a.upd.authLog.find? (fun e => e.1 == source) with
  | some e =>
    if m.elapsed e.2.1 (10 * second) then
      (a.updUpd (fun u => { u with authLog := (source, m.now, 0) :: rest })).record 0x0906 0 (u16 (e.2.2 + 1) ++ u8 iface)
    else a.updUpd (fun u => { u with authLog := (source, e.2.1, e.2.2 + 1) :: rest })
  | none => (a.updUpd (fun u => { u with authLog := (source, m.now, 0) :: rest })).record 0x0906 0 (u16 1 ++ u8 iface)

/-- A HELLO (R412, R455): from the moment the module leaves BOOT, or under the recovery loader on J5 (R454). -/
def Mach.hello (m : Mach) (iface size relay source : Nat) (ok : Bool) : Mach :=
  if (m.mode.mode == .boot && !m.mode.recovery) || (m.mode.recovery && iface != 0) then m
  else if m.mailboxes ≤ m.mbx.sessions.length then m.refuseHello 0x41
  else if !sizeOk iface size then m.refuseHello 0x42
  else if !ok then (m.authFailed source iface).refuseHello 0x40
  else
    let sid := freeSid m.mbx.sessions 16 (m.mbx.sidNext % 65535 + 1)
    (m.updMbx (fun x => { x with
      sidNext := sid
      sessions := x.sessions ++ [{ sid := sid, iface := iface, size := size, source := source, last := m.now
                                   relay := if iface = 0 then 0xFFFF else relay }] })).emit (.helloReply sid size)

def execHello (iface size relay source : Nat) (ok : Bool) (s : State) : Host.Outcome State Fault Refusal :=
  onProc (fun m => m.hello iface size relay source ok) s

/-- No prefix of the revocation list begins the certificate's hash (R456). -/
def Mach.notRevoked (m : Mach) (c : HostCert) : Bool :=
  (List.range 64).all (fun k => m.parElem 0x3110 1 16 k != c.digest)

/-- Fabric time lies within the certificate's validity; while it is untraceable only notAfter is checked (R456). -/
def Mach.certValid (m : Mach) (c : HostCert) : Bool :=
  decide (m.fabTime ≤ c.notAfter) && (m.fab.untraceable || decide (c.notBefore ≤ m.fabTime))

/-- A bootstrap session may open (R458): no anchor, direct, within the window, self-signed. -/
def Mach.bootstrapOk (m : Mach) (s : Session) (c : HostCert) : Bool :=
  m.anchorsEmpty && s.iface == 0 && c.selfSigned && (match m.clk.bootstrap with
    | none => false
    | some t => !m.elapsed t (300 * second))

/-- The role a certificate gives, with whether the session is a bootstrap session (R456, R458); the recovery loader takes
SERVICE only (R454). -/
def Mach.certRole (m : Mach) (s : Session) (c : HostCert) : Option (Role × Bool) :=
  if !c.sigOk || !m.notRevoked c || !m.certValid c then none
  else if c.anchored then (match c.role with
    | none => none
    | some r => if m.mode.recovery && r != .service then none else some (r, false))
  else if m.bootstrapOk s c then some (.service, true)
  else none

/-- FINISH (R455, R456): the session opens with its role, or is refused with AUTH. -/
def Mach.finish (m : Mach) (f : MbxFrame) (c : HostCert) : Mach :=
  match m.session f.sid with
  | none => m.emit (.plainFrame 0x03 0x43 f.sid)
  | some s =>
    if s.opened || !s.accepts f then m.discardFrame
    else match m.certRole s c with
      | none =>
        (((m.authFailed s.source s.iface).endSession f.sid).updMbx (fun x => { x with
          nRefused := satInc x.nRefused })).emit (.plainFrame 0x03 0x40 f.sid)
      | some (role, boot) =>
        let fp := c.digest % 2 ^ 32
        (m.updSession f.sid (fun x => { x with
          role := role, opened := true, bootstrap := boot, cert := fp, rx := f.tseq, last := m.now, relayId := f.relayId })).record 0x0905 f.sid
          (u8 role.code ++ u8 s.iface ++ u32 fp)

def execFinish (f : MbxFrame) (cert : HostCert) (s : State) : Host.Outcome State Fault Refusal :=
  onProc (fun m => m.finish f cert) s

/-- CLOSE from the host (R414). -/
def Mach.closeFrame (m : Mach) (f : MbxFrame) : Mach := m.onFrame 0x04 f (fun _ x => x.endSession f.sid)

def execClose (f : MbxFrame) (s : State) : Host.Outcome State Fault Refusal := onProc (fun m => m.closeFrame f) s

/-- KEEPALIVE, echoed (R410, R414). -/
def Mach.keepalive (m : Mach) (f : MbxFrame) : Mach :=
  m.onFrame 0x05 f (fun _ x => x.sendFrame f.sid 0x05 0 f.seg false false [])

def execKeepalive (f : MbxFrame) (s : State) : Host.Outcome State Fault Refusal := onProc (fun m => m.keepalive f) s

/-- Sessions without an accepted frame for 60 s end (R414). -/
def Mach.sessionTimeout (m : Mach) : Mach :=
  m.each (m.mbx.sessions.filter (fun s => m.elapsed s.last (60 * second))) (fun s x => x.endSession s.sid)

def execSessionTimeout (s : State) : Host.Outcome State Fault Refusal := onProc Mach.sessionTimeout s

/-- Expert unlock clears after 900 s in which its session has accepted no RWE write (R415). -/
def Mach.unlockExpiry (m : Mach) : Mach :=
  m.updMbx (fun x => { x with
    sessions := x.sessions.map (fun s => if m.elapsed? s.unlock (900 * second) then { s with unlock := none } else s) })

def execExpertUnlockExpiry (s : State) : Host.Outcome State Fault Refusal := onProc Mach.unlockExpiry s

/-! ## Responses (R411, R416 to R418) -/

/-- Bytes of one transfer segment in a session: mailbox size − 32 (R416). -/
def Session.segLen (s : Session) : Nat := s.size - 32

/-- Transfer bytes after TOTAL (R411). -/
def Resp.total (r : Resp) : Nat :=
  match r.streamed with
  | none => r.body.length
  | some (_, _, n) => 8 + n

/-- Segments a response takes through a mailbox (R418). -/
def Session.segments (s : Session) (r : Resp) : Nat := (r.total + 4 + s.segLen - 1) / max 1 s.segLen

/-- The bytes of segment k of a response: as captured, or of a streamed object as it stands now (R389, R420). -/
def Mach.segBytes (m : Mach) (s : Session) (r : Resp) (k : Nat) : List Nat :=
  let body := match r.streamed with
    | none => r.body
    | some (idx, off, n) => u64 0 ++ ((m.objBytes s.sid idx 0).drop off).take n
  ((u32 r.total ++ body).drop (k * s.segLen)).take s.segLen

/-- Segment k of the response in progress is sent, first or again (R417): each retransmission takes a new TSEQ. -/
def Mach.sendSeg (m : Mach) (sid k : Nat) (again : Bool) : Mach :=
  match m.session sid with
  | none => m
  | some s => match s.resp with
    | none => m
    | some r =>
      let more := decide (k + 1 < s.segments r)
      (m.updSession sid (fun x => { x with
        txSeg := k + 1, sending := more, unacked := true, txAt := if again then x.txAt else m.now })).sendFrame sid r.cmd
        r.status k (k == 0) more (m.segBytes s r k)

/-- A response is ready: its first segment is sent (R417); it is kept until the session's next request. -/
def Mach.respond (m : Mach) (sid : Nat) (r : Resp) (pool : Nat) : Mach :=
  (m.updSession sid (fun s => { s with resp := some r, wait := none, pool := pool })).sendSeg sid 0 false

/-- A response that carries a status alone: TOTAL 0 (R411). -/
def Mach.respondStatus (m : Mach) (sid cmd status : Nat) : Mach :=
  m.respond sid { cmd := cmd, status := status, body := [], streamed := none } 0

/-- A segment of a request (R416, R417): BUSY while the previous one is still being answered; an intermediate segment is
acknowledged; the last one hands the request on. A repeated segment is acknowledged again and not applied twice; of the
last one the acknowledgement is the response's segment. -/
def Mach.onRequest (m : Mach) (cmd : Nat) (f : MbxFrame) (k : Mach → Mach) : Mach :=
  m.onFrame cmd f (fun s x =>
    if f.seg = s.rxSegs then
      if s.sending then x.sendFrame f.sid cmd 0x30 0 true false (u32 0)
      else
        let y := x.updSession f.sid (fun z => { z with
          resp := none, unacked := false, pool := 0, rxSegs := if f.more then f.seg + 1 else 0, rxAt := m.now
          sending := !f.more })
        if f.more then y.sendFrame f.sid 0x14 0 f.seg false false [] else k y
    else if f.seg < s.rxSegs then x.sendFrame f.sid 0x14 0 f.seg false false []
    else if s.rxSegs = 0 then x.sendSeg f.sid (s.txSeg - 1) true
    else x)

/-- ACK (R417): of the segment last sent it brings the next one, or completes the transfer and frees its capture; of the
one before it the segment again. -/
def Mach.ack (m : Mach) (f : MbxFrame) : Mach :=
  m.onFrame 0x14 f (fun s x =>
    if !s.unacked then x
    else if f.seg = (s.txSeg - 1) % 65536 then
      if s.sending then x.sendSeg f.sid s.txSeg false
      else x.updSession f.sid (fun z => { z with unacked := false, pool := 0 })
    else if f.seg = (s.txSeg + 65534) % 65536 then x.sendSeg f.sid (s.txSeg - 1) true
    else x)

def execAck (f : MbxFrame) (s : State) : Host.Outcome State Fault Refusal := onProc (fun m => m.ack f) s

/-- A transfer of a session is in progress. -/
def Session.inTransfer (s : Session) : Bool := s.sending || s.unacked || decide (0 < s.rxSegs)

/-- The transfer of a session is dropped with its capture. -/
def Session.dropTransfer (s : Session) : Session :=
  { s with wait := none, resp := none, sending := false, unacked := false, rxSegs := 0, pool := 0 }

/-- ABORT from the host ends the transfer in progress (R416). -/
def Mach.abortFrame (m : Mach) (f : MbxFrame) : Mach :=
  m.onFrame 0x15 f (fun s x =>
    if s.inTransfer then
      (x.updSession f.sid Session.dropTransfer).updMbx (fun z => { z with nAbort := satInc z.nAbort })
    else x)

def execAbort (f : MbxFrame) (s : State) : Host.Outcome State Fault Refusal := onProc (fun m => m.abortFrame f) s

/-- Nothing has come for a transfer for 2 s (R417): no ACK of a segment sent, or no next segment of a request. -/
def Mach.stalled (m : Mach) (s : Session) : Bool :=
  (s.unacked && m.elapsed s.txAt (2 * second)) || (decide (0 < s.rxSegs) && m.elapsed s.rxAt (2 * second))

/-- A stalled transfer is abandoned (R417): ABORT with TIMEOUT, freed and counted; the session stays open. -/
def Mach.transferTimeout (m : Mach) : Mach :=
  m.each (m.mbx.sessions.filter m.stalled) (fun s x =>
    ((x.updSession s.sid Session.dropTransfer).updMbx (fun z => { z with nAband := satInc z.nAband })).sendFrame s.sid 0x15
      0x31 0 false false [])

def execTransferTimeout (s : State) : Host.Outcome State Fault Refusal := onProc Mach.transferTimeout s

/-! ## Reads (R419, R420) -/

/-- Objects of type OCTETS or STR with a length that a number has too. -/
def shortOctets : List (Nat × Nat) :=
  [(0x240B, 0), (0x2907, 3), (0x2908, 0), (0x2908, 1), (0x2C08, 1), (0x2C08, 2), (0x2C08, 3), (0x2C08, 4), (0x1400, 1)
   , (0x1400, 3), (0x1400, 5), (0x3002, 1), (0x3002, 2), (0x3007, 1), (0x3007, 2)]

/-- An object is of type OCTETS or STR (R6). -/
def isOctets (idx sub len : Nat) : Bool := !([1, 2, 4, 8].contains len) || shortOctets.contains (idx, sub)

/-- Objects the recovery loader serves (R454). -/
def recoveryObj (idx sub : Nat) : Bool :=
  idx == 0x1000 || (idx == 0x1100 && sub == 0) || idx == 0x1200 || idx == 0x3100 || (idx == 0x3101 && decide (sub ≤ 3))
    || idx == 0x3110

/-- The row of an object that the module serves now. -/
def Mach.served (m : Mach) (idx sub : Nat) : Option ObjRow :=
  if m.mode.recovery && !recoveryObj idx sub then none else objFind idx sub

/-- The streamed objects: the Seedbank vault and ring (R420). -/
def isStreamed (idx sub : Nat) : Bool := (idx == 0x2E01 || idx == 0x2E02) && sub == 0

/-- Bytes an object read gives from an OFFSET: LENGTH, cut at the object's end; 0 reads to the end (R411). -/
def readLen (len offset length : Nat) : Nat := if length = 0 then len - offset else min length (len - offset)

/-- A READ (R419, R420): refused at once, streamed at once, or waiting for its capture. -/
def Mach.readRequest (m : Mach) (sid idx sub offset length : Nat) : Mach :=
  match m.served idx sub with
  | none => m.respondStatus sid 0x10 0x10
  | some r =>
    if (!isOctets idx sub r.len && (offset != 0 || length != 0)) || r.len < offset then m.respondStatus sid 0x10 0x17
    else if isStreamed idx sub then
      m.respond sid { cmd := 0x10, status := 0, body := [], streamed := some (idx, offset, readLen r.len offset length) } 0
    else m.updSession sid (fun s => { s with
      wait := some { cmd := 0x10, objs := [(idx, sub)], offset := offset, length := length, at_ := m.now
                     epoch := m.fastEpoch } })

def execMailboxRead (f : MbxFrame) (idx sub offset length : Nat) (s : State) : Host.Outcome State Fault Refusal :=
  onProc (fun m => m.onRequest 0x10 f (fun x => x.readRequest f.sid idx sub offset length)) s

/-- Value bytes of the objects a set names, the streamed and the missing ones apart (R420). -/
def Mach.setBytes (m : Mach) (objs : List (Nat × Nat)) : Nat :=
  objs.foldl (fun a o => match m.served o.1 o.2 with
    | none => a
    | some r => if isStreamed o.1 o.2 then a else a + r.len) 0

/-- A READ_SET (R411, R420) of 1 to 256 objects and at most 196,608 value bytes. -/
def Mach.readSet (m : Mach) (sid : Nat) (objs : List (Nat × Nat)) : Mach :=
  if objs.isEmpty || 256 < objs.length then m.respondStatus sid 0x11 0x17
  else if 196608 < m.setBytes objs then m.respondStatus sid 0x11 0x33
  else m.updSession sid (fun s => { s with
    wait := some { cmd := 0x11, objs := objs, offset := 0, length := 0, at_ := m.now, epoch := m.fastEpoch } })

def execReadSet (f : MbxFrame) (objs : List (Nat × Nat)) (s : State) : Host.Outcome State Fault Refusal :=
  onProc (fun m => m.onRequest 0x11 f (fun x => x.readSet f.sid objs)) s

/-- One entry of a READ_SET response (R411). -/
def Mach.setEntry (m : Mach) (sid : Nat) (o : Nat × Nat) : List Nat :=
  u16 o.1 ++ u8 o.2 ++ (match m.served o.1 o.2 with
    | none => u8 0x10 ++ u32 0
    | some r => if isStreamed o.1 o.2 then u8 0x34 ++ u32 0 else u8 0 ++ u32 r.len ++ m.objBytes sid o.1 o.2)

/-- The response a capture taken now gives (R411, R419); EPOCH is the fast epoch that begins. -/
def Mach.captured (m : Mach) (sid : Nat) (q : ReadReq) : Resp :=
  let body := if q.cmd = 0x10 then (match q.objs with
      | o :: _ =>
        let b := m.objBytes sid o.1 o.2
        (b.drop q.offset).take (readLen b.length q.offset q.length)
      | [] => [])
    else u16 q.objs.length ++ u16 0 ++ q.objs.flatMap (fun o => m.setEntry sid o)
  { cmd := q.cmd, status := 0, body := u64 m.fastEpoch ++ body, streamed := none }

/-- Bytes of the capture pool in use (R420). -/
def Mach.poolUsed (m : Mach) : Nat := m.mbx.sessions.foldl (fun a s => a + s.pool) 0

/-- INTERLOCK_BLOCK tells whether R179 acted since the last read (R201): a read of 0x2609.00 ends it. -/
def Mach.readDone (m : Mach) (objs : List (Nat × Nat)) : Mach :=
  if objs.contains (0x2609, 0) then m.updPwm (fun p => { p with interlock := false }) else m

/-- The capture of one waiting request at the first boundary after its acceptance, if it fits the pool of 512 KiB. -/
def Mach.captureOne (m : Mach) (sid : Nat) (q : ReadReq) : Mach :=
  let need := m.setBytes q.objs
  if q.epoch < m.fastEpoch && m.poolUsed + need ≤ 524288 then
    (m.respond sid (m.captured sid q) need).readDone q.objs
  else m

/-- Captures are taken for the requests that wait (R419, R420). -/
def Mach.takeCaptures (m : Mach) : Mach :=
  m.each m.mbx.sessions (fun s x => match s.wait with
    | none => x
    | some q => x.captureOne s.sid q)

def execCapture (s : State) : Host.Outcome State Fault Refusal := onProc Mach.takeCaptures s

/-- Requests whose capture has not fitted the pool for 100 ms are refused (R420). -/
def Mach.captureBusy (m : Mach) : Mach :=
  m.each m.mbx.sessions (fun s x => match s.wait with
    | none => x
    | some q => if m.elapsed q.at_ (100 * milli) then x.respondStatus s.sid q.cmd 0x35 else x)

def execCaptureBusy (s : State) : Host.Outcome State Fault Refusal := onProc Mach.captureBusy s

/-! ## The relay (R408) -/

/-- The relay answers with a relay status frame (R408). -/
def Mach.relayRefuse (m : Mach) (status : Nat) : Mach :=
  (m.updMbx (fun x => { x with nRelRef := satInc x.nRelRef })).emit (.plainFrame 0x7F status 0)

/-- A frame whose TARGET is another node arrives on J5 (R408): forwarded under its RELAY_ID, or refused. -/
def Mach.relayFrame (m : Mach) (host port target : Nat) : Mach :=
  if m.mode.mode == .boot || !m.parB 0x1400 8 then m
  else match m.planeTo target with
    | none => m.relayRefuse 0x50
    | some plane =>
      let sent := fun (x : Mach) (id : Nat) =>
        (x.updMbx (fun z => { z with nRelay := satInc z.nRelay })).emit (.relayOut id target plane)
      match m.mbx.relay.find? (fun e => e.host == host && e.port == port && e.target == target) with
      | some e => sent (m.updMbx (fun x => { x with
          relay := x.relay.map (fun z => if z.id == e.id then { z with last := m.now } else z) })) e.id
      | none =>
        if 32 ≤ m.mbx.relay.length then m.relayRefuse 0x51
        else
          let id := (m.mbx.relayNext + 1) % 65536
          sent (m.updMbx (fun x => { x with
            relayNext := id
            relay := x.relay ++ [{ id := id, host := host, port := port, target := target, last := m.now }] })) id

def execRelayFrame (host port target : Nat) (s : State) : Host.Outcome State Fault Refusal :=
  onProc (fun m => m.relayFrame host port target) s

/-- A target's answer under a RELAY_ID goes to the host endpoint held under it (R408). -/
def Mach.relayReply (m : Mach) (id : Nat) : Mach :=
  match m.mbx.relay.find? (fun e => e.id == id) with
  | none => m
  | some e =>
    (m.updMbx (fun x => { x with
      nRelay := satInc x.nRelay
      relay := x.relay.map (fun z => if z.id == id then { z with last := m.now } else z) })).emit (.relayIn e.host e.port)

def execRelayReply (id : Nat) (s : State) : Host.Outcome State Fault Refusal := onProc (fun m => m.relayReply id) s

/-- Relay entries without traffic for 60 s are removed (R408). -/
def Mach.relayExpiry (m : Mach) : Mach :=
  m.updMbx (fun x => { x with relay := x.relay.filter (fun e => !m.elapsed e.last (60 * second)) })

def execRelayEntryExpiry (s : State) : Host.Outcome State Fault Refusal := onProc Mach.relayExpiry s

/-! ## The host port (R407, R426) -/

/-- The IPv4 address in force (R407, R426, R454): none without link; the one configured, the one leased, or under the
recovery loader one of 169.254.0.0/16 derived from the MAC address, which the spec does not state (log entry 6). -/
def Mach.addrInForce (m : Mach) (lease : Nat) : Nat :=
  if !m.mbx.link || !m.clk.procRunning then 0
  else if m.mode.recovery then 169 + 256 * 254 + 65536 * (Config.freeNat m.fact.mac % 65536)
  else if m.par 0x1400 0 = 0 then m.par 0x1400 1 else lease

/-- The link on J5 comes up or goes down, and the address in force follows (R407). -/
def Mach.linkChange (m : Mach) (up : Bool) (lease : Nat) : Mach :=
  let a := m.updMbx (fun x => { x with link := up })
  a.updMbx (fun x => { x with ipv4 := a.addrInForce lease })

def execHostPortLinkChange (up : Bool) (lease : Nat) (s : State) : Host.Outcome State Fault Refusal :=
  onPowered (fun m => m.linkChange up lease) s

/-- A changed address configuration takes effect 1 s after its commit, and every direct session closes (R426, R414). -/
def Mach.addrEffect (m : Mach) (lease : Nat) : Mach :=
  if m.elapsed? m.mbx.addrAt second then
    let a := m.each (m.mbx.sessions.filter (fun s => s.iface == 0)) (fun s x => x.endSession s.sid)
    a.updMbx (fun x => { x with addrAt := none, ipv4 := a.addrInForce lease })
  else m

def execAddressConfigEffect (lease : Nat) (s : State) : Host.Outcome State Fault Refusal :=
  onProc (fun m => m.addrEffect lease) s

/-- Fragment sets not complete within 100 ms are discarded (R407). -/
def Mach.fragTimeout (m : Mach) : Mach :=
  m.updMbx (fun x => { x with frags := x.frags.filter (fun p => !m.elapsed p.2 (100 * milli)) })

def execFragmentTimeout (s : State) : Host.Outcome State Fault Refusal := onProc Mach.fragTimeout s

end Sys2Proof.Machine
end

