-- ==== Sys2Proof/Machine/HostWrite.lean ====
section
/-! DEFINITION. Meanings of the commands that write objects (chapter 18, R421 to R426; R432 to R440, R447 to R458, R467):
the checks in their order, what a write of each object does, and its effect at a fast-epoch boundary. -/

namespace Sys2Proof.Machine

/-! ## The checks of a write (R421) -/

/-- The role code a write of an access needs (R10). -/
def Access.role : Access → Nat
  | .ro => 4 | .wo => 1 | .rw => 1 | .rwe => 2 | .rwx => 2 | .rws => 3

/-- Element i of an n-byte array in a value. -/
def elemOf (v n i : Nat) : Nat := v / 256 ^ (n * i) % 256 ^ n

/-- Ranges that the object table states beside a row's bounds: per element, per field, multiples, reserved bytes 0. -/
def specialRange (idx sub v : Nat) : Bool :=
  match idx with
  | 0x2D04 =>
    if sub = 0 then (List.range 32).all (fun i => decide (2 ≤ elemOf v 1 i))
    else (List.range 32).all (fun i => decide (1 ≤ elemOf v 2 i) && decide (elemOf v 2 i ≤ 36000))
  | 0x2908 => sub != 0 || (decide (elemOf v 1 2 ≤ 11) && elemOf v 1 3 == 0)
  | 0x2D05 =>
    decide (elemOf v 1 2 ≤ 1) && decide (1 ≤ v / 256 ^ 3 % 65536) && decide (v / 256 ^ 3 % 65536 ≤ 1000) && elemOf v 1 5 == 0
  | 0x2209 => decide (v < 2 ^ 31)
  | 0x2C07 => sub != 1 || v % 16 == 0
  | 0x3002 => if sub ≤ 2 then timingRange false (leBytes 4 v) else timingRange true (leBytes 6 v)
  | 0x3010 => canTableRange v
  | _ => true

/-- A value lies in its object's range (R421 check 7; R7, R9). -/
def ObjRow.inRange (r : ObjRow) (idx sub v : Nat) : Bool :=
  let x : Int := if r.signed then signedOf r.len v else v
  decide (v < 256 ^ r.len) && (isOctets idx sub r.len || (decide (r.least ≤ x) && decide (x ≤ r.greatest)))
    && specialRange idx sub v

/-- Modes in which the phase count and the carrier may be written (R195). -/
def Mach.carrierUnlocked (m : Mach) : Bool := m.inMode [.boot, .commission, .storage, .standby, .safeHold, .lockout]

/-- The machine with every write already accepted in force, those that wait for their boundary and those that wait for
their commit: what CONSISTENCY takes related objects from (R421 check 9). -/
def Mach.ahead (m : Mach) : Mach :=
  let a := m.each m.mbx.writes (fun w x => x.setPar w.idx w.sub w.value)
  a.each (m.nv.pending.flatMap (fun p => p.after)) (fun t x => match t with
    | .hostWrite _ _ vals => x.each vals (fun p y => y.setPar (p.1 / 256) (p.1 % 256) p.2)
    | _ => x)

/-- The four temperature derating points ascend strictly (R162). -/
def Mach.deratingOk (m : Mach) : Bool :=
  let t := fun i => signedOf 2 (m.parElem 0x240B 0 2 i)
  decide (t 0 < t 1) && decide (t 1 < t 2) && decide (t 2 < t 3)

/-- Rated current at most the peak limit, and that at most I_fs of every configured phase; what is 0 takes no part. -/
def Mach.currentsOk (m : Mach) : Bool :=
  let le := fun (a b : Nat) => a == 0 || b == 0 || decide (a ≤ b)
  le (m.par 0x2701 1) (m.par 0x260A 0)
    && (List.range (min 12 (m.par 0x2600 0))).all (fun k => le (m.par 0x260A 0) (m.par 0x2605 (k + 1)))

/-- Every BRS object of a channel has its TDC right under the channel's timing (R430). -/
def Mach.brsOk (m : Mach) (ch : Nat) : Bool :=
  objNumbers.all (fun k =>
    let e := m.canCfg k
    !(e.enabled && e.brs && e.chan == ch) || tdcOk (m.canDataTiming ch))

/-- The relations an object takes part in hold (R421 check 9); the machine has the values of the time of effect. -/
def Mach.relationOk (m : Mach) (idx sub v : Nat) : Bool :=
  match idx with
  | 0x240A => 1 < sub || decide (m.par 0x240A 0 < m.par 0x240A 1)
  | 0x240B => m.deratingOk
  | 0x2205 => decide (m.par 0x2205 1 ≤ m.par 0x2205 0)
  | 0x2501 => (sub != 1 && sub != 2) || decide (m.par 0x2501 2 < m.par 0x2501 1)
  | 0x2600 => m.currentsOk
  | 0x2601 =>
    if sub ≤ 1 then m.par 0x2601 1 != 1 || m.par 0x2601 0 % 1000 == 0
    else (sub != 2 && sub != 3) || decide (m.par 0x2601 2 < m.par 0x2601 3)
  | 0x2605 => m.currentsOk
  | 0x260A => m.currentsOk
  | 0x2701 => sub != 1 || m.currentsOk
  | 0x3002 =>
    let ch := (sub - 1) % 2
    timingRelation (m.canNominal ch) (m.canDataTiming ch) && m.brsOk ch
  | 0x3010 => m.canTableOk v
  | 0x3011 => (m.canCfg (sub - 1)).tx && (m.canCfg (sub - 1)).src == 0
  | _ => true

/-- The first failing check of a write by a session, 0 if it passes (R421); `own` are the values of its own set (R422).
A bootstrap session may write only the trust anchors (R458). -/
def Mach.writeCheck (m : Mach) (s : Session) (own : List WriteVal) (w : WriteVal) : Nat :=
  match m.served w.idx w.sub with
  | none => 0x10
  | some r =>
    if r.acc == .ro then 0x12
    else if s.role.code < r.acc.role || (s.bootstrap && !(w.idx == 0x3110 && w.sub == 0)) then 0x14
    else if r.acc == .rwe && s.unlock.isNone then 0x15
    else if w.idx == 0x2016 && s.iface != 0 then 0x1B
    else if w.len != r.len then 0x16
    else if !r.inRange w.idx w.sub w.value then 0x17
    else if (w.idx == 0x2600 || w.idx == 0x2601) && !m.carrierUnlocked then 0x19
    else if !(m.ahead.each (own ++ [w]) (fun v x => x.setPar v.idx v.sub v.value)).relationOk w.idx w.sub w.value then 0x18
    else 0

/-! ## Writes of request objects (R422, R423) -/

/-- An image header from its 512 bytes (R445). -/
def imgDecode (v : Nat) : ImgHeader :=
  let f := fun o n => v / 256 ^ o % 256 ^ n
  { magic := f 0 4, hdrVer := f 4 1, hwMin := f 5 1, hwMax := f 6 1, pairVer := f 7 1, fwVersion := f 8 4, secVer := f 12 2
    keySlot := f 14 1, revoke := f 15 1, bodyLen := f 16 4, entry := f 20 4, raw := v }

/-- A request with a condition of its own: done, or CONDITION. -/
def Mach.conditional (m : Mach) (ok : Bool) (f : Mach → Mach) : Mach :=
  if ok then (f m).emit (.writeStatus 0 m.fastEpoch) else m.emit (.writeStatus 0x21 0)

/-- A mode request through its object (R425): ACCEPTED with the boundary of R41. -/
def Mach.modeWrite (m : Mach) (f : Mach → Mach) : Mach :=
  let a := f m
  a.emit (.writeStatus a.mbx.modeStatus (if a.mbx.modeStatus = 1 then a.mbx.modeEffect else 0))

/-- Commissioning accept through its object (R57 C7, R60). -/
def Mach.acceptWrite (m : Mach) (role : Nat) : Mach :=
  if m.stepActive 7 then
    let a := m.acceptCommissioning role
    a.emit (.writeStatus (if a.mbx.modeStatus = 1 then 0 else a.mbx.modeStatus) a.mbx.modeEffect)
  else m.emit (.writeStatus 0x21 0)

/-- A SERVICE write of the reset request (R467): the staged records are committed, then the processor domain is reset. -/
def Mach.resetRequest (m : Mach) : Mach :=
  ((m.updSeed Seed.commitAll).emit (.writeStatus 0 m.fastEpoch)).procReset .request

/-- What the functions behind the objects of chapters 2, 12, 15, 16, 20 and 21 do with a write; none for a value that is
simply kept until its boundary. -/
def Mach.unitRequest (s : Session) (w : WriteVal) : Option (Mach → Mach) :=
  let role := s.role.code
  let v := w.value
  let yes := fun (f : Mach → Mach) => some (if v = 1 then f else id)
  match w.idx, w.sub with
  | 0x1100, 1 => some (fun m => m.modeWrite (fun x => x.modeRequest v role))
  | 0x2011, 1 => yes (fun m => m.conditional m.deferOk Mach.deferBaseline)
  | 0x2011, 2 => yes (fun m => m.acceptWrite role)
  | 0x2011, 5 => yes (fun m => m.conditional (m.mode.mode == .commission && m.mode.commFailed) Mach.stepRetry)
  | 0x2016, 0 => yes (fun m => m.armClear role (s.iface == 0))
  | 0x2A02, 0 => some (fun m => m.phaseRelease (v == 1))
  | 0x2A02, 1 => yes Mach.partnerAccept
  | 0x2D01, 0 => some (fun m => m.operatorWrite role (fun x => x.faultAck v))
  | 0x2D01, 1 => some (fun m => m.operatorWrite role (fun x => x.faultClear v))
  | 0x2D05, 0 => some (fun m => m.injectWrite (elemOf v 2 0) (elemOf v 1 2) (v / 256 ^ 3 % 65536) role)
  | 0x2E05, 0 => some (fun m => m.clearWrite v role s.iface s.cert)
  | 0x3101, 0 => some (fun m => m.imageHeader s.sid (imgDecode v) (bit w.crypto 0) (bit w.crypto 1) (bit w.crypto 2))
  | 0x3101, 1 => some (fun m => m.imageChunk s.sid (v % 2 ^ 32) (v / 2 ^ 32))
  | 0x3101, 3 => yes Mach.activate
  | 0x3101, 4 => yes Mach.confirm
  | 0x3201, 2 => yes Mach.resetRequest
  | _, _ => none

/-- What a write to an object that issues a plant command does (R280, R288). -/
def Mach.plantWrite (role : Nat) (w : WriteVal) : Option (Mach → Mach) :=
  let v := w.value
  match w.idx, w.sub with
  | 0x2209, 1 => some (fun m => m.plantRequest 4 0xFFFF (signedOf 4 v) 0 role)
  | 0x2904, 1 => some (fun m => m.plantRequest 2 0xFFFF (signedOf 4 v) 0 role)
  | 0x2905, 1 => some (fun m => m.plantRequest 6 0xFFFF 1 v role)
  | 0x2906, 1 => some (fun m => m.plantRequest 6 0xFFFF 2 v role)
  | 0x2907, 3 => some (fun m => m.plantRequest 3 m.stringId (signedOf 4 (elemOf v 4 0)) (signedOf 4 (elemOf v 4 1)) role)
  | 0x2908, 0 => some (fun m => m.plantRequest 1 (elemOf v 2 0) (elemOf v 1 2) 0 role)
  | 0x2908, 1 => some (fun m => m.plantRequest 5 (elemOf v 2 0) (elemOf v 2 1) 0 role)
  | _, _ => none

/-- The request a write makes, if its object is a request object. -/
def requestOf (s : Session) (w : WriteVal) : Option (Mach → Mach) :=
  match Mach.unitRequest s w with
  | some f => some f
  | none => Mach.plantWrite s.role.code w

/-- The status and EFFECT a request has emitted; without one it is done in the running fast epoch. -/
def lastStatus (l : List Out) (epoch : Nat) : Nat × Nat :=
  l.foldl (fun a o => match o with
    | .writeStatus st e => (st, e)
    | _ => a) (0, epoch)

/-- Status and EFFECT of a request made now. -/
def Mach.outcomeOf (m : Mach) (f : Mach → Mach) : Nat × Nat := lastStatus (f { m with out := [] }).out m.fastEpoch

/-- A request status that lets a write stand: OK or ACCEPTED. -/
def statusOk (st : Nat) : Bool := st == 0 || st == 1

/-! ## Accepting writes (R421 to R423) -/

/-- A write to an RWE object has been accepted: the session's expert unlock runs on (R415). -/
def Mach.keepUnlock (m : Mach) (sid : Nat) (w : WriteVal) : Mach :=
  match objFind w.idx w.sub with
  | none => m
  | some r =>
    if r.acc == .rwe then m.updSession sid (fun s => { s with unlock := match s.unlock with
      | none => none
      | some _ => some m.now })
    else m

/-- A value is kept in the nonvolatile store (R402). -/
def WriteVal.nv (w : WriteVal) : Bool :=
  match objFind w.idx w.sub with
  | none => false
  | some r => r.nv

/-- The key and value of a write. -/
def WriteVal.pair (w : WriteVal) : Nat × Nat := (objKey w.idx w.sub, w.value)

/-- Accepted values take effect at the next fast-epoch boundary, in order of acceptance (R423). -/
def Mach.deferWrites (m : Mach) (sid : Nat) (vals : List (Nat × Nat)) : Mach :=
  m.updMbx (fun x => { x with
    writes := x.writes ++ vals.map (fun p =>
      { sid := sid, idx := p.1 / 256, sub := p.1 % 256, value := p.2, effect := m.fastEpoch + 1 }) })

/-- Bytes of the answer to an accepted WRITE (0x12) or WRITE_SET (R411). -/
def acceptBody (cmd effect : Nat) : List Nat := u64 effect ++ (if cmd = 0x13 then u16 0xFFFF ++ u16 0 else [])

/-- An accepted write is answered. -/
def Mach.respondWrite (m : Mach) (sid cmd status effect : Nat) : Mach :=
  m.respond sid { cmd := cmd, status := status, body := acceptBody cmd effect, streamed := none } 0

/-- Trust anchors a table holds (R458). -/
def anchorCount (v : Nat) : Nat := ((List.range 4).filter (fun k => elemOf v 97 k != 0)).length

/-- What follows the commit of written values: a changed J5 address (R426), ANCHORS_CHANGED (R460), the answer (R421). -/
def writeAfters (s : Session) (cmd : Nat) (ws : List WriteVal) : List After :=
  (if ws.any (fun w => w.idx == 0x1400 && decide (w.sub ≤ 4)) then [.addrConfig] else [])
    ++ ((ws.filter (fun w => w.idx == 0x3110 && w.sub == 0)).map (fun w =>
        After.record 0x0907 0 (u8 (anchorCount w.value) ++ u8 (ofBool s.bootstrap))))
    ++ [.hostWrite s.sid cmd (ws.map WriteVal.pair)]

/-- Accepted values that are no requests: the NV ones are committed as one transaction and answered after it (R397, R401,
R421), the others at once. -/
def Mach.acceptValues (m : Mach) (s : Session) (cmd : Nat) (ws : List WriteVal) : Mach :=
  let nv := ws.filter WriteVal.nv
  if nv.isEmpty then
    (m.deferWrites s.sid (ws.map WriteVal.pair)).respondWrite s.sid cmd 0 (m.fastEpoch + 1)
  else m.store (nv.map (fun w => .param (objKey w.idx w.sub) w.value)) (writeAfters s cmd ws)

/-- A request is made and answered; one that resets the processor domain is answered before it. -/
def Mach.makeRequest (m : Mach) (sid cmd : Nat) (f : Mach → Mach) : Mach :=
  let o := m.outcomeOf f
  let answer := fun (x : Mach) => if statusOk o.1 then x.respondWrite sid cmd o.1 o.2 else x.respondStatus sid cmd o.1
  let a := f m
  if (a.session sid).isSome then answer a else f (answer m)

/-- A WRITE (R421): checked, then a request of its function or a value for its boundary. -/
def Mach.write (m : Mach) (sid : Nat) (w : WriteVal) : Mach :=
  match m.session sid with
  | none => m
  | some s =>
    let st := m.writeCheck s [] w
    if st != 0 then m.respondStatus sid 0x12 st
    else match requestOf s w with
      | some f =>
        if statusOk (m.outcomeOf f).1 then (m.keepUnlock sid w).makeRequest sid 0x12 f else m.makeRequest sid 0x12 f
      | none => (m.keepUnlock sid w).acceptValues s 0x12 [w]

/-- A host's write of one value in a WRITE frame. -/
def Mach.writeFrame (m : Mach) (f : MbxFrame) (w : WriteVal) : Mach := m.onRequest 0x12 f (fun x => x.write f.sid w)

def execWrite (f : MbxFrame) (w : WriteVal) (s : State) : Host.Outcome State Fault Refusal :=
  onProc (fun m => m.writeFrame f w) s

/-- Status of one entry of a WRITE_SET (R422): its checks with the set's own values, an object named twice, and what its
function would answer. -/
def Mach.entryStatus (m : Mach) (s : Session) (ws : List WriteVal) (i : Nat) (w : WriteVal) : Nat :=
  let st := m.writeCheck s (ws.filter (fun x => (m.served x.idx x.sub).isSome)) w
  if st != 0 then st
  else if (ws.take i).any (fun x => x.idx == w.idx && x.sub == w.sub) then 0x18
  else match requestOf s w with
    | none => 0
    | some f =>
      let r := (m.outcomeOf f).1
      if statusOk r then 0 else r

/-- The first failing entry of a set with its status. -/
def Mach.firstFail (m : Mach) (s : Session) (ws : List WriteVal) : Nat → List WriteVal → Option (Nat × Nat)
  | _, [] => none
  | i, w :: t =>
    let st := m.entryStatus s ws i w
    if st != 0 then some (i, st) else m.firstFail s ws (i + 1) t

/-- A WRITE_SET (R422): all entries or none. Requests act now, the values at one common boundary; EFFECT is that boundary,
or of a set of requests alone the last request's. EFFECT of a refused set is not stated (log entry 6). -/
def Mach.writeSet (m : Mach) (sid : Nat) (ws : List WriteVal) : Mach :=
  match m.session sid with
  | none => m
  | some s =>
    if ws.isEmpty || 64 < ws.length then m.respondStatus sid 0x13 0x17
    else match m.firstFail s ws 0 ws with
      | some (i, st) =>
        m.nextFree.respond sid { cmd := 0x13, status := st, streamed := none
                                 body := u64 (Config.freeNat m.freeCtr) ++ u16 i ++ u16 0 } 0
      | none =>
        let a := m.each ws (fun w x => x.keepUnlock sid w)
        let vals := ws.filter (fun w => (requestOf s w).isNone)
        let reqs := ws.filterMap (fun w => requestOf s w)
        let act := fun (x : Mach) => x.each reqs (fun f y => f y)
        if vals.isEmpty then a.makeRequest sid 0x13 act
        else
          let b := act a
          if (b.session sid).isSome then b.acceptValues s 0x13 vals else act (a.acceptValues s 0x13 vals)

def execWriteSet (f : MbxFrame) (ws : List WriteVal) (s : State) : Host.Outcome State Fault Refusal :=
  onProc (fun m => m.onRequest 0x13 f (fun x => x.writeSet f.sid ws)) s

/-! ## Objects with a row of their own -/

/-- Expert unlock, 0x1200.01 (R415). -/
def execExpertUnlock (f : MbxFrame) (value : Nat) (s : State) : Host.Outcome State Fault Refusal :=
  onProc (fun m => m.writeFrame f { idx := 0x1200, sub := 1, len := 1, value := value }) s

/-- The data of message object k, 0x3011 (R433). -/
def execCanObjectDataWrite (f : MbxFrame) (k value : Nat) (s : State) : Host.Outcome State Fault Refusal :=
  onProc (fun m => m.writeFrame f { idx := 0x3011, sub := k + 1, len := 64, value := value }) s

/-- The message object table, 0x3010.00 (R432). -/
def execCanObjectTableWrite (f : MbxFrame) (value : Nat) (s : State) : Host.Outcome State Fault Refusal :=
  onProc (fun m => m.writeFrame f { idx := 0x3010, sub := 0, len := 2048, value := value }) s

/-- Object resume, 0x3013.00 (R440). -/
def execCanObjectResume (f : MbxFrame) (k : Nat) (s : State) : Host.Outcome State Fault Refusal :=
  onProc (fun m => m.writeFrame f { idx := 0x3013, sub := 0, len := 1, value := k }) s

/-- An image header, 0x3101.00 (R447). -/
def execImageHeader (f : MbxFrame) (value crypto : Nat) (s : State) : Host.Outcome State Fault Refusal :=
  onProc (fun m => m.writeFrame f { idx := 0x3101, sub := 0, len := 512, value := value, crypto := crypto }) s

/-- An image chunk, 0x3101.01 (R448): CHUNK, then its 65,536 bytes. -/
def execImageChunk (f : MbxFrame) (value : Nat) (s : State) : Host.Outcome State Fault Refusal :=
  onProc (fun m => m.writeFrame f { idx := 0x3101, sub := 1, len := 65540, value := value }) s

/-- Activate, 0x3101.03 (R450). -/
def execActivate (f : MbxFrame) (s : State) : Host.Outcome State Fault Refusal :=
  onProc (fun m => m.writeFrame f { idx := 0x3101, sub := 3, len := 1, value := 1 }) s

/-- Confirm, 0x3101.04 (R452). -/
def execConfirm (f : MbxFrame) (s : State) : Host.Outcome State Fault Refusal :=
  onProc (fun m => m.writeFrame f { idx := 0x3101, sub := 4, len := 1, value := 1 }) s

/-- The trust anchors, 0x3110.00 (R458). -/
def execTrustAnchorsWrite (f : MbxFrame) (value : Nat) (s : State) : Host.Outcome State Fault Refusal :=
  onProc (fun m => m.writeFrame f { idx := 0x3110, sub := 0, len := 388, value := value }) s

/-- Reset request, 0x3201.02 (R467). -/
def execResetRequest (f : MbxFrame) (s : State) : Host.Outcome State Fault Refusal :=
  onProc (fun m => m.writeFrame f { idx := 0x3201, sub := 2, len := 1, value := 1 }) s

/-! ## Effect (R423) -/

/-- Counter select codes as written (R509): a counter whose code changes is set to 0. -/
def Mach.setSelect (m : Mach) (v : Nat) : Mach :=
  m.updObs (fun o =>
    let codes := (List.range 256).map (fun k => (k, elemOf v 2 k))
    { o with
      select := codes.filter (fun p => p.2 != 0)
      counters := codes.foldl (fun a p => if p.2 == aget o.select p.1 0 then a else adel a p.1) o.counters })

/-- The number of coolant units as written (R359): a unit out of configuration keeps no loss. -/
def Mach.setUnits (m : Mach) (n : Nat) : Mach :=
  (m.updTherm (fun t => { t with
    unitLost := (List.range 4).map (fun u => nth t.unitLost u false && decide (u < n))
    unitAt := (List.range 4).map (fun u => if u < n then nth t.unitAt u none else none) })).noteDegraded

/-- What a parameter in force brings with it. -/
def Mach.parEffect (m : Mach) (idx sub v : Nat) : Mach :=
  match idx with
  | 0x2011 => (m.updMode (fun x => { x with c1Written := setBit x.c1Written (sub - 3) true })).stepC1
  | 0x2105 => m.updChain (fun c => { c with configDue := true })
  | 0x2106 => m.updChain (fun c => { c with configDue := true })
  | 0x2501 => if sub = 0 && v = 0 then m.updBal (fun b => { b with zeroDue := true }) else m
  | 0x2600 => (m.updPwm (fun p => { p with settingsDue := true })).applySettings
  | 0x2601 => (m.updPwm (fun p => { p with settingsDue := true })).applySettings
  | 0x2C07 => if sub = 0 then m.setUnits v else m
  | 0x3001 => m.canRestartDue (sub - 1)
  | 0x3002 => m.canRestartDue ((sub - 1) % 2)
  | 0x3010 => m.canTableEffect
  | 0x3202 => m.updClk (fun c => { c with spread := v })
  | 0x3300 => m.updObs (fun o => { o with enabled := v == 1 })
  | 0x3302 => m.setSelect v
  | _ => m

/-- A write is in force: at its own place, or in the parameter store with what it brings. -/
def Mach.inForce (m : Mach) (w : PendWrite) : Mach :=
  match w.idx with
  | 0x1200 => m.updSession w.sid (fun s => { s with unlock := if w.value = 1 then some m.now else none })
  | 0x2341 => if w.value = 1 then m.baselineRequest else m
  | 0x3011 => m.canHostData (w.sub - 1) (leBytes 64 w.value)
  | 0x3013 => m.canResume w.value
  | 0x2017 =>
    if w.sub = 0 then m.updMode (fun x => { x with taskReq := w.value }) else m.setPar w.idx w.sub w.value
  | _ => (m.setPar w.idx w.sub w.value).parEffect w.idx w.sub w.value

/-- At a fast-epoch boundary the writes whose boundary it is take effect, in order of acceptance (R423). -/
def Mach.writeEffect (m : Mach) : Mach :=
  let due := m.mbx.writes.filter (fun w => decide (w.effect ≤ m.fastEpoch))
  (m.updMbx (fun x => { x with writes := x.writes.filter (fun w => !decide (w.effect ≤ m.fastEpoch)) })).each due
    (fun w x => x.inForce w)

def execWriteEffect (s : State) : Host.Outcome State Fault Refusal := onProc Mach.writeEffect s

/-- What follows a commit (R398, R401, R421, R426). -/
def Mach.performAfter (m : Mach) (a : After) : Mach :=
  match a with
  | .record code source params => m.record code source params
  | .addrConfig => m.updMbx (fun x => { x with addrAt := some m.now })
  | .hostWrite sid cmd vals =>
    let b := (m.deferWrites sid vals).respondWrite sid cmd 0 (m.fastEpoch + 1)
    -- a bootstrap session ends when its write of the anchors commits (R458)
    b.when ((m.session sid).any (fun s => s.bootstrap)) (fun x => x.endSession sid)

end Sys2Proof.Machine
end

