-- ==== Sys2Proof/Machine/NvStore.lean ====
section
/-! DEFINITION. Meanings of the commands of chapter 17, Nonvolatile Store (R392 to R406): commits and compaction. The
brown-out flush is in Clocks.lean, replay in Store.lean. -/

namespace Sys2Proof.Machine

/-- The oldest pending transaction is committed by its MARK (R397), with what follows the commit. -/
def Mach.commitPending (m : Mach) : Mach :=
  match m.nv.pending with
  | [] => m
  | p :: t => (m.updNv (fun n => ({ n with pending := t } : Nv).write p.items true)).each p.after (fun a x => x.performAfter a)

/-- JOURNAL_COMMIT: none after the flush (R401); a write that would enter the reserve waits for a compaction (R400), except
during the flush. -/
def Mach.journalCommit (m : Mach) : Mach :=
  match m.nv.pending with
  | [] => m
  | p :: _ =>
    if m.nv.flushed then m
    else if !m.nv.flushing && m.nv.blocked p.items then m.updNv (fun n => { n with reserveWait := true })
    else m.commitPending

def execJournalCommit (s : State) : Host.Outcome State Fault Refusal := onProc Mach.journalCommit s

/-- Compaction is due (R399): the journal has reached 75 % of 640 KiB, or 1 h has passed since the last one. -/
def Mach.compactionDue (m : Mach) : Bool :=
  decide (3 * journalBytes ≤ 4 * m.nv.fillBytes) || decide (m.nv.compAt + 3600 * second ≤ m.fabTime)

/-- Compaction starts (R399 step 1); a brown-out warning suspends it (R473). -/
def Mach.compactionStart (m : Mach) : Mach :=
  if m.compactionDue && m.nv.compact.isNone && !m.nv.flushed && !m.clk.warning then
    m.updNv (fun n => { n with compact := some (n.rseq, m.fabTime) })
  else m

def execCompactionStart (s : State) : Host.Outcome State Fault Refusal := onProc Mach.compactionStart s

/-- The journal split after the transaction of an RSEQ: what a compaction covers, and what stays. -/
def splitAt (r : Nat) : List Txn → List Txn × List Txn
  | [] => ([], [])
  | t :: l =>
    if t.rseq = r then ([t], l)
    else match splitAt r l with
      | ([], _) => ([], t :: l)
      | (c, rest) => (t :: c, rest)

/-- The new base is active (R399 steps 2 to 4): every key's value as of R_c, GEN + 1, HEAD after R_c, in both superblock copies
(R394). -/
def Nv.compacted (n : Nv) (rc now : Nat) : Nv :=
  let (covered, rest) := splitAt rc n.journal
  let sb : Superblock := { gen := (n.gen + 1) % 2 ^ 32, active := 1 - n.active
                           head := (n.head + covered.foldl (fun a t => a + t.bytes) 0) % journalBytes, headRseq := rseqAdd rc 1 }
  { n with
    base := mergeItems n.base ((covered.filter Txn.valid).flatMap (fun t => t.items)), baseBad := []
    journal := rest, superA := sb, superB := sb, gen := sb.gen, active := sb.active, head := sb.head, headRseq := sb.headRseq
    compAt := now, nComp := satInc n.nComp, compact := none, reserveWait := false }

/-- A compaction that runs completes. -/
def Mach.compactionDone (m : Mach) : Mach :=
  match m.nv.compact with
  | none => m
  | some (rc, _) => m.updNv (fun n => n.compacted rc m.fabTime)

def execCompactionComplete (s : State) : Host.Outcome State Fault Refusal := onProc Mach.compactionDone s

end Sys2Proof.Machine
end

