-- ==== Sys2Proof/Machine/Clocks.lean ====
section
/-! DEFINITION. Meanings of the commands of chapter 21, Clocks, Reset and Module Power (R463 to R478): clock failure, the
reset inputs, the watchdog, and the supply. -/

namespace Sys2Proof.Machine

/-! ## Clocks (R466) -/

/-- Lock is lost or the 20 MHz branch is out of its window for 100 µs: PWM off, the processor domain held in reset. -/
def Mach.clockFailed (m : Mach) : Mach :=
  if m.clk.clockFail || !m.clk.powered then m
  else (m.procReset .clockFail).updClk (fun c => { c with pllLocked := false, clockFail := true, foxRc := true })

def execClockFail (s : State) : Host.Outcome State Fault Refusal := onFox Mach.clockFailed s

/-- 10 ms after the PLL has regained lock the hold ends; PROCESSOR_DOMAIN_RELEASE follows. -/
def Mach.clockBack (m : Mach) : Mach :=
  if m.clk.clockFail then m.updClk (fun c => { c with pllLocked := m.clk.powered, clockFail := false, foxRc := false })
  else m

def execClockRecovery (s : State) : Host.Outcome State Fault Refusal := onFox Mach.clockBack s

/-! ## Reset inputs (R469 to R471) -/

/-- A qualified press resets the processor domain and holds it while the input stays pressed (R469 step 2). -/
def Mach.pressReset (m : Mach) (btn held : Bool) : Mach :=
  let q := m.clk.qualifying
  (m.procReset (if btn then .resetButton else .resetN)).updClk (fun c => { c with
    buttonHeld := c.buttonHeld || (btn && held), resetNHeld := c.resetNHeld || (!btn && held)
    qualifying := q && !(btn && held) })

/-- A press qualified past 20 µs: it acts, or while a warning stands and the store is not flushed it is deferred (R471). -/
def Mach.press (m : Mach) (btn : Bool) : Mach :=
  let a := m.updClk (fun c => if btn then { c with button := some m.now } else { c with resetN := some m.now })
  if m.clk.warning && !m.nv.flushed && m.clk.procRunning then
    a.updClk (fun c => { c with deferred := c.deferred ++ [(if btn then 0 else 1, m.now)], qualifying := c.qualifying && !btn })
  else a.pressReset btn true

/-- A release: before 10 s the processor domain is released, and from the button it is a qualifying press for R48 and R458. -/
def Mach.unpress (m : Mach) (btn : Bool) (t : Nat) : Mach :=
  let quick := !m.elapsed t (10 * second)
  m.updClk (fun c =>
    if btn then { c with button := none, buttonHeld := false, qualifying := quick
                         bootstrap := if quick then some m.now else c.bootstrap }
    else { c with resetN := none, resetNHeld := false })

/-- The front button pressed or released: a stuck one is ignored, its open time noted (R470). -/
def Mach.button (m : Mach) (pressed : Bool) : Mach :=
  if !m.clk.powered then m
  else if m.clk.buttonStuck then
    m.updClk (fun c => { c with button := none, buttonOpen := if pressed then none else some m.now })
  else match pressed, m.clk.button with
    | true, none => m.press true
    | false, some t => m.unpress true t
    | _, _ => m

def execResetButton (pressed : Bool) (s : State) : Host.Outcome State Fault Refusal := onFox (fun m => m.button pressed) s

/-- RESET_N low or high. -/
def Mach.resetNPin (m : Mach) (low : Bool) : Mach :=
  if !m.clk.powered then m
  else if m.clk.resetNStuck then
    m.updClk (fun c => { c with resetN := none, resetNOpen := if low then none else some m.now })
  else match low, m.clk.resetN with
    | true, none => m.press false
    | false, some t => m.unpress false t
    | _, _ => m

def execResetN (low : Bool) (s : State) : Host.Outcome State Fault Refusal := onFox (fun m => m.resetNPin low) s

/-- An input pressed for 10 s is stuck (R469 step 4, R470): released, flagged, recorded with its duration in ms. -/
def Mach.inputStuck (m : Mach) (btn : Bool) : Mach :=
  match (if btn then m.clk.button else m.clk.resetN) with
  | none => m
  | some t =>
    if m.elapsed t (10 * second) then
      (m.updClk (fun c =>
        let d := { c with lastCause := .stuckRelease, stuckNew := c.stuckNew + 1 }
        if btn then { d with button := none, buttonHeld := false, buttonStuck := true, buttonOpen := none }
        else { d with resetN := none, resetNHeld := false, resetNStuck := true, resetNOpen := none })).foxRecord 0x0106 0
        (u32 (m.age t / milli))
    else m

def execResetInputStuck (button : Bool) (s : State) : Host.Outcome State Fault Refusal := onFox (fun m => m.inputStuck button) s

/-- A stuck input seen open for 1 s without a break is live again (R470). -/
def Mach.stuckClear (m : Mach) (btn : Bool) : Mach :=
  if btn then
    if m.elapsed? m.clk.buttonOpen second then m.updClk (fun c => { c with buttonStuck := false, buttonOpen := none }) else m
  else if m.elapsed? m.clk.resetNOpen second then m.updClk (fun c => { c with resetNStuck := false, resetNOpen := none })
  else m

def execStuckInputClear (button : Bool) (s : State) : Host.Outcome State Fault Refusal := onFox (fun m => m.stuckClear button) s

/-- Neither K0 nor Walnut has written its key for 100 ms (R467). -/
def execWatchdogReset (s : State) : Host.Outcome State Fault Refusal := onProc (fun m => m.procReset .watchdog) s

/-! ## The supply (R472 to R475) -/

/-- The converter cap at a warning (R473): the values of the last outer period, 0 where no outer loop runs. -/
def Mach.capConverter (m : Mach) : Mach :=
  let on := m.conv.loop != .none
  m.updClk (fun c => { c with
    capped := true, capRef := if on then absQ m.conv.iRef else 0, capLo := if on then m.conv.lo else 0
    capHi := if on then m.conv.hi else 0 })

/-- The store abandons its compaction and flushes (R401). -/
def Nv.startFlush (n : Nv) (now : Nat) : Nv :=
  { n with compact := none, nAband := if n.compact.isSome then satInc n.nAband else n.nAband, flushing := true, flushAt := now }

/-- The supply falls below 16.5 V (R473); a warning before the recovery is complete is the same dip (R474). -/
def Mach.brownOut (m : Mach) (low : Nat) : Mach :=
  if m.clk.warning || !m.clk.powered then m
  else
    let a := (m.updClk (fun c => { c with warning := true, warnAt := m.now, dipLow := low })).capConverter
    a.when m.clk.procRunning (fun x => (x.discardBin false).updNv (fun n => n.startFlush m.now))

def execBrownOutWarning (low : Nat) (s : State) : Host.Outcome State Fault Refusal := onFox (fun m => m.brownOut low) s

/-- The presses that waited for the flush act (R471). -/
def Mach.deferredPress (m : Mach) : Mach :=
  m.each m.clk.deferred (fun p x =>
    x.pressReset (p.1 == 0) (if p.1 = 0 then x.clk.button.isSome else x.clk.resetN.isSome))

/-- A press is deferred for at most 3 ms (R471). -/
def Mach.deferredDue (m : Mach) : Mach :=
  if m.clk.deferred.any (fun p => m.elapsed p.2 (3 * milli)) then m.deferredPress else m

/-- The flush (R401 steps 2 to 5): the staged records, every pending write, the brown-out set; then FLUSHED. -/
def Mach.flush (m : Mach) (dur : Nat) : Mach :=
  let a := m.updSeed Seed.commitAll
  let b := a.each a.nv.pending (fun _ x => x.commitPending)
  let c := b.updNv (fun n => { n with nFlush := satInc n.nFlush, flushDur := dur })
  c.updNv (fun n => { n.write c.brownSet true with
    countsEver := true, countsTime := m.meas.rxTime, lastTime := m.fabTime, flushed := true, flushing := false })

/-- The flush completes; a deferred press acts (R471). -/
def Mach.flushDone (m : Mach) (dur : Nat) : Mach :=
  if m.nv.flushing then (m.flush dur).deferredPress else m

def execBrownOutFlushDone (dur : Nat) (s : State) : Host.Outcome State Fault Refusal := onProc (fun m => m.flushDone dur) s

/-- The supply has held above 17.5 V for 1 ms (R474): the cap is lifted, FLUSHED clears, SUPPLY_DIP is written. -/
def Mach.supplyBack (m : Mach) (low time : Nat) : Mach :=
  if !m.clk.warning then m
  else
    let v := min m.clk.dipLow low
    let a := m.updClk (fun c => { c with
      warning := false, capped := false, dipLow := v, nDips := if c.procRunning then satInc c.nDips else c.nDips })
    (a.updNv (fun n => { n with flushed := false, flushing := false })).record 0x0107 0 (u16 v ++ u32 time)

def execSupplyRecovery (low time : Nat) (s : State) : Host.Outcome State Fault Refusal := onFox (fun m => m.supplyBack low time) s

/-- The supply falls to 13.5 V (R475); a transaction being written may lie in the journal without its MARK (R397). -/
def Mach.powerFail (m : Mach) (torn : Bool) : Mach :=
  match torn && m.clk.procRunning && !m.nv.flushed, m.nv.pending with
  | true, p :: _ => (m.updNv (fun n => n.write p.items false)).powerDown
  | _, _ => m.powerDown

def execPowerFail (torn : Bool) (s : State) : Host.Outcome State Fault Refusal := onFox (fun m => m.powerFail torn) s

/-- The supply rises above 32.5 V, or falls below it (R472). -/
def execSupplyHigh (high : Bool) (s : State) : Host.Outcome State Fault Refusal :=
  onFox (fun m => m.updClk (fun c => { c with supplyHigh := high })) s

end Sys2Proof.Machine
end

