-- ==== Sys2Proof/Machine/Observation.lean ====
section
/-! DEFINITION. Meaning of the command of chapter 24, Observation Port and Counters (R504 to R510): a record enters the
trace queue, and the port sends. What the rest of the model traces and counts goes through Record.lean. -/

namespace Sys2Proof.Machine

/-- The LOST record that follows dropped ones as soon as space exists (R508): records dropped, in 16 bits; its SRC is not
stated (log entry 6). -/
def Obs.lostRecord (o : Obs) (time : Nat) : Obs :=
  if o.dropped = 0 || 256 ≤ o.queue.length then o
  else { o with
    queue := o.queue ++ [{ type := 7, src := Config.freeNat time % 256, tseq := o.tseq, time := time % 2 ^ 32
                           data := padTo 6 (u16 (min 65535 o.dropped)) }]
    tseq := (o.tseq + 1) % 256, dropped := 0 }

/-- The port sends the oldest record (R506); nothing while trace is suspended (R473, R508). -/
def Mach.sendTrace (m : Mach) : Mach :=
  if !m.obs.enabled || m.clk.warning then m
  else match m.obs.queue with
    | [] => m
    | t :: l => (m.updObs (fun o => ({ o with queue := l, nSent := satInc o.nSent }).lostRecord m.fabTime)).emit (.traceSent t)

/-- The 14 bytes of a trace record before its TCRC (R506). -/
def Trace.body (t : Trace) : List Nat := u8 0xA5 ++ u8 t.type ++ u8 t.src ++ u8 t.tseq ++ u32 t.time ++ padTo 6 t.data

/-- A record of a type enters the queue, or none does, and the port sends its next one. -/
def execTraceRecord (entry : Option (Nat × Nat × List Nat)) (s : State) : Host.Outcome State Fault Refusal :=
  onProc (fun m => (match entry with
    | none => m
    | some (type, src, data) => m.trace type src data).sendTrace) s

end Sys2Proof.Machine
end

