-- ==== Sys2Proof/Machine/Boot.lean ====
section
/-! DEFINITION. Meanings of the commands of the power-up ladder (chapter 2, R54 to R56, R61; R48, R103, R384, R403, R451):
power-on, the release of the processor domain, and the exit from BOOT. -/

namespace Sys2Proof.Machine

/-! ## Power-on (R54 steps 1 and 2) -/

/-- The loop port's role at step 2 (R92): SOURCE in a single module and in role A unless 6 mA already arrive. -/
def Mach.loopRole (m : Mach) (arrives : Bool) : Mach :=
  m.updChain (fun c => { c with loopSource := !m.paired || (m.isA && !arrives), loopSet := true })

/-- Power-on reset releases (R54): Foxglove reads SW1 to SW5 and the cover, loads the profile and takes its loop role; an
open cover or SW3-8 ON is a seal event (R327). -/
def Mach.powerOn (m : Mach) (sw1 sw2 sw3 : Nat) (cover : Bool) (sw4 sw5 : Nat) (pcrcOk arrives : Bool) : Mach :=
  if m.clk.powered && m.saf.switchesRead then m
  else
    let a := (m.updClk (fun c => { c with powered := true })).updSaf (fun s => { s with
      sw1 := sw1, sw2 := sw2, sw3 := sw3, cover := cover, switchesRead := true, profile := sw1
      profileOk := pcrcOk && (profileOf sw1).isSome })
    let b := (a.updFab (fun f => { f with sw4 := sw4, sw5 := sw5 })).loopRole arrives
    let c := (b.when (!cover) (fun x => x.sealEvent 16)).when (bit sw3 7) (fun x => x.sealEvent 17)
    c.when (c.pwm.ft != 0 && !c.pwm.latch) (fun x => x.setLatch x.pwm.ft)

def execPowerOnResetRelease (sw1 sw2 sw3 : Nat) (cover : Bool) (sw4 sw5 : Nat) (pcrcOk arrives : Bool) (s : State) :
    Host.Outcome State Fault Refusal :=
  onFox (fun m => m.powerOn sw1 sw2 sw3 cover sw4 sw5 pcrcOk arrives) s

/-! ## Release of the processor domain (R54 steps 3 to 8, R56) -/

/-- Nothing holds the processor domain (R466 to R470), and Foxglove has read the switches. -/
def Mach.canRelease (m : Mach) : Bool :=
  m.clk.powered && m.saf.switchesRead && !m.clk.procRunning && !m.clk.buttonHeld && !m.clk.resetNHeld && !m.clk.clockFail

/-- The processor domain runs: fabric time counts from the last one committed (R249), untraceable. -/
def Mach.startDomain (m : Mach) : Mach :=
  let a := m.updClk (fun c => { c with procRunning := true, pllLocked := true, firstBoot := false })
  ({ a with fabBase := (m.nv.lastTime : Int) - (m.now : Int) }).updFab (fun f => { f with untraceable := true })

/-- The resets counted by this BOOT (R467, R470, R466), and a compaction the reset interrupted (R399). -/
def Mach.countResets (m : Mach) (first : Bool) : Mach :=
  let one := fun (b : Bool) (n : Nat) => if b then satInc n else n
  (m.updClk (fun c => { c with
    resets := one (!first) c.resets, nWatchdog := one (c.lastCause == .watchdog) c.nWatchdog
    nClock := one (c.lastCause == .clockFail) c.nClock, nStuck := satAdd c.nStuck c.stuckNew, stuckNew := 0 })).updNv
    (fun n => { n with nAband := one n.compact.isSome n.nAband, compact := none })

/-- The tests of steps 5 to 7 as the boot self-test result (R61): a damaged journal and an unusable profile record set their
own bits; ALT_SLOT stays as the boot ROM left it. -/
def Mach.bootTests (m : Mach) (tests : Nat) : Mach :=
  let bad := bit tests 5 || !m.saf.profileOk
  let r := setBit (tests % 128) 5 bad + bitIf 7 m.nv.replayError + bitIf 8 (bit m.mode.bootResult 8)
  (m.updMode (fun x => { x with bootResult := r })).updSaf (fun s => { s with profileMismatch := bad, samplerFrom := m.now })

/-- One REPLAY_DAMAGED record for a region that holds damaged records (R384). -/
def Mach.damagedRegion (m : Mach) (region count : Nat) : Mach :=
  if count = 0 then m
  else (m.updSeed (fun d => { d with nDamaged := satAdd d.nDamaged count })).record 0x0802 region (u16 count)

/-- The recorder's replay (R384): damaged slots stay in place, marked and counted. -/
def Mach.seedReplay (m : Mach) (r : BootReport) : Mach :=
  let mark := fun (bad : List Nat) (x : SeedRec) => { x with damaged := x.damaged || bad.contains x.seq }
  let a := m.updSeed (fun d => { d with
    vault := d.vault.map (mark r.badVault), ring := d.ring.map (mark r.badRing)
    ledger := d.ledger.map (fun p => (p.1, { p.2 with damaged := p.2.damaged || r.badLedger.contains p.2.lseq }))
    snaps := d.snaps.map (fun p => (p.1, { p.2 with damaged := p.2.damaged || r.badSnaps.contains p.1 })) })
  let n := fun (l : List SeedRec) => (l.filter (fun x => x.damaged)).length
  (((a.damagedRegion 0 (n a.seed.vault)).damagedRegion 1 (n a.seed.ring)).damagedRegion 2
    (a.seed.ledger.filter (fun p => p.2.damaged)).length).damagedRegion 3
    (a.seed.snaps.filter (fun p => p.2.damaged)).length

/-- The charge counts after a power-on (R103, R154): they start from 0, and s_rep = s_int; a history is reported as CHARGE_GAP
and bridged, by the partner's state where it was in service. -/
def Mach.chargeStart (m : Mach) (gap : Nat) : Mach :=
  let a := m.updEst (fun e => { e with
    usedD := 0, usedC := 0, thrCounts := 0, groups := e.groups.map (fun p => (p.1, { p.2 with sRep := p.2.s }))
    strRep := if e.groups.isEmpty then e.strRep else strSoc (e.groups.map (fun p => (p.2.s, p.2.c))) })
  if !m.nv.countsEver then a.updMeas (fun x => { x with gap := 0 })
  else
    let b := (a.updMeas (fun x => { x with gap := gap, chargeGap := true })).record 0x0502 0 (u32 (gap / milli))
    if m.paired && m.pair.hbPresent then b.updEst (fun e => { e with
      bridged := e.bridged || e.running, nBridged := satInc e.nBridged })
    else
      let c := b.bridgePowerOn gap
      c.updEst (fun e => { e with strRep := if e.groups.isEmpty then e.strRep else strSoc (e.groups.map (fun p => (p.2.s, p.2.c))) })

/-- Settings that act from the store once it is replayed (R195, R407, R464, R508, R509). -/
def Mach.bootSettings (m : Mach) : Mach :=
  let a := ((m.updPwm (fun p => { p with settingsDue := true })).applySettings).setSelect (m.par 0x3302 0)
  let b := (a.updObs (fun o => { o with enabled := a.parB 0x3300 0 })).updClk (fun c => { c with spread := a.par 0x3202 0 })
  b.updMbx (fun x => { x with ipv4 := b.addrInForce 0 })

/-- A qualifying press came while the arm stood (R48). -/
def Mach.onSite (m : Mach) : Bool :=
  m.clk.qualifying && m.mode.lockout.isSome && (match m.clk.arm with
    | none => false
    | some t => !m.elapsed t (300 * second))

/-- The on-site clear (R48, R514): the lockout record goes, the demands that stand until it end, Walnut pulses its release
line, and the exit is chosen by the cause. -/
def Mach.siteClear (m : Mach) : Mach :=
  let exit : Mode := match m.mode.lockout with
    | some .otherCause => .standby
    | _ => .commission
  let a := (m.updMode (fun x => { x with lockout := none, clearExit := some exit })).storeNow [.lockout none]
  let b := a.updSaf (fun s => { s with switchChanged := bit s.sw3 7, sealBroken := !s.cover })
  let c := b.each [16, 17, 18, 20, 21, 22] (fun f x =>
    if (f = 16 && !x.saf.cover) || (f = 17 && bit x.saf.sw3 7) then x else x.endDemand 1 f)
  c.releaseLine.record 0x0105 0 []

/-- The switches as read differ from those committed with the commissioning record (R327). -/
def Mach.switchesDiffer (m : Mach) : Bool :=
  match m.mode.commRec with
  | none => false
  | some r => r.switches != (m.saf.sw1, m.saf.sw2, m.saf.sw3)

/-- The seal at BOOT (R48, R327): an on-site clear where one is due, else the comparison with the committed readings. The
press and the arm are consumed. -/
def Mach.bootSeal (m : Mach) : Mach :=
  let a := if m.onSite then m.siteClear
    else if m.switchesDiffer && !m.saf.switchChanged then m.sealEvent 17 else m
  a.updClk (fun c => { c with arm := if c.qualifying then none else c.arm, qualifying := false })

/-- What stands in Foxglove's channel with a mode to enter (R514): it is entered at the exit from BOOT (log entry 11). -/
def Mach.standingDemands (m : Mach) : Mach :=
  m.each (bitsOf 23 m.saf.demF) (fun f x =>
    if f = 19 then x.holdReact .safeHold .safetyReaction
    else if 16 ≤ f then x.holdReact .lockout .safetyReaction
    else match (x.bitReaction f).2 with
      | none => x
      | some d => x.holdReact d .safetyReaction)

/-- The tests' own demands (R514): code 20 for a failed channel, 21 for a coil switch, 22 for the profile. LOCKOUT follows
by exit 1 (R55). -/
def Mach.bootDemands (m : Mach) : Mach :=
  let r := m.mode.bootResult
  ((m.when (bit r 2 || bit r 3) (fun x => x.demand 1 20 .disconnect none 0)).when (bit r 4) (fun x =>
    x.demand 1 21 .disconnect none 0)).when (bit r 5) (fun x => x.demand 1 22 .disconnect none 0)

/-- Module A returning beside a partner in service stays listener: B has taken the line over (R90). -/
def Mach.chainRole (m : Mach) : Mach :=
  m.updChain (fun c => { c with takenOver := m.isA && m.paired && m.pair.hbPresent })

/-- The injector's self-test (R113, R117). -/
def Mach.injTest (m : Mach) (ok : Bool) : Mach :=
  m.updIso (fun i => { i with selfTest := ok, state := if ok then i.state else .selfTestFail })

/-- The processor domain is released and runs the ladder up to step 7: the store is replayed, the boot ROM chooses the slot,
the tests report, the recorder replays. Step 8 is the chain's: its enumeration and first sweep. Under the recovery loader the
ladder stops at step 4 (R454). -/
def Mach.release (m : Mach) (r : BootReport) : Mach :=
  if !m.canRelease then m
  else
    let first := m.clk.firstBoot
    let a := ((m.updClk (fun c => { c with procRunning := true })).replay r.badSuper r.badKeys r.badTxns).startDomain.countResets first
    let b := (((a.bootRom r.authA r.authB).updMode (fun x => { x with since := a.fabTime })).replayFox.seedReplay r).when first
      (fun x => x.chargeStart r.gap)
    if b.mode.recovery then (b.updMode (fun x => { x with ladder := 4 })).bootSettings
    else
      let c := ((b.chainRole.injTest r.injOk).bootTests r.tests).bootSettings.bridgeHeld.bootSeal
      (c.bootDemands.standingDemands).updMode (fun x => { x with ladder := 7 })

def execProcessorDomainRelease (r : BootReport) (s : State) : Host.Outcome State Fault Refusal :=
  onFox (fun m => m.release r) s

/-! ## The exit from BOOT (R54 step 9, R55) -/

/-- The partner is in a mode that carries the string (R55 exit 4). -/
def Mach.partnerRuns (m : Mach) : Option Mode :=
  if m.paired && m.pair.hbPresent then (match m.partnerMode with
    | none => none
    | some d => if d.isLine then some d else none)
  else none

/-- A reaction held in BOOT names a mode. -/
def Mach.heldReact (m : Mach) (d : Mode) : Bool :=
  match m.mode.bootReact with
  | none => false
  | some p => p.1 == d

/-- The first exit that applies (R55), a reaction held in BOOT in the rank of its mode, after exits 1 and 2 the one an
on-site clear names (R48). -/
def Mach.bootDest (m : Mach) : Mode :=
  if m.mode.lockout.isSome || (m.mode.bootResult &&& 0x3C) != 0 || m.saf.sealBroken || m.heldReact .lockout then .lockout
  else if (m.mode.bootResult &&& bootUMask) != 0 || m.heldReact .safeHold then .safeHold
  else match m.mode.clearExit with
    | some d => d
    | none =>
      if m.mode.commRec.isNone then .commission
      else match m.partnerRuns with
        | some d => d
        | none => if m.mode.parked then .storage else .standby

/-- The causes in Foxglove's keeping that are still present are raised again (R188, R369): a broken loop, a refused rearm, a
welded contact, a test fault of an input, a discrepancy of SI0 and SI1. -/
def Mach.standingFaults (m : Mach) : Mach :=
  let first := fun (l : List Bool) => l.findIdx id
  let test := m.saf.si.map (fun i => i.testFault)
  let weld := m.saf.coils.map (fun c => c.welded)
  ((((m.when m.chain.loopBroken (fun x => x.raiseFault .alarmLoopBroken [])).when m.pwm.refused (fun x =>
    x.raiseFault .fastTripLocked [])).when (weld.any id) (fun x => x.raiseFault .weldedContact (u8 (first weld)))).when
    (test.any id) (fun x => x.raiseFault .siTestFail (u8 (first test)))).when m.saf.discrepancy
    (fun x => x.raiseFault .siDiscrepancy [])

/-- The faults that BOOT raises (R369, R374): 0x014 class U, 0x015 class F, each with its own bits, and those whose cause
stands in the Foxglove domain. -/
def Mach.bootFaults (m : Mach) : Mach :=
  let u := m.mode.bootResult &&& bootUMask
  let f := m.mode.bootResult &&& bootFMask
  ((m.when (u != 0) (fun x => x.raiseFault .bootU (u16 u))).when (f != 0) (fun x => x.raiseFault .bootF (u16 f))).standingFaults

/-- The mode at the end of the ladder: the exit of R55, or where a reaction has already left BOOT its mode, unless exit 1
applies. -/
def Mach.ladderEnd (m : Mach) : Mode :=
  if m.mode.mode == .boot || m.bootDest == .lockout then m.bootDest else m.mode.mode

/-- Exit 4 (R55, R305): the module resynchronises, and closes its own coil paths beside the partner's, as its mode has them
closed (R36). -/
def Mach.exitFour (m : Mach) : Mach :=
  ((m.updPair (fun p => { p with resync := true })).setCoil 0 true).setCoil 1 true

/-- BOOT completes (R54 step 9). Exits 3 to 5 keep POWER_ON or PROCESSOR_RESET as the cause of the transition (log entry
149). -/
def Mach.bootExit (m : Mach) : Mach :=
  if m.mode.recovery || m.mode.ladder != 8 then m
  else
    let dest := m.ladderEnd
    let mask := m.exitPhases dest
    let cause : Cause := if m.mode.clearExit == some dest then .onSiteClear
      else if m.heldReact dest then .safetyReaction else m.mode.cause
    let moved := m.mode.mode != dest
    let a := (m.when moved (fun x => x.enterMode dest cause)).updMode (fun x => { x with
      ladder := 9, bootReact := none, clearExit := none })
    let b := (a.acquireMask mask).when (moved && dest.isLine) Mach.exitFour
    let c := (b.updUpd (fun u => { u with trialAt := m.now })).bootFaults
    ((c.when c.pwm.tripPending Mach.bootTrip).record 0x0101 0 (u32 m.mode.bootResult ++ u8 dest.code)).noteDegraded

def execBootExit (s : State) : Host.Outcome State Fault Refusal := onProc Mach.bootExit s

end Sys2Proof.Machine
end

