-- ==== Sys2Proof/Machine/Epochs.lean ====
section
/-! DEFINITION. Meanings of the fast- and slow-epoch boundaries (R41, R261): time moves on, and what every chapter does at a
boundary is done in the order of the spec (log entry 3). -/

namespace Sys2Proof.Machine

/-- Time moves to the start of the next fast epoch. -/
def Mach.nextMilli (m : Mach) : Mach :=
  { m with now := m.now + ((m.fabTime / 1000000 + 1) * 1000000 - m.fabTime) }

/-- The supply and input power of the fast epoch that ends (R477). -/
def Mach.supplyMeans (m : Mach) (supply power : Nat) : Mach :=
  m.updClk (fun c => { c with
    supply := supply, inPower := power, supplyLow := if c.supplyLow = 0 then supply else min c.supplyLow supply })

/-- What the processor domain does at fast-epoch boundary n: the means of the epoch that ended, settings, plant commands and
allocation, the mode changes in the order of R41, the captured summary, the partner's frames, the captures. -/
def Mach.procEpoch (m : Mach) (n : Nat) : Mach :=
  let a := ((m.measEpoch.convEpoch.pwmEpoch.plantEpoch n).modeEpoch n).captureEpoch n
  let b := a.sendStop.zeroEpoch.restEpoch.fabEpoch.pairEpoch.canCapture
  (b.trace 0x01 5 (u32 (b.fabTime / 2 ^ 32))).noteDegraded

/-- A fast-epoch boundary. -/
def Mach.fastBoundary (m : Mach) (supply power : Nat) : Mach :=
  let a := (m.nextMilli.supplyMeans supply power).deferredDue.podsExpire
  if a.clk.procRunning && !a.mode.recovery then a.procEpoch a.fastEpoch else a

def execFastEpochBoundary (supply power : Nat) (s : State) : Host.Outcome State Fault Refusal :=
  onFox (fun m => m.fastBoundary supply power) s

/-- The set committed every 60 s (R402). -/
def Mach.minuteCommit (m : Mach) : Mach :=
  if m.mode.mode != .boot && m.elapsed m.nv.minuteAt (60 * second) then
    (m.store m.minuteSet []).updNv (fun n => { n with minuteAt := m.now })
  else m

/-- A slow-epoch boundary, latch instant T (R72, R104, R261). -/
def Mach.slowBoundary (m : Mach) : Mach :=
  if m.mode.recovery then m
  else
    let a := m.chainEpoch.impEpoch.estRole
    let b := (a.updIso (fun i => { i with id := a.galvanicId })).throughputEpoch.pairSlow
    (b.updTherm (fun t => { t with noD := t.noD + 1 })).minuteCommit

def execSlowEpochBoundary (s : State) : Host.Outcome State Fault Refusal := onProc Mach.slowBoundary s

end Sys2Proof.Machine
end

