-- ==== Sys2Proof/Machine/Dispatch.lean ====
section
/-! DEFINITION. One arm per command: the table from each constructor of Instr to its meaning. -/

namespace Sys2Proof.Machine

def exec (i : Instr) (s : State) : Host.Outcome State Fault Refusal :=
  match i with
  | .busTransaction cls master tReq tGrant beats => Sys2Proof.Machine.execBusTransaction cls master tReq tGrant beats s
  | .memoryEccError tcm corrected who => Sys2Proof.Machine.execMemoryEccError tcm corrected who s
  | .almondCoreLost core => Sys2Proof.Machine.execAlmondCoreLost core s
  | .mergeResult part gen epoch value => Sys2Proof.Machine.execMergeResult part gen epoch value s
  | .powerOnResetRelease sw1 sw2 sw3 cover sw4 sw5 pcrcOk arrives => Sys2Proof.Machine.execPowerOnResetRelease sw1 sw2 sw3 cover sw4 sw5 pcrcOk arrives s
  | .processorDomainRelease r => Sys2Proof.Machine.execProcessorDomainRelease r s
  | .bootExit => Sys2Proof.Machine.execBootExit s
  | .fastEpochBoundary supply power => Sys2Proof.Machine.execFastEpochBoundary supply power s
  | .slowEpochBoundary => Sys2Proof.Machine.execSlowEpochBoundary s
  | .modeRequest code role => Sys2Proof.Machine.execModeRequest code role s
  | .prechargeTimeout => Sys2Proof.Machine.execPrechargeTimeout s
  | .shutdownOpen => Sys2Proof.Machine.execShutdownOpen s
  | .shutdownTimeout => Sys2Proof.Machine.execShutdownTimeout s
  | .lockoutClearArm role direct => Sys2Proof.Machine.execLockoutClearArm role direct s
  | .lockoutArmExpired => Sys2Proof.Machine.execLockoutArmExpired s
  | .maintenanceTaskComplete => Sys2Proof.Machine.execMaintenanceTaskComplete s
  | .chainEnumeration near far check fwd rev closure bad => Sys2Proof.Machine.execChainEnumeration near far check fwd rev closure bad s
  | .plantJoinTimeout => Sys2Proof.Machine.execPlantJoinTimeout s
  | .commissionC4Check => Sys2Proof.Machine.execCommissionC4Check s
  | .commissionC6Start => Sys2Proof.Machine.execCommissionC6Start s
  | .baselineDeferral role unlocked => Sys2Proof.Machine.execBaselineDeferral role unlocked s
  | .commissioningAccept role unlocked => Sys2Proof.Machine.execCommissioningAccept role unlocked s
  | .stepRetry role unlocked => Sys2Proof.Machine.execStepRetry role unlocked s
  | .sample epoch reach far => Sys2Proof.Machine.execSample epoch reach far s
  | .read => Sys2Proof.Machine.execRead s
  | .dataReply a port crcOk r => Sys2Proof.Machine.execDataReply a port crcOk r s
  | .readOne a => Sys2Proof.Machine.execReadOne a s
  | .sweepClose => Sys2Proof.Machine.execSweepClose s
  | .echo a fwd rev bad => Sys2Proof.Machine.execEcho a fwd rev bad s
  | .config bad => Sys2Proof.Machine.execConfig bad s
  | .reverseSample epoch skew => Sys2Proof.Machine.execReverseSample epoch skew s
  | .farEndReadout answers => Sys2Proof.Machine.execFarEndReadout answers s
  | .chainReplyRelay a crcOk r => Sys2Proof.Machine.execChainReplyRelay a crcOk r s
  | .lineTakeover => Sys2Proof.Machine.execLineTakeover s
  | .lineMastershipReturn epoch => Sys2Proof.Machine.execLineMastershipReturn epoch s
  | .bleed => Sys2Proof.Machine.execBleed s
  | .alarmLoopBroken => Sys2Proof.Machine.execAlarmLoopBroken s
  | .loopSourceTakeover => Sys2Proof.Machine.execLoopSourceTakeover s
  | .streamFrame ok ovr t cur hall str bus counts => Sys2Proof.Machine.execStreamFrame ok ovr t cur hall str bus counts s
  | .isolatedStreamLoss => Sys2Proof.Machine.execIsolatedStreamLoss s
  | .streamRecovered => Sys2Proof.Machine.execStreamRecovered s
  | .chargeSample cur => Sys2Proof.Machine.execChargeSample cur s
  | .sectionClockHoldover => Sys2Proof.Machine.execSectionClockHoldover s
  | .sectionClockReturn => Sys2Proof.Machine.execSectionClockReturn s
  | .sectionRestart => Sys2Proof.Machine.execSectionRestart s
  | .hallLost supply => Sys2Proof.Machine.execHallLost supply s
  | .hallRecovered => Sys2Proof.Machine.execHallRecovered s
  | .currentComparator line x => Sys2Proof.Machine.execCurrentComparator line x s
  | .injectorStart => Sys2Proof.Machine.execInjectorStart s
  | .injectorStop => Sys2Proof.Machine.execInjectorStop s
  | .injectionHalfPeriod corr uncorr reading => Sys2Proof.Machine.execInjectionHalfPeriod corr uncorr reading s
  | .isoBackoffEnd => Sys2Proof.Machine.execIsoBackoffEnd s
  | .tieMaskRequest mask role => Sys2Proof.Machine.execTieMaskRequest mask role s
  | .binStart => Sys2Proof.Machine.execBinStart s
  | .exciteRef heard => Sys2Proof.Machine.execExciteRef heard s
  | .binWindowEnd => Sys2Proof.Machine.execBinWindowEnd s
  | .corrRead a => Sys2Proof.Machine.execCorrRead a s
  | .correlationReply port a valid bin status excId samples vals => Sys2Proof.Machine.execCorrelationReply port a valid bin status excId samples vals s
  | .binWrite => Sys2Proof.Machine.execBinWrite s
  | .passStart => Sys2Proof.Machine.execPassStart s
  | .ageingUpdate g => Sys2Proof.Machine.execAgeingUpdate g s
  | .baselineRequest role unlocked => Sys2Proof.Machine.execBaselineRequest role unlocked s
  | .modelStep irms => Sys2Proof.Machine.execModelStep irms s
  | .qualifyingRest => Sys2Proof.Machine.execQualifyingRest s
  | .restCorrection => Sys2Proof.Machine.execRestCorrection s
  | .referenceAged => Sys2Proof.Machine.execReferenceAged s
  | .estimatorInit => Sys2Proof.Machine.execEstimatorInit s
  | .estimator values full ogen => Sys2Proof.Machine.execEstimator values full ogen s
  | .leadValuesMissing => Sys2Proof.Machine.execLeadValuesMissing s
  | .balancingDecision => Sys2Proof.Machine.execBalancingDecision s
  | .masks l ogen => Sys2Proof.Machine.execMasks l ogen s
  | .dutyCommand k tag ogen duty early => Sys2Proof.Machine.execDutyCommand k tag ogen duty early s
  | .pwmCommandStale k => Sys2Proof.Machine.execPwmCommandStale k s
  | .carrierValley k density => Sys2Proof.Machine.execCarrierValley k density s
  | .interlockBlock k t => Sys2Proof.Machine.execInterlockBlock k t s
  | .ownershipRelease k => Sys2Proof.Machine.execOwnershipRelease k s
  | .ownLineDeassert k => Sys2Proof.Machine.execOwnLineDeassert k s
  | .ownershipAcquire k early => Sys2Proof.Machine.execOwnershipAcquire k early s
  | .pwmGateRelease k => Sys2Proof.Machine.execPwmGateRelease k s
  | .fastTrip mask => Sys2Proof.Machine.execFastTrip mask s
  | .fastTripRearm quiet => Sys2Proof.Machine.execFastTripRearm quiet s
  | .bitstreamFault k => Sys2Proof.Machine.execBitstreamFault k s
  | .bitstreamValid k => Sys2Proof.Machine.execBitstreamValid k s
  | .offsetZero k density => Sys2Proof.Machine.execOffsetZero k density s
  | .cycleByCycleLimit k current t => Sys2Proof.Machine.execCycleByCycleLimit k current t s
  | .syncInEdge t => Sys2Proof.Machine.execSyncInEdge t s
  | .syncHoldover => Sys2Proof.Machine.execSyncHoldover s
  | .syncGlide => Sys2Proof.Machine.execSyncGlide s
  | .syncGlideEnd => Sys2Proof.Machine.execSyncGlideEnd s
  | .outerPeriod k iMean recent => Sys2Proof.Machine.execOuterPeriod k iMean recent s
  | .phaseLoopUpdate k => Sys2Proof.Machine.execPhaseLoopUpdate k s
  | .phaseState k state ogen => Sys2Proof.Machine.execPhaseState k state ogen s
  | .softStart => Sys2Proof.Machine.execSoftStart s
  | .softStopRamp => Sys2Proof.Machine.execSoftStopRamp s
  | .busDip v fall t => Sys2Proof.Machine.execBusDip v fall t s
  | .dipPulseEnd => Sys2Proof.Machine.execDipPulseEnd s
  | .dipFloorRelease => Sys2Proof.Machine.execDipFloorRelease s
  | .prechargeStageComplete => Sys2Proof.Machine.execPrechargeStageComplete s
  | .kPreRelease => Sys2Proof.Machine.execKPreRelease s
  | .fastTripRestart => Sys2Proof.Machine.execFastTripRestart s
  | .phaseLossCheck iShunt iPh ripple => Sys2Proof.Machine.execPhaseLossCheck iShunt iPh ripple s
  | .phaseReenable k => Sys2Proof.Machine.execPhaseReenable k s
  | .senseMismatchTimeout => Sys2Proof.Machine.execSenseMismatchTimeout s
  | .transceiverInserted p => Sys2Proof.Machine.execTransceiverInserted p s
  | .transceiverCheck p ok power => Sys2Proof.Machine.execTransceiverCheck p ok power s
  | .blockLock p => Sys2Proof.Machine.execBlockLock p s
  | .helloSend p => Sys2Proof.Machine.execHelloSend p s
  | .helloFrame p serial addr peerPort role peerSees => Sys2Proof.Machine.execHelloFrame p serial addr peerPort role peerSees s
  | .portDown p removed => Sys2Proof.Machine.execPortDown p removed s
  | .portHoldDownEnd p => Sys2Proof.Machine.execPortHoldDownEnd p s
  | .pdelaySend p t1 => Sys2Proof.Machine.execPdelaySend p t1 s
  | .pdelay p pseq resp => Sys2Proof.Machine.execPdelay p pseq resp s
  | .lsa p serial addr seq links => Sys2Proof.Machine.execLsa p serial addr seq links s
  | .lsaRefresh => Sys2Proof.Machine.execLsaRefresh s
  | .lsaAged plane serial => Sys2Proof.Machine.execLsaAged plane serial s
  | .addressClaim sw4 sw5 => Sys2Proof.Machine.execAddressClaim sw4 sw5 s
  | .claimListenEnd => Sys2Proof.Machine.execClaimListenEnd s
  | .claimWaitEnd => Sys2Proof.Machine.execClaimWaitEnd s
  | .claim serial addr tier kind => Sys2Proof.Machine.execClaim serial addr tier kind s
  | .addressEstablished => Sys2Proof.Machine.execAddressEstablished s
  | .frameForward p f full => Sys2Proof.Machine.execFrameForward p f full s
  | .sync p rx origin corr gm hops source => Sys2Proof.Machine.execSync p rx origin corr gm hops source s
  | .announceSend => Sys2Proof.Machine.execAnnounceSend s
  | .announce r => Sys2Proof.Machine.execAnnounce r s
  | .grandmasterElection => Sys2Proof.Machine.execGrandmasterElection s
  | .timeHoldover => Sys2Proof.Machine.execTimeHoldover s
  | .ptpSync domain locked offset => Sys2Proof.Machine.execPtpSync domain locked offset s
  | .safeMessageSend conn => Sys2Proof.Machine.execSafeMessageSend conn s
  | .safeFrame plane flag conn src hdrSrc dst sseq sendTime sdata scrcOk => Sys2Proof.Machine.execSafeFrame plane flag conn src hdrSrc dst sseq sendTime sdata scrcOk s
  | .safeCopyMissing conn src => Sys2Proof.Machine.execSafeCopyMissing conn src s
  | .safeConnectionTimeout conn src => Sys2Proof.Machine.execSafeConnectionTimeout conn src s
  | .fastSummarySend => Sys2Proof.Machine.execFastSummarySend s
  | .fastSummary src r crcOk inTime => Sys2Proof.Machine.execFastSummary src r crcOk inTime s
  | .slowRecordSend => Sys2Proof.Machine.execSlowRecordSend s
  | .slowRecordHead src h crcOk => Sys2Proof.Machine.execSlowRecordHead src h crcOk s
  | .bodyRequest src epoch => Sys2Proof.Machine.execBodyRequest src epoch s
  | .bodyPart src epoch part bytes => Sys2Proof.Machine.execBodyPart src epoch part bytes s
  | .headRequest src epoch => Sys2Proof.Machine.execHeadRequest src epoch s
  | .provisionalView => Sys2Proof.Machine.execProvisionalView s
  | .viewClose => Sys2Proof.Machine.execViewClose s
  | .recordRequest src epoch => Sys2Proof.Machine.execRecordRequest src epoch s
  | .slowViewClose => Sys2Proof.Machine.execSlowViewClose s
  | .allocationCompute missed => Sys2Proof.Machine.execAllocationCompute missed s
  | .hashCheck => Sys2Proof.Machine.execHashCheck s
  | .allocHoldWithdraw => Sys2Proof.Machine.execAllocHoldWithdraw s
  | .viewFounding => Sys2Proof.Machine.execViewFounding s
  | .admitIssue a => Sys2Proof.Machine.execAdmitIssue a s
  | .removeIssue a => Sys2Proof.Machine.execRemoveIssue a s
  | .membershipLeave => Sys2Proof.Machine.execMembershipLeave s
  | .membershipViewTransfer effect mv founder members st => Sys2Proof.Machine.execMembershipViewTransfer effect mv founder members st s
  | .plantCommandReceived c crcOk => Sys2Proof.Machine.execPlantCommandReceived c crcOk s
  | .commandRequest src cseq => Sys2Proof.Machine.execCommandRequest src cseq s
  | .mode issuer cseq => Sys2Proof.Machine.execMode issuer cseq s
  | .plantPower issuer cseq => Sys2Proof.Machine.execPlantPower issuer cseq s
  | .stringLimit issuer cseq => Sys2Proof.Machine.execStringLimit issuer cseq s
  | .tieMask issuer cseq => Sys2Proof.Machine.execTieMask issuer cseq s
  | .busVoltage issuer cseq => Sys2Proof.Machine.execBusVoltage issuer cseq s
  | .plantParam issuer cseq => Sys2Proof.Machine.execPlantParam issuer cseq s
  | .admitMember issuer cseq => Sys2Proof.Machine.execAdmitMember issuer cseq s
  | .remove issuer cseq => Sys2Proof.Machine.execRemove issuer cseq s
  | .plantPowerRequest p role => Sys2Proof.Machine.execPlantPowerRequest p role s
  | .balancingGainRequest v role => Sys2Proof.Machine.execBalancingGainRequest v role s
  | .restConcurrencyRequest v role => Sys2Proof.Machine.execRestConcurrencyRequest v role s
  | .stringLimitRequest dis chg role => Sys2Proof.Machine.execStringLimitRequest dis chg role s
  | .plantModeRequest target mode role => Sys2Proof.Machine.execPlantModeRequest target mode role s
  | .plantBusVoltageRequest target v role => Sys2Proof.Machine.execPlantBusVoltageRequest target v role s
  | .restSlotStart => Sys2Proof.Machine.execRestSlotStart s
  | .restSlotEnd => Sys2Proof.Machine.execRestSlotEnd s
  | .heartbeatToggle k0 => Sys2Proof.Machine.execHeartbeatToggle k0 s
  | .heartbeatLapse => Sys2Proof.Machine.execHeartbeatLapse s
  | .partnerHeartbeatLost aliveRecent => Sys2Proof.Machine.execPartnerHeartbeatLost aliveRecent s
  | .takeoverAcquisition dip rec => Sys2Proof.Machine.execTakeoverAcquisition dip rec s
  | .heartbeatPresent => Sys2Proof.Machine.execHeartbeatPresent s
  | .alive mode own flags ver ogen => Sys2Proof.Machine.execAlive mode own flags ver ogen s
  | .aliveTimeout => Sys2Proof.Machine.execAliveTimeout s
  | .checkpoint c crcOk ogen => Sys2Proof.Machine.execCheckpoint c crcOk ogen s
  | .content epoch c ogen => Sys2Proof.Machine.execContent epoch c ogen s
  | .takebackReady partnerClear => Sys2Proof.Machine.execTakebackReady partnerClear s
  | .takeback start ogen => Sys2Proof.Machine.execTakeback start ogen s
  | .takebackStart => Sys2Proof.Machine.execTakebackStart s
  | .takebackHandover => Sys2Proof.Machine.execTakebackHandover s
  | .takebackEnd => Sys2Proof.Machine.execTakebackEnd s
  | .phaseRelease on role unlocked => Sys2Proof.Machine.execPhaseRelease on role unlocked s
  | .release start ogen => Sys2Proof.Machine.execRelease start ogen s
  | .partnerAccept role unlocked => Sys2Proof.Machine.execPartnerAccept role unlocked s
  | .request code effect task dur due ogen => Sys2Proof.Machine.execRequest code effect task dur due ogen s
  | .pairConfig settings inMode pcrc ogen => Sys2Proof.Machine.execPairConfig settings inMode pcrc ogen s
  | .inputSample si fb node => Sys2Proof.Machine.execInputSample si fb node s
  | .walnutSweepEvaluation => Sys2Proof.Machine.execWalnutSweepEvaluation s
  | .foxgloveOcDemand => Sys2Proof.Machine.execFoxgloveOcDemand s
  | .ptOvertemp pt temp => Sys2Proof.Machine.execPtOvertemp pt temp s
  | .testPulse lows => Sys2Proof.Machine.execTestPulse lows s
  | .safetyInputDemand chan k => Sys2Proof.Machine.execSafetyInputDemand chan k s
  | .siDiscrepancy => Sys2Proof.Machine.execSiDiscrepancy s
  | .ventilationDemand chan => Sys2Proof.Machine.execVentilationDemand chan s
  | .si6Cancelled => Sys2Proof.Machine.execSi6Cancelled s
  | .coilOpen chan => Sys2Proof.Machine.execCoilOpen chan s
  | .holdRelease chan => Sys2Proof.Machine.execHoldRelease chan s
  | .contactorForcedOpen => Sys2Proof.Machine.execContactorForcedOpen s
  | .uvEscalation => Sys2Proof.Machine.execUvEscalation s
  | .dischargeStopRelease => Sys2Proof.Machine.execDischargeStopRelease s
  | .switchRead sw1 sw2 sw3 cover => Sys2Proof.Machine.execSwitchRead sw1 sw2 sw3 cover s
  | .coilSwitchTest k sw pass => Sys2Proof.Machine.execCoilSwitchTest k sw pass s
  | .contactorPickup k => Sys2Proof.Machine.execContactorPickup k s
  | .contactorDropout k => Sys2Proof.Machine.execContactorDropout k s
  | .weldedContact k => Sys2Proof.Machine.execWeldedContact k s
  | .contactorLost k => Sys2Proof.Machine.execContactorLost k s
  | .contactorHeld k => Sys2Proof.Machine.execContactorHeld k s
  | .tripRelease => Sys2Proof.Machine.execTripRelease s
  | .thermalDemand => Sys2Proof.Machine.execThermalDemand s
  | .ptConversion pt temp => Sys2Proof.Machine.execPtConversion pt temp s
  | .thermalFallback => Sys2Proof.Machine.execThermalFallback s
  | .fanSpeed fan rpm => Sys2Proof.Machine.execFanSpeed fan rpm s
  | .fanLost fan => Sys2Proof.Machine.execFanLost fan s
  | .fanRecovered fan => Sys2Proof.Machine.execFanRecovered fan s
  | .coolDemand => Sys2Proof.Machine.execCoolDemand s
  | .coolStatus unit data => Sys2Proof.Machine.execCoolStatus unit data s
  | .coolantUnitLost unit => Sys2Proof.Machine.execCoolantUnitLost unit s
  | .faultRaise src params => Sys2Proof.Machine.execFaultRaise src params s
  | .countingEvent src params => Sys2Proof.Machine.execCountingEvent src params s
  | .faultAcknowledge seq role => Sys2Proof.Machine.execFaultAcknowledge seq role s
  | .faultClear seq role => Sys2Proof.Machine.execFaultClear seq role s
  | .collectorSelf => Sys2Proof.Machine.execCollectorSelf s
  | .faultInjection src chan dur role => Sys2Proof.Machine.execFaultInjection src chan dur role s
  | .injectionEnd response => Sys2Proof.Machine.execInjectionEnd response s
  | .injectionAbort => Sys2Proof.Machine.execInjectionAbort s
  | .recordCreate code source cls params => Sys2Proof.Machine.execRecordCreate code source cls params s
  | .recordCommit => Sys2Proof.Machine.execRecordCommit s
  | .recorderClear what role iface cert => Sys2Proof.Machine.execRecorderClear what role iface cert s
  | .recorderClearDone => Sys2Proof.Machine.execRecorderClearDone s
  | .journalCommit => Sys2Proof.Machine.execJournalCommit s
  | .compactionStart => Sys2Proof.Machine.execCompactionStart s
  | .compactionComplete => Sys2Proof.Machine.execCompactionComplete s
  | .hello iface size relay source ok => Sys2Proof.Machine.execHello iface size relay source ok s
  | .finish f cert => Sys2Proof.Machine.execFinish f cert s
  | .close f => Sys2Proof.Machine.execClose f s
  | .keepalive f => Sys2Proof.Machine.execKeepalive f s
  | .mailboxRead f idx sub offset length => Sys2Proof.Machine.execMailboxRead f idx sub offset length s
  | .readSet f objs => Sys2Proof.Machine.execReadSet f objs s
  | .write f w => Sys2Proof.Machine.execWrite f w s
  | .writeSet f ws => Sys2Proof.Machine.execWriteSet f ws s
  | .ack f => Sys2Proof.Machine.execAck f s
  | .abort f => Sys2Proof.Machine.execAbort f s
  | .relayFrame host port target => Sys2Proof.Machine.execRelayFrame host port target s
  | .relayReply id => Sys2Proof.Machine.execRelayReply id s
  | .relayEntryExpiry => Sys2Proof.Machine.execRelayEntryExpiry s
  | .sessionTimeout => Sys2Proof.Machine.execSessionTimeout s
  | .expertUnlock f value => Sys2Proof.Machine.execExpertUnlock f value s
  | .expertUnlockExpiry => Sys2Proof.Machine.execExpertUnlockExpiry s
  | .transferTimeout => Sys2Proof.Machine.execTransferTimeout s
  | .capture => Sys2Proof.Machine.execCapture s
  | .captureBusy => Sys2Proof.Machine.execCaptureBusy s
  | .writeEffect => Sys2Proof.Machine.execWriteEffect s
  | .addressConfigEffect lease => Sys2Proof.Machine.execAddressConfigEffect lease s
  | .fragmentTimeout => Sys2Proof.Machine.execFragmentTimeout s
  | .canFrameReceived ch frame err => Sys2Proof.Machine.execCanFrameReceived ch frame err s
  | .canQueueDrain ch => Sys2Proof.Machine.execCanQueueDrain ch s
  | .canPeriodic k => Sys2Proof.Machine.execCanPeriodic k s
  | .canObjectDataWrite f k value => Sys2Proof.Machine.execCanObjectDataWrite f k value s
  | .canObjectTableWrite f value => Sys2Proof.Machine.execCanObjectTableWrite f value s
  | .canTransmit ch outcome => Sys2Proof.Machine.execCanTransmit ch outcome s
  | .canBusOffRecovery ch => Sys2Proof.Machine.execCanBusOffRecovery ch s
  | .canObjectResume f k => Sys2Proof.Machine.execCanObjectResume f k s
  | .canChannelRestart ch => Sys2Proof.Machine.execCanChannelRestart ch s
  | .canIntegration ch => Sys2Proof.Machine.execCanIntegration ch s
  | .imageHeader f value crypto => Sys2Proof.Machine.execImageHeader f value crypto s
  | .imageChunk f value => Sys2Proof.Machine.execImageChunk f value s
  | .imageBodyCheck hashOk tagOk => Sys2Proof.Machine.execImageBodyCheck hashOk tagOk s
  | .loadAbandoned => Sys2Proof.Machine.execLoadAbandoned s
  | .activate f => Sys2Proof.Machine.execActivate f s
  | .confirm f => Sys2Proof.Machine.execConfirm f s
  | .trialTimeExpiry => Sys2Proof.Machine.execTrialTimeExpiry s
  | .trustAnchorsWrite f value => Sys2Proof.Machine.execTrustAnchorsWrite f value s
  | .clockFail => Sys2Proof.Machine.execClockFail s
  | .clockRecovery => Sys2Proof.Machine.execClockRecovery s
  | .resetButton pressed => Sys2Proof.Machine.execResetButton pressed s
  | .resetN low => Sys2Proof.Machine.execResetN low s
  | .resetInputStuck button => Sys2Proof.Machine.execResetInputStuck button s
  | .stuckInputClear button => Sys2Proof.Machine.execStuckInputClear button s
  | .watchdogReset => Sys2Proof.Machine.execWatchdogReset s
  | .resetRequest f => Sys2Proof.Machine.execResetRequest f s
  | .brownOutWarning low => Sys2Proof.Machine.execBrownOutWarning low s
  | .brownOutFlushDone dur => Sys2Proof.Machine.execBrownOutFlushDone dur s
  | .supplyRecovery low time => Sys2Proof.Machine.execSupplyRecovery low time s
  | .powerFail torn => Sys2Proof.Machine.execPowerFail torn s
  | .supplyHigh high => Sys2Proof.Machine.execSupplyHigh high s
  | .traceRecord entry => Sys2Proof.Machine.execTraceRecord entry s
  | .alarmLoopRestored => Sys2Proof.Machine.execAlarmLoopRestored s
  | .hostPortLinkChange up lease => Sys2Proof.Machine.execHostPortLinkChange up lease s
  | .bootstrapWindowEnd => Sys2Proof.Machine.execBootstrapWindowEnd s

end Sys2Proof.Machine
end

