-- ==== Sys2Proof/Machine/Pins.lean ====
section
/-! DEFINITION. What stands on the module's contacts and LEDs, read off the state (R53, R178, R182, R194, R480 to R488,
R505). No command changes the state here; currents, voltages and edge accuracies of the wires are not part of it. -/

namespace Sys2Proof.Machine

/-! ## LEDs (R53) -/

/-- What the STS LED shows. -/
inductive StsLed where
  | redFast | redSteady | greenSlow | greenSteady
  deriving DecidableEq, Repr

/-- An on-site clear is armed (R48): the arm stands and its 300 s have not run. -/
def Mach.siteArmed (m : Mach) : Bool :=
  match m.clk.arm with
  | none => false
  | some t => !m.elapsed t (300 * second)

/-- The STS LED: the highest row of R53 that applies. -/
def Mach.stsLed (m : Mach) : StsLed :=
  if m.mode.mode == .lockout && m.siteArmed then .redFast
  else if !m.noFault || m.mode.mode == .boot then .redSteady
  else if m.isDegraded then .greenSlow
  else .greenSteady

/-- LED MDi, lit when bit i of the mode code is 1 (R53). -/
def Mach.mdLed (m : Mach) (i : Nat) : Bool := bit m.mode.mode.code i

/-! ## J1 (R480 to R482) -/

/-- Level of an output contact. -/
inductive Level where
  | open_ | low | high | pulsing
  deriving DecidableEq, Repr

/-- T0 to T3: pulsing from power-on reset release (R330). -/
def Mach.testSupply (m : Mach) : Level := if m.clk.powered then .pulsing else .open_

/-- High side of coil output k: Walnut's switch (R335), open while the processor domain is held (R56). -/
def Mach.coilHigh (m : Mach) (k : Nat) : Bool := m.clk.powered && m.clk.procRunning && (m.coil k).wSw

/-- Low side of coil output k: Foxglove's switch (R335). -/
def Mach.coilLow (m : Mach) (k : Nat) : Bool := m.clk.powered && (m.coil k).fSw

/-- Duty of the low side in 0.1 % (R335): full for 150 ms of an energise, then the economiser's. -/
def Mach.coilDuty (m : Mach) (k : Nat) : Nat :=
  if !m.coilLow k then 0
  else match (m.coil k).driveAt with
    | none => 1000
    | some t => if m.elapsed t (150 * milli) then min 1000 (10 * m.par 0x2B04 0) else 1000

/-- TRIP (R341). -/
def Mach.tripOut (m : Mach) : Bool := m.clk.powered && m.saf.trip

/-- FAULT_N (R38, R367, R481): an open drain, low also towards a pull-up whose module has lost its supply. -/
def Mach.faultN (m : Mach) : Level := if m.clk.powered && m.faultNLow then .low else .open_

/-- KFB_SUP. -/
def Mach.kfbSup (m : Mach) : Bool := m.clk.powered

/-- PAIR_HB_OUT (R293): static or at the level Foxglove last toggled it to. -/
def Mach.pairHbOut (m : Mach) : Level := if !m.clk.powered then .open_ else if m.pair.hbOut then .high else .low

/-- SYNC_IN is used: after BOOT, with the processor domain running. -/
def Mach.syncInUsed (m : Mach) : Bool := m.clk.powered && m.clk.procRunning && m.mode.mode != .boot

/-! ## J2 (R182, R484, R485) -/

/-- OWNk (R182, R184). -/
def Mach.ownLine (m : Mach) (k : Nat) : Bool := m.clk.powered && (m.phase k).own

/-- Both PWM pairs of phase k are at the off state (R182, R183, R185, R192): every state but RUN, a gate not released, a
stream that has failed. -/
def Mach.pwmOff (m : Mach) (k : Nat) : Bool :=
  !m.clk.powered || !m.clk.procRunning || m.phaseState k != 2 || !(m.phase k).gate || (m.phase k).heldOff

/-- Turns of the carrier of phase k at a fabric time in ns, whole at its valleys (R194). -/
def Mach.carrierTurns (m : Mach) (k t : Nat) : Rat :=
  let n : Rat := (m.nPhases : Nat)
  let slots : Rat := (nth m.pwm.inForce 4 1 : Nat)
  m.turns t - qdiv k n - qdiv (nth m.pwm.inForce 3 0 : Nat) (slots * n)

/-- The carrier phase Φ_k at a fabric time in ns, in periods from a valley (R194); with source SYNC_IN the frequency and the
origin offset are those the sync has reached. -/
def Mach.carrierPhase (m : Mach) (k t : Nat) : Rat := m.carrierTurns k t - (m.carrierTurns k t).floor

/-- The half-period of the carrier, valley to peak or peak to valley, that a fabric time lies in. -/
def Mach.halfOf (m : Mach) (k t : Nat) : Int := (2 * m.carrierTurns k t).floor

/-- The carrier period T_c at a fabric time in ns. -/
def Mach.periodAt (m : Mach) (t : Nat) : Rat := qdiv 1000000000 (m.carrierHzAt t)

/-- Dead time t_dead in ns, Foxglove's own 15 ns at least (R178, R179). -/
def Mach.deadTime (m : Mach) : Rat := (max 15 (m.par 0x2602 0) : Nat)

/-- Minimum pulse t_min in ns (R178). -/
def Mach.minPulse (m : Mach) : Rat := (m.par 0x2602 1 : Nat)

/-- On-time in ns of the high side for a duty and a carrier period in ns (R178): 0 where it would be shorter than the minimum
pulse, clamped where the low side would be. -/
def Mach.highTime (m : Mach) (d period : Rat) : Rat :=
  let most := period - 2 * m.deadTime - m.minPulse
  let high := min (d * period) most
  if d * period < m.minPulse || high < m.minPulse then 0 else high

/-- The low side is on after a high side of an on-time: t_dead after its turn-off, or throughout where it stays off. -/
def Mach.gapAfter (m : Mach) (high : Rat) : Rat := if high = 0 then 0 else high / 2 + m.deadTime

/-- Levels of a phase's pairs, high side first, and when in ns after the last valley the on-interval began. -/
abbrev PwmLevel := (Bool × Bool) × Rat

/-- The pairs of phase k some ns after its last valley (R178, R181): the duty in force around that valley, the command that takes
effect at the peak around the next. -/
def Mach.pulseAt (m : Mach) (k : Nat) (period x : Rat) : PwmLevel :=
  let p := m.phase k
  let h1 := m.highTime p.duty period
  let h2 := m.highTime (p.waiting.getD p.duty) period
  if h1 ≠ 0 ∧ x < h1 / 2 then ((true, false), -h1 / 2)
  else if h2 ≠ 0 ∧ period - h2 / 2 ≤ x then ((true, false), period - h2 / 2)
  else if m.gapAfter h1 ≤ x ∧ x < period - m.gapAfter h2 then ((false, true), m.gapAfter h1)
  else ((false, false), x)

/-- The same at a fabric time, with the time at which the on-interval began. -/
def Mach.pulseTime (m : Mach) (k t : Nat) : PwmLevel :=
  let period := m.periodAt t
  let x := m.carrierPhase k t * period
  let l := m.pulseAt k period x
  (l.1, (t : Rat) - x + l.2)

/-- The bus-feeding switch is on (R203). -/
def Mach.feeds (m : Mach) (l : Bool × Bool) : Bool := if m.feedsHigh then l.1 else l.2

/-- The bus-feeding switch alone. -/
def Mach.feedOnly (m : Mach) : Bool × Bool := (m.feedsHigh, !m.feedsHigh)

/-- The pairs under R178 and the burst of R214: on the rising edge of BUS_DIP the complementary on-interval ends, after t_dead the
bus-feeding switch is on for the dip pulse width, one that is on stays on until the later of its own turn-off and that width;
then the phase resumes at its next pulse. A width under the minimum pulse emits none (log entry 165). -/
def Mach.burstLevel (m : Mach) (k t : Nat) : Bool × Bool :=
  let now := m.pulseTime k t
  match (m.phase k).burst with
  | none => now.1
  | some b =>
    let was := m.feeds (m.pulseTime k b).1
    let width : Rat := (m.par 0x2706 2 : Nat)
    let start : Rat := if was then b else b + m.deadTime
    let stop := if width < m.minPulse && !was then start else start + width
    if t < b || stop ≤ now.2 || (was && now.2 ≤ b && m.feeds now.1) then now.1
    else if start ≤ t && (t : Rat) < stop then m.feedOnly
    else (false, false)

/-- The pairs with the cycle-by-cycle limit (R193): from its time the on-interval in progress is ended, after t_dead the
complementary switch is on, until the next peak or valley. -/
def Mach.limitLevel (m : Mach) (k t : Nat) : Bool × Bool :=
  match (m.phase k).cbc with
  | none => m.burstLevel k t
  | some c =>
    let was := m.burstLevel k c
    if t < c || m.halfOf k t != m.halfOf k c || was == (false, false) then m.burstLevel k t
    else
      let on := decide ((c : Rat) + m.deadTime ≤ t)
      (on && was.2, on && was.1)

/-- Levels of PWMHk and PWMLk at a fabric time: off where the phase is, or where Foxglove blocks the half-period (R179). -/
def Mach.pwmPair (m : Mach) (k t : Nat) : Bool × Bool :=
  let blocked := match (m.phase k).blocked with
    | none => false
    | some b => b ≤ t && m.halfOf k t == m.halfOf k b
  if m.pwmOff k || blocked then (false, false) else m.limitLevel k t

/-- MCLK: 20 MHz from step 3 of the power-up ladder, through processor-domain resets (R54, R189); it stops on a clock failure
(R466). -/
def Mach.mclkRuns (m : Mach) : Bool := m.clk.powered && !m.clk.clockFail && (m.clk.procRunning || !m.clk.firstBoot)

/-- Fan line f in %, none while it is released (R355, R356, R485). -/
def Mach.fanLine (m : Mach) (f : Nat) : Option Rat :=
  if !m.clk.powered || !m.clk.procRunning || !m.therm.hadD then none else some (m.fanDuty f)

/-- Valve output v in mV (R355, R357, R485): 0 V unpowered, 10 V until the first demand after BOOT. -/
def Mach.valveLine (m : Mach) (v : Nat) : Nat :=
  if !m.clk.powered then 0 else if !m.clk.procRunning then 10000 else m.valveMv v

/-! ## J3, J5 to J7 and the cages (R486, R488, R505) -/

/-- The chain drivers may send: powered, with the processor domain running (R486). -/
def Mach.chainDriver (m : Mach) : Bool := m.clk.powered && m.clk.procRunning

/-- ALM1 is SOURCE (R92). -/
def Mach.alarmSource (m : Mach) : Bool := m.clk.powered && m.chain.loopSource

/-- A CAN channel is held recessive (R428, R488): unpowered, in reset, in OFF. -/
def Mach.canRecessive (m : Mach) (ch : Nat) : Bool :=
  !m.clk.powered || !m.clk.procRunning || (nth m.can.chans ch {}).mode == 0

/-- A cage is powered (R230, R488): it stays so through a processor-domain reset, and is switched off when REJECTED. -/
def Mach.cageOn (m : Mach) (p : Nat) : Bool := m.clk.powered && (nth m.fab.ports p {}).state != .rejected

/-- TX_DISABLE of a cage. -/
def Mach.cageTxDisable (m : Mach) (p : Nat) : Bool := !m.clk.procRunning || (nth m.fab.ports p {}).txDisable

/-- J7 sends (R488): not during reset, not while trace is suspended (R473). -/
def Mach.traceRuns (m : Mach) : Bool := m.clk.powered && m.clk.procRunning && !m.clk.warning

/-- Lanes 0 to 3 at the rising and at the falling edge of the TRCLK cycle that carries a byte (R505). -/
def traceLanes (b : Nat) : List Bool × List Bool :=
  ((List.range 4).map (fun i => bit b i), (List.range 4).map (fun i => bit b (i + 4)))

/-- What J7 sends between records (R505). -/
def traceIdle : Nat := 0x00

end Sys2Proof.Machine
end

