-- ==== Sys2Proof/WellFormed.lean ====
section
/-! DEFINITION. What operands a command may carry: the ranges that the rules give the numbers of phases, ports, channels,
inputs, pods and roles and the widths of fields. The meanings hold for every operand; outside these ranges a command stands
for no event of the hardware. -/

namespace Sys2Proof

open Sys2Proof.Machine

/-- Below a bound. -/
def below (n a : Nat) : Bool := decide (a < n)

/-- Between two bounds, both included. -/
def within (lo hi a : Nat) : Bool := decide (lo ≤ a) && decide (a ≤ hi)

/-- In the range of a signed field of n bytes. -/
def signed (n : Nat) (v : Int) : Bool := decide (-(256 ^ n / 2 : Nat) ≤ v) && decide (v < (256 ^ n / 2 : Nat))

/-- A duty command: 0 to 1 (R178). -/
def unitRange (d : Rat) : Bool := decide (0 ≤ d) && decide (d ≤ 1)

/-- The fields of a session frame in their widths (R409). -/
def frameFits (f : MbxFrame) : Bool :=
  below 65536 f.sid && below 2 f.iface && below (2 ^ 32) f.tseq && below 65536 f.seg && below 65536 f.len

/-- The fields of a written value in their widths (R411). -/
def valueFits (w : WriteVal) : Bool :=
  below 65536 w.idx && below 256 w.sub && below (256 ^ w.len) w.value && below 8 w.crypto

/-- The operands lie in the ranges their rules give. -/
def Instr.wf : Instr → Bool
  | .busTransaction cls master _ _ beats => within 1 5 cls && below 65536 master && decide (1 ≤ beats)
  | .memoryEccError _ _ who => below 65536 who
  | .almondCoreLost core => below 8 core
  | .mergeResult part gen _ _ => below 9 part && below 4294967296 gen
  | .powerOnResetRelease sw1 sw2 sw3 _ sw4 sw5 _ _ => below 16 sw1 && below 3 sw2 && below 256 sw3 && below 16 sw4 && below 64 sw5
  | .processorDomainRelease r => below 128 r.tests && below 3 r.badSuper
  | .fastEpochBoundary supply power => below 65536 supply && below 65536 power
  | .modeRequest code role => below 256 code && below 4 role
  | .lockoutClearArm role _ => below 4 role
  | .commissioningAccept role _ => below 4 role
  | .dataReply a port _ _ => within 1 27 a && within 1 2 port
  | .readOne a => within 1 27 a
  | .echo a _ _ _ => within 1 27 a
  | .chainReplyRelay a _ _ => within 1 27 a
  | .streamFrame _ _ _ i hall str bus _ => signed 4 i && signed 4 hall && below 65536 str && below 65536 bus
  | .chargeSample i => signed 4 i
  | .currentComparator line x => below 5 line && signed 4 x
  | .tieMaskRequest _ role => below 4 role
  | .corrRead a => within 1 27 a
  | .correlationReply port a valid bin status excId samples _ =>
    below 3 port && !(port == 0 && valid) && within 1 27 a && below 256 bin && below 256 status && below 256 excId && below 65536 samples
  | .ageingUpdate g => within 1 432 g
  | .baselineRequest role _ => below 4 role
  | .dutyCommand k _ _ duty _ => below 12 k && unitRange duty
  | .pwmCommandStale k => below 12 k
  | .carrierValley k density => below 12 k && below 1000001 density
  | .interlockBlock k _ => below 12 k
  | .ownershipRelease k => below 12 k
  | .ownLineDeassert k => below 12 k
  | .ownershipAcquire k _ => below 12 k
  | .pwmGateRelease k => below 12 k
  | .fastTrip mask => below 4096 mask
  | .bitstreamFault k => below 12 k
  | .bitstreamValid k => below 12 k
  | .offsetZero k density => below 12 k && below 1000001 density
  | .cycleByCycleLimit k current _ => below 12 k && signed 4 current
  | .outerPeriod k iMean _ => below 20 k && signed 4 iMean
  | .phaseLoopUpdate k => below 12 k
  | .phaseState k state _ => below 12 k && below 6 state
  | .busDip v fall _ => below 65536 v && signed 4 fall
  | .phaseReenable k => below 12 k
  | .transceiverInserted p => below 4 p
  | .transceiverCheck p _ power => below 4 p && below 65536 power
  | .blockLock p => below 4 p
  | .helloSend p => below 4 p
  | .helloFrame p _ addr peerPort role _ => below 4 p && below 65536 addr && below 4 peerPort && below 256 role
  | .portDown p _ => below 4 p
  | .portHoldDownEnd p => below 4 p
  | .pdelaySend p _ => below 4 p
  | .pdelay p _ _ => below 4 p
  | .lsa p _ addr _ _ => below 4 p && below 65536 addr
  | .lsaAged plane _ => below 2 plane
  | .claim _ addr _ kind => below 65536 addr && below 3 kind
  | .frameForward p _ _ => below 4 p
  | .sync p _ _ corr gm hops source => below 4 p && signed 8 corr && below 65536 gm && below 256 hops && below 256 source
  | .ptpSync domain _ _ => below 256 domain
  | .safeMessageSend conn => within 1 2 conn
  | .safeFrame plane flag conn src hdrSrc dst _ _ _ _ =>
    below 2 plane && below 2 flag && within 1 2 conn && below 65536 src && below 65536 hdrSrc && below 65536 dst
  | .safeCopyMissing conn src => within 1 2 conn && below 65536 src
  | .safeConnectionTimeout conn src => within 1 2 conn && below 65536 src
  | .fastSummary src _ _ _ => below 65536 src
  | .slowRecordHead src _ _ => below 65536 src
  | .bodyRequest src _ => below 65536 src
  | .bodyPart src _ part bytes => below 65536 src && below 2 part && bytes.all (below 256)
  | .headRequest src _ => below 65536 src
  | .recordRequest src _ => below 65536 src
  | .admitIssue a => below 65536 a
  | .removeIssue a => below 65536 a
  | .commandRequest src _ => below 65536 src
  | .mode issuer _ => below 65536 issuer
  | .plantPower issuer _ => below 65536 issuer
  | .stringLimit issuer _ => below 65536 issuer
  | .tieMask issuer _ => below 65536 issuer
  | .busVoltage issuer _ => below 65536 issuer
  | .plantParam issuer _ => below 65536 issuer
  | .admitMember issuer _ => below 65536 issuer
  | .remove issuer _ => below 65536 issuer
  | .plantPowerRequest _ role => below 4 role
  | .balancingGainRequest _ role => below 4 role
  | .restConcurrencyRequest _ role => below 4 role
  | .stringLimitRequest _ _ role => below 4 role
  | .plantModeRequest target code_ role => below 65536 target && below 256 code_ && below 4 role
  | .plantBusVoltageRequest target _ role => below 65536 target && below 4 role
  | .takeoverAcquisition dip _ => below 1001 dip
  | .alive code_ own flags _ _ => below 256 code_ && below 65536 own && below 256 flags
  | .phaseRelease _ role _ => below 4 role
  | .partnerAccept role _ => below 4 role
  | .request code _ task dur _ _ => below 256 code && below 256 task && below 65536 dur
  | .pairConfig _ inMode _ _ => below 256 inMode
  | .inputSample si fb node => below 256 si && below 8 fb && below 8 node
  | .ptOvertemp pt _ => below 4 pt
  | .testPulse lows => below 256 lows
  | .safetyInputDemand chan k => below 2 chan && below 8 k
  | .ventilationDemand chan => below 2 chan
  | .coilOpen chan => below 2 chan
  | .holdRelease chan => below 2 chan
  | .switchRead sw1 sw2 sw3 _ => below 16 sw1 && below 3 sw2 && below 256 sw3
  | .coilSwitchTest k sw _ => below 3 k && below 2 sw
  | .contactorPickup k => below 3 k
  | .contactorDropout k => below 3 k
  | .weldedContact k => below 3 k
  | .contactorLost k => below 3 k
  | .contactorHeld k => below 3 k
  | .ptConversion pt _ => below 8 pt
  | .fanSpeed fan _ => below 4 fan
  | .fanLost fan => below 4 fan
  | .fanRecovered fan => below 4 fan
  | .coolStatus unit data => below 4 unit && data.all (below 256)
  | .coolantUnitLost unit => below 4 unit
  | .faultRaise _ params => params.all (below 256)
  | .countingEvent _ params => params.all (below 256)
  | .faultAcknowledge _ role => below 4 role
  | .faultClear _ role => below 4 role
  | .faultInjection src chan _ role => below 65536 src && below 256 chan && below 4 role
  | .recordCreate code source cls params => below 65536 code && below 65536 source && below 256 cls && params.all (below 256)
  | .recorderClear _ role iface _ => below 4 role && below 2 iface
  | .hello iface _ _ _ _ => below 2 iface
  | .finish f _ => frameFits f
  | .close f => frameFits f
  | .keepalive f => frameFits f
  | .mailboxRead f idx sub _ _ => frameFits f && below 65536 idx && below 256 sub
  | .readSet f _ => frameFits f
  | .write f w => frameFits f && valueFits w
  | .writeSet f ws => frameFits f && ws.all valueFits
  | .ack f => frameFits f
  | .abort f => frameFits f
  | .relayFrame host port _ => below 4294967296 host && below 65536 port
  | .expertUnlock f value => frameFits f && below 256 value
  | .addressConfigEffect lease => below 4294967296 lease
  | .canFrameReceived ch _ err => below 2 ch && below 9 err
  | .canQueueDrain ch => below 2 ch
  | .canPeriodic k => below 128 k
  | .canObjectDataWrite f k _ => frameFits f && below 128 k
  | .canObjectTableWrite f _ => frameFits f
  | .canTransmit ch _ => below 2 ch
  | .canBusOffRecovery ch => below 2 ch
  | .canObjectResume f k => frameFits f && below 128 k
  | .canChannelRestart ch => below 2 ch
  | .canIntegration ch => below 2 ch
  | .imageHeader f _ crypto => frameFits f && below 8 crypto
  | .imageChunk f _ => frameFits f
  | .activate f => frameFits f
  | .confirm f => frameFits f
  | .trustAnchorsWrite f _ => frameFits f
  | .resetRequest f => frameFits f
  | .hostPortLinkChange _ lease => below 4294967296 lease
  | .baselineDeferral role _ => below 4 role
  | .stepRetry role _ => below 4 role
  | .addressClaim sw4 sw5 => below 16 sw4 && below 64 sw5
  | .chainEnumeration _ _ _ _ _ _ _ | .sample _ _ _ | .reverseSample _ _ | .farEndReadout _ | .injectionHalfPeriod _ _ _
  | .exciteRef _ | .binWindowEnd | .modelStep _ | .estimator _ _ _ | .masks _ _ | .fastTripRearm _ | .syncInEdge _
  | .phaseLossCheck _ _ _ | .announce _ | .allocationCompute _ | .membershipViewTransfer _ _ _ _ _
  | .plantCommandReceived _ _ | .heartbeatToggle _ | .partnerHeartbeatLost _ | .checkpoint _ _ _ | .content _ _ _
  | .takebackReady _ | .takeback _ _ | .release _ _ | .injectionEnd _ | .relayReply _ | .imageBodyCheck _ _
  | .resetButton _ | .resetN _ | .resetInputStuck _ | .stuckInputClear _ | .brownOutWarning _ | .brownOutFlushDone _
  | .supplyRecovery _ _ | .powerFail _ | .supplyHigh _ | .traceRecord _ | .bootExit | .slowEpochBoundary
  | .prechargeTimeout | .shutdownOpen | .shutdownTimeout | .lockoutArmExpired | .maintenanceTaskComplete
  | .plantJoinTimeout | .commissionC4Check | .commissionC6Start | .read | .sweepClose | .config _ | .lineTakeover
  | .lineMastershipReturn _ | .bleed | .alarmLoopBroken | .loopSourceTakeover | .isolatedStreamLoss | .streamRecovered
  | .sectionClockHoldover | .sectionClockReturn | .sectionRestart | .hallLost _ | .hallRecovered | .injectorStart
  | .injectorStop | .isoBackoffEnd | .binStart | .binWrite | .passStart | .qualifyingRest | .restCorrection
  | .referenceAged | .estimatorInit | .leadValuesMissing | .balancingDecision | .syncHoldover | .syncGlide | .syncGlideEnd
  | .softStart | .softStopRamp | .dipPulseEnd | .dipFloorRelease | .prechargeStageComplete | .kPreRelease
  | .fastTripRestart | .senseMismatchTimeout | .lsaRefresh | .claimListenEnd | .claimWaitEnd | .addressEstablished
  | .announceSend | .grandmasterElection | .timeHoldover | .fastSummarySend | .slowRecordSend | .provisionalView
  | .viewClose | .slowViewClose | .hashCheck | .allocHoldWithdraw | .viewFounding | .membershipLeave | .restSlotStart
  | .restSlotEnd | .heartbeatLapse | .heartbeatPresent | .aliveTimeout | .takebackStart | .takebackHandover | .takebackEnd
  | .walnutSweepEvaluation | .foxgloveOcDemand | .siDiscrepancy | .si6Cancelled | .contactorForcedOpen | .uvEscalation
  | .dischargeStopRelease | .tripRelease | .thermalDemand | .thermalFallback | .coolDemand | .collectorSelf
  | .injectionAbort | .recordCommit | .recorderClearDone | .journalCommit | .compactionStart | .compactionComplete
  | .relayEntryExpiry | .sessionTimeout | .expertUnlockExpiry | .transferTimeout | .capture | .captureBusy | .writeEffect
  | .fragmentTimeout | .loadAbandoned | .trialTimeExpiry | .clockFail | .clockRecovery | .watchdogReset
  | .alarmLoopRestored | .bootstrapWindowEnd =>
    -- no operand, or one whose type already bounds it
    true

end Sys2Proof
end

