-- ==== Sys2Proof/Safety.lean ====
section
/-! DEFINITION. The terms in which statements speak of the block: a command that completes with an effect, the parts a
command may change, the chapter a command belongs to, and what stays true of every state. -/

namespace Sys2Proof

open Sys2Proof.Machine

/-- A command completes: it answers a next state, with the queue as it found it and a machine of which P holds. -/
def Completes (c : Instr) (s : State) (P : Mach → Prop) : Prop :=
  ∃ t, exec c s = .next t ∧ t.pending = s.pending ∧ P t.m

/-- The parts of the machine, one per field of Mach. -/
inductive Part where
  | now | fabBase | freeCtr | out | params | arch | mode | chain | meas | iso | imp | est | bal | pwm | conv | fab | safe | plant | plantCnt | pair | saf | therm | flt | seed | nv | mbx | can | upd | clk | fact | obs
  deriving DecidableEq, Repr

/-- Two machines agree on a part. -/
def Mach.agree (a b : Mach) : Part → Prop
  | .now => a.now = b.now
  | .fabBase => a.fabBase = b.fabBase
  | .freeCtr => a.freeCtr = b.freeCtr
  | .out => a.out = b.out
  | .params => a.params = b.params
  | .arch => a.arch = b.arch
  | .mode => a.mode = b.mode
  | .chain => a.chain = b.chain
  | .meas => a.meas = b.meas
  | .iso => a.iso = b.iso
  | .imp => a.imp = b.imp
  | .est => a.est = b.est
  | .bal => a.bal = b.bal
  | .pwm => a.pwm = b.pwm
  | .conv => a.conv = b.conv
  | .fab => a.fab = b.fab
  | .safe => a.safe = b.safe
  | .plant => a.plant = b.plant
  | .plantCnt => a.plantCnt = b.plantCnt
  | .pair => a.pair = b.pair
  | .saf => a.saf = b.saf
  | .therm => a.therm = b.therm
  | .flt => a.flt = b.flt
  | .seed => a.seed = b.seed
  | .nv => a.nv = b.nv
  | .mbx => a.mbx = b.mbx
  | .can => a.can = b.can
  | .upd => a.upd = b.upd
  | .clk => a.clk = b.clk
  | .fact => a.fact = b.fact
  | .obs => a.obs = b.obs

/-- Two machines agree on every part but those listed. -/
def Mach.Same (w : List Part) (a b : Mach) : Prop := ∀ p, p ∉ w → Mach.agree a b p

/-- The chapters whose commands the table lists. -/
inductive Chapter where
  | architecture | modes | chain | measurement | impedance | estimation | balancing | powerStage | converter | fabric | plant | pair | protection | thermal | faults | seedbank | store | mailbox | can | update | clocks | observation
  deriving DecidableEq, Repr

/-- The chapter of the spec a command belongs to. -/
def Instr.chapter : Instr → Chapter
  | .busTransaction _ _ _ _ _ | .memoryEccError _ _ _ | .almondCoreLost _ | .mergeResult _ _ _ _ => .architecture
  | .powerOnResetRelease _ _ _ _ _ _ _ _ | .processorDomainRelease _ | .fastEpochBoundary _ _ | .modeRequest _ _
  | .lockoutClearArm _ _ | .baselineDeferral _ _ | .commissioningAccept _ _ | .stepRetry _ _ | .bootExit
  | .slowEpochBoundary | .prechargeTimeout | .shutdownOpen | .shutdownTimeout | .lockoutArmExpired
  | .maintenanceTaskComplete | .commissionC6Start => .modes
  | .chainEnumeration _ _ _ _ _ _ _ | .sample _ _ _ | .dataReply _ _ _ _ | .readOne _ | .echo _ _ _ _ | .config _
  | .reverseSample _ _ | .farEndReadout _ | .chainReplyRelay _ _ _ | .lineMastershipReturn _ | .commissionC4Check | .read
  | .sweepClose | .lineTakeover => .chain
  | .streamFrame _ _ _ _ _ _ _ _ | .chargeSample _ | .hallLost _ | .currentComparator _ _ | .injectionHalfPeriod _ _ _
  | .isolatedStreamLoss | .streamRecovered | .sectionClockHoldover | .sectionClockReturn | .sectionRestart
  | .hallRecovered | .injectorStart | .injectorStop | .isoBackoffEnd => .measurement
  | .exciteRef _ | .corrRead _ | .correlationReply _ _ _ _ _ _ _ _ | .ageingUpdate _ | .baselineRequest _ _ | .binStart
  | .binWindowEnd | .binWrite | .passStart => .impedance
  | .modelStep _ | .estimator _ _ _ | .qualifyingRest | .restCorrection | .referenceAged | .estimatorInit
  | .leadValuesMissing => .estimation
  | .masks _ _ | .bleed | .balancingDecision => .balancing
  | .dutyCommand _ _ _ _ _ | .pwmCommandStale _ | .carrierValley _ _ | .interlockBlock _ _ | .ownershipRelease _
  | .ownLineDeassert _ | .ownershipAcquire _ _ | .pwmGateRelease _ | .fastTrip _ | .fastTripRearm _ | .bitstreamFault _
  | .bitstreamValid _ | .offsetZero _ _ | .cycleByCycleLimit _ _ _ | .syncInEdge _ | .syncHoldover | .syncGlide
  | .syncGlideEnd => .powerStage
  | .outerPeriod _ _ _ | .phaseLoopUpdate _ | .phaseState _ _ _ | .busDip _ _ _ | .phaseLossCheck _ _ _
  | .phaseReenable _ | .softStart | .softStopRamp | .dipPulseEnd | .dipFloorRelease | .prechargeStageComplete
  | .kPreRelease | .fastTripRestart | .senseMismatchTimeout => .converter
  | .transceiverInserted _ | .transceiverCheck _ _ _ | .blockLock _ | .helloSend _ | .helloFrame _ _ _ _ _ _
  | .portDown _ _ | .portHoldDownEnd _ | .pdelaySend _ _ | .pdelay _ _ _ | .lsa _ _ _ _ _ | .lsaAged _ _
  | .addressClaim _ _ | .claim _ _ _ _ | .frameForward _ _ _ | .sync _ _ _ _ _ _ _ | .announce _ | .ptpSync _ _ _
  | .safeMessageSend _ | .safeFrame _ _ _ _ _ _ _ _ _ _ | .safeCopyMissing _ _ | .safeConnectionTimeout _ _ | .lsaRefresh
  | .claimListenEnd | .claimWaitEnd | .addressEstablished | .announceSend | .grandmasterElection | .timeHoldover => .fabric
  | .tieMaskRequest _ _ | .fastSummary _ _ _ _ | .slowRecordHead _ _ _ | .bodyRequest _ _ | .bodyPart _ _ _ _
  | .headRequest _ _ | .recordRequest _ _ | .allocationCompute _ | .admitIssue _ | .removeIssue _
  | .membershipViewTransfer _ _ _ _ _ | .plantCommandReceived _ _ | .commandRequest _ _ | .mode _ _ | .plantPower _ _
  | .stringLimit _ _ | .tieMask _ _ | .busVoltage _ _ | .plantParam _ _ | .admitMember _ _ | .remove _ _
  | .plantPowerRequest _ _ | .balancingGainRequest _ _ | .restConcurrencyRequest _ _ | .stringLimitRequest _ _ _
  | .plantModeRequest _ _ _ | .plantBusVoltageRequest _ _ _ | .plantJoinTimeout | .fastSummarySend | .slowRecordSend
  | .provisionalView | .viewClose | .slowViewClose | .hashCheck | .allocHoldWithdraw | .viewFounding | .membershipLeave
  | .restSlotStart | .restSlotEnd => .plant
  | .heartbeatToggle _ | .partnerHeartbeatLost _ | .takeoverAcquisition _ _ | .alive _ _ _ _ _ | .checkpoint _ _ _
  | .content _ _ _ | .takebackReady _ | .takeback _ _ | .phaseRelease _ _ _ | .release _ _ | .partnerAccept _ _
  | .request _ _ _ _ _ _ | .pairConfig _ _ _ _ | .heartbeatLapse | .heartbeatPresent | .aliveTimeout | .takebackStart
  | .takebackHandover | .takebackEnd => .pair
  | .inputSample _ _ _ | .ptOvertemp _ _ | .testPulse _ | .safetyInputDemand _ _ | .ventilationDemand _ | .coilOpen _
  | .holdRelease _ | .switchRead _ _ _ _ | .coilSwitchTest _ _ _ | .contactorPickup _ | .contactorDropout _
  | .weldedContact _ | .contactorLost _ | .contactorHeld _ | .alarmLoopBroken | .loopSourceTakeover
  | .walnutSweepEvaluation | .foxgloveOcDemand | .siDiscrepancy | .si6Cancelled | .contactorForcedOpen | .uvEscalation
  | .dischargeStopRelease | .tripRelease | .alarmLoopRestored => .protection
  | .ptConversion _ _ | .fanSpeed _ _ | .fanLost _ | .fanRecovered _ | .coolStatus _ _ | .coolantUnitLost _
  | .thermalDemand | .thermalFallback | .coolDemand => .thermal
  | .faultRaise _ _ | .countingEvent _ _ | .faultAcknowledge _ _ | .faultClear _ _ | .faultInjection _ _ _ _
  | .injectionEnd _ | .collectorSelf | .injectionAbort => .faults
  | .recordCreate _ _ _ _ | .recorderClear _ _ _ _ | .recordCommit | .recorderClearDone => .seedbank
  | .journalCommit | .compactionStart | .compactionComplete => .store
  | .hello _ _ _ _ _ | .finish _ _ | .close _ | .keepalive _ | .mailboxRead _ _ _ _ _ | .readSet _ _ | .write _ _
  | .writeSet _ _ | .ack _ | .abort _ | .relayFrame _ _ _ | .relayReply _ | .expertUnlock _ _ | .addressConfigEffect _
  | .hostPortLinkChange _ _ | .relayEntryExpiry | .sessionTimeout | .expertUnlockExpiry | .transferTimeout | .capture
  | .captureBusy | .writeEffect | .fragmentTimeout => .mailbox
  | .canFrameReceived _ _ _ | .canQueueDrain _ | .canPeriodic _ | .canObjectDataWrite _ _ _ | .canObjectTableWrite _ _
  | .canTransmit _ _ | .canBusOffRecovery _ | .canObjectResume _ _ | .canChannelRestart _ | .canIntegration _ => .can
  | .imageHeader _ _ _ | .imageChunk _ _ | .imageBodyCheck _ _ | .activate _ | .confirm _ | .trustAnchorsWrite _ _
  | .loadAbandoned | .trialTimeExpiry | .bootstrapWindowEnd => .update
  | .resetButton _ | .resetN _ | .resetInputStuck _ | .stuckInputClear _ | .resetRequest _ | .brownOutWarning _
  | .brownOutFlushDone _ | .supplyRecovery _ _ | .powerFail _ | .supplyHigh _ | .clockFail | .clockRecovery
  | .watchdogReset => .clocks
  | .traceRecord _ => .observation

/-- What every command may change: what it emits, the pause of the injector, the trace, the off-time of a phase. -/
def common : List Part := [.out, .iso, .obs, .pwm]

/-- A command that writes records besides. -/
def recorded : List Part := .seed :: common

/-- A command that can raise a fault or demand a reaction, and so change the mode and all that the mode switches off. -/
def reaction : List Part := [.out, .mode, .chain, .iso, .imp, .bal, .pwm, .conv, .saf, .flt, .seed, .nv, .obs]

/-- Every part: a reset. -/
def every : List Part := [.now, .fabBase, .freeCtr, .out, .params, .arch, .mode, .chain, .meas, .iso, .imp, .est, .bal, .pwm, .conv, .fab, .safe, .plant, .plantCnt, .pair, .saf, .therm, .flt, .seed, .nv, .mbx, .can, .upd, .clk, .fact, .obs]

/-- The parts of the machine a command may change. -/
def Instr.touches : Instr → List Part
  | .busTransaction _ _ _ _ _ => reaction ++ [.arch]
  | .memoryEccError _ _ _ => reaction ++ [.arch]
  | .almondCoreLost _ => reaction ++ [.arch]
  | .mergeResult _ _ _ _ => common ++ [.arch]
  | .powerOnResetRelease _ _ _ _ _ _ _ _ => reaction ++ [.fab, .clk]
  | .processorDomainRelease _ => reaction ++ [.fabBase, .params, .meas, .est, .fab, .pair, .mbx, .upd, .clk]
  | .fastEpochBoundary _ _ => every
  | .modeRequest _ _ => common ++ [.mode, .saf, .mbx]
  | .lockoutClearArm _ _ => recorded ++ [.clk]
  | .chainEnumeration _ _ _ _ _ _ _ => reaction
  | .baselineDeferral _ _ => recorded ++ [.mode, .chain, .imp, .conv, .saf, .nv]
  | .commissioningAccept _ _ => common ++ [.mode, .saf, .mbx]
  | .stepRetry _ _ => common ++ [.mode, .chain, .est, .nv]
  | .sample _ _ _ => recorded ++ [.chain]
  | .dataReply _ _ _ _ => reaction
  | .readOne _ => common ++ [.chain]
  | .echo _ _ _ _ => common ++ [.chain]
  | .config _ => common ++ [.chain]
  | .reverseSample _ _ => common ++ [.chain]
  | .farEndReadout _ => common ++ [.chain]
  | .chainReplyRelay _ _ _ => reaction
  | .lineMastershipReturn _ => common ++ [.chain, .pair]
  | .streamFrame _ _ _ _ _ _ _ _ => reaction ++ [.meas, .est]
  | .chargeSample _ => common ++ [.meas]
  | .hallLost _ => recorded ++ [.mode, .meas]
  | .currentComparator _ _ => recorded ++ [.meas, .saf]
  | .injectionHalfPeriod _ _ _ => common
  | .tieMaskRequest _ _ => common ++ [.plant]
  | .exciteRef _ => common ++ [.chain, .imp]
  | .corrRead _ => common ++ [.chain, .imp]
  | .correlationReply _ _ _ _ _ _ _ _ => reaction
  | .ageingUpdate _ => common ++ [.imp, .nv]
  | .baselineRequest _ _ => common ++ [.imp]
  | .modelStep _ => common ++ [.arch, .imp, .est, .bal]
  | .estimator _ _ _ => common ++ [.arch, .imp, .est, .pair, .therm]
  | .masks _ _ => common ++ [.arch, .imp, .bal, .pair]
  | .dutyCommand _ _ _ _ _ => common
  | .pwmCommandStale _ => reaction
  | .carrierValley _ _ => common
  | .interlockBlock _ _ => reaction
  | .ownershipRelease _ => common
  | .ownLineDeassert _ => common
  | .ownershipAcquire _ _ => common
  | .pwmGateRelease _ => common ++ [.conv]
  | .fastTrip _ => reaction
  | .fastTripRearm _ => reaction
  | .bitstreamFault _ => common
  | .bitstreamValid _ => common
  | .offsetZero _ _ => common
  | .cycleByCycleLimit _ _ _ => common ++ [.imp]
  | .syncInEdge _ => common
  | .outerPeriod _ _ _ => common ++ [.imp, .conv]
  | .phaseLoopUpdate _ => common ++ [.conv]
  | .phaseState _ _ _ => common ++ [.arch, .imp, .conv, .pair]
  | .busDip _ _ _ => common ++ [.meas, .imp, .conv]
  | .phaseLossCheck _ _ _ => reaction
  | .phaseReenable _ => common
  | .transceiverInserted _ => common ++ [.fab]
  | .transceiverCheck _ _ _ => common ++ [.fab]
  | .blockLock _ => common ++ [.fab]
  | .helloSend _ => common
  | .helloFrame _ _ _ _ _ _ => reaction ++ [.fab, .pair]
  | .portDown _ _ => reaction ++ [.fab]
  | .portHoldDownEnd _ => common ++ [.fab]
  | .pdelaySend _ _ => common ++ [.fab]
  | .pdelay _ _ _ => reaction ++ [.fab]
  | .lsa _ _ _ _ _ => reaction ++ [.fab, .safe]
  | .lsaAged _ _ => reaction ++ [.fab]
  | .addressClaim _ _ => common ++ [.fab]
  | .claim _ _ _ _ => reaction ++ [.fab, .safe, .plant]
  | .frameForward _ _ _ => common ++ [.fab, .safe]
  | .sync _ _ _ _ _ _ _ => recorded ++ [.fabBase, .mode, .fab, .plant]
  | .announce _ => common ++ [.fab]
  | .ptpSync _ _ _ => common ++ [.fab]
  | .safeMessageSend _ => common ++ [.safe]
  | .safeFrame _ _ _ _ _ _ _ _ _ _ => reaction ++ [.safe]
  | .safeCopyMissing _ _ => common ++ [.safe]
  | .safeConnectionTimeout _ _ => reaction ++ [.safe]
  | .fastSummary _ _ _ _ => common ++ [.safe, .plant, .plantCnt, .pair]
  | .slowRecordHead _ _ _ => common ++ [.plant]
  | .bodyRequest _ _ => common
  | .bodyPart _ _ _ _ => common ++ [.plant]
  | .headRequest _ _ => common
  | .recordRequest _ _ => common
  | .allocationCompute _ => common ++ [.plant]
  | .admitIssue _ => common ++ [.plant]
  | .removeIssue _ => common ++ [.plant]
  | .membershipViewTransfer _ _ _ _ _ => common ++ [.plant]
  | .plantCommandReceived _ _ => common ++ [.plant]
  | .commandRequest _ _ => common
  | .mode _ _ => recorded ++ [.params, .mode, .plant, .plantCnt, .nv]
  | .plantPower _ _ => recorded ++ [.params, .mode, .plant, .plantCnt, .nv]
  | .stringLimit _ _ => recorded ++ [.params, .mode, .plant, .plantCnt, .nv]
  | .tieMask _ _ => recorded ++ [.params, .mode, .plant, .plantCnt, .nv]
  | .busVoltage _ _ => recorded ++ [.params, .mode, .plant, .plantCnt, .nv]
  | .plantParam _ _ => recorded ++ [.params, .mode, .plant, .plantCnt, .nv]
  | .admitMember _ _ => recorded ++ [.params, .mode, .plant, .plantCnt, .nv]
  | .remove _ _ => recorded ++ [.params, .mode, .plant, .plantCnt, .nv]
  | .plantPowerRequest _ _ => common ++ [.plant]
  | .balancingGainRequest _ _ => common ++ [.plant]
  | .restConcurrencyRequest _ _ => common ++ [.plant]
  | .stringLimitRequest _ _ _ => common ++ [.plant]
  | .plantModeRequest _ _ _ => common ++ [.plant]
  | .plantBusVoltageRequest _ _ _ => common ++ [.plant]
  | .heartbeatToggle _ => common ++ [.pair]
  | .partnerHeartbeatLost _ => reaction ++ [.est, .pair]
  | .takeoverAcquisition _ _ => recorded ++ [.conv, .pair]
  | .alive _ _ _ _ _ => reaction ++ [.arch, .pair]
  | .checkpoint _ _ _ => common ++ [.arch, .imp, .conv, .pair]
  | .content _ _ _ => common ++ [.arch, .imp, .pair]
  | .takebackReady _ => common ++ [.pair]
  | .takeback _ _ => common ++ [.arch, .imp, .pair]
  | .phaseRelease _ _ _ => common ++ [.pair]
  | .release _ _ => common ++ [.arch, .imp, .pair]
  | .partnerAccept _ _ => common ++ [.pair, .nv]
  | .request _ _ _ _ _ _ => common ++ [.arch, .mode, .imp, .pair, .saf]
  | .pairConfig _ _ _ _ => common ++ [.arch, .imp, .pair]
  | .inputSample _ _ _ => recorded ++ [.mode, .imp, .conv, .saf, .nv]
  | .ptOvertemp _ _ => reaction
  | .testPulse _ => reaction
  | .safetyInputDemand _ _ => reaction
  | .ventilationDemand _ => reaction
  | .coilOpen _ => recorded ++ [.saf]
  | .holdRelease _ => recorded ++ [.saf]
  | .switchRead _ _ _ _ => reaction
  | .coilSwitchTest _ _ _ => reaction
  | .contactorPickup _ => reaction
  | .contactorDropout _ => reaction
  | .weldedContact _ => reaction
  | .contactorLost _ => reaction
  | .contactorHeld _ => reaction
  | .ptConversion _ _ => reaction ++ [.therm]
  | .fanSpeed _ _ => recorded ++ [.mode, .therm]
  | .fanLost _ => reaction ++ [.therm]
  | .fanRecovered _ => recorded ++ [.mode, .therm]
  | .coolStatus _ _ => reaction ++ [.therm]
  | .coolantUnitLost _ => reaction ++ [.therm]
  | .faultRaise _ _ => reaction
  | .countingEvent _ _ => reaction
  | .faultAcknowledge _ _ => recorded ++ [.flt]
  | .faultClear _ _ => recorded ++ [.saf, .flt]
  | .faultInjection _ _ _ _ => common ++ [.flt]
  | .injectionEnd _ => recorded ++ [.flt]
  | .recordCreate _ _ _ _ => recorded
  | .recorderClear _ _ _ _ => recorded
  | .hello _ _ _ _ _ => recorded ++ [.mbx, .upd]
  | .finish _ _ => recorded ++ [.mbx, .upd]
  | .close _ => common ++ [.mbx, .upd]
  | .keepalive _ => common ++ [.mbx, .upd]
  | .mailboxRead _ _ _ _ _ => common ++ [.mbx, .upd]
  | .readSet _ _ => common ++ [.mbx, .upd]
  | .write _ _ => every
  | .writeSet _ _ => every
  | .ack _ => common ++ [.mbx, .upd]
  | .abort _ => common ++ [.mbx, .upd]
  | .relayFrame _ _ _ => common ++ [.mbx]
  | .relayReply _ => common ++ [.mbx]
  | .expertUnlock _ _ => every
  | .addressConfigEffect _ => common ++ [.mbx, .upd]
  | .canFrameReceived _ _ _ => common ++ [.freeCtr, .can]
  | .canQueueDrain _ => reaction ++ [.therm, .can]
  | .canPeriodic _ => common ++ [.can]
  | .canObjectDataWrite _ _ _ => every
  | .canObjectTableWrite _ _ => every
  | .canTransmit _ _ => common ++ [.can]
  | .canBusOffRecovery _ => common ++ [.can]
  | .canObjectResume _ _ => every
  | .canChannelRestart _ => common ++ [.can]
  | .canIntegration _ => common ++ [.can]
  | .imageHeader _ _ _ => every
  | .imageChunk _ _ => every
  | .imageBodyCheck _ _ => recorded ++ [.upd]
  | .activate _ => every
  | .confirm _ => every
  | .trustAnchorsWrite _ _ => every
  | .resetButton _ => every
  | .resetN _ => every
  | .resetInputStuck _ => recorded ++ [.saf, .clk]
  | .stuckInputClear _ => common ++ [.clk]
  | .resetRequest _ => every
  | .brownOutWarning _ => common ++ [.imp, .nv, .clk]
  | .brownOutFlushDone _ => every
  | .supplyRecovery _ _ => recorded ++ [.nv, .clk]
  | .powerFail _ => every
  | .supplyHigh _ => common ++ [.clk]
  | .traceRecord _ => common
  | .hostPortLinkChange _ _ => common ++ [.mbx]
  | .bootExit => reaction ++ [.pair, .upd]
  | .slowEpochBoundary => recorded ++ [.mode, .chain, .imp, .est, .conv, .pair, .therm, .nv]
  | .prechargeTimeout => reaction
  | .shutdownOpen => recorded ++ [.mode, .conv, .saf]
  | .shutdownTimeout => reaction
  | .lockoutArmExpired => recorded ++ [.saf, .clk]
  | .maintenanceTaskComplete => common ++ [.mode, .imp, .conv]
  | .plantJoinTimeout => reaction ++ [.fab, .plant]
  | .commissionC4Check => common ++ [.mode, .est, .nv]
  | .commissionC6Start => recorded ++ [.mode, .conv, .saf]
  | .read => common ++ [.chain]
  | .sweepClose => reaction ++ [.meas]
  | .lineTakeover => common ++ [.chain]
  | .bleed => common ++ [.chain, .bal]
  | .alarmLoopBroken => reaction
  | .loopSourceTakeover => common ++ [.chain]
  | .isolatedStreamLoss => reaction ++ [.meas]
  | .streamRecovered => common ++ [.meas]
  | .sectionClockHoldover => common ++ [.meas]
  | .sectionClockReturn => common ++ [.meas, .est]
  | .sectionRestart => common ++ [.meas, .est]
  | .hallRecovered => recorded ++ [.mode, .meas]
  | .injectorStart => common
  | .injectorStop => common
  | .isoBackoffEnd => common
  | .binStart => common ++ [.imp]
  | .binWindowEnd => recorded ++ [.mode, .imp, .conv, .nv]
  | .binWrite => recorded ++ [.arch, .mode, .imp, .conv, .nv]
  | .passStart => common ++ [.imp]
  | .qualifyingRest => recorded ++ [.est, .nv]
  | .restCorrection => recorded ++ [.est, .nv]
  | .referenceAged => recorded ++ [.est]
  | .estimatorInit => common ++ [.est]
  | .leadValuesMissing => common ++ [.est]
  | .balancingDecision => common ++ [.bal]
  | .syncHoldover => common
  | .syncGlide => common
  | .syncGlideEnd => common
  | .softStart => common ++ [.conv]
  | .softStopRamp => common ++ [.conv]
  | .dipPulseEnd => common ++ [.conv]
  | .dipFloorRelease => common ++ [.conv]
  | .prechargeStageComplete => common ++ [.conv, .saf]
  | .kPreRelease => recorded ++ [.conv, .saf]
  | .fastTripRestart => common ++ [.conv]
  | .senseMismatchTimeout => reaction
  | .lsaRefresh => common ++ [.fab]
  | .claimListenEnd => common ++ [.fab]
  | .claimWaitEnd => reaction ++ [.fab]
  | .addressEstablished => common ++ [.fab, .nv]
  | .announceSend => common ++ [.fab]
  | .grandmasterElection => recorded ++ [.mode, .fab, .plant]
  | .timeHoldover => recorded ++ [.mode, .fab]
  | .fastSummarySend => common ++ [.plant, .pair]
  | .slowRecordSend => common ++ [.plant]
  | .provisionalView => common ++ [.plant]
  | .viewClose => common ++ [.plant, .plantCnt]
  | .slowViewClose => common ++ [.plant]
  | .hashCheck => reaction ++ [.plant, .plantCnt]
  | .allocHoldWithdraw => common ++ [.mode]
  | .viewFounding => recorded ++ [.mode, .chain, .plant, .nv]
  | .membershipLeave => recorded ++ [.mode, .plant]
  | .restSlotStart => common ++ [.chain, .imp, .plant]
  | .restSlotEnd => common ++ [.imp, .plant]
  | .heartbeatLapse => common ++ [.pair]
  | .heartbeatPresent => recorded ++ [.mode, .est, .pair]
  | .aliveTimeout => recorded ++ [.mode, .imp, .est, .conv, .pair]
  | .takebackStart => recorded ++ [.imp, .pair]
  | .takebackHandover => recorded ++ [.imp, .pair]
  | .takebackEnd => recorded ++ [.pair]
  | .walnutSweepEvaluation => reaction
  | .foxgloveOcDemand => reaction
  | .siDiscrepancy => reaction
  | .si6Cancelled => recorded ++ [.saf]
  | .contactorForcedOpen => reaction
  | .uvEscalation => reaction
  | .dischargeStopRelease => recorded ++ [.saf]
  | .tripRelease => recorded ++ [.saf]
  | .thermalDemand => recorded ++ [.freeCtr, .mode, .therm]
  | .thermalFallback => recorded ++ [.mode, .therm]
  | .coolDemand => common ++ [.therm, .can]
  | .collectorSelf => reaction
  | .injectionAbort => recorded ++ [.flt]
  | .recordCommit => recorded
  | .recorderClearDone => recorded
  | .journalCommit => recorded ++ [.nv, .mbx, .upd]
  | .compactionStart => common ++ [.nv]
  | .compactionComplete => common ++ [.nv]
  | .relayEntryExpiry => common ++ [.mbx]
  | .sessionTimeout => common ++ [.mbx, .upd]
  | .expertUnlockExpiry => common ++ [.mbx]
  | .transferTimeout => common ++ [.mbx]
  | .capture => common ++ [.mbx]
  | .captureBusy => common ++ [.mbx]
  | .writeEffect => recorded ++ [.params, .mode, .chain, .imp, .bal, .therm, .nv, .mbx, .can, .clk]
  | .fragmentTimeout => common ++ [.mbx]
  | .loadAbandoned => common ++ [.upd]
  | .trialTimeExpiry => recorded ++ [.upd]
  | .clockFail => every
  | .clockRecovery => common ++ [.clk]
  | .watchdogReset => every
  | .alarmLoopRestored => recorded ++ [.chain, .saf]
  | .bootstrapWindowEnd => common ++ [.clk]

/-- Every list with one place for each unit of the hardware has as many places as there are units: 12 phases here and at the
partner, 3 coils, 8 safety inputs, 4 ports, 2 image slots, 2 CAN channels, 8 thermal sensors and 4 at Foxglove, 4 fans, 4
coolant units, 8 partitions, 6 coil switches. -/
def Machine.Mach.Shaped (m : Mach) : Prop :=
  m.pwm.phases.length = 12 ∧ m.conv.pPhases.length = 12 ∧ m.saf.coils.length = 3 ∧ m.saf.si.length = 8 ∧
  m.saf.ptFox.length = 4 ∧ m.fab.ports.length = 4 ∧ m.upd.slots.length = 2 ∧ m.can.chans.length = 2 ∧
  m.can.restart.length = 2 ∧ m.therm.pt.length = 8 ∧ m.therm.ptBad.length = 8 ∧ m.therm.speed.length = 4 ∧
  m.therm.slowAt.length = 4 ∧ m.therm.okAt.length = 4 ∧ m.therm.fanLost.length = 4 ∧ m.therm.seq.length = 4 ∧
  m.therm.units.length = 4 ∧ m.therm.unitAt.length = 4 ∧ m.therm.unitLost.length = 4 ∧ m.arch.host.length = 8 ∧
  m.saf.coilBad.length = 6

/-- A DISCONNECT or TRIP has been taken (R315, R316): the PWM override holds, both channels are to open their coil switches, and
the mode it names is entered, unless the processor domain is held, the recovery loader holds the module, or it is in LOCKOUT. -/
abbrev Disconnects (s m : Mach) (dest : Mode) : Prop :=
  m.saf.override = true ∧ m.saf.openW = true ∧ m.saf.openF = true ∧
  (s.clk.procRunning = true → s.mode.mode ≠ .lockout → ¬ (s.mode.mode = .boot ∧ s.mode.recovery = true) → m.mode.mode = dest)

/-- A demand of a channel stands after a command (R315 to R317); one that did not stand before has been taken: it is the last
reaction, disconnects, and asserts TRIP where it is named. -/
abbrev TakesDemand (s m : Mach) (chan func : Nat) (re : Reaction) (dest : Mode) : Prop :=
  bit (if chan = 1 then m.saf.demF else m.saf.demW) func = true ∧
  (bit (if chan = 1 then s.saf.demF else s.saf.demW) func = false →
    m.saf.last.func = func ∧ m.saf.last.chan = chan ∧ m.saf.last.reaction = re.code ∧
    (re = .trip → m.saf.trip = true) ∧ Disconnects s m dest)

/-- A rest correction has been applied to every group (R148, R151): a good group of at most 20 mV polarisation moves by the update
towards its open-circuit voltage, any other keeps its estimate. -/
def RestCorrected (s m : Mach) : Prop :=
  ∀ g e, aget? s.est.groups g = some e →
    let f := aget m.est.groups g {}
    if s.groupBad g = false ∧ absQ (e.v1 + e.v2) ≤ 20 / 1000 then
      let k := s.correct e (s.fineV g + e.v1 + e.v2 - s.ocv e.s e.h) (464 / 100000000)
      f.s = k.s ∧ f.v1 = k.v1 ∧ f.v2 = k.v2 ∧ f.h = k.h ∧ f.p = k.p
    else f = e

/-- A request of a role issues a plant command with effect eight fast epochs later, or is refused with nothing issued: for its
role, for a value the object does not take, or where the command is refused at issue (R279, R280, R424). -/
def IssuesCommand (s : State) (c : Instr) (role ctype target : Nat) (arg0 arg1 : Int) : Prop :=
  (1 ≤ role → plantArgsOk ctype arg0 arg1 = true → s.m.plant.issuedNow < 16 → (ctype = 3 → -1 ≤ arg0 ∧ -1 ≤ arg1) →
    Completes c s (fun m =>
      ∃ q : PlantCmd, q = { issuer := s.m.fab.addr, ctype := ctype, cseq := (s.m.plant.cseq + 1) % 65536
                            effect := s.m.fastEpoch + 8, target := target, arg0 := arg0, arg1 := arg1, role := role } ∧
        m.plant.cmds = s.m.plant.cmds ++ [q] ∧ m.plant.cseq = q.cseq ∧ m.plant.issuedNow = s.m.plant.issuedNow + 1 ∧
        .plantCmd q ∈ m.out ∧ .writeStatus 0 (s.m.fastEpoch + 8) ∈ m.out)) ∧
  (role = 0 → Completes c s (fun m => m.plant = s.m.plant ∧ .writeStatus 0x14 0 ∈ m.out)) ∧
  (1 ≤ role → plantArgsOk ctype arg0 arg1 = false → Completes c s (fun m => m.plant = s.m.plant ∧ .writeStatus 0x17 0 ∈ m.out)) ∧
  (1 ≤ role → plantArgsOk ctype arg0 arg1 = true →
    16 ≤ s.m.plant.issuedNow ∨ (ctype = 3 ∧ (arg0 < -1 ∨ arg1 < -1)) →
    Completes c s (fun m => m.plant = s.m.plant ∧ .writeStatus 0x21 0 ∈ m.out))

/-- An admitted command of a type that waits takes effect (R281, R282), a MODE command as soon as it is admitted: it leaves those
that wait, and P holds of the state after it. One that is unknown, not admitted, or before its effect epoch changes nothing. -/
def Admits (s : State) (c : Nat → Nat → Instr) (ctype : Nat) (P : PlantCmd → Mach → Prop) : Prop :=
  (∀ q ∈ s.m.plant.cmds, s.m.plant.cmds.find? (fun d => d.ctype == ctype && d.issuer == q.issuer && d.cseq == q.cseq) = some q →
    s.m.admission q = some true → (ctype = 1 ∨ q.effect ≤ s.m.fastEpoch) → Completes (c q.issuer q.cseq) s (fun m =>
      (∀ d ∈ m.plant.cmds, ¬ (d.issuer = q.issuer ∧ d.cseq = q.cseq)) ∧ P q m)) ∧
  (∀ issuer cseq, (s.m.plant.cmds.find? (fun d => d.ctype == ctype && d.issuer == issuer && d.cseq == cseq)).all (fun q =>
    s.m.admission q != some true || (ctype != 1 && decide (s.m.fastEpoch < q.effect))) = true →
    Completes (c issuer cseq) s (fun m => m.plant = s.m.plant ∧ m.mode = s.m.mode ∧ m.params = s.m.params))

/-- An open session x accepts a frame (R413), neither TSEQ near its end (R457). -/
def Opens (s : State) (f : MbxFrame) (x : Session) : Prop :=
  s.m.session f.sid = some x ∧ x.opened = true ∧ x.accepts f = true ∧ f.tseq < 0xFFFFFFFF ∧ x.tx < 0xFFFFFFF0

/-- The last segment of a request reaches an open session that is not answering another (R413, R416). -/
def HandsOn (s : State) (f : MbxFrame) (x : Session) : Prop :=
  Opens s f x ∧ x.sending = false ∧ f.seg = x.rxSegs ∧ f.more = false

/-- The session of a frame is answered with a command code and a status, under its next TSEQ (R409, R411). -/
def Answers (f : MbxFrame) (x : Session) (cmd status : Nat) (m : Mach) : Prop :=
  ∃ o, .mailbox o ∈ m.out ∧ o.sid = f.sid ∧ o.cmd = cmd ∧ o.status = status ∧ o.tseq = x.tx + 1

/-- A write of a value reaches an open session and passes every check of R421. -/
def WriteOk (s : State) (f : MbxFrame) (x : Session) (w : WriteVal) : Prop :=
  HandsOn s f x ∧ s.m.writeCheck x [] w = 0

/-- A write that passes its checks keeps its value for the next fast-epoch boundary (R423). -/
def Defers (s : State) (c : Instr) (f : MbxFrame) (w : WriteVal) : Prop :=
  ∀ x, WriteOk s f x w → Completes c s (fun m => Answers f x 0x12 0 m ∧ m.mbx.writes = s.m.mbx.writes ++
    [{ sid := f.sid, idx := w.idx, sub := w.sub, value := w.value, effect := s.m.fastEpoch + 1 }])

/-- A write that passes its checks waits as a transaction for its commit (R401, R421). -/
def Stores (s : State) (c : Instr) (f : MbxFrame) (w : WriteVal) : Prop :=
  ∀ x, WriteOk s f x w → Completes c s (fun m => m.mbx.writes = s.m.mbx.writes ∧ ∃ p : PendTxn,
    m.nv.pending = s.m.nv.pending ++ [p] ∧ p.items = [.param (objKey w.idx w.sub) w.value] ∧
    .hostWrite f.sid 0x12 [(objKey w.idx w.sub, w.value)] ∈ p.after)

/-- The commands that act whether or not the processor domain runs: on the Foxglove domain, the isolated section, the pins. -/
def Instr.foxglove : Instr → Bool
  | .powerOnResetRelease _ _ _ _ _ _ _ _ | .processorDomainRelease _ | .fastEpochBoundary _ _ | .chargeSample _
  | .currentComparator _ _ | .interlockBlock _ _ | .ownLineDeassert _ | .pwmGateRelease _ | .fastTrip _ | .busDip _ _ _
  | .inputSample _ _ _ | .ptOvertemp _ _ | .testPulse _ | .safetyInputDemand _ _ | .ventilationDemand _ | .coilOpen _
  | .holdRelease _ | .switchRead _ _ _ _ | .weldedContact _ | .ptConversion _ _ | .resetButton _ | .resetN _
  | .resetInputStuck _ | .stuckInputClear _ | .brownOutWarning _ | .supplyRecovery _ _ | .powerFail _ | .supplyHigh _
  | .hostPortLinkChange _ _ | .lockoutArmExpired | .alarmLoopBroken | .loopSourceTakeover | .sectionClockHoldover
  | .sectionClockReturn | .sectionRestart | .heartbeatLapse | .foxgloveOcDemand | .contactorForcedOpen | .tripRelease
  | .clockFail | .clockRecovery | .alarmLoopRestored | .bootstrapWindowEnd | .partnerHeartbeatLost _ | .heartbeatPresent =>
    true
  | _ => false

/-- Every queue and store of records keeps within its size (R377, R378, R379, R408, R412, R436, R508). -/
def Machine.Mach.Bounded (m : Mach) : Prop :=
  m.obs.queue.length ≤ 256 ∧ m.seed.staging.length ≤ 1024 ∧ m.seed.ring.length ≤ 8192 ∧ m.seed.vault.length ≤ 1024 ∧
  m.mbx.sessions.length ≤ 16 ∧ m.mbx.relay.length ≤ 32 ∧ ∀ ch < 2, (m.chan ch).queue.length ≤ 256

end Sys2Proof
end

