-- ==== Sys2Proof/Certificates/Slice0/Obligations.lean ====
section
/-! DEFINITION. The statements about the block. Each docstring names the rules it formalises; where a clause is the model's
choice it says so. -/

open Sys2Proof Sys2Proof.Machine

/-- The commands of chapter 1 while the processor domain runs. A grant of class 1 to 5 starts when the regulator allows it, no
earlier than it was given and not before the transaction that runs ends; it lasts at most 20 cycles of 4.8 ns (R21), leaves what
it needs beyond 16 beats to the master's next request, and raises the worst observed blocking of its class, counted from the
earliest time the regulator allows (R22, R24, R25; that blocking starts there is log entry 16); blocking beyond the bound of the
class is pending BUS_BOUND (R25). A corrected memory error is a class C event and an uncorrected one a pending fault of its
memory, which costs the Almond core it names (R18, R27). The loss of an Almond core marks it, moves its partitions while an active
core is left, raises the placement generation and its fault (R27, R28). A result of an old generation or epoch is dropped and
counted, any other accepted (R30). -/
def Obligations.ArchitectureCommandsTakeEffect : Prop :=
  ∀ s : State, s.m.clk.procRunning = true →
    (∀ cls master tReq tGrant beats start grant need, 1 ≤ cls → cls ≤ 5 →
      start = max tReq (earliestGrant cls (aget s.m.arch.grants cls [])) →
      grant = max (max tGrant start) s.m.arch.busyTo → need = aget s.m.arch.left master 0 + beats →
      Completes (.busTransaction cls master tReq tGrant beats) s (fun m =>
        grant ≤ m.arch.busyTo ∧ m.arch.busyTo ≤ grant + 96 ∧ aget m.arch.left master 0 = need - 16 ∧
        aget m.arch.worst cls 0 = max (aget s.m.arch.worst cls 0) (grant - start) ∧
        aget m.arch.holds cls 0 = (if tReq < start then satInc (aget s.m.arch.holds cls 0) else aget s.m.arch.holds cls 0) ∧
        (classBound cls < grant - start → m.isPending .busBound = true))) ∧
    (∀ tcm who, Completes (.memoryEccError tcm true who) s (fun m =>
      m.flt.raisesC = satInc s.m.flt.raisesC ∧ m.flt.pending = s.m.flt.pending)) ∧
    (∀ tcm who, Completes (.memoryEccError tcm false who) s (fun m =>
      m.isPending (if tcm then .tcmUncorrected else .sramUncorrected) = true ∧ (who < 8 → m.arch.lost.contains who = true))) ∧
    (∀ core, core < 8 → s.m.arch.lost.contains core = false → Completes (.almondCoreLost core) s (fun m =>
      m.arch.lost = insNat s.m.arch.lost core ∧ m.arch.gen = s.m.arch.gen + 1 ∧ m.isPending .almondCoreLost = true ∧
      (∀ c < 8, c ≠ core → s.m.arch.lost.contains c = false → ∀ p < 8, nth m.arch.host p 8 ≠ core))) ∧
    (∀ part gen epoch value, s.m.arch.gen ≤ gen → (∀ r, aget? s.m.arch.accepted part = some r → r.epoch ≤ epoch) →
      Completes (.mergeResult part gen epoch value) s (fun m =>
        aget? m.arch.accepted part = some { gen := gen, epoch := epoch, value := value } ∧ m.arch.stale = s.m.arch.stale)) ∧
    (∀ part gen epoch value, gen < s.m.arch.gen ∨ (∃ r, aget? s.m.arch.accepted part = some r ∧ epoch < r.epoch) →
      Completes (.mergeResult part gen epoch value) s (fun m =>
        m.arch = { s.m.arch with stale := satInc s.m.arch.stale }))

/-- The commands of chapter 2 that run modes, in the processor domain. A mode request is answered by R424's order; accepted, it
waits for the boundary two fast epochs on, goes to the partner, and out of SAFE_HOLD drops the override to the reaction line
(R41, R42, R317, R425); otherwise no mode state changes. The arm of the on-site clear is written by a SERVICE session on J5 alone
(R48). Accept, deferral and retry need ENGINEER with expert unlock (R10). Accept asks for STANDBY once C1 to C6 are complete
(R57). A precharge beyond its timeout raises its fault and is aborted to SHUTDOWN, in C6 to a failed step (R44, R57); a shutdown
beyond its timeout raises its fault and ends in SAFE_HOLD, or in LOCKOUT where the fault escalates (R45). At zero current the
phases stop and K_POS opens, but for a switch held by its channel's current evidence (R45, R322). A maintenance task that is
over reports its outcome and asks for CONNECTED; after a due baseline the requested task follows (R50). C6 starts its precharge
while the bus is live; while it is not, a deferral completes C6 without a baseline, cutting one that runs short (R57, R58). A
failed step runs again, with its check where it has one at once (R57). -/
def Obligations.ModeCommandsTakeEffect : Prop :=
  ∀ s : State, s.m.clk.procRunning = true →
    (∀ code role dest, Mode.ofCode code = some dest → Completes (.modeRequest code role) s (fun m =>
      m.mbx.modeStatus = s.m.requestStatus dest role ∧ m.mode.mode = s.m.mode.mode ∧
      (s.m.requestStatus dest role = 1 → m.mbx.modeReq = dest.code ∧ m.mbx.modeEffect = s.m.fastEpoch + 2 ∧ m.mode.pendingModes =
        s.m.mode.pendingModes ++ [{ dest := dest, cause := .hostRequest, effect := s.m.fastEpoch + 2, fromPartner := false }]) ∧
      (s.m.requestStatus dest role ≠ 1 → m.mode = s.m.mode))) ∧
    (∀ code role dest, Mode.ofCode code = some dest → s.m.requestStatus dest role = 1 → s.m.paired = true →
      s.m.partnerMissing = false → (s.m.mode.mode = .commission → dest ≠ .standby) → Completes (.modeRequest code role) s (fun m =>
        .pairRequest s.m.pairHead dest.code (s.m.fastEpoch + 2) (if dest = .maintain then s.m.mode.taskReq else 0)
          (if dest = .maintain then s.m.par 0x2017 1 else 0) (dest == .maintain && s.m.baselineDue) ∈ m.out)) ∧
    (∀ code role dest, Mode.ofCode code = some dest → s.m.requestStatus dest role = 1 → s.m.mode.mode = .safeHold →
      dest ≠ .safeHold → s.m.saf.demF = 0 → Completes (.modeRequest code role) s (fun m =>
        m.saf.override = s.m.saf.line ∧ m.saf.openW = false ∧ m.saf.openF = false)) ∧
    (∀ code role, Mode.ofCode code = none → Completes (.modeRequest code role) s (fun m =>
      m.mode = s.m.mode ∧ m.mbx.modeStatus = s.m.mbx.modeStatus)) ∧
    (∀ role direct, Completes (.lockoutClearArm role direct) s (fun m =>
      m.clk = if role = 3 ∧ direct = true then { s.m.clk with arm := some s.m.now } else s.m.clk)) ∧
    (∀ role, 2 ≤ role → s.m.stepActive 7 = true → Completes (.commissioningAccept role true) s (fun m =>
      m.mbx.modeStatus = 1 ∧ m.mode.pendingModes = s.m.mode.pendingModes ++
        [{ dest := .standby, cause := .hostRequest, effect := s.m.fastEpoch + 2, fromPartner := false }])) ∧
    (∀ role unlocked, role < 2 ∨ unlocked = false → Completes (.commissioningAccept role unlocked) s (fun m =>
      m.mode = s.m.mode ∧ .writeStatus (if role < 2 then 0x14 else 0x15) 0 ∈ m.out)) ∧
    (∀ role unlocked, role < 2 ∨ unlocked = false → Completes (.baselineDeferral role unlocked) s (fun m =>
      m.mode = s.m.mode ∧ .writeStatus (if role < 2 then 0x14 else 0x15) 0 ∈ m.out)) ∧
    (∀ role unlocked, role < 2 ∨ unlocked = false → Completes (.stepRetry role unlocked) s (fun m =>
      m.mode = s.m.mode ∧ .writeStatus (if role < 2 then 0x14 else 0x15) 0 ∈ m.out)) ∧
    (s.m.mode.mode = .precharge → s.m.inModeFor (1000000 * s.m.par 0x2015 0) = true →
      Completes .prechargeTimeout s (fun m => m.isPending .prechargeTimeout = true ∧
        { dest := .shutdown, cause := .timeout, effect := s.m.fastEpoch + 1, fromPartner := false } ∈ m.mode.pendingModes)) ∧
    (s.m.mode.mode = .commission → s.m.mode.c6Running = true → s.m.mode.c6Stopping = false → s.m.conv.loop = .precharge →
      s.m.elapsed s.m.mode.c6At (1000000 * s.m.par 0x2015 0) = true → Completes .prechargeTimeout s (fun m =>
        m.isPending .prechargeTimeout = true ∧ ((m.mode.c6Stopping = true ∧ m.mode.opening = 1 ∧ m.imp.blFailed = true) ∨
          m.mode.mode = .lockout))) ∧
    (s.m.stopping = true → s.m.mode.opening = 0 → s.m.elapsed? s.m.mode.zeroSince 5000000 = true →
      Completes .shutdownOpen s (fun m => m.mode.opening = 1 ∧ (∀ k < 12, (m.phase k).commanded = false) ∧
        (s.m.evidence 0 = false → (m.coil 0).wSw = false) ∧ (s.m.evidence 1 = false → (m.coil 0).fSw = false))) ∧
    (s.m.mode.mode = .shutdown → s.m.mode.opening = 0 → s.m.inModeFor (1000000 * s.m.par 0x2014 0) = true →
      Completes .shutdownTimeout s (fun m => m.isPending .shutdownTimeout = true ∧
        (m.mode.mode = .safeHold ∨ m.mode.mode = .lockout))) ∧
    (s.m.mode.mode = .commission → s.m.mode.c6Stopping = true → s.m.mode.opening = 0 →
      s.m.elapsed s.m.mode.c6At (1000000 * s.m.par 0x2014 0) = true → Completes .shutdownTimeout s (fun m =>
        m.isPending .shutdownTimeout = true ∧ (m.mode.mode = .safeHold ∨ m.mode.mode = .lockout))) ∧
    (s.m.mode.mode = .maintain → s.m.mode.dueRun = false ∨ s.m.mode.taskReq = 0 → ∀ o, s.m.taskOutcome = some o →
      Completes .maintenanceTaskComplete s (fun m => m.mode.outcome = o ∧ m.mode.task = .none ∧ m.mode.taskReq = 0 ∧
        { dest := .connected, cause := .completion, effect := s.m.fastEpoch + 1, fromPartner := false }
          ∈ m.mode.pendingModes)) ∧
    (s.m.mode.mode = .maintain → s.m.mode.dueRun = true → s.m.mode.taskReq ≠ 0 → ∀ o, s.m.taskOutcome = some o →
      Completes .maintenanceTaskComplete s (fun m => m.mode.outcome = 1 ∧ m.mode.task = taskOf s.m.mode.taskReq ∧
        m.mode.dueRun = false ∧ m.mode.taskStart = s.m.now)) ∧
    (s.m.stepActive 6 = true → s.m.mode.c6Running = false → s.m.mode.c6Done = false → s.m.busLive = true →
      Completes .commissionC6Start s (fun m => m.mode.c6Running = true ∧ m.conv.loop = .precharge ∧ m.conv.stage = .kNeg ∧
        m.conv.deadBus = false)) ∧
    (∀ role, 2 ≤ role → s.m.mode.mode = .commission → s.m.mode.commStep = 6 → s.m.mode.c6Running = false →
      s.m.mode.c6Stopping = false → s.m.busLive = false → Completes (.baselineDeferral role true) s (fun m =>
        m.mode.baselinePending = true ∧ m.mode.commStep = 7 ∧ m.mode.commFailed = false ∧ m.mode.c6Done = true)) ∧
    (∀ role, 2 ≤ role → s.m.mode.mode = .commission → s.m.mode.commStep = 6 → s.m.mode.c6Running = true →
      s.m.mode.c6Stopping = false → s.m.busLive = false → Completes (.baselineDeferral role true) s (fun m =>
        m.mode.baselinePending = true ∧ m.mode.c6Done = true ∧ m.mode.c6Stopping = true ∧ m.imp.blFailed = false ∧
        m.imp.queue = (if s.m.imp.kind = .normal then s.m.imp.queue else s.m.imp.saved))) ∧
    (∀ role, 2 ≤ role → s.m.mode.mode = .commission → s.m.mode.commStep = 6 → s.m.mode.c6Stopping = true →
      s.m.busLive = false → Completes (.baselineDeferral role true) s (fun m =>
        m.mode.baselinePending = true ∧ m.mode.c6Done = true ∧ m.imp.blFailed = false)) ∧
    (∀ role, 2 ≤ role → s.m.mode.mode = .commission → s.m.mode.commFailed = true → s.m.mode.commStep ∈ [2, 3, 6] →
      Completes (.stepRetry role true) s (fun m => m.mode.commStep = s.m.mode.commStep ∧ m.mode.commFailed = false)) ∧
    (∀ role, 2 ≤ role → s.m.mode.mode = .commission → s.m.mode.commFailed = true → s.m.mode.commStep = 4 →
      Completes (.stepRetry role true) s (fun m => m.mode.commStep = 4 ∧ m.mode.commFailed = false ∧
        m.iso.c4Reading = false ∧ ∀ p ∈ m.chain.ow, p.2.tested = [])) ∧
    (∀ role, 2 ≤ role → s.m.mode.mode = .commission → s.m.mode.commFailed = true → s.m.mode.commStep = 5 →
      Completes (.stepRetry role true) s (fun m => m.mode.commStep = (if s.m.c5Ok = true then 6 else 5) ∧
        m.mode.commFailed = !s.m.c5Ok)) ∧
    (∀ role, 2 ≤ role → s.m.mode.mode = .commission → s.m.mode.commFailed = true → s.m.mode.commStep = 1 →
      s.m.mode.c1Written ≠ 3 → Completes (.stepRetry role true) s (fun m => m.mode.commStep = 1 ∧ m.mode.commFailed = false))

/-- Power-up and the boundaries (R54, R55, R56, R41, R261). Power-on reads the switches into both channels, loads the profile of SW1
and takes the loop role (R54, R92). The release of a processor domain that nothing holds starts it with fabric time going on from the
last one committed, untraceable (R56, R249; at every release is log entry 49). The slot booted is bootable and authenticates, else
the recovery loader runs (R454); the self-tests' bits stand, damaged recorder slots are marked (R384), a first boot reports its gap
(R103), and the ladder stands before step 8, or at step 4 in the loader (R54). The exit from BOOT enters the first exit that applies
(R55), or LOCKOUT where a fault of class F follows (R374); FAULT_N is released while no fault is uncleared. A fast-epoch boundary moves
local time to the next millisecond of fabric time (log entry 3). A pending change that is due is applied: an automatic one with its
row, a host's or a plant's with row and condition, automatic ones first whatever their place, each judged in the mode the one before
left, and a host's that fails dropped with CONDITION_LOST; one not due waits (R41). A final allocation comes into force, of which a
string not in the view has none (R285, R286). A slow-epoch boundary starts the slow computations: masks that wait act in pods that
latched (R76), a bin that runs ends for a rest slot (R125), the galvanic ID is formed (R112), the pair's CONFIG goes out (R296), the
minute's set is committed (R402). The withdrawal of the arm after 300 s works in the Foxglove domain (R48, R49). -/
def Obligations.PowerUpAndBoundariesTakeEffect : Prop :=
  ∀ s : State,
    (∀ sw1 sw2 sw3 cover sw4 sw5 ok arr, s.m.saf.switchesRead = false →
      Completes (.powerOnResetRelease sw1 sw2 sw3 cover sw4 sw5 ok arr) s (fun m =>
        m.clk.powered = true ∧ m.saf.switchesRead = true ∧ m.saf.sw1 = sw1 ∧ m.saf.sw2 = sw2 ∧ m.saf.sw3 = sw3 ∧
        m.saf.cover = cover ∧ m.fab.sw4 = sw4 ∧ m.fab.sw5 = sw5 ∧ m.saf.profile = sw1 ∧
        m.saf.profileOk = (ok && (profileOf sw1).isSome) ∧ m.chain.loopSet = true ∧
        m.chain.loopSource = (!m.paired || (m.isA && !arr)))) ∧
    (∀ r, s.m.canRelease = true → Completes (.processorDomainRelease r) s (fun m =>
      m.clk.procRunning = true ∧ m.fab.untraceable = true ∧ m.fabBase = (m.nv.lastTime : Int) - (s.m.now : Int) ∧
      m.mode.ladder = (if m.mode.recovery then 4 else 7) ∧ (r.authA = false → r.authB = false → m.mode.recovery = true) ∧
      (m.mode.recovery = false → m.bootable m.upd.designated (if m.upd.designated = 0 then r.authA else r.authB) = true) ∧
      (m.mode.recovery = false → ∀ k < 7, bit m.mode.bootResult k = (bit r.tests k || (k == 5 && !m.saf.profileOk))) ∧
      (∀ x ∈ s.m.seed.vault, r.badVault.contains x.seq = true → { x with damaged := true } ∈ m.seed.vault) ∧
      (s.m.clk.firstBoot = true → m.nv.countsEver = true → m.meas.chargeGap = true ∧ m.meas.gap = r.gap))) ∧
    (s.m.clk.procRunning = true → s.m.mode.recovery = false → s.m.mode.ladder = 8 → Completes .bootExit s (fun m =>
      (m.mode.mode = s.m.ladderEnd ∨ (m.mode.mode = .lockout ∧ m.anyPending .f = true)) ∧ m.mode.ladder = 9 ∧
      m.upd.trialAt = s.m.now ∧ m.faultNLow = !m.noFault)) ∧
    (∀ supply power, s.m.clk.deferred = [] → Completes (.fastEpochBoundary supply power) s (fun m =>
      m.now = s.m.nextMilli.now ∧ m.clk.supply = supply ∧ m.clk.inPower = power)) ∧
    (s.m.clk.procRunning = true → s.m.mode.recovery = false → s.m.mode.mode ≠ .boot → s.m.clk.deferred = [] → s.m.plant.cmds = [] →
      s.m.plant.transfer = none → ∀ supply power p, s.m.mode.pendingModes = [p] →
      (p.effect ≤ s.m.nextMilli.fastEpoch → p.rank = 0 → autoRow s.m.mode.mode p.dest = true →
        Completes (.fastEpochBoundary supply power) s (fun m => m.mode.pendingModes = [] ∧
          (m.mode.mode = p.dest ∨ m.mode.mode = .lockout))) ∧
      (p.effect ≤ s.m.nextMilli.fastEpoch → p.cause = .hostRequest → (hostRow s.m.mode.mode p.dest).isSome = true →
        p.dest ∈ [.storage, .shutdown, .connected] → Completes (.fastEpochBoundary supply power) s (fun m =>
          m.mode.pendingModes = [] ∧ ((m.mode.mode = p.dest ∧ m.mbx.modeStatus = 0) ∨ m.mode.mode = .lockout))) ∧
      (p.effect ≤ s.m.nextMilli.fastEpoch → p.cause = .plantCommand → plantRow s.m.mode.mode p.dest = true →
        p.dest ∈ [.shutdown, .connected] → Completes (.fastEpochBoundary supply power) s (fun m =>
          m.mode.pendingModes = [] ∧ (m.mode.mode = p.dest ∨ m.mode.mode = .lockout))) ∧
      (p.effect ≤ s.m.nextMilli.fastEpoch → p.cause = .hostRequest → hostRow s.m.mode.mode p.dest = none →
        Completes (.fastEpochBoundary supply power) s (fun m => m.mode.pendingModes = [] ∧
          (m.mode.mode = s.m.mode.mode ∧ m.mbx.modeStatus = 0x22 ∨ m.mode.mode = .lockout))) ∧
      (s.m.nextMilli.fastEpoch < p.effect → Completes (.fastEpochBoundary supply power) s (fun m =>
        m.mode.pendingModes = [p] ∧ (m.mode.mode = s.m.mode.mode ∨ m.mode.mode = .lockout)))) ∧
    (s.m.clk.procRunning = true → s.m.mode.recovery = false → s.m.mode.mode ≠ .boot → s.m.clk.deferred = [] → s.m.plant.cmds = [] →
      s.m.plant.transfer = none → ∀ supply power p q, s.m.mode.pendingModes = [p, q] → p.effect ≤ s.m.nextMilli.fastEpoch →
      q.effect ≤ s.m.nextMilli.fastEpoch → p.cause = .hostRequest → q.rank = 0 →
      autoRow s.m.mode.mode q.dest = true → hostRow q.dest p.dest = none →
        Completes (.fastEpochBoundary supply power) s (fun m => m.mode.pendingModes = [] ∧
          ((m.mode.mode = q.dest ∧ m.mbx.modeStatus = 0x22) ∨ m.mode.mode = .lockout))) ∧
    (s.m.clk.procRunning = true → s.m.mode.recovery = false → s.m.clk.deferred = [] → s.m.plant.cmds = [] →
      s.m.plant.transfer = none → s.m.plant.isMember = true → ∀ supply power al,
      aget? s.m.plant.outcomes s.m.nextMilli.fastEpoch = some 0 → s.m.allocOf s.m.nextMilli.fastEpoch = some al →
        Completes (.fastEpochBoundary supply power) s (fun m => m.plant.inForce = some al ∧
          m.plant.own = (if m.plant.inRest then 0 else al.ofString s.m.stringId))) ∧
    (s.m.clk.procRunning = true → s.m.mode.recovery = false → s.m.clk.deferred = [] → s.m.plant.cmds = [] →
      s.m.plant.transfer = none → s.m.plant.isMember = false → ∀ supply power,
        Completes (.fastEpochBoundary supply power) s (fun m => m.plant.inForce = none ∧ m.plant.own = 0)) ∧
    (s.m.clk.procRunning = true → s.m.mode.recovery = false → Completes .slowEpochBoundary s (fun m =>
      m.iso.id = m.galvanicId ∧ m.therm.noD = s.m.therm.noD + 1 ∧
      m.chain.pods = s.m.chain.pods.map (fun p => (p.1, p.2.latchStep s.m.now (s.m.slowEpoch % 65536))) ∧
      (s.m.imp.run.isSome = true → s.m.plant.inRest = true → m.imp.run = none ∧ m.imp.restWait = true) ∧
      (s.m.paired = true → m.out.any (fun o => match o with | .config .. => true | _ => false) = true) ∧
      (s.m.mode.mode ≠ .boot → s.m.elapsed s.m.nv.minuteAt (60 * second) = true → m.nv.minuteAt = s.m.now ∧
        ∃ w ∈ m.nv.pending, .lastTime s.m.fabTime ∈ w.items))) ∧
    (s.m.elapsed? s.m.clk.arm 300000000000 = true → Completes .lockoutArmExpired s (fun m =>
      m.clk = { s.m.clk with arm := none }))

/-- The commands of chapter 3 that take sweeps, while the processor domain runs. The first SAMPLE of a slow epoch opens its sweep; the
master sends it with its SAMPLE_ID, a latch delay for each pod and the wires under test, and every pod it reaches latches (R68, R72);
one that reaches the far end shows closure and ends a located break (R85, R88). A valid reply that comes first is kept, its limits
echo judged, whichever port it came in by, and sent on in a pair; the last one completes the sweep in both memories; a second one that
differs is counted, and of the two the CH1 copy is kept; a frame with a wrong CRC is counted per port (R16, R66, R67, R81, R89). READ
and READ_ONE go out with the SAMPLE_ID, READ_ONE in the non-sweep window and at most twice for a pod (R73 to R75). The far end sends a
reverse SAMPLE of the wires once per slow epoch where the SAMPLE has not come, with the latch within 2 ms (R82, R85), and reads
downwards in the non-sweep window (R86). A sweep that closes stands in both memories, with an absence record for every pod that did
not answer (R16, R75). -/
def Obligations.SweepCommandsTakeEffect : Prop :=
  ∀ s : State, s.m.clk.procRunning = true →
    (∀ epoch reach far, s.m.sweeps epoch = true → s.m.chain.serials ≠ [] → Completes (.sample epoch reach far) s (fun m =>
      m.chain.inSweep = true ∧ m.chain.epoch = epoch ∧ m.chain.closed = far ∧
      ((s.m.chain.inSweep = false ∨ s.m.chain.epoch ≠ epoch) → m.chain.cur = [] ∧ m.chain.delivered = false) ∧
      (s.m.isMaster = true → .chain 1 s.m.chain.seq1 (.sample (epoch % 65536) (s.m.ownDelays.map latchDelay) m.chain.wires) ∈ m.out) ∧
      (s.m.paired = false → ∀ a ∈ s.m.podAddrs, a ≤ reach → nth s.m.chain.serials (a - 1) 0 ≠ 0 →
        (m.pod a).latched = some (epoch % 65536)) ∧
      (far = true → m.chain.brk = none))) ∧
    (∀ a port r, Completes (.dataReply a port false r) s (fun m =>
      m.chain = if port = 1 then { s.m.chain with disc1 := satInc s.m.chain.disc1 }
        else { s.m.chain with disc2 := satInc s.m.chain.disc2 })) ∧
    (∀ a port r, s.m.replyFits a r = true → aget? s.m.chain.cur a = none → Completes (.dataReply a port true r) s (fun m =>
      aget? m.chain.cur a = some { missing := false, port := port, data := r } ∧ aget? m.chain.lastGood a = some r ∧
      m.chain.echoBad.contains a = (r.flag 11 || r.limitOv != s.m.hwLimits.1 || r.limitUv != s.m.hwLimits.2) ∧
      (s.m.paired = true → .pairReply a r ∈ m.out) ∧
      (m.allHeld = true → m.chain.delivered = true ∧ m.chain.shared = m.closedSweep ∧ m.chain.walnut = m.closedSweep))) ∧
    (∀ a port r old, s.m.replyFits a r = true → aget? s.m.chain.cur a = some old → old.data ≠ r →
      Completes (.dataReply a port true r) s (fun m => m.chain.nMismatch = satInc s.m.chain.nMismatch ∧
        aget? m.chain.cur a = some (if port = 1 ∧ old.port ≠ 1 then { missing := false, port := 1, data := r } else old))) ∧
    (∀ a r, s.m.paired = true → s.m.replyFits a r = true → aget? s.m.chain.cur a = none →
      Completes (.chainReplyRelay a true r) s (fun m => aget? m.chain.cur a = some { missing := false, port := 2, data := r } ∧
        aget? m.chain.lastGood a = some r ∧ (m.allHeld = true → m.chain.shared = m.closedSweep ∧ m.chain.walnut = m.closedSweep))) ∧
    (s.m.chain.inSweep = true → s.m.isMaster = true → Completes .read s (fun m =>
      .chain 1 s.m.chain.seq1 (.read (s.m.chain.epoch % 65536)) ∈ m.out)) ∧
    (∀ a, s.m.chain.inSweep = true → s.m.chainWindow = true → s.m.isMaster = true → a ∈ s.m.podAddrs →
      aget? s.m.chain.cur a = none → aget s.m.chain.tries a 0 < 2 → Completes (.readOne a) s (fun m =>
        .chain 1 s.m.chain.seq1 (.readOne a (s.m.chain.epoch % 65536)) ∈ m.out ∧
        aget m.chain.tries a 0 = aget s.m.chain.tries a 0 + 1 ∧ m.chain.nRetry = satInc s.m.chain.nRetry)) ∧
    (∀ a, 2 ≤ aget s.m.chain.tries a 0 → Completes (.readOne a) s (fun m => Mach.Same [.out, .iso] s.m m)) ∧
    (∀ epoch skew, s.m.sweeps epoch = true →
      (s.m.chain.inSweep && s.m.chain.epoch == epoch && s.m.chain.closed) = false → skew ≤ 2000 →
      s.m.chain.reverseEpoch ≠ some epoch → s.m.chain.serials ≠ [] → Completes (.reverseSample epoch skew) s (fun m =>
        m.chain.inSweep = true ∧ m.chain.epoch = epoch ∧ m.chain.reverseEpoch = some epoch ∧ m.chain.reverseOn = true ∧
        m.chain.closed = false ∧ m.chain.nReverse = satInc s.m.chain.nReverse ∧
        (s.m.paired = false → .chain 2 s.m.chain.seq2 (.reverseSample (epoch % 65536) (s.m.farDelays.map latchDelay) m.chain.wires)
          ∈ m.out) ∧
        (s.m.paired = true → s.m.isMaster = false → .chain 1 s.m.chain.seq1
          (.reverseSample (epoch % 65536) (s.m.farDelays.map latchDelay) m.chain.wires) ∈ m.out))) ∧
    (∀ epoch skew, s.m.chain.reverseEpoch = some epoch → Completes (.reverseSample epoch skew) s (fun m => Mach.Same [.out, .iso] s.m m)) ∧
    (∀ answers, s.m.chain.inSweep = true → s.m.chainWindow = true → s.m.paired = false ∨ s.m.isMaster = false →
      Completes (.farEndReadout answers) s (fun m =>
        ∀ a ∈ farReads answers (s.m.podAddrs.reverse.filter (fun a => (aget? s.m.chain.cur a).isNone)),
          ∃ port seq, .chain port seq (.readOne a (s.m.chain.epoch % 65536)) ∈ m.out)) ∧
    (s.m.chain.inSweep = true → Completes .sweepClose s (fun m =>
      m.chain.inSweep = false ∧ m.chain.lastEpoch = s.m.chain.epoch ∧
      (s.m.chain.delivered = false → m.chain.shared = s.m.closedSweep ∧ m.chain.walnut = s.m.closedSweep) ∧
      (s.m.chain.delivered = true → m.chain.shared = s.m.chain.shared ∧ m.chain.walnut = s.m.chain.walnut) ∧
      m.chain.incomplete = s.m.closedSweep.any (fun p => p.2.missing) ∧
      m.chain.nAbsence = satAdd s.m.chain.nAbsence ((s.m.closedSweep.filter (fun p => p.2.missing)).length)))

/-- The other commands of chapter 3, while the processor domain runs. An enumeration, at power-up ladder step 8 or in commissioning step
C2, lists the pods both ends reach, 0 for one that neither does, takes the delays that this module's ends measure as half the mean of
16 round trips (R70, R71, with log entry 151), and counts discarded frames (R66); the master's frames are IDENT for every address
up to the first that no pod answers, ASSIGN where no addressed pod answers, and CONFIG to all (R70, R81). At BOOT CHAIN_MISMATCH
follows the comparison with the commissioned list (R70); C2 passes to C3 on a closed list of 2 to 27 pods without gaps that the far
end's check agrees with, and fails otherwise (R57, R59). ECHO takes the delays of the pod whose turn it is anew, once a second (R71).
CONFIG writes filter, timeout and limits to every pod where they are due, else to the pods to be rewritten, in the non-sweep window
(R74, R77, R81). C4 fails on any open wire or implausible group and is complete after one rotation and one insulation reading (R57).
Module B takes the line over after two slow epochs without SAMPLE beside a missing partner, and mastership returns to A at once or at
the slow epoch agreed, never during a located break (R90). -/
def Obligations.ChainUpkeepTakesEffect : Prop :=
  ∀ s : State, s.m.clk.procRunning = true →
    (∀ near far check fwd rev closure bad, s.m.mode.ladder = 7 ∨ s.m.stepActive 2 = true →
      Completes (.chainEnumeration near far check fwd rev closure bad) s (fun m =>
        m.chain.serials = s.m.podList near far ∧ m.chain.absent = absentOf (s.m.podList near far) ∧
        (s.m.lowEnd = true → m.chain.fwd = fwd.map echoDelay) ∧ (s.m.highEnd = true → m.chain.rev = rev.map echoDelay) ∧
        m.chain.closure = closure ∧ m.chain.nearCount = near.length ∧ m.chain.configDue = false ∧
        m.chain.disc1 = satAdd s.m.chain.disc1 bad.1 ∧ m.chain.disc2 = satAdd s.m.chain.disc2 bad.2 ∧
        (s.m.isMaster = true → (∀ k < near.length + 1, ∃ port seq, .chain port seq (.ident (k + 1)) ∈ m.out) ∧
          (∀ k < near.length + 1, (near[k]?.map (fun p => p.1)).getD false = false →
            ∃ port seq, .chain port seq (.assign (k + 1)) ∈ m.out) ∧
          ∃ port seq, .chain port seq (s.m.configFrame 0xFF) ∈ m.out))) ∧
    (∀ near far check fwd rev closure bad, s.m.mode.ladder = 7 → s.m.mode.commRec.isSome = true →
      Completes (.chainEnumeration near far check fwd rev closure bad) s (fun m => bit m.mode.bootResult 9 =
        (m.chain.serials != s.m.commPods || !m.chain.absent.isEmpty || !m.chain.checkOk))) ∧
    (∀ near far check fwd rev closure bad, s.m.mode.ladder ≠ 7 → s.m.stepActive 2 = true →
      Completes (.chainEnumeration near far check fwd rev closure bad) s (fun m =>
        m.mode.commFailed = !(m.chain.closure && m.chain.checkOk && m.chain.absent.isEmpty &&
          decide (2 ≤ m.chain.serials.length) && decide (m.chain.serials.length ≤ 27)) ∧
        m.mode.commStep = (if m.mode.commFailed then 2 else if s.m.plant.isMember then 4 else 3))) ∧
    (∀ a fwd rev bad, s.m.chainWindow = true → a ∈ s.m.podAddrs → a = s.m.chain.delayNext →
      s.m.elapsed (s.m.chain.echoAt.getD 0) second = true → Completes (.echo a fwd rev bad) s (fun m =>
        m.chain.fwd = (if s.m.lowEnd then updNth s.m.chain.fwd (a - 1) (fun _ => echoDelay fwd) else s.m.chain.fwd) ∧
        m.chain.rev = (if s.m.highEnd then updNth s.m.chain.rev (a - 1) (fun _ => echoDelay rev) else s.m.chain.rev) ∧
        m.chain.delayNext = (if s.m.chain.serials.length ≤ a then 1 else a + 1) ∧ m.chain.echoAt = some s.m.now ∧
        ∃ port seq, .chain port seq (.echo a) ∈ m.out)) ∧
    (∀ bad, s.m.chainWindow = true → s.m.chain.configDue = true → Completes (.config bad) s (fun m =>
      m.chain.configDue = false ∧ m.chain.reconfig = [] ∧
      (s.m.isMaster = true → .chain 1 s.m.chain.seq1 (s.m.configFrame 0xFF) ∈ m.out) ∧
      ∀ a ∈ s.m.podAddrs, nth s.m.chain.serials (a - 1) 0 ≠ 0 → (m.pod a).configured = true ∧
        (m.pod a).filter = s.m.par 0x2105 0 ∧ (m.pod a).wdt = s.m.par 0x2106 0 ∧
        ((m.pod a).limitOv, (m.pod a).limitUv) = s.m.hwLimits)) ∧
    (∀ bad, s.m.chainWindow = true → s.m.chain.configDue = false → s.m.isMaster = true → s.m.chain.brk = none →
      Completes (.config bad) s (fun m => m.chain.reconfig = [] ∧
        ∀ a ∈ s.m.chain.reconfig, ∃ port seq, .chain port seq (s.m.configFrame a) ∈ m.out)) ∧
    (s.m.stepActive 4 = true → s.m.c4Bad = true → Completes .commissionC4Check s (fun m =>
      m.mode.commStep = 4 ∧ m.mode.commFailed = true)) ∧
    (s.m.stepActive 4 = true → s.m.c4Bad = false → s.m.rotationDone = true → s.m.iso.c4Reading = true →
      Completes .commissionC4Check s (fun m => m.mode.commStep = (if s.m.c5Ok = true then 6 else 5) ∧
        m.mode.commFailed = !s.m.c5Ok)) ∧
    (s.m.isB = true → s.m.partnerMissing = true → 2 ≤ s.m.chain.noSample → Completes .lineTakeover s (fun m =>
      m.chain = { s.m.chain with takenOver := true, noSample := 0 })) ∧
    (∀ epoch, s.m.paired = true → s.m.chain.takenOver = true → s.m.chain.brk = none →
      (if s.m.isA = true then s.m.mode.mode ≠ .boot else s.m.partnerMissing = false) → Completes (.lineMastershipReturn epoch) s (fun m =>
        m.chain.takenOver = decide (s.m.slowEpoch < epoch) ∧
        m.pair.masterAt = (if s.m.slowEpoch < epoch then some epoch else none)))

/-- The isolated section and the Hall path (chapter 4). A valid stream frame brings the tick's samples, scaled to the calibrated shunt
(R99, R100), sets OVERRANGE at 2,000 A or where the section says so (R101), latches current and voltage where its interval contains a
latch instant (R104), and now and then brings the counts (R99, R102); the Hall input is read from the low-voltage side with every tick
(R105). A lost frame is counted and is a class C fault; three in a row are the stream's loss and its fault, 1,000 valid ones end it
(R99). The tick's sample joins the discharge or the charge count in 1 nC, held to 2,000 A (R101, R102). The section runs on its own
oscillator while the branch is missing; the branch back, the run is reported and every group's bound grows by 0.5 % of its charge, at
the release of the processor domain where that is held (R103, R154). A restart of the section starts its counts from 0 and is reported
as SECTION_RESTART and CHARGE_GAP, the gap beginning with the last frame before it (R103). HALL_LOST rises once the input has been out
of range for more than 1 ms or the supply is out of tolerance, and falls after 1 s back in range (R106). A comparator line asserts
beyond its threshold, is held down to 98 % of it, and leaves the others alone (R109). -/
def Obligations.StringMeasurementTakesEffect : Prop :=
  ∀ s : State,
    (s.m.clk.procRunning = true → ∀ ovr t i hall str bus counts, Completes (.streamFrame true ovr t i hall str bus counts) s
      (fun m => m.meas.sShunt = s.m.shuntI i ∧ m.meas.sHall = s.m.hallMa hall ∧ m.meas.sStr = str ∧ m.meas.sBus = bus ∧
        m.meas.lastFrame = ((t : Int) - s.m.fabBase).toNat ∧ m.meas.lostRun = 0 ∧ m.meas.goodRun = s.m.meas.goodRun + 1 ∧
        m.meas.overNow = (s.m.meas.overNow || (ovr || decide (2000000 ≤ i.natAbs))) ∧
        m.meas.latchI = (if (latchOf t).isSome then s.m.shuntI i else s.m.meas.latchI) ∧
        m.meas.latchStr = (if (latchOf t).isSome then str else s.m.meas.latchStr) ∧
        m.meas.rxD = (if counts then s.m.shuntQ s.m.meas.qd else s.m.meas.rxD) ∧
        m.meas.rxC = (if counts then s.m.shuntQ s.m.meas.qc else s.m.meas.rxC))) ∧
    (s.m.clk.procRunning = true → ∀ ovr t i hall str bus counts, Completes (.streamFrame false ovr t i hall str bus counts) s
      (fun m => m.meas.sShunt = s.m.meas.sShunt ∧ m.meas.sHall = s.m.hallMa hall ∧ m.meas.lostRun = s.m.meas.lostRun + 1 ∧
        m.meas.goodRun = 0 ∧ m.meas.nLost = satInc s.m.meas.nLost ∧ m.flt.raisesC = satInc s.m.flt.raisesC)) ∧
    (s.m.clk.procRunning = true → 3 ≤ s.m.meas.lostRun → s.m.meas.streamLost = false →
      Completes .isolatedStreamLoss s (fun m => m.meas.streamLost = true ∧ m.isPending .isolatedStreamLoss = true)) ∧
    (s.m.clk.procRunning = true → s.m.meas.streamLost = true → 1000 ≤ s.m.meas.goodRun →
      Completes .streamRecovered s (fun m => m.meas = { s.m.meas with streamLost := false })) ∧
    (s.m.clk.procRunning = true → s.m.meas.goodRun < 1000 → Completes .streamRecovered s (fun m => m.meas = s.m.meas)) ∧
    (∀ i, 0 < i → s.m.clk.powered = true → Completes (.chargeSample i) s (fun m => m.meas.qc = s.m.meas.qc ∧ m.meas.subC = s.m.meas.subC ∧
      1000 * m.meas.qd + m.meas.subD
        = (1000 * s.m.meas.qd + s.m.meas.subD + min i.natAbs 2000000) % (1000 * 2 ^ 64))) ∧
    (∀ i, i ≤ 0 → s.m.clk.powered = true → Completes (.chargeSample i) s (fun m => m.meas.qd = s.m.meas.qd ∧ m.meas.subD = s.m.meas.subD ∧
      1000 * m.meas.qc + m.meas.subC
        = (1000 * s.m.meas.qc + s.m.meas.subC + min i.natAbs 2000000) % (1000 * 2 ^ 64))) ∧
    (s.m.clk.powered = true → s.m.meas.ownOsc = false → Completes .sectionClockHoldover s (fun m => m.meas.ownOsc = true ∧
      m.meas.oscFrom = s.m.now ∧ m.meas.qd = s.m.meas.qd ∧ m.meas.qc = s.m.meas.qc)) ∧
    (s.m.clk.powered = true → s.m.meas.ownOsc = true → Completes .sectionClockReturn s (fun m => m.meas.ownOsc = false ∧
      m.meas.oscLast = s.m.now - s.m.meas.oscFrom ∧ m.meas.oscEnd = some s.m.now ∧ m.meas.qd = s.m.meas.qd ∧ m.meas.qc = s.m.meas.qc ∧
      (s.m.clk.procRunning = true → m.est.groups = s.m.est.groups.map (fun p => (p.1, { p.2 with u := min 100 (p.2.u +
        qdiv (s.m.shuntScale * ((s.m.meas.qd + s.m.meas.qc - s.m.meas.oscQ : Nat) : Rat) / 2) p.2.c) }))) ∧
      (s.m.clk.procRunning = false → m.meas.heldOsc = some (m.meas.oscLast, s.m.meas.qd + s.m.meas.qc - s.m.meas.oscQ)))) ∧
    (s.m.clk.powered = true → Completes .sectionRestart s (fun m => m.meas.qd = 0 ∧ m.meas.qc = 0 ∧ m.meas.subD = 0 ∧ m.meas.subC = 0 ∧
      m.meas.restarted = true ∧ m.meas.chargeGap = true ∧ m.meas.gapFrom = some (s.m.meas.gapFrom.getD s.m.meas.lastFrame))) ∧
    (s.m.clk.procRunning = true → ∀ supply, Completes (.hallLost supply) s (fun m => m.meas.hallLost = (s.m.meas.hallLost || supply ||
      (match s.m.meas.hallOut with
        | none => false
        | some t => decide (t + 1000000 < s.m.meas.hallT))))) ∧
    (s.m.clk.procRunning = true → ∀ t, s.m.meas.hallIn = some t → t + second ≤ s.m.meas.hallT → Completes .hallRecovered s (fun m =>
      m.meas.hallLost = false ∧ m.meas.hallSupply = false)) ∧
    (s.m.clk.procRunning = true → ∀ t, s.m.meas.hallIn = some t → s.m.meas.hallT < t + second → Completes .hallRecovered s (fun m =>
      m.meas.hallLost = s.m.meas.hallLost)) ∧
    (∀ line x p, s.m.clk.powered = true → s.m.prof = some p → line < 5 → Completes (.currentComparator line x) s (fun m =>
      bit m.meas.lines line = lineLevel line (bit s.m.meas.lines line) (p.lineTh line) x ∧
      ∀ j, j ≠ line → bit m.meas.lines j = bit s.m.meas.lines j))

/-- The injector of the insulation monitor (R111 to R116), while the processor domain runs. It starts at epoch e + 5 where the views of
e and e + 1 elect it, its polarity sequence seeded by the node address (R114, R115), and stops at e + 4 without the view of e, raising
no flags from then on (R114, R116). At the end of a half-period of at least 1 s whose foreign part stays within 30 % the reading, if
there is one, is held between 10 kOhm and 10 MOhm (R111) and compared with the alarm and warning limits, each flag cleared above 1.25
times its limit (R116); without one the measurement goes on. A first half-period above 30 % brings no reading (log entry 156), a second
in a row is a conflict and ends in the back-off (R115), which ends after 60 s and 100 ms per address (R115). -/
def Obligations.InjectorCommandsTakeEffect : Prop :=
  ∀ s : State, s.m.clk.procRunning = true →
    (s.m.iso.state = .idle → s.m.eligible = true → 5 ≤ s.m.slowEpoch → s.m.electedIn (s.m.slowEpoch - 5) = true →
      s.m.electedIn (s.m.slowEpoch - 4) = true → Completes .injectorStart s (fun m =>
        m.iso.state = .injecting ∧ m.iso.seed = s.m.fab.addr ∧ m.iso.prbs = 0 ∧ m.iso.stale = true ∧ m.iso.halfAt = some s.m.now)) ∧
    (s.m.iso.state = .injecting ∨ s.m.iso.state = .paused → s.m.slowEpoch < 4 ∨ s.m.electedIn (s.m.slowEpoch - 4) = false →
      Completes .injectorStop s (fun m => m.iso.state = .idle ∧ m.iso.alarm = false ∧ m.iso.warning = false ∧ m.iso.halfAt = none)) ∧
    (4 ≤ s.m.slowEpoch → s.m.electedIn (s.m.slowEpoch - 4) = true → Completes .injectorStop s (fun m => m.iso = { s.m.iso with state := m.iso.state })) ∧
    (∀ corr uncorr r, s.m.iso.state = .injecting → s.m.elapsed? s.m.iso.halfAt second = true → 10 * uncorr ≤ 3 * corr → Completes
      (.injectionHalfPeriod corr uncorr (some r)) s (fun m => m.iso.reading = max 10 (min 10000 r) ∧ m.iso.stale = false ∧
        m.iso.below = decide (r < 10) ∧ m.iso.above = decide (10000 < r) ∧ m.iso.foreign = 0 ∧ m.iso.prbs = s.m.iso.prbs + 1 ∧
        m.iso.halfAt = some s.m.now ∧
        m.iso.alarm = (if m.iso.reading < s.m.par 0x2205 1 then true
          else if 5 * s.m.par 0x2205 1 < 4 * m.iso.reading then false else s.m.iso.alarm) ∧
        m.iso.warning = (if m.iso.reading < s.m.par 0x2205 0 then true
          else if 5 * s.m.par 0x2205 0 < 4 * m.iso.reading then false else s.m.iso.warning))) ∧
    (∀ corr uncorr, s.m.iso.state = .injecting → s.m.elapsed? s.m.iso.halfAt second = true → 10 * uncorr ≤ 3 * corr → Completes
      (.injectionHalfPeriod corr uncorr none) s (fun m => m.iso.reading = s.m.iso.reading ∧ m.iso.foreign = 0 ∧
        m.iso.prbs = s.m.iso.prbs + 1 ∧ m.iso.halfAt = some s.m.now)) ∧
    (∀ corr uncorr o, s.m.iso.state = .injecting → s.m.elapsed? s.m.iso.halfAt second = true → 3 * corr < 10 * uncorr →
      s.m.iso.foreign = 0 → Completes (.injectionHalfPeriod corr uncorr o) s (fun m => m.iso.foreign = 1 ∧
        m.iso.state = (if s.m.contactorsMove = true then .paused else .injecting) ∧
        m.iso.reading = s.m.iso.reading ∧ m.iso.prbs = s.m.iso.prbs + 1)) ∧
    (∀ corr uncorr o, s.m.iso.state = .injecting → s.m.elapsed? s.m.iso.halfAt second = true → 3 * corr < 10 * uncorr →
      1 ≤ s.m.iso.foreign → Completes (.injectionHalfPeriod corr uncorr o) s (fun m => m.iso.state = .backoff ∧ m.iso.conflict = true ∧
        m.iso.backoff = some s.m.now ∧ m.iso.nConflict = satInc s.m.iso.nConflict ∧ m.iso.reading = s.m.iso.reading)) ∧
    (s.m.elapsed? s.m.iso.backoff (60000000000 + s.m.fab.addr * 100000000) = true → Completes .isoBackoffEnd s (fun m =>
      m.iso.backoff = none ∧ (s.m.iso.state = .backoff → m.iso.state = .idle)))

/-- The impedance commands (R119 to R130, R134, R136, R140), while the processor domain runs. A pass begins after the idle interval
(R120). In the non-sweep window the scheduler announces its next bin to the pods with its EXC_ID, start and lengths; a follower takes
the announcement it hears, or 0xFF, which stops its bin (R123, R126). At the latch the bin starts where mode, headroom, rest slot and
ownership allow; otherwise the bin waits and stays in the pass (R123). The latch that ends the window closes the bin and opens the
read with the module's own phasors of the two halves, or ends a discarded bin without one (R125, R126, R129). CORR_READ asks a pod
that is due for bin and EXC_ID (R127, R128). A valid reply of the running read is held, in a pair the chain's one sent on; a first
missing or damaged one is noted and counted per port, the second one, or a STATUS other than 0, rejects the pod and is counted (R66,
R89, R128; other bins or EXC_IDs: log entry 161). At the merge point of a bin every entry of the pods read is written with the time,
unless its current is weak, its group or pod was rejected, or its quality lies below 64; the bin's completion time follows, and the
entries of an older slow epoch are dropped and counted (R30, R130, R134). A baseline request needs ENGINEER with expert unlock (R10,
R136). After 2 h of equilibrium, at most once in 24 h, an ageing update sets the factor to the ratio of the bin-15 resistances at equal
temperature and commits it (R140; the entry's age and quality: log entry 162). -/
def Obligations.ImpedanceCommandsTakeEffect : Prop :=
  (∀ s : State, s.m.clk.procRunning = true →
    (s.m.imp.kind = .normal → s.m.inMode [.connected, .dispatch, .busForm] = true → s.m.imp.queue = none →
      s.m.imp.run = none → s.m.imp.read = none → (∀ t, s.m.imp.passEnd = some t →
        t + 1000 * s.m.par 0x2302 0 * 1000000 ≤ s.m.now) → Completes .passStart s (fun m => m.imp.queue = some normalPass)) ∧
    (∀ k rest, s.m.schedules = true → s.m.excites = true → s.m.excEnabled = true → s.m.imp.run = none → s.m.chainWindow = true →
      s.m.imp.announced = none → s.m.binsLeft = k :: rest → k < 16 → Completes (.exciteRef none) s (fun m =>
        m.imp.announced = some (k, (s.m.imp.excId + 1) % 65536) ∧ .chain 1 s.m.chain.seq1 (.exciteRef k
          ((s.m.imp.excId + 1) % 65536) ((s.m.slowEpoch + 1) % 65536) (leadEpochs k) (windowEpochs k)) ∈ m.out)) ∧
    (∀ k id, s.m.schedules = false → k ≠ 0xFF → Completes (.exciteRef (some (k, id))) s (fun m =>
      m.imp.announced = some (k, id) ∧ (s.m.chainWindow = true → s.m.chain.brk.isSome = true →
        .chain 1 s.m.chain.seq1 (s.m.exciteFrame k id) ∈ m.out))) ∧
    (∀ id r, s.m.schedules = false → s.m.imp.run = some r → Completes (.exciteRef (some (0xFF, id))) s (fun m =>
      m.imp.run = none ∧ m.imp.nAborted = (if r.discarded then s.m.imp.nAborted else satInc s.m.imp.nAborted))) ∧
    (∀ k id, s.m.imp.announced = some (k, id) → s.m.imp.run = none → s.m.excites = true → s.m.excEnabled = true →
      (s.m.schedules = true → s.m.headroom (s.m.ampCap s.m.mode.mode) = true ∧ s.m.restClear k s.m.slowEpoch = true ∧
        s.m.pair.acquiring = false ∧ s.m.pair.tb = none) →
      Completes .binStart s (fun m => m.imp.excId = id ∧ m.imp.announced = none ∧ m.imp.headroomWait = false ∧
        m.imp.restWait = false ∧ m.imp.run = some {
          bin := k, excId := id, start := s.m.slowEpoch, amp := s.m.ampCap s.m.mode.mode, discarded := false, clipped := false
          rejected := [], rejectedPods := [] })) ∧
    (∀ k id, s.m.imp.announced = some (k, id) → s.m.imp.run = none → s.m.excites = true → s.m.excEnabled = true →
      s.m.schedules = true → s.m.headroom (s.m.ampCap s.m.mode.mode) = false ∨ s.m.restClear k s.m.slowEpoch = false →
      Completes .binStart s (fun m => m.imp.run = none ∧ m.imp.announced = none ∧ m.imp.queue = s.m.imp.queue ∧
        m.imp.restWait = !s.m.restClear k s.m.slowEpoch ∧
        (s.m.headroom (s.m.ampCap s.m.mode.mode) = false → m.imp.headroomWait = true))) ∧
    (∀ r, s.m.imp.run = some r → s.m.slowEpoch = r.start + leadEpochs r.bin + windowEpochs r.bin →
      r.discarded = false → Completes .binWindowEnd s (fun m => m.imp.run = none ∧ m.imp.read = some {
        run := r, endEpoch := s.m.slowEpoch, ia := phasor r.sumA, ib := phasor r.sumB, got := [], fails := [], bad := []
        asked := [] })) ∧
    (∀ r, s.m.imp.run = some r → s.m.slowEpoch = r.start + leadEpochs r.bin + windowEpochs r.bin →
      r.discarded = true → Completes .binWindowEnd s (fun m => m.imp.run = none ∧ m.imp.read = s.m.imp.read ∧
        m.imp.map = s.m.imp.map)) ∧
    (∀ a r, s.m.imp.read = some r → s.m.corrDue r a = true → s.m.chainWindow = true →
      s.m.paired = false ∨ (s.m.isMaster = true ∧ s.m.chain.brk = none) → Completes (.corrRead a) s (fun m =>
        m.imp.read = some { r with asked := aput r.asked a s.m.slowEpoch } ∧
        ∃ port seq, .chain port seq (.corrRead a r.run.bin r.run.excId) ∈ m.out)) ∧
    (∀ port a samples vals r, s.m.imp.read = some r → a ∉ r.bad → (∀ c ∈ r.got, c.pod ≠ a) → Completes
      (.correlationReply port a true r.run.bin 0 r.run.excId samples vals) s (fun m => m.imp.read = some { r with
        got := r.got ++ [{ pod := a, samples := samples, vals := vals }] } ∧
        (s.m.paired = true → port = 1 → .pairCorr a r.run.bin 0 r.run.excId samples vals ∈ m.out))) ∧
    (∀ port a bin status excId samples vals r, s.m.imp.read = some r → a ∉ r.bad → (∀ c ∈ r.got, c.pod ≠ a) →
      aget r.fails a 0 = 0 → Completes (.correlationReply port a false bin status excId samples vals) s (fun m =>
        m.imp.read = some { r with fails := acount r.fails a } ∧
        m.chain.disc1 = satAdd s.m.chain.disc1 (if port = 1 then 1 else 0) ∧
        m.chain.disc2 = satAdd s.m.chain.disc2 (if port = 2 then 1 else 0))) ∧
    (∀ port a bin status excId samples vals r, s.m.imp.read = some r → a ∉ r.bad → (∀ c ∈ r.got, c.pod ≠ a) →
      1 ≤ aget r.fails a 0 → Completes (.correlationReply port a false bin status excId samples vals) s (fun m =>
        m.imp.read = some { r with bad := insNat r.bad a } ∧ m.imp.nPod = satInc s.m.imp.nPod)) ∧
    (∀ port a bin status excId samples vals r, s.m.imp.read = some r → a ∉ r.bad → (∀ c ∈ r.got, c.pod ≠ a) →
      status ≠ 0 ∨ bin ≠ r.run.bin ∨ excId ≠ r.run.excId → Completes
        (.correlationReply port a true bin status excId samples vals) s (fun m =>
          m.imp.read = some { r with bad := insNat r.bad a } ∧ m.imp.nPod = satInc s.m.imp.nPod)) ∧
    (∀ role, 2 ≤ role → Completes (.baselineRequest role true) s (fun m => m.imp = { s.m.imp with blRequest := true })) ∧
    (∀ role unlocked, role < 2 ∨ unlocked = false → Completes (.baselineRequest role unlocked) s (fun m =>
      m.imp = s.m.imp ∧ .writeStatus (if role < 2 then 0x14 else 0x15) 0 ∈ m.out))) ∧
  (∀ s : State, s.m.clk.procRunning = true →
    (∀ r, s.m.imp.read = some r → r.run.bin < 16 → s.m.binStale r = false → (r.got.map (fun c => c.pod)).Nodup →
      (∀ c ∈ r.got, 1 ≤ c.pod) → Completes .binWrite s (fun m => m.imp.read = none ∧ m.imp.nDone = satInc s.m.imp.nDone ∧
        aget? m.imp.binTimes r.run.bin = some s.m.fabTime ∧
        ∀ c ∈ r.got, ∀ k < 16,
          let g := groupNo c.pod k
          let e := entryOf r.run.bin r (nth c.vals k (0, 0, 0, 0))
          aget? m.imp.map (zKey g r.run.bin) =
            if r.strong && !r.run.rejected.contains g && !r.run.rejectedPods.contains c.pod && decide (64 ≤ e.q)
            then some { e with time := some s.m.fabTime } else aget? s.m.imp.map (zKey g r.run.bin))) ∧
    (∀ r, s.m.imp.read = some r → s.m.binStale r = true → Completes .binWrite s (fun m => m.imp.read = none ∧
      m.imp.map = s.m.imp.map ∧ m.imp.binTimes = s.m.imp.binTimes ∧ m.arch.stale = satInc s.m.arch.stale)) ∧
    (∀ g r t, aget? s.m.imp.ref (zKey g 15) = some r → aget? s.m.imp.equil (podOf g) = some t →
      t + 7200000000000 ≤ s.m.now → (∀ u, aget? s.m.imp.ageingAt g = some u → u + 86400000000000 ≤ s.m.fabTime) →
      64 ≤ (aget s.m.imp.map (zKey g 15) {}).q → s.m.fresh (aget s.m.imp.map (zKey g 15) {}) 120000000000 = true →
      Completes (.ageingUpdate g) s (fun m => aget? m.imp.ageingAt g = some s.m.fabTime ∧
        aget m.imp.ageing g 10000 = (roundQ (10000 * qdiv ((aget s.m.imp.map (zKey g 15) {}).re : Rat) (r.re *
          expQ (-(s.m.beta 0) * (((s.m.podTemp g - aget s.m.imp.refTemp g 0 : Int) : Rat) / 100))))).toNat ∧
        m.nv.pending = s.m.nv.pending ++ [{ items := [.ageing m.imp.ageing m.imp.ageingAt], after := [] }])))

/-- The estimator's commands (chapter 6), while the processor domain runs. A step of the model moves every group by the exact charge
since the last step, with a voltage update where one is trusted, every second slow epoch at 50 Hz; a partition that has not delivered
keeps its groups' values, stale (R31, R146 to R150; the filter's form is log entry 154). At model rate 0 nothing steps and the limits
are 0 (R147, R161); a state received from the lead replaces the own one first (R156). A rest qualifies after 15 s: every good group of
small polarisation is corrected towards its open-circuit voltage, the request, the bridge and the aged reference end (R151 to R154),
and the correction is applied again while the rest holds (R151). The reference ages after 48 h (R153). The first sweep after C5
initialises every group (R515). The follower takes what the lead sends (R155, R156) and publishes its own values, from the last it
holds, when the lead's have not come by the end of the next slow epoch (R156). The commands of chapter 7. A decision epoch of the
lead gives every pod its mask by excess, none where bleeding is off (R165 to R170). BLEED carries the lead's masks without the groups
excluded on this epoch's sweep, or the masks received from the lead, the pods hear it, and the lead's go to the partner; none is sent
in STORAGE (R166 to R172). The follower holds the lead's masks (R172). A pair frame of an older ownership generation changes nothing
but its counter (R297). -/
def Obligations.EstimationAndBalancingCommandsTakeEffect : Prop :=
  (∀ s : State, s.m.clk.procRunning = true →
    (∀ irms, s.m.est.leadState = none → s.m.est.running = true → s.m.modelRate ≠ 0 →
      s.m.modelRate = 100 ∨ s.m.slowEpoch % 2 = 0 → Completes (.modelStep irms) s (fun m =>
        m.est.usedD = 1000 * s.m.meas.cntD + s.m.meas.addD ∧ m.est.usedC = 1000 * s.m.meas.cntC + s.m.meas.addC ∧
        m.est.lastStep = s.m.slowEpoch ∧ m.arch.restarted = [] ∧
        m.est.groups = s.m.est.groups.map (fun p =>
          if s.m.arch.restarted.contains (s.m.partOf p.1) then (p.1, { p.2 with stale := true })
          else (p.1, s.m.stepGroup p.1 p.2 (s.m.span (s.m.spanOf (s.m.partOf p.1) irms))
            (decide (s.m.est.lastStep ≤ s.m.chain.lastEpoch)))))) ∧
    (∀ irms l, s.m.est.leadState = some l → s.m.modelRate = 0 → Completes (.modelStep irms) s (fun m =>
      m.est.groups = l ∧ m.est.leadState = none ∧ m.est.usedD = s.m.est.usedD ∧ m.est.usedC = s.m.est.usedC ∧
      (s.m.est.follower = false → m.est.iDis = 0 ∧ m.est.iChg = 0 ∧ m.est.pDis = 0 ∧ m.est.pChg = 0))) ∧
    (s.m.est.running = true → s.m.modelRate ≠ 0 → s.m.est.restActive = false → (s.m.est.groups.map (fun p => p.1)).Nodup →
      s.m.elapsed? s.m.est.restFrom 15000000000 = true → Completes .qualifyingRest s (fun m => m.est.restActive = true ∧
        m.est.nRests = satInc s.m.est.nRests ∧ m.est.lastRest = s.m.chain.lastEpoch * 10000000 ∧ m.est.restRequest = false ∧
        m.est.bridged = false ∧ m.est.refAged = false ∧ RestCorrected s.m m)) ∧
    (s.m.est.running = true → s.m.modelRate ≠ 0 → s.m.est.restActive = true → (s.m.est.groups.map (fun p => p.1)).Nodup →
      s.m.chain.lastEpoch % 6000 = 0 → s.m.est.lastRest < s.m.chain.lastEpoch * 10000000 → Completes .restCorrection s (fun m =>
        m.est.restActive = true ∧ m.est.nRests = s.m.est.nRests ∧ m.est.lastRest = s.m.chain.lastEpoch * 10000000 ∧
        m.est.restRequest = false ∧ m.est.refAged = false ∧ RestCorrected s.m m)) ∧
    (s.m.est.running = true → s.m.est.lastRest + 172800000000000 ≤ s.m.fabTime →
      Completes .referenceAged s (fun m => m.est = { s.m.est with refAged := true })) ∧
    (s.m.est.initDue = true → s.m.est.running = false → s.m.chain.shared ≠ [] → Completes .estimatorInit s (fun m =>
      m.est.running = true ∧ m.est.initDue = false ∧ m.est.usedD = 1000 * s.m.meas.cntD + s.m.meas.addD ∧
      m.est.usedC = 1000 * s.m.meas.cntC + s.m.meas.addC ∧ m.est.groups.map (fun p => p.1) = s.m.presentGroups ∧
      ∀ g e, aget? m.est.groups g = some e → e.u = 100 ∧ e.s = s.m.ocvInv (s.m.fineV g) ∧ e.sRep = e.s ∧
        e.c = s.m.ratedCap ∧ e.tc = (s.m.podTemp g : Rat) / 100 ∧ e.v1 = 0 ∧ e.v2 = 0 ∧ e.h = 0)) ∧
    (∀ v full ogen, s.m.estLead = false → s.m.pair.ogen ≤ ogen → Completes (.estimator (some v) full ogen) s (fun m =>
      m.est.lead = some v ∧ m.est.follower = true ∧ (m.est.iDis, m.est.iChg, m.est.pDis, m.est.pChg) = v.limits ∧
      m.therm.leadD = some (v.epoch, v.cooling))) ∧
    (∀ values l ogen, s.m.estLead = false → s.m.pair.ogen ≤ ogen → Completes (.estimator values (some l) ogen) s (fun m =>
      m.est.leadState = some l ∧ m.est.groups = s.m.est.groups ∧ m.pair.gotState = true)) ∧
    (∀ values full ogen, ogen < s.m.pair.ogen → Completes (.estimator values full ogen) s (fun m =>
      m.est = s.m.est ∧ m.arch.stale = satInc s.m.arch.stale)) ∧
    (∀ v, s.m.est.lead = some v → s.m.est.follower = true → v.epoch + 3 ≤ s.m.slowEpoch →
      Completes .leadValuesMissing s (fun m => m.est.follower = false ∧ m.est.strRep = v.str ∧
        m.est.groups = s.m.est.groups.map (fun p => (p.1, { p.2 with sRep := (aget? v.sRep p.1).getD p.2.sRep })))) ∧
    (∀ v, s.m.est.lead = some v → s.m.slowEpoch < v.epoch + 3 → Completes .leadValuesMissing s (fun m => m.est = s.m.est))) ∧
  (∀ s : State, s.m.clk.procRunning = true →
    (s.m.estLead = true → s.m.est.running = true → s.m.chain.walnutEpoch % 100 = 0 → Completes .balancingDecision s (fun m =>
      m.bal.decided = (if s.m.bleedModeOff || s.m.bleedStopped then []
        else (s.m.podAddrs.map (fun a => (a, s.m.decidePod s.m.balExcess a))).filter (fun p => p.2 != 0)) ∧
      m.bal.excess = s.m.balExcess.map (fun p => (p.1, (p.2 / 3600000).floor)) ∧
      m.bal.nDecisions = satInc s.m.bal.nDecisions ∧ m.bal.masks = s.m.bal.masks)) ∧
    (s.m.bleedDue = true → Completes .bleed s (fun m =>
      m.bal.masks = (if s.m.estLead then s.m.sweepNow.bleedMasks
        else if s.m.bleedModeOff || s.m.bleedStopped then [] else s.m.bal.leadMasks) ∧
      m.bal.zeroDue = false ∧ m.bal.deferred = s.m.binWindow ∧
      m.bal.excluded = (s.m.est.groups.map (fun p => p.1)).filter s.m.sweepNow.bleedExcluded ∧
      (s.m.mode.mode ≠ .storage → s.m.isMaster = true → .chain 1 s.m.chain.seq1 (.bleed 1 m.bal.masks) ∈ m.out) ∧
      (s.m.mode.mode ≠ .storage → ∀ a ∈ s.m.podAddrs, nth s.m.chain.serials (a - 1) 0 ≠ 0 →
        (m.pod a).waiting = aget m.bal.masks a 0 ∧ (m.pod a).masks = 0 ∧ (m.pod a).lastFrame = s.m.now) ∧
      (s.m.mode.mode = .storage → m.chain = s.m.chain) ∧
      (s.m.paired = true → s.m.isMaster = true → .masks s.m.pairHead m.bal.masks ∈ m.out))) ∧
    (s.m.bleedDue = false → Completes .bleed s (fun m => m.bal = s.m.bal ∧ m.chain = s.m.chain)) ∧
    (∀ l ogen, s.m.estLead = false → s.m.pair.ogen ≤ ogen → Completes (.masks l ogen) s (fun m =>
      m.bal = { s.m.bal with leadMasks := l, decided := l, following := true })) ∧
    (∀ l ogen, ogen < s.m.pair.ogen → Completes (.masks l ogen) s (fun m =>
      m.bal = s.m.bal ∧ m.arch.stale = satInc s.m.arch.stale)))

/-- The phases' commands of chapter 8. A duty command, cut to 0 to 1, waits for the next peak or the one after (R181); one of an old
ownership generation is dropped (R297). Stale commands send a phase to IDLE and raise their fault (R181). A valley puts the waiting duty
in force and delivers the period-average current of its density, none where the period was bad; a density outside 0.02 to 0.98 is a
fault of the stream (R181, R191, R192). Foxglove forces both pairs of a phase that has both driven off for the rest of the half-period
and reports it (R179). Release gates a phase off and then deasserts its line; acquisition asserts it with the gate held off, at once or,
where it comes too early, once held, and the gate is released later (R185). A faulted stream invalidates the current and holds the pairs
off, one valid for 10 periods releases them (R192). An offset is taken after 10 ms off, within 0.2 % of full scale, else it is bad (R191).
The cycle-by-cycle limit ends the on-interval of its half-period and after the dead time turns the complementary switch on (R193). -/
def Obligations.PhaseCommandsTakeEffect : Prop :=
  ∀ (s : State) (k : Nat), s.m.Shaped → k < s.m.nPhases → k < 12 →
    (∀ tag ogen duty early, s.m.clk.procRunning = true → s.m.pair.ogen ≤ ogen → Completes (.dutyCommand k tag ogen duty early) s
      (fun m => (m.phase k).tag = tag ∧
        (early = true → (m.phase k).waiting = some (clampQ 0 1 duty) ∧ (m.phase k).later = none) ∧
        (early = false → (m.phase k).waiting = (s.m.phase k).waiting ∧ (m.phase k).later = some (clampQ 0 1 duty)))) ∧
    (∀ tag ogen duty early, ogen < s.m.pair.ogen → Completes (.dutyCommand k tag ogen duty early) s
      (fun m => (m.phase k).waiting = (s.m.phase k).waiting ∧ (m.phase k).later = (s.m.phase k).later ∧
        (m.phase k).tag = (s.m.phase k).tag)) ∧
    (s.m.clk.procRunning = true → s.m.phaseState k = 2 → Completes (.pwmCommandStale k) s
      (fun m => (m.phase k).commanded = false ∧ (m.phase k).waiting = none ∧ (m.phase k).later = none ∧
        m.isPending .pwmCommandStale = true)) ∧
    (s.m.phaseState k ≠ 2 → Completes (.pwmCommandStale k) s (fun m => m.pwm = s.m.pwm)) ∧
    (∀ density, s.m.clk.procRunning = true → densityBad density = false → Completes (.carrierValley k density) s
      (fun m => (m.phase k).duty = (s.m.phase k).waiting.getD (s.m.phase k).duty ∧ (m.phase k).waiting = (s.m.phase k).later ∧
        (m.phase k).later = none ∧ (m.phase k).fault = ((s.m.phase k).fault && (s.m.phase k).badNow) ∧
        (m.phase k).goodRun = (if (s.m.phase k).badNow then 0 else (s.m.phase k).goodRun + 1) ∧
        (m.phase k).avg = if (s.m.phase k).badNow then none else some (s.m.phaseCurrent k density))) ∧
    (∀ density, s.m.clk.procRunning = true → densityBad density = true → s.m.phaseState k ∈ [1, 2, 5] →
      Completes (.carrierValley k density) s (fun m => (m.phase k).fault = true ∧ (m.phase k).heldOff = true ∧
        (m.phase k).avg = none ∧ (m.phase k).goodRun = 0 ∧ (m.phase k).duty = (s.m.phase k).waiting.getD (s.m.phase k).duty)) ∧
    (∀ t, s.m.clk.powered = true → Completes (.interlockBlock k t) s
      (fun m => (m.phase k).blocked = some t ∧ m.pwm.interlock = true ∧ m.pwm.nInter = satInc s.m.pwm.nInter ∧
        ∀ u, t ≤ u → m.halfOf k u = m.halfOf k t → m.pwmPair k u = (false, false))) ∧
    (s.m.clk.procRunning = true → (s.m.phase k).own = true → Completes (.ownershipRelease k) s
      (fun m => (m.phase k).own = true ∧ (m.phase k).gate = false ∧ (m.phase k).releasing = true ∧
        (m.phase k).commanded = false ∧ (m.phase k).waiting = none)) ∧
    ((s.m.phase k).releasing = true → Completes (.ownLineDeassert k) s
      (fun m => (m.phase k).own = false ∧ (m.phase k).releasing = false)) ∧
    (s.m.clk.procRunning = true → s.m.pair.roleConflict = false → (s.m.phase k).own = false →
      Completes (.ownershipAcquire k false) s
        (fun m => (m.phase k).own = true ∧ (m.phase k).gate = false ∧ (m.phase k).acquiring = true)) ∧
    (s.m.clk.procRunning = true → s.m.pair.roleConflict = false → (s.m.phase k).own = false →
      Completes (.ownershipAcquire k true) s (fun m => (m.phase k).own = false ∧ (m.phase k).acqHeld = true)) ∧
    (∀ early, s.m.clk.procRunning = true → s.m.pair.roleConflict = false → (s.m.phase k).own = true →
      (s.m.phase k).releasing = true → Completes (.ownershipAcquire k early) s (fun m => (m.phase k).own = true ∧
        (m.phase k).releasing = true ∧ (m.phase k).acqHeld = true)) ∧
    ((s.m.phase k).acquiring = true → Completes (.pwmGateRelease k) s
      (fun m => (m.phase k).gate = true ∧ (m.phase k).acquiring = false ∧ (m.phase k).commanded = s.m.phasesRun)) ∧
    (s.m.clk.procRunning = true → s.m.phaseState k ∈ [1, 2, 5] → Completes (.bitstreamFault k) s
      (fun m => (m.phase k).fault = true ∧ (m.phase k).heldOff = true ∧ (m.phase k).avg = none ∧ (m.phase k).goodRun = 0 ∧
        m.pwm.nStream = (if (s.m.phase k).fault then s.m.pwm.nStream else satInc s.m.pwm.nStream))) ∧
    (s.m.clk.procRunning = true → (s.m.phase k).fault = false → 10 ≤ (s.m.phase k).goodRun → Completes (.bitstreamValid k) s
      (fun m => (m.phase k).heldOff = false)) ∧
    ((s.m.phase k).fault = true ∨ (s.m.phase k).goodRun < 10 → Completes (.bitstreamValid k) s
      (fun m => (m.phase k).heldOff = (s.m.phase k).heldOff)) ∧
    (∀ density, s.m.clk.procRunning = true → s.m.phaseState k = 1 ∨ s.m.phaseState k = 3 →
      s.m.elapsed (s.m.phase k).offAt 10000000 = true → Completes (.offsetZero k density) s
        (fun m => (m.phase k).offsetBad = decide (1000 < ((density : Int) - 500000).natAbs) ∧
          (m.phase k).offset = if ((density : Int) - 500000).natAbs ≤ 1000 then (density : Int) - 500000
            else (s.m.phase k).offset)) ∧
    (∀ (current : Int) (t : Nat), s.m.clk.procRunning = true → s.m.phaseState k = 2 → (s.m.phase k).fault = false →
      100 * s.m.par 0x260A 0 < current.natAbs → Completes (.cycleByCycleLimit k current t) s
        (fun m => (m.phase k).cbc = some t ∧ m.pwm.cbcNow = true ∧ m.pwm.nCbc = satInc s.m.pwm.nCbc ∧
          ∀ u, t ≤ u → m.halfOf k u = m.halfOf k t →
            (m.burstLevel k t = (true, false) → m.limitLevel k u = (false, decide ((t : Rat) + m.deadTime ≤ u))) ∧
            (m.burstLevel k t = (false, true) → m.limitLevel k u = (decide ((t : Rat) + m.deadTime ≤ u), false))))

/-- The fast trip and the sync input (R188, R197, R198). An asserted FT input sets the latch with its capture and forces every phase off;
a setting is counted at once, or once the processor domain runs again. The inputs alone never clear it. A rearm ordered while every
input has been inactive for 50 µs releases it; the fourth within 10 s is refused, the latch stays held, FAST_TRIP_LOCKED is raised and
a switching module is ordered to SHUTDOWN (R188, R218). A valid edge of SYNC_IN is taken with its phase error, an invalid one counted
(R197); 8 valid ones in a row lead from FREE, HOLDOVER and GLIDE to ACQUIRE, 8 within 10 ns from there to LOCKED, and the carrier's phase
never steps (R198). Missing edges lead to HOLDOVER with the frequency held, the hold-over time to GLIDE, f_c reached to FREE (R198). -/
def Obligations.TripAndSyncCommandsTakeEffect : Prop :=
  ∀ s : State,
    (∀ mask, s.m.clk.powered = true → mask % 4096 ≠ 0 → s.m.pwm.latch = false → Completes (.fastTrip mask) s (fun m =>
      m.pwm.latch = true ∧ m.pwm.ft = mask % 4096 ∧ m.pwm.capture = mask % 4096 ∧ m.pwm.latchAt = s.m.now ∧
      (∀ k < m.nPhases, m.phaseState k = 4) ∧ m.pwm.tripPending = (if s.m.clk.procRunning then false else true) ∧
      (s.m.clk.procRunning = true → m.pwm.nTrips = satInc s.m.pwm.nTrips ∧ m.conv.restart = (s.m.conv.loop != .none)))) ∧
    (∀ mask, s.m.pwm.latch = true → Completes (.fastTrip mask) s (fun m =>
      m.pwm.latch = true ∧ m.pwm.ft = mask % 4096 ∧ m.pwm.capture = s.m.pwm.capture ∧
      m.pwm.ftOff = (if s.m.pwm.ft ≠ 0 ∧ mask % 4096 = 0 then s.m.now else s.m.pwm.ftOff))) ∧
    (∀ quiet, s.m.clk.procRunning = true → s.m.pwm.latch = true → s.m.pwm.ft = 0 →
      quiet = true ∨ s.m.pwm.ftOff + 50000 ≤ s.m.now → s.m.conv.rearmOrdered = true →
      s.m.pwm.refused = false ∨ s.m.pwm.clearPass = true → s.m.recentRearms.length < 3 → Completes (.fastTripRearm quiet) s (fun m =>
        m.pwm.latch = false ∧ m.pwm.rearms = s.m.now :: s.m.recentRearms ∧ m.pwm.nRearms = satInc s.m.pwm.nRearms ∧
        m.conv.rCmd = s.m.conv.rCmd ∧ m.conv.restart = false ∧ m.conv.nRestart = satInc s.m.conv.nRestart ∧
        m.conv.startAt = (if s.m.conv.loop = .precharge then none else some (s.m.now + 1000000 * s.m.par 0x2705 1)))) ∧
    (∀ quiet, s.m.clk.procRunning = true → s.m.pwm.latch = true → s.m.pwm.ft = 0 →
      quiet = true ∨ s.m.pwm.ftOff + 50000 ≤ s.m.now → s.m.conv.rearmOrdered = true →
      s.m.pwm.refused = false ∨ s.m.pwm.clearPass = true → 3 ≤ s.m.recentRearms.length → Completes (.fastTripRearm quiet) s (fun m =>
        m.pwm.latch = true ∧ m.pwm.refused = true ∧ m.isPending .fastTripLocked = true ∧
        (s.m.mode.mode = .precharge ∨ s.m.mode.mode.isLine = true → m.mode.mode = .lockout ∨ m.mode.pendingModes =
          { dest := .shutdown, cause := .fault, effect := s.m.fastEpoch + 1, fromPartner := false } :: s.m.mode.pendingModes))) ∧
    (∀ quiet, s.m.pwm.ft ≠ 0 ∨ (quiet = false ∧ s.m.now < s.m.pwm.ftOff + 50000) ∨ s.m.conv.rearmOrdered = false →
      Completes (.fastTripRearm quiet) s (fun m => m.pwm = s.m.pwm ∧ m.conv = s.m.conv)) ∧
    (∀ t, s.m.clk.procRunning = true → s.m.carrierSource = 2 → s.m.edgeValid t = true →
      Completes (.syncInEdge t) s (fun m => m.pwm.lastEdge = some t ∧ m.pwm.phaseErr = s.m.edgeError t ∧
        (m.turns t - s.m.turns t).den = 1 ∧
        (s.m.pwm.sync = .locked → m.pwm.sync = .locked ∧ m.pwm.freq = s.m.pulled t) ∧
        (s.m.pwm.sync = .acquire → m.pwm.freq = s.m.pulled t ∧
          m.pwm.sync = if (s.m.edgeError t).natAbs ≤ 10 ∧ 7 ≤ s.m.pwm.lockRun then .locked else .acquire) ∧
        (s.m.pwm.sync ∈ [.free, .holdover, .glide] →
          m.pwm.sync = if 8 ≤ s.m.edgesRun t then .acquire else s.m.pwm.sync))) ∧
    (∀ t, s.m.clk.procRunning = true → s.m.carrierSource = 2 → s.m.edgeValid t = false →
      Completes (.syncInEdge t) s (fun m => m.pwm = { s.m.pwm with nEdges := satInc s.m.pwm.nEdges })) ∧
    (s.m.clk.procRunning = true → s.m.carrierSource = 2 → (s.m.pwm.sync = .acquire ∨ (s.m.pwm.sync = .locked ∧
      ∀ t, s.m.pwm.lastEdge = some t → (t : Rat) + 3 * s.m.edgeSpacing ≤ (s.m.fabTime : Rat))) →
      Completes .syncHoldover s (fun m => m.pwm.sync = .holdover ∧ m.pwm.holdAt = s.m.fabTime ∧ m.pwm.freq = s.m.pwm.freq ∧
        m.pwm.origin = s.m.pwm.origin)) ∧
    (s.m.clk.procRunning = true → s.m.pwm.sync = .holdover →
      s.m.pwm.holdAt + 1000000 * nth s.m.pwm.inForce 6 0 ≤ s.m.fabTime →
      Completes .syncGlide s (fun m => m.pwm.sync = .glide ∧ m.pwm.glideAt = s.m.fabTime ∧ m.pwm.freq = s.m.pwm.freq)) ∧
    (s.m.clk.procRunning = true → s.m.carrierSource = 2 → s.m.pwm.sync = .glide →
      secondsOf s.m.pwm.glideAt + s.m.glideSeconds ≤ secondsOf s.m.fabTime →
      Completes .syncGlideEnd s (fun m => m.pwm.sync = .free ∧ m.pwm.freq = s.m.fc ∧
        (m.turns s.m.fabTime - s.m.turns s.m.fabTime).den = 1))

/-- The loops' commands of chapter 9. Every outer period of a running loop counts n_act, leaving out a change less than 20 µs old
(R205, R208), moves r_cmd towards the target, bounds it with the excitation to lo, hi and the cap, and forms i_ph_ref from the reference,
the error and the integrator, within I_ph,rated (R205, R206, R209, R210, R215); a period of PRECHARGE forms the current of its stage and
the link estimate (R216). A phase loop writes the duty of its average current for the next peak (R207). A partner's phase state is taken
with its ownership generation, an older one dropped (R208, R297). Soft start puts the owned phases into RUN under a ceiling from 0 (R210);
after the stop delay the ramp runs (R211). A rising BUS_DIP bursts every phase in RUN and holds the floor (R214, R215); the hold time after
it fell, the floor is released (R215). A restart is ordered once FT has been inactive and the restart delay has run (R218). -/
def Obligations.LoopCommandsTakeEffect : Prop :=
  ∀ s : State, s.m.Shaped →
    (∀ k iMean recent, s.m.clk.procRunning = true → s.m.conv.loop = .current ∨ s.m.conv.loop = .power ∨ s.m.conv.loop = .voltage →
      (s.m.conv.dipHold && !s.m.dipEnabled) = false → Completes (.outerPeriod k iMean recent) s (fun m =>
        m.conv.active = (if recent then s.m.conv.active else s.m.activePhases) ∧ m.conv.nAct = m.conv.active.length ∧
        m.conv.hi = s.m.limitHi ∧ m.conv.w = s.m.weight ∧
        m.conv.cap = m.sharedActive k * s.m.ratedPhase * s.m.weight / (if s.m.conv.unresolved then 2 else 1) ∧
        m.conv.lo = min m.conv.hi (if s.m.conv.dipHold then max s.m.limitLo m.conv.iDip else s.m.limitLo) ∧
        (s.m.conv.loop = .power → m.conv.target = if s.m.plant.inRest then 0 else s.m.powerCurrent ((100 * s.m.plant.own : Int) : Rat)) ∧
        m.conv.rCmd = s.m.setTarget.slewCmd ∧ m.conv.limited = decide (m.conv.hi < m.conv.rCmd + s.m.excitation k ∨
          m.conv.rCmd + s.m.excitation k < m.conv.lo) ∧
        (s.m.conv.ceiling = none → s.m.clk.capped = false → m.conv.ceiling = none ∧
          m.conv.iRef = clampQ (-m.conv.cap) m.conv.cap (clampQ m.conv.lo m.conv.hi (m.conv.rCmd + s.m.excitation k))) ∧
        (∀ c, s.m.conv.ceiling = some c → s.m.clk.capped = false →
          m.conv.ceiling = (if m.conv.cap < c + ((5 * s.m.par 0x2705 2 : Nat) : Rat) then none else
            some (c + ((5 * s.m.par 0x2705 2 : Nat) : Rat))) ∧
          ∀ l, m.conv.ceiling = some l → m.conv.iRef = clampQ (-l) l (clampQ (-m.conv.cap) m.conv.cap
            (clampQ m.conv.lo m.conv.hi (m.conv.rCmd + s.m.excitation k)))) ∧
        (s.m.conv.actChange = true ∨ s.m.pwm.latch = true ∨ s.m.conv.burst = true → m.conv.frozen = true) ∧
        m.conv.integ = (if s.m.conv.dipEdge then
            m.conv.iDip - m.conv.iRef - ((s.m.par 0x2703 0 : Nat) : Rat) / 1000 * (m.conv.iRef - (iMean : Rat))
          else if m.conv.frozen then s.m.conv.integ
          else s.m.conv.integ + ((s.m.par 0x2703 1 : Nat) : Rat) * (m.conv.iRef - (iMean : Rat)) / 20000) ∧
        m.conv.need = m.conv.iRef + ((s.m.par 0x2703 0 : Nat) : Rat) / 1000 * (m.conv.iRef - (iMean : Rat)) + m.conv.integ ∧
        m.conv.iPhRef = clampQ (-s.m.ratedPhase) s.m.ratedPhase (qdiv m.conv.need (m.conv.w * m.sharedActive k)))) ∧
    (∀ k iMean recent, s.m.clk.procRunning = true → s.m.conv.loop = .precharge → Completes (.outerPeriod k iMean recent) s (fun m =>
      m.conv.active = (if recent then s.m.conv.active else s.m.activePhases) ∧ m.conv.nAct = m.conv.active.length ∧
      (s.m.conv.stage = .p1 → m.conv.iPhRef = qdiv (-s.m.preCurrent) (m.conv.nAct : Nat) ∧
        m.conv.link = s.m.conv.link - qdiv (5 * s.m.linkCurrent) ((s.m.par 0x2701 3 : Nat) : Rat)) ∧
      (s.m.conv.stage = .p2 → m.conv.iPhRef = qdiv (-(clampQ (-s.m.preCurrent) s.m.preCurrent
          ((s.m.meas.sShunt : Rat) * ((s.m.par 0x2707 1 : Nat) : Rat) * ((s.m.par 0x2701 3 : Nat) : Rat) / 50000))) (m.conv.nAct : Nat) ∧
        m.conv.doneSince = if s.m.meas.sShunt.natAbs ≤ 10 * s.m.par 0x2707 2 then some (s.m.conv.doneSince.getD s.m.now) else none))) ∧
    (∀ k iMean recent, s.m.conv.loop = .none → Completes (.outerPeriod k iMean recent) s (fun m => m.conv = s.m.conv)) ∧
    (∀ k avg, s.m.clk.procRunning = true → k < 12 → s.m.phaseState k = 2 → (s.m.phase k).avg = some avg →
      Completes (.phaseLoopUpdate k) s (fun m => (m.phase k).tag = (s.m.phase k).tag + 1 ∧ (m.phase k).later = none ∧
        (m.phase k).waiting = some (clampQ 0 1 (s.m.phaseDuty (s.m.phaseError k avg) (m.phase k).acc)) ∧
        (m.phase k).acc = if (1 < s.m.phaseDuty (s.m.phaseError k avg) (s.m.phase k).acc ∧ 0 < s.m.loopSign * s.m.phaseError k avg) ∨
            (s.m.phaseDuty (s.m.phaseError k avg) (s.m.phase k).acc < 0 ∧ s.m.loopSign * s.m.phaseError k avg < 0) then (s.m.phase k).acc
          else (s.m.phase k).acc + qdiv (((s.m.par 0x2702 1 : Nat) : Rat) / 1000 * s.m.phaseError k avg *
            (s.m.periodsPerUpdate : Rat)) s.m.fc)) ∧
    (∀ k st ogen, s.m.clk.procRunning = true → s.m.paired = true → k < 12 → s.m.pair.ogen ≤ ogen →
      Completes (.phaseState k st ogen) s (fun m => nth m.conv.pPhases k 0 = st ∧ m.pair.ogen = ogen ∧
        m.conv.active = s.m.conv.active ∧ m.conv.iPhRef = s.m.conv.iPhRef)) ∧
    (∀ k st ogen, s.m.clk.procRunning = true → s.m.paired = true → ogen < s.m.pair.ogen →
      Completes (.phaseState k st ogen) s (fun m => m.conv = s.m.conv ∧ m.pair = s.m.pair ∧
        m.arch.stale = satInc s.m.arch.stale)) ∧
    (∀ t, s.m.clk.procRunning = true → s.m.conv.startAt = some t → t ≤ s.m.now → s.m.pwm.latch = false →
      s.m.conv.loop = .current ∨ s.m.conv.loop = .power ∨ s.m.conv.loop = .voltage → Completes .softStart s (fun m =>
        m.conv.startAt = none ∧ m.conv.ceiling = some 0 ∧ m.conv.integ = 0 ∧
        m.conv.rCmd = (if s.m.conv.keepCmd then s.m.conv.rCmd else 0) ∧
        ∀ k < 12, (s.m.phase k).own = true → (s.m.phase k).disabled = false → (m.phase k).commanded = true ∧
          (m.phase k).duty = s.m.feedForward ∧ (m.phase k).acc = 0)) ∧
    (s.m.clk.procRunning = true → s.m.mode.mode = .shutdown → s.m.conv.softStop = true →
      s.m.elapsed s.m.conv.stopAt (1000000 * s.m.par 0x2705 3) = true →
      Completes .softStopRamp s (fun m => m.conv.ramping = true ∧ m.conv.target = s.m.conv.target ∧
        (m.pwm.latch = false → m.conv.startAt = none → m.conv.restart = false → m.conv.cause = .stop →
          m.slewCmd = slewQ m.conv.rCmd m.conv.target ((5 * m.par 0x2705 4 : Nat) : Rat)))) ∧
    (∀ v fall t, s.m.clk.powered = true → s.m.clk.procRunning = true → s.m.dipSeen v fall = true → s.m.meas.dipLine = false →
      s.m.dipEnabled = true → Completes (.busDip v fall t) s (fun m => m.meas.dipLine = true ∧ m.conv.dipHold = true ∧
        m.conv.dipEdge = true ∧ m.conv.dipOff = none ∧ m.conv.nDip = satInc s.m.conv.nDip ∧
        (s.m.par 0x2706 2 ≠ 0 → since? s.m.conv.burstAt 100000 t = true → since? s.m.conv.dipFell 10000 t = true →
          m.conv.burst = true ∧ m.conv.burstAt = some t ∧ ∀ k < 12, s.m.phaseState k = 2 → (m.phase k).burst = some t))) ∧
    (∀ v fall t, s.m.clk.powered = true → s.m.clk.procRunning = true → s.m.dipSeen v fall = true → s.m.meas.dipLine = false →
      s.m.dipEnabled = true →
      s.m.par 0x2706 2 = 0 ∨ since? s.m.conv.burstAt 100000 t = false ∨ since? s.m.conv.dipFell 10000 t = false →
      Completes (.busDip v fall t) s (fun m => m.conv.dipHold = true ∧ m.conv.burst = s.m.conv.burst ∧
        m.conv.burstAt = s.m.conv.burstAt ∧ ∀ k < 12, (m.phase k).burst = (s.m.phase k).burst)) ∧
    (∀ v fall t, s.m.clk.powered = true → s.m.clk.procRunning = true → s.m.dipSeen v fall = false → s.m.meas.dipLine = true →
      s.m.conv.dipHold = true → Completes (.busDip v fall t) s (fun m => m.meas.dipLine = false ∧ m.conv.dipHold = true ∧
        m.conv.dipFell = some t ∧ m.conv.dipOff = some t)) ∧
    (∀ v fall t, s.m.clk.powered = true → s.m.clk.procRunning = false ∨ s.m.dipSeen v fall = s.m.meas.dipLine →
      Completes (.busDip v fall t) s (fun m => m.meas.dipLine = s.m.dipSeen v fall ∧ m.conv = s.m.conv)) ∧
    (s.m.clk.procRunning = true → Completes .dipPulseEnd s (fun m => m.conv.burst = false ∧ m.conv.burstAt = s.m.conv.burstAt)) ∧
    (s.m.clk.procRunning = true → s.m.conv.dipHold = true → s.m.meas.dipLine = false →
      since? s.m.conv.dipOff (100000 * s.m.par 0x2706 4) s.m.fabTime = true → s.m.conv.dipEdge = false →
      Completes .dipFloorRelease s (fun m => m.conv.dipHold = false ∧ m.conv.dipOff = none ∧ m.conv.rCmd = s.m.conv.iDip ∧
        m.conv.cause = if s.m.mode.mode = .shutdown then .stop else .reference)) ∧
    (s.m.conv.dipHold = false ∨ s.m.meas.dipLine = true ∨
      since? s.m.conv.dipOff (100000 * s.m.par 0x2706 4) s.m.fabTime = false →
      Completes .dipFloorRelease s (fun m => m.conv = s.m.conv)) ∧
    (s.m.clk.procRunning = true → s.m.pwm.latch = true → s.m.pwm.ft = 0 → s.m.elapsed s.m.pwm.ftOff 50000 = true →
      s.m.conv.loop ≠ .none → s.m.elapsed s.m.pwm.latchAt (1000000 * s.m.par 0x2708 0) = true →
      Completes .fastTripRestart s (fun m => m.conv.rearmOrdered = true ∧ m.pwm.latch = true ∧ m.conv.rCmd = s.m.conv.rCmd)) ∧
    (s.m.pwm.ft ≠ 0 ∨ s.m.conv.loop = .none ∨ s.m.elapsed s.m.pwm.latchAt (1000000 * s.m.par 0x2708 0) = false →
      Completes .fastTripRestart s (fun m => m.conv = s.m.conv ∧ m.pwm = s.m.pwm))

/-- Precharge and phase loss (R216, R217, R219 to R222, R337). P1 is complete at 0.95 V_str, puts the phases back to IDLE and energises
K_PRE; P2 is complete once the current has been at most the done current for 5 ms and energises K_POS; until then a stage goes on. K_PRE
drops 20 ms after K_POS closed. The check of a half period keeps the residual of the weighted phase means. Without a mismatch
SENSE_UNRESOLVED ends; a mismatch that no phase's ripple explains begins it, is counted and disables nothing; with one that deviates, that
phase is disabled with cause 2. A phase with a faulted stream is disabled with cause 1, one open in its second half period with cause 3:
it is not commanded any more, PHASE_DISABLED is raised, the running bin is discarded, and with fewer than 2 phases left the module is
ordered to SHUTDOWN. A mismatch that stays for 1 s raises PHASE_SENSE_MISMATCH and orders SHUTDOWN, in commissioning step C6 its end. A
disabled phase returns to IDLE in STANDBY once its stream has been valid for 10 ms and its offset is in range. -/
def Obligations.PrechargeAndPhaseLossTakeEffect : Prop :=
  ∀ s : State, s.m.Shaped → s.m.clk.procRunning = true →
    (s.m.conv.stage = .p1 → 95 * (s.m.meas.sStr : Rat) ≤ 100 * s.m.conv.link → Completes .prechargeStageComplete s (fun m =>
      m.conv.stage = .kPre ∧ m.conv.stepAt = s.m.now ∧ (m.coil 2).wSw = true ∧ (m.coil 2).fSw = true ∧
      ∀ k < 12, (m.phase k).commanded = false)) ∧
    (s.m.conv.stage = .p2 → s.m.meas.sShunt.natAbs ≤ 10 * s.m.par 0x2707 2 → s.m.elapsed? s.m.conv.doneSince 5000000 = true →
      Completes .prechargeStageComplete s (fun m =>
        m.conv.stage = .kPos ∧ m.conv.stepAt = s.m.now ∧ (m.coil 0).wSw = true ∧ (m.coil 0).fSw = true ∧
        ∀ k < 12, (m.phase k).commanded = false)) ∧
    ((s.m.conv.stage = .p1 ∧ 100 * s.m.conv.link < 95 * (s.m.meas.sStr : Rat)) ∨ (s.m.conv.stage = .p2 ∧
        (10 * s.m.par 0x2707 2 < s.m.meas.sShunt.natAbs ∨ s.m.elapsed? s.m.conv.doneSince 5000000 = false)) →
      Completes .prechargeStageComplete s (fun m => m.conv = s.m.conv ∧ m.saf = s.m.saf)) ∧
    (s.m.conv.stage = .kPosHold → s.m.elapsed s.m.conv.stepAt 20000000 = true → Completes .kPreRelease s (fun m =>
      m.conv.stage = .kPreDrop ∧ (m.coil 2).wSw = false ∧ (m.coil 2).fSw = false ∧ (m.coil 0) = (s.m.coil 0))) ∧
    (s.m.conv.stage ≠ .kPosHold ∨ s.m.elapsed s.m.conv.stepAt 20000000 = false → Completes .kPreRelease s (fun m =>
      m.conv = s.m.conv ∧ m.saf = s.m.saf)) ∧
    (∀ iShunt iPh ripple, s.m.conv.loop ≠ .none →
      absQ (s.m.residual iShunt iPh) ≤ max 10000 ((iShunt.natAbs : Rat) / 20) → Completes (.phaseLossCheck iShunt iPh ripple) s
        (fun m => m.conv.unresolved = false ∧ m.conv.residual = (s.m.residual iShunt iPh).floor)) ∧
    (∀ iShunt iPh ripple, s.m.conv.loop ≠ .none → s.m.conv.unresolved = false →
      max 10000 ((iShunt.natAbs : Rat) / 20) < absQ (s.m.residual iShunt iPh) →
      (∀ k ∈ s.m.activePhases, s.m.rippleOff k (nth ripple k 0) = false) →
      (∀ k ∈ s.m.checked, (s.m.phase k).fault = false ∧ s.m.looksOpen k ((s.m.phase k).avg.getD 0) (nth ripple k 0) = false) →
      Completes (.phaseLossCheck iShunt iPh ripple) s (fun m => m.conv.unresolved = true ∧ m.conv.unresAt = s.m.now ∧
        m.conv.nUnres = satInc s.m.conv.nUnres ∧ m.conv.residual = (s.m.residual iShunt iPh).floor ∧
        ∀ k < 12, (m.phase k).disabled = (s.m.phase k).disabled)) ∧
    (∀ iShunt iPh ripple, s.m.conv.loop = .none → Completes (.phaseLossCheck iShunt iPh ripple) s (fun m => m.conv = s.m.conv ∧
      m.pwm = s.m.pwm)) ∧
    (∀ iShunt iPh ripple, ∀ k < 12, s.m.conv.loop ≠ .none → s.m.checked = [k] → (s.m.phase k).disabled = false →
      (s.m.phase k).fault = true ∨ s.m.looksOpen k ((s.m.phase k).avg.getD 0) (nth ripple k 0) = true →
      (s.m.phase k).fault = true ∨ 1 ≤ (s.m.phase k).openRun → Completes (.phaseLossCheck iShunt iPh ripple) s
        (fun m => (m.phase k).disabled = true ∧ (m.phase k).cause = (if (s.m.phase k).fault then 1 else 3) ∧
          (m.phase k).commanded = false ∧ (m.phase k).waiting = none ∧ m.isPending .phaseDisabled = true ∧
          m.conv.nDis = satInc s.m.conv.nDis ∧ (∀ r, m.imp.run = some r → r.discarded = true) ∧
          (m.nPhases < m.disabledPhases + 2 → s.m.mode.mode ≠ .commission →
            ∃ p ∈ m.mode.pendingModes, p.dest = .shutdown ∧ p.cause = .fault))) ∧
    (∀ iShunt iPh ripple, ∀ k < 12, s.m.conv.loop ≠ .none → s.m.checked = [k] → (s.m.phase k).disabled = false →
      (s.m.phase k).fault = false → s.m.looksOpen k ((s.m.phase k).avg.getD 0) (nth ripple k 0) = true → (s.m.phase k).openRun = 0 →
      absQ (s.m.residual iShunt iPh) ≤ max 10000 ((iShunt.natAbs : Rat) / 20) → Completes (.phaseLossCheck iShunt iPh ripple) s
        (fun m => (m.phase k).disabled = false ∧ (m.phase k).openRun = 1)) ∧
    (∀ iShunt iPh ripple, ∀ k < 12, s.m.conv.loop ≠ .none → s.m.checked = [k] → (s.m.phase k).disabled = false →
      (s.m.phase k).fault = false → s.m.looksOpen k ((s.m.phase k).avg.getD 0) (nth ripple k 0) = false →
      s.m.rippleOff k (nth ripple k 0) = true →
      max 10000 ((iShunt.natAbs : Rat) / 20) < absQ (s.m.residual iShunt iPh) → Completes (.phaseLossCheck iShunt iPh ripple) s
        (fun m => (m.phase k).disabled = true ∧ (m.phase k).cause = 2 ∧ (m.phase k).commanded = false ∧
          m.isPending .phaseDisabled = true ∧ m.conv.unresolved = s.m.conv.unresolved ∧ m.conv.nUnres = s.m.conv.nUnres)) ∧
    (s.m.conv.unresolved = true → s.m.elapsed s.m.conv.unresAt 1000000000 = true → Completes .senseMismatchTimeout s (fun m =>
      m.isPending .phaseSenseMismatch = true ∧
      (s.m.mode.mode ≠ .commission → m.mode.mode = .lockout ∨ ∃ p ∈ m.mode.pendingModes, p.dest = .shutdown ∧ p.cause = .fault ∧
        p.effect = s.m.fastEpoch + 1) ∧
      (s.m.mode.mode = .commission → s.m.mode.c6Running = true → m.mode.mode = .commission → m.mode.c6Stopping = true))) ∧
    (s.m.conv.unresolved = false ∨ s.m.elapsed s.m.conv.unresAt 1000000000 = false → Completes .senseMismatchTimeout s (fun m =>
      m.flt = s.m.flt ∧ m.mode = s.m.mode)) ∧
    (∀ k < 12, s.m.mode.mode = .standby → s.m.elapsed s.m.conv.standbyAt 10000000 = true → (s.m.phase k).disabled = true →
      (s.m.phase k).fault = false → (s.m.phase k).offsetBad = false → s.m.elapsed (s.m.phase k).validAt 10000000 = true →
      Completes (.phaseReenable k) s (fun m => (m.phase k).disabled = false ∧ (m.phase k).cause = 0 ∧
        (k < s.m.nPhases → (s.m.phase k).own = true → s.m.pwm.latch = false → s.m.saf.override = false →
          m.phaseState k = 1))) ∧
    (∀ k < 12, s.m.mode.mode ≠ .standby ∨ (s.m.phase k).fault = true ∨ (s.m.phase k).offsetBad = true ∨
      s.m.elapsed s.m.conv.standbyAt 10000000 = false ∨ s.m.elapsed (s.m.phase k).validAt 10000000 = false →
      Completes (.phaseReenable k) s (fun m => (m.phase k).disabled = (s.m.phase k).disabled ∧ (m.phase k).cause = (s.m.phase k).cause))

/-- The links of the fabric (R226, R227, R230, R231, R237, R240, R252). A transceiver put in keeps TX_DISABLE asserted until its page is
checked: REJECTED, or TX enabled; a later reading of its page gives the received power alone. Block lock begins HELLO, sent with the own
address, role, time state, tier and the serial heard, on a miswired port too. A HELLO gives the neighbour; once each side reports the
other's serial the wiring is checked; on the pair link it gives the partner, and a change on an UP port floods an LSA and recomputes the
routes. Each PDELAY request is answered; a response to the outstanding one gives a link delay, the sixteenth brings the port UP with its
LSA flooded and its routes recomputed. A port that leaves UP is counted and returns to the ladder, to its start where the transceiver has
gone; the third time within 60 s it is held down, and goes on 10 s later; its LSA and routes follow. -/
def Obligations.PortCommandsTakeEffect : Prop :=
  ∀ (s : State) (p : Nat), s.m.Shaped → s.m.clk.procRunning = true → p < 4 →
    ((s.m.port p).state = .empty → Completes (.transceiverInserted p) s (fun m =>
      (m.port p).state = .empty ∧ (m.port p).txDisable = true ∧ (m.port p).delays = [] ∧ (m.port p).t1 = none)) ∧
    ((s.m.port p).state ≠ .empty → Completes (.transceiverInserted p) s (fun m => m.fab = s.m.fab)) ∧
    (∀ ok power, (s.m.port p).state = .empty → Completes (.transceiverCheck p ok power) s (fun m =>
      (m.port p).state = (if ok then .noLock else .rejected) ∧ (m.port p).txDisable = !ok ∧ (m.port p).rxPower = power)) ∧
    (∀ ok power, (s.m.port p).state ≠ .empty → Completes (.transceiverCheck p ok power) s (fun m =>
      (m.port p).state = (s.m.port p).state ∧ (m.port p).txDisable = (s.m.port p).txDisable ∧ (m.port p).rxPower = power)) ∧
    ((s.m.port p).state = .noLock → Completes (.blockLock p) s (fun m => (m.port p).state = .hello ∧ (m.port p).missed = 0)) ∧
    ((s.m.port p).state ≠ .noLock → Completes (.blockLock p) s (fun m => m.fab = s.m.fab)) ∧
    ((s.m.port p).state ∈ [.hello, .delay, .up, .miswired] → Completes (.helloSend p) s (fun m =>
      .hello p s.m.fab.addr s.m.saf.sw2 s.m.fab.time.code s.m.fab.tier.code (s.m.port p).peer ∈ m.out)) ∧
    ((s.m.port p).state ∉ [.hello, .delay, .up, .miswired] → Completes (.helloSend p) s (fun m => m.out = [])) ∧
    (∀ serial addr peerPort role sees, Completes (.helloFrame p serial addr peerPort role sees) s (fun m =>
      (m.port p).peer = serial ∧ (m.port p).addr = addr ∧ (m.port p).peerPort = peerPort ∧ (m.port p).peerRole = role ∧
      (m.port p).peerSeesMe = sees ∧ (m.port p).missed = 0 ∧
      (m.port p).state = (if (s.m.port p).state = .hello ∧ sees = s.m.fab.serial then
        (if planeOf p = planeOf peerPort then .delay else .miswired) else (s.m.port p).state) ∧
      ((s.m.port p).state = .up → (s.m.port p).addr ≠ addr ∨ (s.m.port p).peerPort ≠ peerPort →
        m.fab.routesA = m.routes 0 ∧ m.fab.routesB = m.routes 1 ∧
        ∃ q n, .lsa (planeOf p) q s.m.fab.addr n (m.ownLinks (planeOf p)) ∈ m.out) ∧
      (s.m.paired = true → p = 1 → peerPort = 1 → m.pair.linkSerial = serial ∧ m.pair.pAddr = addr ∧
        m.pair.roleConflict = decide (role = s.m.saf.sw2 ∨ role = 0) ∧
        (m.pair.roleConflict = true → s.m.pair.roleConflict = false → m.isPending .pairRoleConflict = true)))) ∧
    (∀ removed, (s.m.port p).state = .up → Completes (.portDown p removed) s (fun m =>
      (m.port p).state = (if removed then .empty else
        if 2 ≤ ((s.m.port p).downs.filter (fun t => decide (s.m.now < t + 60000000000))).length then .heldDown else .noLock) ∧
      (m.port p).txDisable = removed ∧ (m.port p).heldAt = s.m.now ∧ (m.port p).nDown = satInc (s.m.port p).nDown ∧
      aget m.flt.counts Src.linkDown.id 0 = satInc (aget s.m.flt.counts Src.linkDown.id 0) ∧
      m.fab.routesA = m.routes 0 ∧ m.fab.routesB = m.routes 1 ∧
      ∃ q n, .lsa (planeOf p) q s.m.fab.addr n (m.ownLinks (planeOf p)) ∈ m.out)) ∧
    (∀ removed, (s.m.port p).state ∈ [.hello, .delay, .miswired, .noLock] → Completes (.portDown p removed) s (fun m =>
      (m.port p).state = (if removed then .empty else .noLock) ∧ (m.port p).nDown = (s.m.port p).nDown)) ∧
    (∀ removed, (s.m.port p).state = .heldDown → Completes (.portDown p removed) s (fun m =>
      (m.port p).state = (if removed then .empty else .heldDown) ∧ (m.port p).nDown = (s.m.port p).nDown)) ∧
    ((s.m.port p).state = .heldDown → s.m.elapsed (s.m.port p).heldAt 10000000000 = true →
      Completes (.portHoldDownEnd p) s (fun m => (m.port p).state = .noLock)) ∧
    ((s.m.port p).state ≠ .heldDown ∨ s.m.elapsed (s.m.port p).heldAt 10000000000 = false →
      Completes (.portHoldDownEnd p) s (fun m => m.fab = s.m.fab)) ∧
    (∀ t1, (s.m.port p).state = .delay ∨ (s.m.port p).state = .up → Completes (.pdelaySend p t1) s (fun m =>
      .pdelay p true (((s.m.port p).pseq + 1) % 65536) ∈ m.out ∧ (m.port p).pseq = ((s.m.port p).pseq + 1) % 65536 ∧
      (m.port p).t1 = some (((s.m.port p).pseq + 1) % 65536, t1))) ∧
    (∀ t1, (s.m.port p).state ≠ .delay → (s.m.port p).state ≠ .up → Completes (.pdelaySend p t1) s (fun m => m.fab = s.m.fab)) ∧
    (∀ pseq, (s.m.port p).state = .delay ∨ (s.m.port p).state = .up → Completes (.pdelay p pseq none) s (fun m =>
      .pdelay p false pseq ∈ m.out ∧ m.fab = s.m.fab)) ∧
    (∀ pseq t1 t2 t3 t4, (s.m.port p).t1 = some (pseq, t1) → Completes (.pdelay p pseq (some (t2, t3, t4))) s (fun m =>
      (m.port p).delays = (((((t4 : Int) - t1) - ((t3 : Int) - t2)) / 2) :: (s.m.port p).delays).take 16 ∧
      (m.port p).t1 = none ∧ (m.port p).linkDelay = (m.port p).delays.foldl (· + ·) 0 / max 1 ((m.port p).delays.length : Int) ∧
      (m.port p).state = (if (s.m.port p).state = .delay ∧ 15 ≤ (s.m.port p).delays.length then .up else (s.m.port p).state) ∧
      ((s.m.port p).state = .delay → 15 ≤ (s.m.port p).delays.length →
        m.fab.firstUp = some (s.m.fab.firstUp.getD s.m.now) ∧ m.fab.routesA = m.routes 0 ∧ m.fab.routesB = m.routes 1 ∧
        ∃ q n, .lsa (planeOf p) q s.m.fab.addr n (m.ownLinks (planeOf p)) ∈ m.out))) ∧
    (∀ pseq t, (s.m.port p).t1.all (fun x => x.1 != pseq) = true → Completes (.pdelay p pseq (some t)) s (fun m => m.fab = s.m.fab))

/-- Addresses, routes and forwarding (R226, R235, R236, R238 to R245). On an UP port a newer LSA is stored in place of its
originator's, sent on through the plane's other UP ports and the routes follow; any other is counted. The node floods its own on both
planes; one not refreshed for 3 s goes. A claim listens for 200 ms, floods CLAIM for its candidate and waits for 100 ms: it takes the
candidate or, after a loss, marks it taken and tries the next; 10 s later the address is ESTABLISHED and queued for the store. A rival of
lower rank is answered by a DEFEND; a higher one takes the address, and between two ESTABLISHED holders RELEASE is flooded,
ADDRESS_CONFLICT raised, the address excluded and the view left; then the claim starts again. Claims heard while listening mark addresses
taken, a better one while waiting is a loss, a RELEASE frees. A frame that a check refuses is discarded and counted; any other goes out
of every egress port, stomped where its FCS is bad, or is dropped and counted where the queue is full. -/
def Obligations.AddressAndRouteCommandsTakeEffect : Prop :=
  ∀ s : State, s.m.Shaped → s.m.clk.procRunning = true →
    (∀ p serial addr seq links, p < 4 → (s.m.port p).state = .up → serial ≠ s.m.fab.serial →
      ((s.m.lsaDb (planeOf p)).find? (fun r => r.serial == serial)).all (fun r => newer32 seq r.seq) = true →
      Completes (.lsa p serial addr seq links) s (fun m =>
        { serial := serial, addr := addr, seq := seq, links := links, at_ := s.m.now } ∈ m.lsaDb (planeOf p) ∧
        (∀ r ∈ m.lsaDb (planeOf p), r.serial = serial → r.seq = seq ∧ r.links = links) ∧
        (∀ q ∈ s.m.upPorts (planeOf p), q ≠ p → .forward q 2 2 ∈ m.out) ∧
        m.fab.routesA = m.routes 0 ∧ m.fab.routesB = m.routes 1)) ∧
    (∀ p serial addr seq links, p < 4 → (s.m.port p).state = .up → serial = s.m.fab.serial ∨
      ((s.m.lsaDb (planeOf p)).find? (fun r => r.serial == serial)).any (fun r => !newer32 seq r.seq) = true →
      Completes (.lsa p serial addr seq links) s (fun m => m.fab = s.m.fab ∧ m.safe.nDisc = satInc s.m.safe.nDisc)) ∧
    (∀ p serial addr seq links, (s.m.port p).state ≠ .up → Completes (.lsa p serial addr seq links) s (fun m =>
      m.fab = s.m.fab ∧ m.safe = s.m.safe)) ∧
    (Completes .lsaRefresh s (fun m => m.fab.lsaSeq = ((s.m.fab.lsaSeq.1 + 1) % 2 ^ 32, (s.m.fab.lsaSeq.2 + 1) % 2 ^ 32) ∧
      .lsa 0 ((aget s.m.fab.seqs 2 0 + 1) % 65536) s.m.fab.addr m.fab.lsaSeq.1 (s.m.ownLinks 0) ∈ m.out ∧
      .lsa 1 (((aget s.m.fab.seqs 2 0 + 1) % 65536 + 1) % 65536) s.m.fab.addr m.fab.lsaSeq.2 (s.m.ownLinks 1) ∈ m.out)) ∧
    (∀ plane serial, plane < 2 → Completes (.lsaAged plane serial) s (fun m =>
      (∀ r, r ∈ m.lsaDb plane ↔ r ∈ s.m.lsaDb plane ∧ ¬ (r.serial = serial ∧ s.m.elapsed r.at_ 3000000000 = true)) ∧
      m.fab.routesA = m.routes 0 ∧ m.fab.routesB = m.routes 1)) ∧
    (∀ sw4 sw5, s.m.fab.claim = .idle → s.m.fab.addr = 0xFFFF → s.m.anyUp = true → Completes (.addressClaim sw4 sw5) s (fun m =>
      m.fab.claim = .listen ∧ m.fab.claimAt = s.m.now ∧ m.fab.taken = [] ∧ m.fab.hint = sw4 * 64 + sw5 ∧ m.fab.lost = false)) ∧
    (∀ sw4 sw5, s.m.fab.claim ≠ .idle ∨ s.m.fab.addr ≠ 0xFFFF ∨ s.m.anyUp = false → Completes (.addressClaim sw4 sw5) s (fun m =>
      m.fab = s.m.fab)) ∧
    (s.m.fab.claim = .listen → s.m.elapsed s.m.fab.claimAt 200000000 = true → Completes .claimListenEnd s (fun m =>
      m.fab.claim = .wait ∧ m.fab.claimAt = s.m.now ∧ m.fab.lost = false ∧ m.fab.cand = s.m.fab.choose ∧
      .claim ((aget s.m.fab.seqs 3 0 + 1) % 65536) m.fab.cand.1 m.fab.cand.2.code 0 ∈ m.out)) ∧
    (s.m.fab.claim ≠ .listen ∨ s.m.elapsed s.m.fab.claimAt 200000000 = false → Completes .claimListenEnd s (fun m =>
      m.fab = s.m.fab)) ∧
    (s.m.fab.claim = .wait → s.m.elapsed s.m.fab.claimAt 100000000 = true → s.m.fab.lost = false →
      Completes .claimWaitEnd s (fun m => m.fab.addr = s.m.fab.cand.1 ∧ m.fab.tier = s.m.fab.cand.2 ∧ m.fab.claim = .idle ∧
        m.fab.claimAt = s.m.now)) ∧
    (s.m.fab.claim = .wait → s.m.elapsed s.m.fab.claimAt 100000000 = true → s.m.fab.lost = true →
      Completes .claimWaitEnd s (fun m => m.fab.addr = s.m.fab.addr ∧ m.fab.claim = .wait ∧ m.fab.claimAt = s.m.now ∧
        m.fab.taken = insNat s.m.fab.taken s.m.fab.cand.1 ∧ m.fab.lost = false ∧ (s.m.fab.cand.1 < 1024 → m.fab.cand.1 ≠ s.m.fab.cand.1) ∧
        .claim ((aget s.m.fab.seqs 3 0 + 1) % 65536) m.fab.cand.1 m.fab.cand.2.code 0 ∈ m.out)) ∧
    (s.m.fab.claim ≠ .wait ∨ s.m.elapsed s.m.fab.claimAt 100000000 = false → Completes .claimWaitEnd s (fun m =>
      m.fab = s.m.fab)) ∧
    (s.m.fab.addr ≠ 0xFFFF → s.m.fab.tier ≠ .established → s.m.fab.claim = .idle →
      s.m.elapsed s.m.fab.claimAt 10000000000 = true → Completes .addressEstablished s (fun m =>
        m.fab.tier = .established ∧ m.fab.storedAddr = s.m.fab.addr ∧ m.fab.addr = s.m.fab.addr ∧
        m.nv.pending = s.m.nv.pending ++ [{ items := [.address s.m.fab.addr], after := [] }])) ∧
    (s.m.fab.addr = 0xFFFF ∨ s.m.fab.tier = .established ∨ s.m.fab.claim ≠ .idle ∨
      s.m.elapsed s.m.fab.claimAt 10000000000 = false → Completes .addressEstablished s (fun m => m.fab = s.m.fab ∧ m.nv = s.m.nv)) ∧
    (∀ serial tier kind, serial ≠ s.m.fab.serial → kind ≠ 2 → s.m.fab.addr ≠ 0xFFFF →
      s.m.rivalWins serial tier s.m.fab.tier.code = false → Completes (.claim serial s.m.fab.addr tier kind) s (fun m =>
        m.fab.addr = s.m.fab.addr ∧ m.fab.claim = s.m.fab.claim ∧
        .claim ((aget s.m.fab.seqs 3 0 + 1) % 65536) s.m.fab.addr s.m.fab.tier.code 1 ∈ m.out)) ∧
    (∀ serial tier kind, serial ≠ s.m.fab.serial → kind ≠ 2 → s.m.fab.addr ≠ 0xFFFF →
      s.m.rivalWins serial tier s.m.fab.tier.code = true → Completes (.claim serial s.m.fab.addr tier kind) s (fun m =>
        m.fab.addr = 0xFFFF ∧ m.fab.claim = .listen ∧ m.fab.claimAt = s.m.now ∧ m.fab.taken = [] ∧
        m.plant.leaving = (s.m.plant.leaving || s.m.plant.isMember) ∧
        (tier = 3 → s.m.fab.tier = .established → s.m.fab.addr ∈ m.fab.excludedAddr ∧ m.fab.conflict = true ∧
          m.isPending .addressConflict = true ∧ m.safe.nConf = satInc s.m.safe.nConf ∧
          .claim ((aget s.m.fab.seqs 3 0 + 1) % 65536) s.m.fab.addr 3 2 ∈ m.out))) ∧
    (∀ serial addr tier kind, serial ≠ s.m.fab.serial → kind ≠ 2 → s.m.fab.addr ≠ addr ∨ addr = 0xFFFF →
      Completes (.claim serial addr tier kind) s (fun m => m.fab.addr = s.m.fab.addr ∧ m.fab.claim = s.m.fab.claim ∧
        (s.m.fab.claim = .listen → m.fab.taken = insNat s.m.fab.taken addr) ∧
        m.fab.lost = (s.m.fab.lost || (s.m.fab.claim == .wait && s.m.fab.cand.1 == addr &&
          s.m.rivalWins serial tier s.m.fab.cand.2.code)))) ∧
    (∀ serial addr tier, serial ≠ s.m.fab.serial → Completes (.claim serial addr tier 2) s (fun m =>
      m.fab = { s.m.fab with taken := delNat s.m.fab.taken addr })) ∧
    (∀ addr tier kind, Completes (.claim s.m.fab.serial addr tier kind) s (fun m => m.fab = s.m.fab)) ∧
    (∀ p f full, s.m.takesIn p f = false → Completes (.frameForward p f full) s (fun m => m.safe = s.m.safe ∧ m.fab = s.m.fab)) ∧
    (∀ p f full, s.m.takesIn p f = true → s.m.discards p f = true → Completes (.frameForward p f full) s (fun m =>
      m.safe.nDisc = satInc s.m.safe.nDisc ∧ m.fab.flooded = s.m.fab.flooded ∧ ∀ q, .forward q f.type f.cls ∉ m.out)) ∧
    (∀ p f, s.m.takesIn p f = true → s.m.discards p f = false → Completes (.frameForward p f false) s (fun m =>
      (∀ q ∈ s.m.egress p f, .forward q f.type f.cls ∈ m.out ∧ (f.stomped = true ∨ f.fcsOk = false → .stomped q ∈ m.out)) ∧
      (f.type ∈ [3, 4, 6] → m.fab.flooded = ((f.type, f.serial, f.seq) :: s.m.fab.flooded).take 4096) ∧
      m.safe.nDisc = s.m.safe.nDisc ∧ m.safe.nDrops = s.m.safe.nDrops)) ∧
    (∀ p f, p < 4 → s.m.takesIn p f = true → f.fcsOk = false → ∀ full, Completes (.frameForward p f full) s (fun m =>
      if f.stomped then (m.port p).nStomp = satInc (s.m.port p).nStomp else (m.port p).nFcs = satInc (s.m.port p).nFcs)) ∧
    (∀ p f q, s.m.takesIn p f = true → s.m.discards p f = false → s.m.egress p f = [q] → Completes (.frameForward p f true) s (fun m =>
      m.safe.nDrops = satInc s.m.safe.nDrops ∧ .forward q f.type f.cls ∉ m.out))

/-- Fabric time (R249 to R253): a candidate floods its rank; an ANNOUNCE is ranked; the election makes the node grandmaster. A SYNC on an
UP port gives the servo the offset of its time plane: the first acquisition may step the time, every other offset is steered away, and the
state follows its runs; the forwarding of its frame is frameForward's. A grandmaster yields to a better one. More than ten fast epochs
without SYNC on both planes are HOLDOVER. A PTP source of the own domain is locked with its offset, which a grandmaster steers to, or lost.
Safe messages (R255 to R257, R342 to R344): Walnut sends the next message of a connection on both planes. A copy that fails a check is
counted against it: SCRC, connection, age, sequence. The next message is accepted and delivered, an equal second copy completes it, one
that differs puts the connection into ERROR; a lost connection takes a new reference and is live after two further messages. A second copy
that does not come is counted for its plane; no message within the timeout takes the connection down. -/
def Obligations.TimeAndSafeMessageCommandsTakeEffect : Prop :=
  (∀ s : State, s.m.Shaped → s.m.clk.procRunning = true →
    (s.m.gmCandidate = true → Completes .announceSend s (fun m =>
      .announce ((aget s.m.fab.seqs 6 0 + 1) % 65536) s.m.ownRank ∈ m.out ∧ s.m.ownRank.addr = s.m.fab.addr)) ∧
    (s.m.gmCandidate = false → Completes .announceSend s (fun m => m.fab = s.m.fab ∧ m.out = [])) ∧
    (∀ r, Completes (.announce r) s (fun m =>
      m.fab.better = (if r.beats s.m.ownRank then some r else s.m.fab.better) ∧
      m.fab.betterAt = (if r.beats s.m.ownRank then some s.m.now else s.m.fab.betterAt) ∧
      m.fab.gmRank = (if r.addr = s.m.fab.gm then some r else s.m.fab.gmRank) ∧
      m.fab.gmAt = (if r.addr = s.m.fab.gm then some s.m.now else s.m.fab.gmAt) ∧ m.fab.time = s.m.fab.time)) ∧
    (s.m.fab.time ≠ .grandmaster → s.m.fab.betterAt.all (fun t => s.m.elapsed t 300000000) = true →
      (s.m.fab.gmRank = none ∧ (s.m.elapsed? s.m.fab.firstUp 1000000000 = true ∨
        (s.m.anyUp = false ∧ s.m.mode.mode ≠ .boot ∧ s.m.mode.since + 10000000000 ≤ s.m.fabTime))) ∨
      s.m.fab.gmRank.any (fun g => !s.m.gmAlive || (s.m.ownRank.beats g && s.m.fab.time == .synced)) = true →
      Completes .grandmasterElection s (fun m => m.fab.time = .grandmaster ∧ m.fab.gm = s.m.fab.addr ∧
        m.fab.gmRank = some s.m.ownRank ∧ m.fab.gmAt = some s.m.now ∧ m.fab.hops = 0 ∧ m.fab.offset = 0 ∧ m.plant.gmSince = s.m.now)) ∧
    (s.m.fab.time = .grandmaster ∨ s.m.fab.betterAt.any (fun t => !s.m.elapsed t 300000000) = true ∨
      s.m.fab.gmRank.any (fun g => s.m.gmAlive && !(s.m.ownRank.beats g && s.m.fab.time == .synced)) = true →
      Completes .grandmasterElection s (fun m => m.fab = s.m.fab)) ∧
    (∀ p rx origin corr gm hops source, p < 4 → (s.m.port p).state = .up → s.m.fab.time ≠ .grandmaster →
      Completes (.sync p rx origin corr gm hops source) s (fun m => m.fab.gm = gm ∧
        (planeOf p = 0 → m.fab.missA = 0) ∧ (planeOf p = 1 → m.fab.missB = 0) ∧
        (planeOf p ≠ m.fab.timePlane → m.fab.time = s.m.fab.time ∧ m.fab.offset = s.m.fab.offset ∧ m.fabBase = s.m.fabBase))) ∧
    (∀ p rx origin corr gm hops source, p < 4 → (s.m.port p).state = .up → s.m.fab.time = .unsync → s.m.fab.acquired = false →
      10000 < ((s.m.port p).syncOffset rx origin corr).natAbs → s.m.mayStep = true → s.m.timePlaneFor gm (planeOf p) = planeOf p →
      Completes (.sync p rx origin corr gm hops source) s (fun m =>
        m.fabBase = s.m.fabBase - (s.m.port p).syncOffset rx origin corr / 10 ∧ m.fab.time = .acquiring ∧ m.fab.acquired = true ∧
        m.fab.untraceable = false ∧ m.fab.gm = gm ∧ m.fab.hops = hops ∧ m.fab.offset = 0 ∧ m.fab.steer = s.m.fab.steer)) ∧
    (∀ p rx origin corr gm hops source, p < 4 → (s.m.port p).state = .up → s.m.fab.time ≠ .grandmaster →
      s.m.fab.acquired = true ∨ s.m.mayStep = false ∨ ((s.m.port p).syncOffset rx origin corr).natAbs ≤ 10000 →
      planeOf p = (if s.m.fab.time = .unsync then s.m.timePlaneFor gm (planeOf p) else s.m.fab.timePlane) →
      Completes (.sync p rx origin corr gm hops source) s (fun m => m.fabBase = s.m.fabBase ∧ m.fab.acquired = true ∧
        m.fab.offset = (s.m.port p).syncOffset rx origin corr ∧ m.fab.hops = hops ∧
        m.fab.steer = nextSteer s.m.fab.steer ((s.m.port p).syncOffset rx origin corr) ∧
        (s.m.fab.time = .unsync → m.fab.time = .acquiring) ∧
        (s.m.fab.time = .synced → m.fab.time =
          if 1000 < ((s.m.port p).syncOffset rx origin corr).natAbs ∧ 3 ≤ s.m.fab.badRun then .acquiring else .synced) ∧
        (s.m.fab.time = .acquiring ∨ s.m.fab.time = .holdover → m.fab.time =
          if ((s.m.port p).syncOffset rx origin corr).natAbs ≤ 400 ∧ 15 ≤ s.m.fab.goodRun then .synced else s.m.fab.time))) ∧
    (∀ p rx origin corr gm hops source, (s.m.port p).state = .up → s.m.fab.time = .grandmaster → gm ≠ s.m.fab.addr →
      s.m.fab.better.any (fun g => g.addr == gm) = true → Completes (.sync p rx origin corr gm hops source) s (fun m =>
        m.fab.time ≠ .grandmaster ∧ m.fab.gm = gm ∧ m.fab.gmRank = s.m.fab.better)) ∧
    (∀ p rx origin corr gm hops source, (s.m.port p).state ≠ .up ∨ (s.m.fab.time = .grandmaster ∧
      (gm = s.m.fab.addr ∨ s.m.fab.better.all (fun g => g.addr != gm) = true)) →
      Completes (.sync p rx origin corr gm hops source) s (fun m => m.fab = s.m.fab ∧ m.fabBase = s.m.fabBase)) ∧
    (s.m.fab.time = .acquiring ∨ s.m.fab.time = .synced → 10 < s.m.fab.missA → 10 < s.m.fab.missB →
      Completes .timeHoldover s (fun m => m.fab.time = .holdover ∧ m.fab.goodRun = 0 ∧ m.fabBase = s.m.fabBase)) ∧
    ((s.m.fab.time ≠ .acquiring ∧ s.m.fab.time ≠ .synced) ∨ s.m.fab.missA ≤ 10 ∨ s.m.fab.missB ≤ 10 →
      Completes .timeHoldover s (fun m => m.fab = s.m.fab)) ∧
    (∀ domain offset, s.m.parB 0x2807 1 = true → domain = s.m.par 0x2807 2 → Completes (.ptpSync domain true offset) s (fun m =>
      m.fab.ptp = 0 ∧ m.fab.ptpOffset = offset ∧ m.fabBase = s.m.fabBase ∧
      m.fab.steer = if s.m.fab.time = .grandmaster then nextSteer s.m.fab.steer (10 * offset) else s.m.fab.steer)) ∧
    (∀ domain offset, s.m.parB 0x2807 1 = true → domain = s.m.par 0x2807 2 → s.m.fab.ptp = 0 →
      Completes (.ptpSync domain false offset) s (fun m => m.fab.ptp = 1 ∧ m.fab.ptpLost = s.m.now)) ∧
    (∀ domain locked offset, s.m.parB 0x2807 1 = false ∨ domain ≠ s.m.par 0x2807 2 →
      Completes (.ptpSync domain locked offset) s (fun m => m.fab = s.m.fab))) ∧
  (∀ s : State, s.m.clk.procRunning = true →
    (∀ conn, s.m.saf.walnutLive = true → (conn = 1 ∧ s.m.paired = true) ∨ (conn = 2 ∧ s.m.sw3On 6 = true) →
      Completes (.safeMessageSend conn) s (fun m =>
        aget m.safe.sseq conn 0 = (aget s.m.safe.sseq conn 0 + 1) % 2 ^ 32 ∧
        ∀ p < 2, .safe p conn (s.m.safeDst conn) ((aget s.m.safe.sseq conn 0 + 1) % 2 ^ 32) s.m.fabTime (s.m.safeData conn) ∈ m.out)) ∧
    (∀ conn, s.m.saf.walnutLive = false ∨ (conn = 1 ∧ s.m.paired = false) ∨ (conn = 2 ∧ s.m.sw3On 6 = false) →
      Completes (.safeMessageSend conn) s (fun m => m.safe = s.m.safe ∧ m.out = [])) ∧
    (∀ plane flag conn src hdrSrc dst sseq time sdata, Completes (.safeFrame plane flag conn src hdrSrc dst sseq time sdata false) s
      (fun m => aget m.safe.nChecks 1 0 = satInc (aget s.m.safe.nChecks 1 0) ∧ m.safe.conns = s.m.safe.conns ∧ m.saf = s.m.saf)) ∧
    (∀ plane flag conn src hdrSrc dst sseq time sdata, s.m.safeMatch plane flag conn src hdrSrc dst = false →
      Completes (.safeFrame plane flag conn src hdrSrc dst sseq time sdata true) s (fun m =>
        aget m.safe.nChecks 2 0 = satInc (aget s.m.safe.nChecks 2 0) ∧ m.safe.conns = s.m.safe.conns ∧ m.saf = s.m.saf)) ∧
    (∀ plane flag conn src hdrSrc dst sseq time sdata, s.m.safeMatch plane flag conn src hdrSrc dst = true →
      s.m.fabTime + 1000 < time ∨ time + connTimeout conn < s.m.fabTime →
      Completes (.safeFrame plane flag conn src hdrSrc dst sseq time sdata true) s (fun m =>
        aget m.safe.nChecks 3 0 = satInc (aget s.m.safe.nChecks 3 0) ∧ m.safe.conns = s.m.safe.conns ∧ m.saf = s.m.saf)) ∧
    (∀ plane flag conn src hdrSrc dst sseq time sdata last, s.m.safeMatch plane flag conn src hdrSrc dst = true →
      time ≤ s.m.fabTime + 1000 → s.m.fabTime ≤ time + connTimeout conn → (s.m.connOf conn src).last = some last →
      1 ≤ (sseq + 2 ^ 32 - last) % 2 ^ 32 → (sseq + 2 ^ 32 - last) % 2 ^ 32 ≤ 16 →
      Completes (.safeFrame plane flag conn src hdrSrc dst sseq time sdata true) s (fun m =>
        (m.connOf conn src).last = some sseq ∧ (m.connOf conn src).copy = sdata ∧ (m.connOf conn src).at_ = s.m.now ∧
        (m.connOf conn src).plane = plane ∧ (m.connOf conn src).both = false ∧
        m.safe.nLost = satAdd s.m.safe.nLost ((sseq + 2 ^ 32 - last) % 2 ^ 32 - 1) ∧
        (m.connOf conn src).state = (if (s.m.connOf conn src).state = 0 ∨ ((sseq + 2 ^ 32 - last) % 2 ^ 32 = 1 ∧
          1 ≤ (s.m.connOf conn src).rearm) then 0 else (s.m.connOf conn src).state) ∧
        ((s.m.connOf conn src).state = 0 → conn = 1 → m.saf.demP = leVal (sdata.take 2) ∧
          ∀ f < 16, bit (leVal (sdata.take 2)) f = true → bit m.saf.demW f = true) ∧
        ((s.m.connOf conn src).state = 0 → conn = 2 → leVal (sdata.take 1) = 1 → bit m.saf.demW 12 = true))) ∧
    (∀ plane flag conn src hdrSrc dst sseq time sdata, s.m.safeMatch plane flag conn src hdrSrc dst = true →
      time ≤ s.m.fabTime + 1000 → s.m.fabTime ≤ time + connTimeout conn → (s.m.connOf conn src).last = some sseq →
      (s.m.connOf conn src).both = false → s.m.now ≤ (s.m.connOf conn src).at_ + 2000000 → plane ≠ (s.m.connOf conn src).plane →
      Completes (.safeFrame plane flag conn src hdrSrc dst sseq time sdata true) s (fun m =>
        (m.connOf conn src).both = true ∧ (if sdata = (s.m.connOf conn src).copy then
          (m.connOf conn src).state = (s.m.connOf conn src).state ∧ m.safe.nMism = s.m.safe.nMism
        else (m.connOf conn src).state = 2 ∧ (m.connOf conn src).last = none ∧ m.safe.nMism = satInc s.m.safe.nMism ∧
          m.isPending .safeCopyMismatch = true))) ∧
    (∀ plane flag conn src hdrSrc dst sseq time sdata last, s.m.safeMatch plane flag conn src hdrSrc dst = true →
      time ≤ s.m.fabTime + 1000 → s.m.fabTime ≤ time + connTimeout conn → (s.m.connOf conn src).last = some last →
      16 < (sseq + 2 ^ 32 - last) % 2 ^ 32 →
      Completes (.safeFrame plane flag conn src hdrSrc dst sseq time sdata true) s (fun m => m.safe.conns = s.m.safe.conns ∧
        m.safe.nSeqErr = satInc s.m.safe.nSeqErr ∧ aget m.safe.nChecks 4 0 = satInc (aget s.m.safe.nChecks 4 0))) ∧
    (∀ plane flag conn src hdrSrc dst sseq time sdata, s.m.safeMatch plane flag conn src hdrSrc dst = true →
      time ≤ s.m.fabTime + 1000 → s.m.fabTime ≤ time + connTimeout conn → (s.m.connOf conn src).last = none →
      (s.m.connOf conn src).state = 1 ∨ ((s.m.connOf conn src).state = 2 ∧ s.m.isPending .safeCopyMismatch = false) →
      Completes (.safeFrame plane flag conn src hdrSrc dst sseq time sdata true) s (fun m =>
        (m.connOf conn src).last = some sseq ∧ (m.connOf conn src).state = (s.m.connOf conn src).state ∧
        (m.connOf conn src).rearm = 0)) ∧
    (∀ conn src, (s.m.connOf conn src).both = false → (s.m.connOf conn src).last ≠ none →
      s.m.elapsed (s.m.connOf conn src).at_ 2000000 = true → Completes (.safeCopyMissing conn src) s (fun m =>
        (m.connOf conn src).both = true ∧ (m.connOf conn src).state = (s.m.connOf conn src).state ∧
        (if (s.m.connOf conn src).plane = 0 then m.safe.nMissB = satInc s.m.safe.nMissB ∧ m.safe.nMissA = s.m.safe.nMissA
          else m.safe.nMissA = satInc s.m.safe.nMissA ∧ m.safe.nMissB = s.m.safe.nMissB))) ∧
    (∀ conn src, (s.m.connOf conn src).both = true ∨ (s.m.connOf conn src).last = none ∨
      s.m.elapsed (s.m.connOf conn src).at_ 2000000 = false → Completes (.safeCopyMissing conn src) s (fun m => m.safe = s.m.safe)) ∧
    (∀ conn src, s.m.connKnown conn src = true → (s.m.connOf conn src).state = 0 →
      s.m.elapsed (s.m.connOf conn src).at_ (connTimeout conn) = true → Completes (.safeConnectionTimeout conn src) s (fun m =>
        (m.connOf conn src).state = 1 ∧ (m.connOf conn src).last = none ∧ (conn = 1 → m.saf.pairSafeLost = true) ∧
        (conn = 2 → m.saf.plantDegraded = true ∧ (s.m.saf.plantDegraded = false → m.isPending .plantStopDegraded = true) ∧
          (m.stopSources.all (fun a => (m.connOf 2 a).state != 0) = true → bit m.saf.demW 12 = true)))) ∧
    (∀ conn src, s.m.connKnown conn src = false ∨ (s.m.connOf conn src).state ≠ 0 ∨
      s.m.elapsed (s.m.connOf conn src).at_ (connTimeout conn) = false → Completes (.safeConnectionTimeout conn src) s (fun m =>
        m.safe = s.m.safe ∧ m.saf = s.m.saf)))

/-- The request objects of chapter 11 issue plant commands with effect eight fast epochs later (R280, R112): plant power, string limit,
mode, bus voltage, tie mask, balancing gain, rest concurrency. Each is refused with its status and issues nothing below OPERATOR (R10,
R424), for a value the object does not take (R421; the ranges of the request objects are the model's reading, log entry 168: a mode code
of 0 to 11, a tie mask without its reserved bit, a bus voltage of 1,000 to 16,000, a gain of 0 to 1,000, a rest concurrency of 0 to 16),
and where the command is refused at issue: a cap below −1 (R279) or the seventeenth in one fast epoch (R280). -/
def Obligations.PlantRequestsIssueCommands : Prop :=
  (∀ a b : Int, (plantArgsOk 1 a b = decide (0 ≤ a ∧ a ≤ 11)) ∧ (plantArgsOk 4 a b = decide (0 ≤ a)) ∧
    (plantArgsOk 5 a b = decide (1000 ≤ a ∧ a ≤ 16000)) ∧ (plantArgsOk 6 1 b = decide (0 ≤ b ∧ b ≤ 1000)) ∧
    (plantArgsOk 6 2 b = decide (0 ≤ b ∧ b ≤ 16)) ∧ plantArgsOk 2 a b = true ∧ plantArgsOk 3 a b = true) ∧
  ∀ s : State, s.m.clk.procRunning = true →
    (∀ p role, IssuesCommand s (.plantPowerRequest p role) role 2 0xFFFF p 0) ∧
    (∀ dis chg role, IssuesCommand s (.stringLimitRequest dis chg role) role 3 s.m.stringId dis chg) ∧
    (∀ target mode role, IssuesCommand s (.plantModeRequest target mode role) role 1 target mode 0) ∧
    (∀ target v role, IssuesCommand s (.plantBusVoltageRequest target v role) role 5 target v 0) ∧
    (∀ mask role, IssuesCommand s (.tieMaskRequest mask role) role 4 0xFFFF (signedOf 4 mask) 0) ∧
    (∀ v role, IssuesCommand s (.balancingGainRequest v role) role 6 0xFFFF 1 v) ∧
    (∀ v role, IssuesCommand s (.restConcurrencyRequest v role) role 6 0xFFFF 2 v)

/-- An admitted plant command takes effect (R279, R281, R282): it leaves the commands that wait and does what its type says. MODE asks the
modules it names for the mode at its effect epoch, or counts an unlisted code; PLANT_POWER and STRING_LIMIT set the plant state;
TIE_MASK sets the mask in force without its reserved bit and stores it (R112); BUS_VOLTAGE writes and stores the set-point of the modules
it names, within the range of 0x2704.00; PLANT_PARAM sets balancing gain or rest concurrency; ADMIT adds its member and REMOVE takes it
out, MV rising where the view changes (R267), and a module removed leaves, from DISPATCH to CONNECTED (R271). A command that is unknown,
not admitted or not yet due changes nothing. A frame received that is not yet known waits for its admission, any other is dropped; a
request for a command issued here is answered, for another it is not (R274). -/
def Obligations.PlantCommandsTakeEffect : Prop :=
  ∀ s : State, s.m.clk.procRunning = true →
    Admits s .mode 1 (fun q m => m.plant.st = s.m.plant.st ∧ (∀ d, s.m.targeted q = true → Mode.ofCode q.arg0.toNat = some d →
        m.mode.pendingModes = s.m.mode.pendingModes ++
          [{ dest := d, cause := .plantCommand,
             effect := max q.effect (s.m.fastEpoch + 1), fromPartner := false }]) ∧
      (s.m.targeted q = true → Mode.ofCode q.arg0.toNat = none → m.plantCnt.dropped = satInc s.m.plantCnt.dropped) ∧
      (s.m.targeted q = false → m.mode = s.m.mode)) ∧
    Admits s .plantPower 2 (fun q m => m.plant.st = { s.m.plant.st with power := q.arg0 }) ∧
    Admits s .stringLimit 3 (fun q m =>
      m.plant.st = { s.m.plant.st with caps := aput s.m.plant.st.caps q.target (q.arg0, q.arg1) }) ∧
    Admits s .tieMask 4 (fun q m => m.iso.tie = twos 4 q.arg0 % 2 ^ 31 ∧
      m.plant.st = { s.m.plant.st with tie := twos 4 q.arg0 % 2 ^ 31 } ∧
      m.nv.pending = s.m.nv.pending ++ [{ items := [.tieMask (twos 4 q.arg0 % 2 ^ 31)], after := [] }]) ∧
    Admits s .busVoltage 5 (fun q m => (s.m.targeted q = true → 1000 ≤ q.arg0 → q.arg0 ≤ 16000 →
        m.par 0x2704 0 = q.arg0.toNat ∧
        m.nv.pending = s.m.nv.pending ++ [{ items := [.param (objKey 0x2704 0) q.arg0.toNat], after := [] }]) ∧
      (s.m.targeted q = false ∨ q.arg0 < 1000 ∨ 16000 < q.arg0 → m.params = s.m.params)) ∧
    Admits s .plantParam 6 (fun q m => (q.arg0 = 1 → m.plant.st = { s.m.plant.st with gain := q.arg1.toNat }) ∧
      (q.arg0 = 2 → m.plant.st = { s.m.plant.st with rest := q.arg1.toNat }) ∧
      (q.arg0 ≠ 1 → q.arg0 ≠ 2 → m.plant.st = s.m.plant.st)) ∧
    Admits s .admitMember 7 (fun q m => m.plant.members = insMember
        { addr := q.target, string := s.m.plant.stringOf q.target, serial := twos 4 q.arg0 + 2 ^ 32 * twos 4 q.arg1 }
        s.m.plant.members ∧ aget? m.plant.candRuns q.target = none ∧
      (m.plant.members ≠ s.m.plant.members → m.plant.mvAt = s.m.fastEpoch ∧ (s.m.plant.mvAt ≠ s.m.fastEpoch ∨ s.m.plant.mv = 0 →
        m.plant.mv = (s.m.plant.mv + 1) % 2 ^ 32)) ∧ (m.plant.members = s.m.plant.members → m.plant.mv = s.m.plant.mv)) ∧
    Admits s .remove 8 (fun q m => (q.target ≠ s.m.fab.addr →
        m.plant.members = s.m.plant.members.filter (fun x => x.addr != q.target) ∧
        (m.plant.members ≠ s.m.plant.members → m.plant.mvAt = s.m.fastEpoch ∧ (s.m.plant.mvAt ≠ s.m.fastEpoch ∨ s.m.plant.mv = 0 →
          m.plant.mv = (s.m.plant.mv + 1) % 2 ^ 32))) ∧
      (q.target = s.m.fab.addr → s.m.plant.isMember = true → m.plant.isMember = false ∧ m.plant.mv = 0 ∧
        m.plant.founder = 0xFFFF ∧ m.plant.members = [] ∧ (s.m.mode.mode = .dispatch →
          ∃ p ∈ m.mode.pendingModes, p.dest = .connected ∧ p.effect = s.m.fastEpoch + 1))) ∧
    (∀ c : PlantCmd, 1 ≤ c.ctype → c.ctype ≤ 8 → (∀ d ∈ s.m.plant.cmds, ¬ (d.issuer = c.issuer ∧ d.cseq = c.cseq)) →
      (c.issuer, c.cseq) ∉ s.m.plant.doneCmds → Completes (.plantCommandReceived c true) s (fun m =>
        m.plant.cmds = s.m.plant.cmds ++ [{ c with effect := nearEpoch s.m.fastEpoch (c.effect % 2 ^ 32) }] ∧
        (c.issuer, c.cseq) ∉ m.plant.lacking)) ∧
    (∀ (c : PlantCmd) crc, crc = false ∨ c.ctype = 0 ∨ 8 < c.ctype ∨ (c.issuer, c.cseq) ∈ s.m.plant.doneCmds ∨
      (∃ d ∈ s.m.plant.cmds, d.issuer = c.issuer ∧ d.cseq = c.cseq) → Completes (.plantCommandReceived c crc) s (fun m =>
        m.plant = s.m.plant)) ∧
    (∀ src cseq c, s.m.plant.issued.find? (fun d => d.cseq == cseq) = some c → Completes (.commandRequest src cseq) s (fun m =>
      .plantCmdTo src c ∈ m.out ∧ m.plant = s.m.plant)) ∧
    (∀ src cseq, s.m.plant.issued.find? (fun d => d.cseq == cseq) = none → Completes (.commandRequest src cseq) s (fun m =>
      m.out = [] ∧ m.plant = s.m.plant))

/-- Membership (R57, R238, R268 to R271). A grandmaster outside a view founds one of itself, with MV 1 and the plant state's reset values,
after 1 s without a member's summary or with no port UP; the join time-out of C3 does it alone, takes an address where there is none, and
completes the step. The successor issues ADMIT for a candidate accepted in 100 consecutive epochs and REMOVE for a member absent from 10
consecutive views, each with the first effect epoch that is a multiple of 100 and at least 10 epochs ahead. A candidate keeps the transfer
of view and plant state that is sent to it in time. A leaving member leaves at a multiple of 100 and, from DISPATCH, goes to CONNECTED.
Where a condition fails, nothing changes. -/
def Obligations.MembershipCommandsTakeEffect : Prop :=
  ∀ s : State, s.m.clk.procRunning = true →
    (s.m.fab.time = .grandmaster → s.m.plant.isMember = false → s.m.fab.addr ≠ 0xFFFF →
      s.m.anyUp = false ∨ s.m.elapsed (max s.m.plant.gmSince (s.m.plant.lastMember.getD 0)) 1000000000 = true →
      Completes .viewFounding s (fun m =>
        m.plant.isMember = true ∧ m.plant.mv = 1 ∧ m.plant.founder = s.m.fab.addr ∧ m.plant.founded = true ∧
        m.plant.members = [s.m.ownEntry] ∧ m.plant.hasState = true ∧ m.plant.st = { tie := s.m.iso.tie })) ∧
    (s.m.fab.time ≠ .grandmaster ∨ s.m.plant.isMember = true ∨ s.m.fab.addr = 0xFFFF ∨ (s.m.anyUp = true ∧
      s.m.elapsed (max s.m.plant.gmSince (s.m.plant.lastMember.getD 0)) 1000000000 = false) →
      Completes .viewFounding s (fun m => m.plant = s.m.plant)) ∧
    (s.m.stepActive 3 = true → s.m.anyUp = false → s.m.elapsed s.m.mode.stepSince 10000000000 = true →
      s.m.plant.isMember = false → Completes .plantJoinTimeout s (fun m =>
        m.plant.isMember = true ∧ m.plant.members = [m.ownEntry] ∧ m.plant.mv = 1 ∧ m.plant.founder = m.fab.addr ∧
        m.mode.commStep = 4 ∧ m.mode.commFailed = false ∧ m.fab.addr = (if s.m.fab.addr ≠ 0xFFFF then s.m.fab.addr else
          ({ s.m.fab with hint := s.m.hintNow, taken := [] }).choose.1))) ∧
    (s.m.stepActive 3 = true → s.m.anyUp = false → s.m.elapsed s.m.mode.stepSince 10000000000 = true →
      s.m.plant.isMember = true → Completes .plantJoinTimeout s (fun m => m.plant = s.m.plant ∧ m.mode.commStep = 4)) ∧
    (s.m.stepActive 3 = false ∨ s.m.anyUp = true ∨ s.m.elapsed s.m.mode.stepSince 10000000000 = false →
      Completes .plantJoinTimeout s (fun m => m.plant = s.m.plant ∧ m.mode = s.m.mode ∧ m.fab = s.m.fab)) ∧
    (∀ a x ser, s.m.plant.isMember = true → s.m.plant.latest a = some x → bit x.flags 0 = true → x.mode % 16 ≠ 0 →
      x.founder = 0xFFFF → 100 ≤ aget s.m.plant.candRuns a 0 → successor s.m.plant.addrs a = some s.m.fab.addr →
      s.m.plant.waits 7 a = false → s.m.plant.members.length < 1024 → s.m.serialOf a = some ser → s.m.plant.issuedNow < 16 →
      Completes (.admitIssue a) s (fun m => ∃ c : PlantCmd, m.plant.cmds = s.m.plant.cmds ++ [c] ∧ c.ctype = 7 ∧ c.target = a ∧
        c.issuer = s.m.fab.addr ∧ c.cseq = (s.m.plant.cseq + 1) % 65536 ∧ c.arg0 = signedOf 4 (ser % 2 ^ 32) ∧
        c.arg1 = signedOf 4 (ser / 2 ^ 32 % 2 ^ 32) ∧ c.effect % 100 = 0 ∧ s.m.fastEpoch + 10 ≤ c.effect ∧
        c.effect < s.m.fastEpoch + 110 ∧ .plantCmd c ∈ m.out)) ∧
    (∀ a, s.m.plant.isMember = false ∨ aget s.m.plant.candRuns a 0 < 100 ∨ successor s.m.plant.addrs a ≠ some s.m.fab.addr ∨
      s.m.plant.waits 7 a = true ∨ s.m.serialOf a = none ∨ s.m.plant.latest a = none ∨ 16 ≤ s.m.plant.issuedNow →
      Completes (.admitIssue a) s (fun m => m.plant = s.m.plant)) ∧
    (∀ a, s.m.plant.isMember = true → 10 ≤ aget s.m.plant.absent a 0 → successor s.m.plant.present a = some s.m.fab.addr →
      s.m.plant.waits 8 a = false → s.m.plant.issuedNow < 16 → Completes (.removeIssue a) s (fun m =>
        ∃ c : PlantCmd, m.plant.cmds = s.m.plant.cmds ++ [c] ∧ c.ctype = 8 ∧ c.target = a ∧ c.issuer = s.m.fab.addr ∧
          c.cseq = (s.m.plant.cseq + 1) % 65536 ∧ c.effect % 100 = 0 ∧ s.m.fastEpoch + 10 ≤ c.effect ∧
          c.effect < s.m.fastEpoch + 110 ∧ .plantCmd c ∈ m.out)) ∧
    (∀ a, s.m.plant.isMember = false ∨ aget s.m.plant.absent a 0 < 10 ∨ successor s.m.plant.present a ≠ some s.m.fab.addr ∨
      s.m.plant.waits 8 a = true ∨ 16 ≤ s.m.plant.issuedNow → Completes (.removeIssue a) s (fun m => m.plant = s.m.plant)) ∧
    (∀ effect mv founder members st, s.m.plant.isMember = false → s.m.fastEpoch < effect →
      Completes (.membershipViewTransfer effect mv founder members st) s (fun m =>
        m.plant.transfer = some (effect, mv, founder, members, st))) ∧
    (∀ effect mv founder members st, s.m.plant.isMember = true ∨ effect ≤ s.m.fastEpoch →
      Completes (.membershipViewTransfer effect mv founder members st) s (fun m => m.plant = s.m.plant)) ∧
    (s.m.plant.isMember = true → s.m.plant.leaving = true → s.m.fastEpoch % 100 = 0 → Completes .membershipLeave s (fun m =>
      m.plant.isMember = false ∧ m.plant.mv = 0 ∧ m.plant.founder = 0xFFFF ∧ m.plant.members = [] ∧ m.plant.leaving = false ∧
      (s.m.mode.mode = .dispatch → ∃ p ∈ m.mode.pendingModes, p.dest = .connected ∧ p.effect = s.m.fastEpoch + 1))) ∧
    (s.m.plant.isMember = false ∨ s.m.plant.leaving = false ∨ s.m.fastEpoch % 100 ≠ 0 → Completes .membershipLeave s (fun m =>
      m.plant = s.m.plant ∧ m.mode = s.m.mode))

/-- Records between modules (R37, R247, R264 to R266, R273 to R275, R300). A summary of the running epoch is accepted in its window and
from a member notes the time; two copies that differ are both discarded; a damaged, an own or an untimely one changes nothing, but one
that completes a view not held so that its digest is the majority's makes that view held late. A sound slow head and a body part are
kept. Requests for a retained body, head or summary are answered, others are not. The summary captured at the boundary is broadcast with
the digest of the epoch before, the hash for two epochs on and the sequence, by a follower with the content of its lead, with SOLE where
the module serves its string alone or that content is missing. The slow head of the running slow epoch is formed and broadcast once, its
body kept. In BOOT nothing is sent; nor does a module without an address, which the model chooses (log entry 171). -/
def Obligations.PlantRecordsAreExchanged : Prop :=
  ∀ s : State, s.m.clk.procRunning = true →
    (∀ src r, src ≠ s.m.fab.addr → r.epoch = s.m.fastEpoch % 2 ^ 32 → (s.m.fastEpoch, src) ∉ s.m.plant.differing →
      s.m.plant.summaryAt s.m.fastEpoch src = none → Completes (.fastSummary src r true true) s (fun m =>
        m.plant.summaryAt s.m.fastEpoch src = some r ∧
        m.plant.lastMember = if r.founder ≠ 0xFFFF then some s.m.now else s.m.plant.lastMember)) ∧
    (∀ src r old, src ≠ s.m.fab.addr → r.epoch = s.m.fastEpoch % 2 ^ 32 → (s.m.fastEpoch, src) ∉ s.m.plant.differing →
      s.m.plant.summaryAt s.m.fastEpoch src = some old → old ≠ r → Completes (.fastSummary src r true true) s (fun m =>
        m.plant.summaryAt s.m.fastEpoch src = none ∧ (s.m.fastEpoch, src) ∈ m.plant.differing ∧
        m.plantCnt.copyMism = satInc s.m.plantCnt.copyMism)) ∧
    (∀ src r inTime, Completes (.fastSummary src r false inTime) s (fun m =>
      m.plant = s.m.plant ∧ m.safe.nDisc = satInc s.m.safe.nDisc)) ∧
    (∀ src r inTime, src = s.m.fab.addr ∨ (inTime = false ∧ s.m.plant.view (nearEpoch s.m.fastEpoch r.epoch) = none) →
      Completes (.fastSummary src r true inTime) s (fun m => m.plant = s.m.plant)) ∧
    (∀ src r v, src ≠ s.m.fab.addr → s.m.plant.view (nearEpoch s.m.fastEpoch r.epoch) = some v → v.state = 2 →
      v.entries.any (fun e => e.1.addr == src) = true →
      v.major = some (viewDigest v.founder v.mv (v.entries.map (fun e => if e.1.addr == src then (e.1, some r) else e))) →
      v.epoch = nearEpoch s.m.fastEpoch r.epoch → Completes (.fastSummary src r true false) s (fun m =>
        m.plant.holds (nearEpoch s.m.fastEpoch r.epoch) = true ∧ m.plantCnt.late = satInc s.m.plantCnt.late ∧ m.plant.outRun = 0)) ∧
    (∀ src h, Completes (.slowRecordHead src h true) s (fun m =>
      (nearEpoch s.m.slowEpoch h.epoch, src, h) ∈ m.plant.heads ∧
      ∀ x ∈ m.plant.heads, x.1 = nearEpoch s.m.slowEpoch h.epoch → x.2.1 = src → x.2.2 = h)) ∧
    (∀ src h, Completes (.slowRecordHead src h false) s (fun m => m.plant = s.m.plant)) ∧
    (∀ src epoch b, aget? s.m.plant.bodies (nearEpoch s.m.slowEpoch epoch) = some b →
      s.m.slowEpoch < nearEpoch s.m.slowEpoch epoch + 4 → Completes (.bodyRequest src epoch) s (fun m =>
        .bodyPart src (nearEpoch s.m.slowEpoch epoch) 0 (b.take 1593) ∈ m.out ∧
        .bodyPart src (nearEpoch s.m.slowEpoch epoch) 1 (b.drop 1593) ∈ m.out)) ∧
    (∀ src epoch, aget? s.m.plant.bodies (nearEpoch s.m.slowEpoch epoch) = none ∨
      nearEpoch s.m.slowEpoch epoch + 4 ≤ s.m.slowEpoch → Completes (.bodyRequest src epoch) s (fun m => m.out = [])) ∧
    (∀ src epoch part bytes, Completes (.bodyPart src epoch part bytes) s (fun m =>
      m.plant.parts = ((src, nearEpoch s.m.slowEpoch epoch, part, bytes) :: s.m.plant.parts).take 16)) ∧
    (∀ src epoch h, s.m.plant.ownHeads.find? (fun x => x.epoch == epoch) = some h → Completes (.headRequest src epoch) s (fun m =>
      .slowHeadTo src h ∈ m.out)) ∧
    (∀ src epoch, s.m.plant.ownHeads.find? (fun x => x.epoch == epoch) = none → Completes (.headRequest src epoch) s (fun m =>
      m.out = [])) ∧
    (∀ src epoch x, s.m.plant.ownSums.find? (fun x => x.epoch == epoch) = some x → Completes (.recordRequest src epoch) s (fun m =>
      .summaryTo src x ∈ m.out)) ∧
    (∀ src epoch, s.m.plant.ownSums.find? (fun x => x.epoch == epoch) = none → Completes (.recordRequest src epoch) s (fun m =>
      m.out = [])) ∧
    (∀ c, s.m.plant.cap = some c → s.m.mode.mode ≠ .boot → s.m.fab.addr ≠ 0xFFFF → c.epoch = s.m.fastEpoch % 2 ^ 32 →
      Completes .fastSummarySend s (fun m => m.plant.cap = none ∧ ∃ x, .summary x ∈ m.out ∧
        m.plant.summaryAt s.m.fastEpoch s.m.fab.addr = some x ∧ m.plant.ownSums.head? = some x ∧ x.epoch = c.epoch ∧
        x.mv = c.mv ∧ x.founder = c.founder ∧ x.cmdSeq = c.cmdSeq ∧ x.slowCrc = c.slowCrc ∧ x.mcount = c.mcount ∧
        x.digest = (if s.m.plant.isMember then s.m.digestOf (s.m.fastEpoch - 1) else 0) ∧
        x.ahash = (if s.m.plant.isMember then s.m.ahashOf (s.m.fastEpoch + 2) else 0) ∧
        x.pseq = s.m.fastEpoch % 32768 + (if s.m.alone = true ∨ (s.m.est.follower = true ∧
          s.m.pair.content.all (fun d => d.1 != s.m.fastEpoch) = true) then 32768 else 0) ∧
        (s.m.paired = false ∨ s.m.est.follower = false ∨ s.m.pair.content.all (fun d => d.1 != s.m.fastEpoch) = true →
          x.withContent c = x) ∧
        (s.m.paired = true → s.m.est.follower = true → s.m.pair.content.all (fun d => d.1 != s.m.fastEpoch ||
          x.withContent d.2 == x) = true))) ∧
    (s.m.plant.cap = none ∨ s.m.mode.mode = .boot ∨ s.m.fab.addr = 0xFFFF → Completes .fastSummarySend s (fun m =>
      m.plant = s.m.plant ∧ m.out = [])) ∧
    (s.m.mode.mode ≠ .boot → s.m.fab.addr ≠ 0xFFFF → s.m.plant.isMember = true →
      (∀ h ∈ s.m.plant.ownHeads, h.epoch ≠ s.m.slowEpoch % 2 ^ 32) →
      Completes .slowRecordSend s (fun m => .slowHead (s.m.formHead s.m.slowEpoch) ∈ m.out ∧
        m.plant.ownHeads.head? = some (s.m.formHead s.m.slowEpoch) ∧
        aget? m.plant.bodies s.m.slowEpoch = some s.m.formBody)) ∧
    (s.m.mode.mode = .boot ∨ s.m.fab.addr = 0xFFFF ∨ s.m.plant.isMember = false ∨
      (∃ h ∈ s.m.plant.ownHeads, h.epoch = s.m.slowEpoch % 2 ^ 32) → Completes .slowRecordSend s (fun m =>
      m.plant = s.m.plant ∧ m.out = []))

/-- Views, allocation and rest slots (R269, R270, R272 to R275, R283 to R287). The provisional view lists every member with its summary,
counts candidates and asks for missing heads. At its close a view is held where the own digest is the majority's, which counts absences;
otherwise it is counted, the missing summaries are requested, and the hundredth in a row makes the member leave. The slow view is held
when complete and fixes the rest plan. The allocation of n + 4 comes from the view of n. Two epochs before its effect the own hash is
compared with the majority's: equal, it applies; without a majority or an own hash the hold rule; else PLANT_DIVERGED is raised and the
module leaves DISPATCH. After 100 held epochs it leaves without a fault. A rest slot takes the string's allocation and ends a running bin,
for 20 s. -/
def Obligations.ViewAndAllocationCommandsTakeEffect : Prop :=
  ∀ s : State, s.m.clk.procRunning = true →
    (s.m.plant.isMember = true → s.m.plant.view s.m.fastEpoch = none → Completes .provisionalView s (fun m =>
      (∃ v, m.plant.view s.m.fastEpoch = some v ∧ v.state = 0 ∧ v.founder = s.m.plant.founder ∧ v.mv = s.m.plant.mv ∧
        v.entries = s.m.plant.members.map (fun x => (x, s.m.plant.summaryAt s.m.fastEpoch x.addr)) ∧
        v.digest = viewDigest v.founder v.mv v.entries) ∧
      (∀ x ∈ s.m.plant.accepted, x.1 = s.m.fastEpoch → x.2.2.founder = 0xFFFF →
        aget m.plant.candRuns x.2.1 0 = aget s.m.plant.candRuns x.2.1 0 + 1) ∧
      (s.m.fastEpoch % 10 = 1 → 11 ≤ s.m.fastEpoch → ∀ x ∈ s.m.plant.members,
        (s.m.plant.summaryAt s.m.fastEpoch x.addr).any (fun r =>
          (s.m.plant.heads.find? (fun h => h.1 == (s.m.fastEpoch - 11) / 10 && h.2.1 == x.addr)).all (fun h =>
            h.2.2.icrc != r.slowCrc)) = true → .headRequest x.addr ((s.m.fastEpoch - 11) / 10) ∈ m.out))) ∧
    (s.m.plant.isMember = false ∨ s.m.plant.view s.m.fastEpoch ≠ none → Completes .provisionalView s (fun m =>
      m.plant = s.m.plant)) ∧
    (∀ n v, s.m.fastEpoch = n + 1 → s.m.plant.view n = some v → v.state = 0 →
      majority (v.entries.filterMap (fun e => (s.m.plant.summaryAt (n + 1) e.1.addr).map (fun x => x.digest))) v.entries.length
        = some v.digest →
      Completes .viewClose s (fun m => m.plant.viewHeld = true ∧ m.plant.lastFast = n ∧ m.plant.outRun = 0 ∧
        m.plant.holds n = true ∧
        (∀ e ∈ v.entries, e.2 = none → aget m.plant.absent e.1.addr 0 = aget s.m.plant.absent e.1.addr 0 + 1) ∧
        (∀ e ∈ v.entries, (∀ d ∈ v.entries, d.1.addr = e.1.addr → d.2.isSome = true) → aget m.plant.absent e.1.addr 0 = 0))) ∧
    (∀ n v, s.m.fastEpoch = n + 1 → s.m.plant.view n = some v → v.state = 0 →
      majority (v.entries.filterMap (fun e => (s.m.plant.summaryAt (n + 1) e.1.addr).map (fun x => x.digest))) v.entries.length
        ≠ some v.digest →
      Completes .viewClose s (fun m => m.plant.viewHeld = false ∧ m.plant.outRun = s.m.plant.outRun + 1 ∧
        m.plant.holds n = false ∧ m.plant.absent = [] ∧ m.plantCnt.notHeld = satInc s.m.plantCnt.notHeld ∧
        m.plant.leaving = (s.m.plant.leaving || decide (100 ≤ s.m.plant.outRun + 1)) ∧
        ∀ e ∈ v.entries, e.2 = none → .recordRequest e.1.addr (n % 2 ^ 32) ∈ m.out)) ∧
    ((s.m.plant.view (s.m.fastEpoch - 1)).all (fun v => v.state != 0) = true → Completes .viewClose s (fun m =>
      m.plant = s.m.plant)) ∧
    (∀ k v, s.m.plant.isMember = true → s.m.fastEpoch = 10 * k + 12 → s.m.plant.view (10 * k + 11) = some v →
      Completes .slowViewClose s (fun m =>
        m.plant.slowHeld = (v.state == 1 && slowComplete v (s.m.plant.slowEntries k v)) ∧
        m.plant.slowViews.head? = some (k, m.plant.slowHeld, s.m.plant.slowEntries k v) ∧
        m.plant.lastSlow = (if m.plant.slowHeld then k else s.m.plant.lastSlow) ∧
        (m.plant.slowHeld = true → (10 * k + 70000) % 20000 = 0 → aget? m.plant.restPlan (10 * k + 70000) =
          some (restPick (s.m.plant.slowEntries k v) (s.m.plant.restAt (10 * k + 12)))))) ∧
    (s.m.plant.isMember = false ∨ s.m.fastEpoch % 10 ≠ 2 ∨ s.m.fastEpoch < 12 → Completes .slowViewClose s (fun m =>
      m.plant = s.m.plant)) ∧
    (∀ v r, s.m.plant.views.find? (fun v => v.state != 0) = some v → v.state = 1 → s.m.allocOf (v.epoch + 4) = none →
      s.m.unresolved (v.epoch + 4) = false → s.m.plant.isMember = true → s.m.plant.restOf (v.epoch + 4) = some r →
      Completes (.allocationCompute false) s (fun m =>
        m.allocOf (v.epoch + 4) = some (allocate (v.epoch + 4) (s.m.stateAt (v.epoch + 4)) v r) ∧
        m.ahashOf (v.epoch + 4) = (allocate (v.epoch + 4) (s.m.stateAt (v.epoch + 4)) v r).hash)) ∧
    (∀ missed, missed = true ∨ s.m.plant.isMember = false ∨ (s.m.plant.views.find? (fun v => v.state != 0)).all (fun v =>
        v.state != 1 || (s.m.allocOf (v.epoch + 4)).isSome || s.m.unresolved (v.epoch + 4) ||
        (s.m.plant.restOf (v.epoch + 4)).isNone) = true → Completes (.allocationCompute missed) s (fun m => m.plant = s.m.plant)) ∧
    (∀ maj, s.m.plant.isMember = true → aget? s.m.plant.outcomes (s.m.fastEpoch + 2) = none →
      majority (s.m.plant.members.filterMap (fun x => (s.m.plant.summaryAt s.m.fastEpoch x.addr).map (fun r => r.ahash)))
        s.m.plant.members.length = some maj → s.m.ahashOf (s.m.fastEpoch + 2) ≠ 0 → Completes .hashCheck s (fun m =>
        (s.m.ahashOf (s.m.fastEpoch + 2) = maj → aget? m.plant.outcomes (s.m.fastEpoch + 2) = some 0 ∧
          m.plant.hashAgreed = true ∧ m.plant.diverged = false) ∧
        (s.m.ahashOf (s.m.fastEpoch + 2) ≠ maj → aget? m.plant.outcomes (s.m.fastEpoch + 2) = some 2 ∧
          m.plant.diverged = true ∧ m.isPending .plantDiverged = true ∧ m.plantCnt.hashDis = satInc s.m.plantCnt.hashDis ∧
          (s.m.mode.mode = .dispatch → { dest := .connected, cause := .fault, effect := s.m.fastEpoch + 2, fromPartner := false }
            ∈ m.mode.pendingModes)))) ∧
    (s.m.plant.isMember = true → aget? s.m.plant.outcomes (s.m.fastEpoch + 2) = none →
      majority (s.m.plant.members.filterMap (fun x => (s.m.plant.summaryAt s.m.fastEpoch x.addr).map (fun r => r.ahash)))
        s.m.plant.members.length = none ∨ s.m.ahashOf (s.m.fastEpoch + 2) = 0 → Completes .hashCheck s (fun m =>
        aget? m.plant.outcomes (s.m.fastEpoch + 2) = some 1 ∧ m.plant.hashAgreed = false ∧ m.flt = s.m.flt)) ∧
    (s.m.plant.isMember = false ∨ aget? s.m.plant.outcomes (s.m.fastEpoch + 2) ≠ none → Completes .hashCheck s (fun m =>
      m.plant = s.m.plant)) ∧
    (100 ≤ s.m.plant.holdRun → s.m.mode.mode = .dispatch → Completes .allocHoldWithdraw s (fun m =>
      { dest := .connected, cause := .timeout, effect := s.m.fastEpoch + 1, fromPartner := false } ∈ m.mode.pendingModes ∧
      m.flt = s.m.flt)) ∧
    (s.m.plant.holdRun < 100 ∨ s.m.mode.mode ≠ .dispatch → Completes .allocHoldWithdraw s (fun m => m.mode = s.m.mode)) ∧
    (∀ l, aget? s.m.plant.restPlan (s.m.fastEpoch - s.m.fastEpoch % 20000) = some l →
      s.m.plant.resting ≠ some (s.m.fastEpoch - s.m.fastEpoch % 20000, l) → Completes .restSlotStart s (fun m =>
        m.plant.resting = some (s.m.fastEpoch - s.m.fastEpoch % 20000, l) ∧ m.plant.inRest = l.contains s.m.stringId ∧
        (m.plant.inRest = true → m.plant.own = 0 ∧ m.imp.run = none ∧ (s.m.imp.run ≠ none → m.imp.restWait = true)) ∧
        (m.plant.inRest = false → m.plant.own = s.m.plant.own ∧ m.imp = s.m.imp))) ∧
    ((aget? s.m.plant.restPlan (s.m.fastEpoch - s.m.fastEpoch % 20000)).all (fun l =>
        s.m.plant.resting == some (s.m.fastEpoch - s.m.fastEpoch % 20000, l)) = true → Completes .restSlotStart s (fun m =>
      m.plant = s.m.plant ∧ m.imp = s.m.imp)) ∧
    (∀ b l, s.m.plant.resting = some (b, l) → b + 20000 ≤ s.m.fastEpoch → Completes .restSlotEnd s (fun m =>
      m.plant.resting = none ∧ m.plant.inRest = false ∧ m.imp.restWait = false)) ∧
    (s.m.plant.resting.all (fun x => decide (s.m.fastEpoch < x.1 + 20000)) = true → Completes .restSlotEnd s (fun m =>
      m.plant = s.m.plant))

/-- Heartbeat, loss of the partner and takeover (R125, R156, R293 to R295, R301, R302, R304). PQ's request toggles the line where R293 allows it,
with an ALIVE frame on every second one; 40 µs without a request release every owned phase. Foxglove notes a lost or present heartbeat
whether or not the processor domain runs. A loss while an ALIVE frame came lately is a fault of the line; otherwise, and with a line fault
once no ALIVE frame comes either, the partner is declared lost: outside BOOT, SAFE_HOLD and LOCKOUT the generation rises, a running bin is
discarded, n_act is taken anew with the outer integrator frozen, and the partner's phases are to be acquired. The acquisition starts each from
the checkpoint, or from acc_k = 0 where that is stale, and keeps its dip and recovery. A heartbeat present ends the loss, and the lead then sends
its full state. -/
def Obligations.HeartbeatAndTakeoverCommandsTakeEffect : Prop :=
  ∀ s : State, s.m.Shaped → s.m.clk.powered = true →
    (s.m.clk.procRunning = true → s.m.hbAllowed true = true → Completes (.heartbeatToggle true) s (fun m =>
      m.pair.hbOut = (!s.m.pair.hbOut) ∧ m.pair.hbOn = true ∧ m.pair.hbAt = some s.m.now ∧
      m.pair.hbPhase = (s.m.pair.hbPhase + 1) % 2 ∧
      (s.m.paired = true → s.m.pair.hbPhase = 1 → .alive s.m.pairHead s.m.modeByte s.m.ownMask s.m.aliveFlags ∈ m.out))) ∧
    (∀ k0, k0 = false ∨ s.m.saf.walnutLive = false ∨ s.m.inMode [.boot, .safeHold, .lockout] = true →
      Completes (.heartbeatToggle k0) s (fun m => m.pair = s.m.pair ∧ m.out = [])) ∧
    (Completes .heartbeatLapse s (fun m => m.pair.hbOn = false ∧
      ∀ k < 12, (s.m.phase k).own = true → (m.phase k).gate = false ∧ (m.phase k).releasing = true ∧
        (m.phase k).commanded = false)) ∧
    (∀ recent, s.m.paired = true → s.m.clk.procRunning = false → Completes (.partnerHeartbeatLost recent) s (fun m =>
      m.pair = { s.m.pair with hbPresent := false, hbSince := none })) ∧
    (∀ recent, s.m.paired = false → Completes (.partnerHeartbeatLost recent) s (fun m => m.pair = s.m.pair)) ∧
    (s.m.paired = true → s.m.clk.procRunning = true → s.m.pairLinkUp = true → s.m.pair.lineFault = false →
      s.m.pair.aliveAt ≠ none → Completes (.partnerHeartbeatLost true) s (fun m => m.pair.hbPresent = false ∧
        m.pair.lineFault = true ∧ m.pair.lost = s.m.pair.lost ∧ m.pair.ogen = s.m.pair.ogen ∧
        m.pair.nLine = satInc s.m.pair.nLine ∧ m.isPending .pairHbLine = true)) ∧
    (∀ recent, s.m.paired = true → s.m.clk.procRunning = true → s.m.pairLinkUp = false ∨ (s.m.pair.lineFault = false ∧
        (recent = false ∨ s.m.pair.aliveAt = none)) → s.m.pair.lost = false →
      s.m.inMode [.boot, .safeHold, .lockout] = false → Completes (.partnerHeartbeatLost recent) s (fun m =>
        m.pair.hbPresent = false ∧ m.pair.lost = true ∧ m.pair.ogen = (s.m.pair.ogen + 1) % 2 ^ 32 ∧
        m.pair.acquiring = true ∧ m.pair.toAcquire = s.m.pair.pOwn % 4096 ∧ m.pair.nTake = satInc s.m.pair.nTake ∧
        m.pair.toTime = s.m.fabTime ∧ m.conv.nAct = m.activePhases.length ∧ m.conv.actChange = true ∧
        m.conv.integ = s.m.conv.integ ∧ ∀ r, m.imp.run = some r → r.discarded = true)) ∧
    (∀ recent, s.m.paired = true → s.m.clk.procRunning = true → s.m.pairLinkUp = false → s.m.pair.lost = false →
      s.m.inMode [.boot, .safeHold, .lockout] = true → Completes (.partnerHeartbeatLost recent) s (fun m =>
        m.pair.hbPresent = false ∧ m.pair.lost = true ∧ m.pair.ogen = s.m.pair.ogen ∧ m.pair.acquiring = s.m.pair.acquiring)) ∧
    (s.m.paired = true → s.m.clk.procRunning = true → s.m.pairLinkUp = true → s.m.pair.lineFault = true → s.m.pair.lost = false →
      s.m.inMode [.boot, .safeHold, .lockout] = false → Completes .aliveTimeout s (fun m =>
        m.pair.lost = true ∧ m.pair.acquiring = true ∧ m.pair.toAcquire = s.m.pair.pOwn % 4096 ∧
        m.pair.ogen = (s.m.pair.ogen + 1) % 2 ^ 32 ∧ m.conv.nAct = m.activePhases.length ∧ m.conv.actChange = true ∧
        ∀ r, m.imp.run = some r → r.discarded = true)) ∧
    (s.m.pairLinkUp = false ∨ s.m.pair.lineFault = false ∨ s.m.pair.lost = true → Completes .aliveTimeout s (fun m =>
      m.pair = s.m.pair ∧ m.conv = s.m.conv)) ∧
    (∀ dip rec, s.m.clk.procRunning = true → s.m.pair.acquiring = true → s.m.pair.roleConflict = false →
      s.m.inMode [.boot, .safeHold, .lockout] = false →
      Completes (.takeoverAcquisition dip rec) s (fun m => m.pair.acquiring = false ∧ m.pair.toAcquire = 0 ∧
        m.pair.acquired = s.m.pair.toAcquire ∧ m.pair.toDip = dip ∧ m.pair.toRec = rec ∧
        m.pair.cpStale = (s.m.pair.toAcquire != 0 && !s.m.cpFresh && s.m.switching) ∧
        m.pair.nCold = (if m.pair.cpStale then satInc s.m.pair.nCold else s.m.pair.nCold) ∧
        m.conv.nAct = m.activePhases.length ∧
        ∀ k < 12, k < s.m.nPhases → bit s.m.pair.toAcquire k = true → (s.m.phase k).own = false →
          (m.phase k).own = true ∧ (m.phase k).gate = false ∧ (m.phase k).acquiring = true ∧
          (m.phase k).acc = (if s.m.cpFresh = true then (s.m.phase k).acc else 0) ∧
          (m.phase k).duty = clampQ 0 1 (s.m.phaseDuty (((s.m.phase k).avg.map (fun i => s.m.phaseError k i)).getD 0)
            (m.phase k).acc))) ∧
    (∀ dip rec, s.m.clk.procRunning = true → s.m.inMode [.boot, .safeHold, .lockout] = true → s.m.pair.acquiring = true →
      Completes (.takeoverAcquisition dip rec) s (fun m => m.pair.acquiring = false ∧ m.pair.toAcquire = 0 ∧
        ∀ k < 12, (m.phase k).own = (s.m.phase k).own)) ∧
    (∀ dip rec, s.m.pair.acquiring = false → Completes (.takeoverAcquisition dip rec) s (fun m =>
      m.pair = s.m.pair ∧ m.pwm = s.m.pwm)) ∧
    (s.m.paired = true → Completes .heartbeatPresent s (fun m => m.pair.hbPresent = true ∧ m.pair.hbSeen = true ∧
      m.pair.hbSince = some (s.m.pair.hbSince.getD s.m.now) ∧
      m.pair.lost = (s.m.pair.lost && !s.m.clk.procRunning) ∧
      (s.m.clk.procRunning = true → s.m.pair.lost = true → s.m.isMaster = true → s.m.est.running = true →
        .estimatorFull s.m.pairHead s.m.est.groups ∈ m.out))) ∧
    (s.m.paired = false → Completes .heartbeatPresent s (fun m => m.pair = s.m.pair))

/-- Frames of the partner (R39, R42, R46, R50, R125, R190, R195, R208, R292, R295 to R300, R304, R308). One of an old ownership generation
changes nothing but its count; one of a newer raises the own and discards a running bin. ALIVE brings mode, ownership, flags and version;
from a partner declared lost that still owns phases, or owns phases acquired here, it shows that both were alive: role B releases what it
acquired, and PAIR_HB_LINE is raised; a partner that completes its commissioning is committed. A sound, fresh CHECKPOINT of the own version
is kept, its phase states count, the phases in SHADOW are loaded, and from the loop lead at its boundary the loop state is taken. CONTENT
is kept. A forwarded request waits for the same boundary, MAINTAIN with its task, and out of SAFE_HOLD releases the line. CONFIG sets
CARRIER_MISMATCH. An unlocked ENGINEER commits the partner on the link. -/
def Obligations.PartnerFramesTakeEffect : Prop :=
  ∀ s : State, s.m.Shaped → s.m.paired = true → s.m.clk.procRunning = true →
    (∀ ogen, s.m.pair.ogen ≤ ogen →
      (∀ mode own flags ver, s.m.pair.lost = false ∨ own % 4096 = 0 → own % 4096 &&& s.m.pair.acquired = 0 →
        Completes (.alive mode own flags ver ogen) s (fun m =>
          m.pair.ogen = ogen ∧ m.pair.aliveAt = some s.m.now ∧ m.pair.pMode = some mode ∧ m.pair.pOwn = own % 4096 ∧
          m.pair.pFlags = flags ∧ m.pair.pVer = some ver ∧ m.pair.lost = s.m.pair.lost ∧
          m.pair.tb = s.m.pair.tb.map (fun t => t.abandonedBy flags) ∧
          (s.m.pair.ogen < ogen → m.imp.run.all (fun r => r.discarded) = true) ∧
          (s.m.pair.changed = true → s.m.partnerMode = some .commission → mode % 16 = 3 → m.pair.changed = false ∧
            m.pair.pSerial = s.m.pair.linkSerial ∧
            m.nv.pending = s.m.nv.pending ++ [{ items := [.partner s.m.pair.linkSerial], after := [] }]))) ∧
      (∀ mode own flags ver, (s.m.pair.lost = true ∧ own % 4096 ≠ 0) ∨ own % 4096 &&& s.m.pair.acquired ≠ 0 →
        Completes (.alive mode own flags ver ogen) s (fun m => m.pair.ogen = ogen ∧ m.pair.pOwn = own % 4096 ∧
          m.pair.lost = false ∧ m.pair.acquired = 0 ∧ m.pair.acquiring = false ∧ m.pair.toAcquire = 0 ∧
          m.isPending .pairHbLine = true ∧
          (s.m.isB = true → ∀ k < 12, bit s.m.pair.acquired k = true → (s.m.phase k).own = true →
            (m.phase k).releasing = true ∧ (m.phase k).gate = false) ∧
          (s.m.isB = false → ∀ k < 12, (m.phase k).own = (s.m.phase k).own ∧ (m.phase k).releasing = (s.m.phase k).releasing))) ∧
      (∀ c, c.ver = s.m.pair.ver → s.m.fastEpoch ≤ nearEpoch s.m.fastEpoch c.epoch + 5 →
        Completes (.checkpoint (some c) true ogen) s (fun m => m.pair.ogen = ogen ∧ m.pair.pVer = some c.ver ∧
          m.pair.cp = some { c with epoch := nearEpoch s.m.fastEpoch c.epoch } ∧ m.pair.nCp = satInc s.m.pair.nCp ∧
          m.conv.pPhases = padTo 12 (c.states.take 12) ∧
          (∀ k < 12, (s.m.phase k).own = false → (m.phase k).shadow = (nth c.duty k 0 : Rat) / 65536 ∧
            (m.phase k).acc = (nth c.acc k 0 : Rat) / 16777216) ∧
          (∀ k < 12, (s.m.phase k).own = true → (m.phase k).acc = (s.m.phase k).acc) ∧
          (s.m.estLead = false → nearEpoch s.m.fastEpoch c.epoch = s.m.fastEpoch →
            m.conv.integ = (c.integ : Rat) ∧ m.conv.rCmd = (c.rCmd : Rat) ∧
            (s.m.pair.resync = true → m.conv.vSet = (c.vSet : Rat) ∧ m.conv.iPhRef = (c.iPhRef : Rat) ∧
              m.conv.softStop = bit c.flags 3 ∧ m.conv.ceiling = c.ceiling.map (fun i => (i : Rat)))) ∧
          (s.m.estLead = true ∨ nearEpoch s.m.fastEpoch c.epoch ≠ s.m.fastEpoch →
            m.conv.integ = s.m.conv.integ ∧ m.conv.rCmd = s.m.conv.rCmd))) ∧
      (∀ c crc, crc = false ∨ c.ver ≠ s.m.pair.ver ∨ nearEpoch s.m.fastEpoch c.epoch + 5 < s.m.fastEpoch →
        Completes (.checkpoint (some c) crc ogen) s (fun m => m.pair.cp = s.m.pair.cp ∧ m.pair.pVer = some c.ver ∧
          m.conv = s.m.conv)) ∧
      (∀ crc, Completes (.checkpoint none crc ogen) s (fun m => m.pair = { s.m.pair with ogen := ogen } ∧ m.conv = s.m.conv)) ∧
      (∀ epoch c, Completes (.content epoch c ogen) s (fun m => m.pair.ogen = ogen ∧
        m.pair.content = some (nearEpoch s.m.fastEpoch epoch, c))) ∧
      (∀ code effect task dur due d, Mode.ofCode code = some d → Completes (.request code effect task dur due ogen) s (fun m =>
        m.pair.ogen = ogen ∧ m.mode.pendingModes = s.m.mode.pendingModes ++
          [{ dest := d, cause := .partner, effect := effect, fromPartner := true }] ∧
        (d = .maintain → m.mode.taskReq = task ∧ m.mode.taskDur = some dur ∧ m.imp.blRequest = (s.m.imp.blRequest || due)) ∧
        (s.m.mode.mode = .safeHold → d ≠ .safeHold → s.m.condition d = true → s.m.saf.demF = 0 →
          m.saf.override = s.m.saf.line ∧ m.saf.openW = false ∧ m.saf.openF = false))) ∧
      (∀ code effect task dur due, Mode.ofCode code = none → Completes (.request code effect task dur due ogen) s (fun m =>
        m.pair.ogen = ogen ∧ m.mode = s.m.mode)) ∧
      (∀ settings inMode pcrc, Completes (.pairConfig settings inMode pcrc ogen) s (fun m => m.pair.ogen = ogen ∧
        m.pair.pConfig = some (settings, pcrc) ∧ m.pair.pInMode = some inMode ∧
        m.pwm.mismatch = decide (settings ≠ s.m.carrierSettings)))) ∧
    (∀ ogen, ogen < s.m.pair.ogen → ∀ c ∈ [Instr.alive 3 1 0 0 ogen, .checkpoint none true ogen, .request 3 0 0 0 false ogen,
        .pairConfig [] 0 0 ogen], Completes c s (fun m =>
      m.pair = s.m.pair ∧ m.mode = s.m.mode ∧ m.conv = s.m.conv ∧ m.arch.stale = satInc s.m.arch.stale)) ∧
    (∀ role, 2 ≤ role → Completes (.partnerAccept role true) s (fun m => m.pair.pSerial = s.m.pair.linkSerial ∧
      m.pair.changed = false ∧ m.nv.pending = s.m.nv.pending ++ [{ items := [.partner s.m.pair.linkSerial], after := [] }])) ∧
    (∀ role unlocked, role < 2 ∨ unlocked = false → Completes (.partnerAccept role unlocked) s (fun m =>
      m.pair = s.m.pair ∧ m.nv = s.m.nv ∧ .writeStatus (if role < 2 then 0x14 else 0x15) 0 ∈ m.out))

/-- Takeback and planned release (R292, R305 to R310). TAKEBACK_READY is set once every condition has held for the stable time. A
TAKEBACK frame of the partner, and a RELEASE frame, start the ladder at their epoch; one of an old generation, or a TAKEBACK of a partner
that has changed, does not. At its start the share begins to fall where the converter switches, else the phases change hands at once; at
share 0 they change hands: the generation rises, a running bin is discarded, the module that takes them acquires each with acc_k = 0 and the
other releases them. At share 1 the takeback ends: RESYNCING clears on the module that took its phases, which counts a takeback. An unlocked
ENGINEER releases the own phases to a partner of the same mode that is there, abandons the own takeback before its phases move, or ends
the release. -/
def Obligations.TakebackCommandsTakeEffect : Prop :=
  ∀ s : State, s.m.Shaped → s.m.clk.procRunning = true →
    (s.m.paired = true → s.m.pair.hbPresent = true → s.m.pair.hbOn = true → s.m.pairLinkUp = true →
      s.m.partnerMode = some s.m.mode.mode → s.m.noFault = true → s.m.fab.time = .synced → s.m.pwm.mismatch = false →
      s.m.pair.gotState = true → s.m.pair.changed = false → s.m.pair.released = false → s.m.verMismatch = false →
      s.m.homeLacking = true → s.m.elapsed? s.m.pair.stableSince (1000000000 * s.m.par 0x2A01 0) = true →
      Completes (.takebackReady true) s (fun m => m.pair = { s.m.pair with ready := true })) ∧
    (∀ clear, clear = false ∨ s.m.takebackCond = false ∨
        s.m.elapsed? s.m.pair.stableSince (1000000000 * s.m.par 0x2A01 0) = false →
      Completes (.takebackReady clear) s (fun m => m.pair = s.m.pair)) ∧
    (∀ start ogen, s.m.paired = true → s.m.pair.changed = false → s.m.pair.ogen ≤ ogen → Completes (.takeback start ogen) s
      (fun m => m.pair =
        { s.m.pair with ogen := ogen,
                        tb := some { start := start, taker := false, planned := false, moving := s.m.partnerHome, stage := 0, sigma := 1 } } ∧
        (s.m.pair.ogen < ogen → m.imp.run.all (fun r => r.discarded) = true))) ∧
    (∀ start ogen, s.m.paired = true → s.m.pair.ogen ≤ ogen → Completes (.release start ogen) s (fun m =>
      m.pair =
        { s.m.pair with ogen := ogen,
                        tb := some { start := start, taker := true, planned := true, moving := s.m.pair.pOwn, stage := 0, sigma := 1 } } ∧
      (s.m.pair.ogen < ogen → m.imp.run.all (fun r => r.discarded) = true))) ∧
    (∀ start ogen, s.m.paired = false ∨ s.m.pair.changed = true ∨ ogen < s.m.pair.ogen →
      Completes (.takeback start ogen) s (fun m => m.pair = s.m.pair)) ∧
    (∀ start ogen, s.m.paired = true → ogen < s.m.pair.ogen →
      Completes (.release start ogen) s (fun m => m.pair = s.m.pair ∧ m.arch.stale = satInc s.m.arch.stale)) ∧
    (∀ role, 2 ≤ role → s.m.paired = true → s.m.partnerMode = some s.m.mode.mode → s.m.partnerMissing = false →
      s.m.pair.hbPresent = true → s.m.pair.changed = false → s.m.pair.tb = none →
      Completes (.phaseRelease true role true) s (fun m => .release s.m.pairHead (s.m.fastEpoch + 10) ∈ m.out ∧
        m.pair =
          { s.m.pair with released := true, ready := false,
                          tb := some { start := s.m.fastEpoch + 10, taker := false, planned := true, moving := s.m.ownMask, stage := 0, sigma := 1 } })) ∧
    (∀ role t, 2 ≤ role → s.m.paired = true → s.m.partnerMode = some s.m.mode.mode → s.m.partnerMissing = false →
      s.m.pair.hbPresent = true → s.m.pair.changed = false → s.m.pair.tb = some t → t.taker = true → t.planned = false →
      t.stage ≤ 1 → Completes (.phaseRelease true role true) s (fun m =>
        m.pair = { s.m.pair with released := true, ready := false, tb := some { t with stage := 3 } })) ∧
    (∀ role t, 2 ≤ role → s.m.paired = true → s.m.partnerMode = some s.m.mode.mode → s.m.partnerMissing = false →
      s.m.pair.hbPresent = true → s.m.pair.changed = false → s.m.pair.tb = some t → t.taker = false → t.planned = true →
      Completes (.phaseRelease true role true) s (fun m => m.pair = { s.m.pair with released := true } ∧ m.out = [])) ∧
    (∀ role, 2 ≤ role → s.m.paired = false ∨ s.m.partnerMode ≠ some s.m.mode.mode ∨ s.m.partnerMissing = true ∨
        s.m.pair.hbPresent = false ∨ s.m.pair.changed = true →
      Completes (.phaseRelease true role true) s (fun m => m.pair = s.m.pair ∧ .writeStatus 0x21 0 ∈ m.out)) ∧
    (∀ role, 2 ≤ role → Completes (.phaseRelease false role true) s (fun m =>
      m.pair = { s.m.pair with released := false, ready := false, stableSince := none })) ∧
    (∀ on role unlocked, role < 2 ∨ unlocked = false → Completes (.phaseRelease on role unlocked) s (fun m =>
      m.pair = s.m.pair ∧ .writeStatus (if role < 2 then 0x14 else 0x15) 0 ∈ m.out)) ∧
    (∀ t, s.m.pair.tb = some t → t.stage = 0 → t.start ≤ s.m.fastEpoch → s.m.switching = true →
      Completes .takebackStart s (fun m => m.pair = { s.m.pair with tb := some { t with stage := 1, sigma := 1 } })) ∧
    (∀ t, s.m.pair.tb = some t → t.stage ≠ 0 ∨ s.m.fastEpoch < t.start →
      Completes .takebackStart s (fun m => m.pair = s.m.pair ∧ m.pwm = s.m.pwm)) ∧
    (∀ t c, s.m.pair.tb = some t → s.m.pair.roleConflict = false →
      (c = .takebackStart ∧ t.stage = 0 ∧ t.start ≤ s.m.fastEpoch ∧ s.m.switching = false) ∨
        (c = .takebackHandover ∧ t.stage = 1 ∧ t.sigma = 0) →
      Completes c s (fun m => m.pair.ogen = (s.m.pair.ogen + 1) % 2 ^ 32 ∧
        m.pair.tb = (if t.stage = 0 then none else some { t with stage := 2 }) ∧
        m.pair.nBack = (if t.stage = 0 ∧ t.taker = true ∧ t.planned = false then satInc s.m.pair.nBack else s.m.pair.nBack) ∧
        m.pair.resync = (s.m.pair.resync && !(t.stage == 0 && t.taker)) ∧ m.imp.run.all (fun r => r.discarded) = true ∧
        (∀ k < 12, bit t.moving k = false → (m.phase k).own = (s.m.phase k).own ∧ (m.phase k).acc = (s.m.phase k).acc) ∧
        (t.taker = true → ∀ k < 12, bit t.moving k = true → (m.phase k).acc = 0 ∧
          (k < s.m.nPhases → (s.m.phase k).own = false → (m.phase k).own = true ∧ (m.phase k).acquiring = true)) ∧
        (t.taker = false → m.pair.acquired = 0 ∧ ∀ k < 12, bit t.moving k = true → (s.m.phase k).own = true →
          (m.phase k).releasing = true ∧ (m.phase k).gate = false))) ∧
    (∀ t, s.m.pair.tb = some t → t.stage ≠ 1 ∨ t.sigma ≠ 0 →
      Completes .takebackHandover s (fun m => m.pair = s.m.pair ∧ m.pwm = s.m.pwm)) ∧
    (∀ t, s.m.pair.tb = some t → t.stage = 2 → t.sigma = 1 → Completes .takebackEnd s (fun m => m.pair = { s.m.pair with
      tb := none, ready := false, stableSince := none, resync := s.m.pair.resync && !t.taker,
      nBack := if t.taker && !t.planned then satInc s.m.pair.nBack else s.m.pair.nBack })) ∧
    (∀ t, s.m.pair.tb = some t → t.stage ≠ 2 ∨ t.sigma ≠ 1 → Completes .takebackEnd s (fun m => m.pair = s.m.pair))

/-- Safety inputs and the alarm loop (R92, R93, R313, R314, R318, R319, R329 to R333). Each sample notes since when an input is low, the
feedback and coil nodes, and since when SI0 and SI1 disagree; a demand ends once no input of its function gives a cause. An input low beyond
its qualification, SI6 low for 60 s, a comparator line, a PT input beyond its limit and a broken loop demand their reaction in their
channel. Test pulses run in their order; the second frame in which the own supply gave no pulse, or another did, is a test fault and demands
as the input. A broken loop is declared and ends; role B takes SOURCE once the heartbeat is lost, or not seen in 10 s. SI0 and SI1
disagreeing for 50 ms is a discrepancy, and an SI6 low that ends in time is cancelled. Where the condition does not hold nothing changes. -/
def Obligations.SafetyInputCommandsTakeEffect : Prop :=
  ∀ s : State, s.m.Shaped → s.m.clk.powered = true →
    (∀ si fb node, Completes (.inputSample si fb node) s (fun m =>
      (∀ k < 8, (nth m.saf.si k {}).lowSince =
        if bit si k then none else some ((nth s.m.saf.si k {}).lowSince.getD s.m.now)) ∧
      (∀ k < 3, (m.coil k).node = bit node k ∧ (m.coil k).fb = bit fb k ∧
        (m.coil k).nodeAt = (if (s.m.coil k).node = bit node k then (s.m.coil k).nodeAt else s.m.now) ∧
        (m.coil k).fbAt = (if (s.m.coil k).fb = bit fb k then (s.m.coil k).fbAt else s.m.now)) ∧
      m.saf.disagree = (if bit si 0 = bit si 1 then none else some (s.m.saf.disagree.getD s.m.now)) ∧
      (∀ f < 12, 5 ≤ f → (siOf f).all (fun k => bit si k && !(nth s.m.saf.si k {}).testFault) = true →
        bit m.saf.demF f = false ∧ (bit s.m.saf.demP f = false → bit m.saf.demW f = false)) ∧
      (∀ f < 12, 5 ≤ f → (siOf f).all (fun k => bit si k && !(nth s.m.saf.si k {}).testFault) = false →
        bit m.saf.demF f = bit s.m.saf.demF f ∧ bit m.saf.demW f = bit s.m.saf.demW f))) ∧
    (∀ lows, Completes (.testPulse lows) s (fun m =>
      m.saf.second = (!s.m.saf.second && decide (s.m.saf.frame % 4 = s.m.saf.nextT)) ∧
      m.saf.nextT = (if m.saf.second then s.m.saf.nextT else (s.m.saf.nextT + 1) % 4) ∧
      m.saf.frame = (if m.saf.second = false ∧ s.m.saf.nextT = 3 then s.m.saf.frame + 1 else s.m.saf.frame) ∧
      (∀ k < 8, m.saf.frame = s.m.saf.frame → supplyOf k = s.m.saf.nextT →
        (nth m.saf.si k {}).lackOwn = ((nth s.m.saf.si k {}).lackOwn || !bit lows k) ∧
        (nth m.saf.si k {}).sawForeign = (nth s.m.saf.si k {}).sawForeign) ∧
      (∀ k < 8, m.saf.frame = s.m.saf.frame → supplyOf k ≠ s.m.saf.nextT →
        (nth m.saf.si k {}).sawForeign = ((nth s.m.saf.si k {}).sawForeign || bit lows k) ∧
        (nth m.saf.si k {}).lackOwn = (nth s.m.saf.si k {}).lackOwn) ∧
      (∀ k < 8, m.saf.frame ≠ s.m.saf.frame → s.m.isOssd k = false →
        (((nth s.m.saf.si k {}).lackOwn = true ∨ (supplyOf k = 3 ∧ bit lows k = false)) ∧
            1 ≤ (nth s.m.saf.si k {}).missing) ∨
          (((nth s.m.saf.si k {}).sawForeign = true ∨ (supplyOf k ≠ 3 ∧ bit lows k = true)) ∧
            1 ≤ (nth s.m.saf.si k {}).foreign) →
        (nth m.saf.si k {}).testFault = true ∧ bit m.saf.demF (s.m.siReaction k).1 = true) ∧
      (∀ k < 8, s.m.isOssd k = true → (nth m.saf.si k {}).testFault = (nth s.m.saf.si k {}).testFault))) ∧
    (∀ chan k, chan < 2 → k < 8 → s.m.chanLive chan = true → ¬ (k = 6 ∧ s.m.sw3On 4 = false) →
      s.m.elapsed? (s.m.lowFor chan k) (s.m.qualify k) = true → Completes (.safetyInputDemand chan k) s (fun m =>
        TakesDemand s.m m chan (s.m.siReaction k).1 (s.m.siReaction k).2.1 (s.m.siReaction k).2.2)) ∧
    (∀ chan k, s.m.chanLive chan = false ∨ (k = 6 ∧ s.m.sw3On 4 = false) ∨
        s.m.elapsed? (s.m.lowFor chan k) (s.m.qualify k) = false →
      Completes (.safetyInputDemand chan k) s (fun m => m.saf = s.m.saf ∧ m.mode = s.m.mode)) ∧
    (∀ chan, chan < 2 → s.m.chanLive chan = true → s.m.elapsed? (s.m.lowFor chan 6) 60000000000 = true →
      Completes (.ventilationDemand chan) s (fun m => TakesDemand s.m m chan 10 .disconnect .safeHold)) ∧
    (∀ chan, s.m.chanLive chan = false ∨ s.m.elapsed? (s.m.lowFor chan 6) 60000000000 = false →
      Completes (.ventilationDemand chan) s (fun m => m.saf = s.m.saf ∧ m.mode = s.m.mode)) ∧
    (s.m.meas.lines ≠ 0 → Completes .foxgloveOcDemand s (fun m => TakesDemand s.m m 1 4 .trip .lockout)) ∧
    (s.m.meas.lines = 0 → Completes .foxgloveOcDemand s (fun m => m.saf = s.m.saf ∧ m.mode = s.m.mode)) ∧
    (∀ pt temp p, s.m.prof = some p → s.m.sw3On 3 = true → pt < 4 → 10 * p.tOtHw < temp → Completes (.ptOvertemp pt temp) s
      (fun m => nth m.saf.ptFox pt none = some temp ∧ (temp ≤ 10 * p.tOtHw + 1000 → TakesDemand s.m m 1 2 .disconnect .lockout) ∧
        (10 * p.tOtHw + 1000 < temp → bit m.saf.demF 2 = true ∧ TakesDemand s.m m 1 3 .trip .lockout))) ∧
    (∀ pt temp p, s.m.prof = some p → s.m.sw3On 3 = false ∨ temp ≤ 10 * p.tOtHw → Completes (.ptOvertemp pt temp) s (fun m =>
      m.saf = s.m.saf ∧ m.mode = s.m.mode)) ∧
    (s.m.chain.loopBroken = false → Completes .alarmLoopBroken s (fun m => m.chain.loopBroken = true ∧
      TakesDemand s.m m 1 13 .disconnect (if s.m.unacked .alarmLoopBroken = [] ∨ s.m.isPending .alarmLoopBroken = true then
        .safeHold else .lockout) ∧ (s.m.clk.procRunning = true → m.isPending .alarmLoopBroken = true))) ∧
    (Completes .alarmLoopRestored s (fun m => m.chain.loopBroken = false ∧ bit m.saf.demF 13 = false ∧
      ∀ f < 23, f ≠ 13 → bit m.saf.demF f = bit s.m.saf.demF f)) ∧
    (s.m.isB = true → (if s.m.pair.hbSeen = true then s.m.pair.hbPresent = false else 10000000000 ≤ s.m.now) →
      Completes .loopSourceTakeover s (fun m => m.chain = { s.m.chain with loopSource := true })) ∧
    (s.m.isB = false ∨ (if s.m.pair.hbSeen = true then s.m.pair.hbPresent = true else s.m.now < 10000000000) →
      Completes .loopSourceTakeover s (fun m => m.chain = s.m.chain)) ∧
    (s.m.clk.procRunning = true → s.m.elapsed? s.m.saf.disagree 50000000 = true → s.m.saf.discrepancy = false →
      Completes .siDiscrepancy s (fun m => m.saf.discrepancy = true ∧ m.saf.discrClear = 0 ∧
        (s.m.unacked .siDiscrepancy = [] → m.saf = { s.m.saf with discrepancy := true, discrClear := 0 }) ∧
        m.isPending .siDiscrepancy = true)) ∧
    (s.m.elapsed? s.m.saf.disagree 50000000 = false ∨ s.m.saf.discrepancy = true → Completes .siDiscrepancy s (fun m =>
      m.saf = s.m.saf ∧ m.flt = s.m.flt)) ∧
    (∀ d, s.m.clk.procRunning = true → s.m.saf.si6Low = some d → d < 60000000000 → s.m.sw3On 4 = false →
      bit s.m.saf.demW 10 = false → bit s.m.saf.demF 10 = false → Completes .si6Cancelled s (fun m =>
        m.saf.si6Low = none ∧ (nth m.saf.si 6 {}).lowSince = none ∧
        (s.m.seed.staging.length < 1024 → m.seed.staging.getLast?.all (fun r =>
          r.code == 0x0304 && r.source == 6 && r.params.take 4 == u32 (d / 1000000)) = true))) ∧
    (s.m.sw3On 4 = true ∨ bit s.m.saf.demW 10 = true ∨ bit s.m.saf.demF 10 = true → Completes .si6Cancelled s (fun m =>
      m.saf = s.m.saf))

/-- Coils, holds, feedback and switches (R315, R322, R326, R327, R335 to R341). A demanding channel opens its switches unless its current
evidence holds them closed with TRIP asserted; the hold ends with the evidence, and 500 ms after the first began both channels open
regardless. A reading of the switches that differs from the last, SW3-8 ON or an open cover is a seal event, which both live channels
demand. A tested coil switch is noted, an OFF-pulse of the Walnut switch restarting its drive; a failed test demands. Feedback that does
not follow the coil is raised: at pick-up with a shutdown, or the failure of C6, at drop-out, when welded with a TRIP, when lost with a
DISCONNECT; a node held after an opening demands TRIP. TRIP ends after 500 ms asserted and 1 s without demand. Where the condition does not
hold nothing changes. -/
def Obligations.CoilAndSwitchCommandsTakeEffect : Prop :=
  ∀ s : State, s.m.Shaped →
    (∀ chan, chan < 2 → (if chan = 1 then s.m.saf.openF else s.m.saf.openW) = true →
      s.m.evidence chan = false ∨ s.m.chanClosed chan = false → Completes (.coilOpen chan) s (fun m =>
        (if chan = 1 then m.saf.openF else m.saf.openW) = false ∧
        (if chan = 1 then m.saf.openW = s.m.saf.openW else m.saf.openF = s.m.saf.openF) ∧
        ∀ k < 3, if chan = 1 then (m.coil k).fSw = false ∧ (m.coil k).wSw = (s.m.coil k).wSw
          else (m.coil k).wSw = false ∧ (m.coil k).fSw = (s.m.coil k).fSw)) ∧
    (∀ chan, chan < 2 → (if chan = 1 then s.m.saf.openF else s.m.saf.openW) = true → s.m.evidence chan = true →
      s.m.chanClosed chan = true → s.m.holdOf chan = none → Completes (.coilOpen chan) s (fun m =>
        m.holdOf chan = some s.m.now ∧ m.saf.trip = true ∧ bit m.saf.tripDem chan = true ∧ m.saf.coils = s.m.saf.coils ∧
        m.saf.openW = s.m.saf.openW ∧ m.saf.openF = s.m.saf.openF)) ∧
    (∀ chan, chan < 2 → (if chan = 1 then s.m.saf.openF else s.m.saf.openW) = false ∨
        (s.m.evidence chan = true ∧ s.m.chanClosed chan = true ∧ s.m.holdOf chan ≠ none) →
      Completes (.coilOpen chan) s (fun m => m.saf = s.m.saf)) ∧
    (∀ chan, chan < 2 → s.m.holdOf chan ≠ none → s.m.evidence chan = false → Completes (.holdRelease chan) s (fun m =>
      m.holdOf chan = none ∧ m.saf.nHolds = satInc s.m.saf.nHolds ∧ m.saf.tripLast = s.m.now ∧
      (s.m.saf.demW = 0 → s.m.saf.demF = 0 → bit m.saf.tripDem chan = false) ∧
      (∀ k < 3, (if chan = 1 then (m.coil k).fSw else (m.coil k).wSw) = false))) ∧
    (∀ chan, chan < 2 → s.m.holdOf chan = none ∨ s.m.evidence chan = true → Completes (.holdRelease chan) s (fun m =>
      m.saf = s.m.saf)) ∧
    (s.m.elapsed? s.m.saf.holdW 500000000 = true ∨ s.m.elapsed? s.m.saf.holdF 500000000 = true →
      Completes .contactorForcedOpen s (fun m => m.saf.holdW = none ∧ m.saf.holdF = none ∧
        (s.m.unacked .contactorForcedOpen = [] → m.saf.openW = false ∧ m.saf.openF = false) ∧ (∀ k < 3, (m.coil k).wSw = false ∧ (m.coil k).fSw = false) ∧
        (s.m.clk.procRunning = true → m.isPending .contactorForcedOpen = true))) ∧
    (s.m.elapsed? s.m.saf.holdW 500000000 = false → s.m.elapsed? s.m.saf.holdF 500000000 = false →
      Completes .contactorForcedOpen s (fun m => m.saf = s.m.saf ∧ m.flt = s.m.flt)) ∧
    (∀ sw1 sw2 sw3 cover, s.m.clk.powered = true → Completes (.switchRead sw1 sw2 sw3 cover) s (fun m =>
      m.saf.sw1 = sw1 ∧ m.saf.sw2 = sw2 ∧ m.saf.sw3 = sw3 ∧ m.saf.cover = cover ∧ m.saf.switchesRead = true ∧
      m.saf.sealBroken = (s.m.saf.sealBroken || !cover) ∧
      m.saf.switchChanged = (s.m.saf.switchChanged || decide (sw1 ≠ s.m.saf.sw1 ∨ sw2 ≠ s.m.saf.sw2 ∨ sw3 ≠ s.m.saf.sw3) ||
        bit sw3 7) ∧
      (m.saf.sealBroken ≠ s.m.saf.sealBroken → bit m.saf.demF 16 = true ∧
        (s.m.chanLive 0 = true → bit m.saf.demW 16 = true) ∧ (bit s.m.saf.demF 16 = false → Disconnects s.m m .lockout)) ∧
      (m.saf.switchChanged ≠ s.m.saf.switchChanged → bit m.saf.demF 17 = true ∧
        (s.m.chanLive 0 = true → bit m.saf.demW 17 = true) ∧ (bit s.m.saf.demF 17 = false → Disconnects s.m m .lockout)) ∧
      (m.saf.sealBroken = s.m.saf.sealBroken → m.saf.switchChanged = s.m.saf.switchChanged →
        m.saf.demF = s.m.saf.demF ∧ m.saf.demW = s.m.saf.demW ∧ m.mode = s.m.mode))) ∧
    (∀ k sw, s.m.clk.procRunning = true → k < 3 → sw < 2 →
      Completes (.coilSwitchTest k sw true) s (fun m =>
        aget? m.saf.tested (2 * k + sw) = some s.m.now ∧ nth m.saf.coilBad (2 * k + sw) true = false ∧
        m.saf.nCoilFail = s.m.saf.nCoilFail ∧ m.saf.demW = s.m.saf.demW ∧
        (m.coil k).driveAt = (if sw = 0 ∧ (s.m.coil k).driveAt ≠ none then some s.m.now else (s.m.coil k).driveAt))) ∧
    (∀ k sw, s.m.clk.procRunning = true → k < 3 → sw < 2 →
      Completes (.coilSwitchTest k sw false) s (fun m =>
        aget? m.saf.tested (2 * k + sw) = some s.m.now ∧ nth m.saf.coilBad (2 * k + sw) false = true ∧
        m.saf.nCoilFail = satInc s.m.saf.nCoilFail ∧ m.isPending .coilSwitchFail = true ∧
        TakesDemand s.m m 0 21 .disconnect .lockout)) ∧
    (∀ k, s.m.clk.procRunning = true → (s.m.coil k).node = true → (s.m.coil k).fb = false → (s.m.coil k).picked = false →
      s.m.elapsed (s.m.coil k).nodeAt 50000000 = true → Completes (.contactorPickup k) s (fun m =>
        m.isPending .contactorPickup = true ∧
        (m.mode.mode ≠ .commission → m.mode.pendingModes =
          { dest := .shutdown, cause := .fault, effect := s.m.fastEpoch + 1,
            fromPartner := false } :: s.m.mode.pendingModes) ∧
        (m.mode.mode = .commission → s.m.mode.c6Running = true → s.m.mode.c6Stopping = false → m.mode.c6Stopping = true ∧
          m.imp.blFailed = true ∧ m.conv.target = 0))) ∧
    (∀ k, (s.m.coil k).node = false ∨ (s.m.coil k).fb = true ∨ (s.m.coil k).picked = true ∨
        s.m.elapsed (s.m.coil k).nodeAt 50000000 = false →
      Completes (.contactorPickup k) s (fun m => m.flt = s.m.flt ∧ m.mode = s.m.mode)) ∧
    (∀ k, s.m.clk.procRunning = true → (s.m.coil k).node = false → (s.m.coil k).fb = true →
      s.m.elapsed (s.m.coil k).nodeAt 30000000 = true → s.m.now ≤ (s.m.coil k).nodeAt + 100000000 →
      Completes (.contactorDropout k) s (fun m => m.isPending .contactorDropout = true)) ∧
    (∀ k, (s.m.coil k).node = true ∨ (s.m.coil k).fb = false ∨ s.m.elapsed (s.m.coil k).nodeAt 30000000 = false →
      Completes (.contactorDropout k) s (fun m => m.flt = s.m.flt)) ∧
    (∀ k, k < 3 → s.m.clk.powered = true → (s.m.coil k).node = false → (s.m.coil k).fb = true →
      s.m.elapsed (s.m.coil k).nodeAt 100000000 = true → (s.m.coil k).welded = false → Completes (.weldedContact k) s (fun m =>
        (m.coil k).welded = true ∧ (s.m.chanLive 0 = false → TakesDemand s.m m 1 18 .trip .lockout) ∧
        (s.m.chanLive 0 = true → bit m.saf.demF 18 = true ∧ TakesDemand s.m m 0 18 .trip .lockout) ∧
        (s.m.clk.procRunning = true → m.isPending .weldedContact = true))) ∧
    (∀ k, (s.m.coil k).node = true ∨ (s.m.coil k).fb = false ∨ (s.m.coil k).welded = true ∨
        s.m.elapsed (s.m.coil k).nodeAt 100000000 = false →
      Completes (.weldedContact k) s (fun m => m.saf = s.m.saf ∧ m.flt = s.m.flt)) ∧
    (∀ k, s.m.clk.procRunning = true → (s.m.coil k).picked = true →
      ((s.m.coil k).node = true ∧ (s.m.coil k).fb = false ∧ s.m.elapsed (s.m.coil k).fbAt 20000000 = true) ∨
        ((s.m.coil k).node = false ∧ (s.m.coil k).wSw = true ∧ (s.m.coil k).fSw = true ∧
          s.m.elapsed (s.m.coil k).nodeAt 20000000 = true) →
      Completes (.contactorLost k) s (fun m => m.isPending .contactorLost = true ∧ bit m.saf.demW 19 = true ∧
        (s.m.flt.pending = [] → TakesDemand s.m m 0 19 .disconnect .safeHold))) ∧
    (∀ k, (s.m.coil k).picked = false ∨ ((s.m.coil k).node = true ∧ (s.m.coil k).fb = true) →
      Completes (.contactorLost k) s (fun m => m.saf = s.m.saf ∧ m.flt = s.m.flt)) ∧
    (∀ k, s.m.clk.procRunning = true → (s.m.coil k).node = true → s.m.elapsed? (s.m.coil k).openedAt 100000000 = true →
      s.m.holdActive = false → s.m.stringLevel = true → Completes (.contactorHeld k) s (fun m =>
        TakesDemand s.m m 0 15 .trip .lockout)) ∧
    (∀ k, (s.m.coil k).node = false ∨ s.m.elapsed? (s.m.coil k).openedAt 100000000 = false ∨ s.m.holdActive = true ∨
        s.m.stringLevel = false → Completes (.contactorHeld k) s (fun m => m.saf = s.m.saf ∧ m.mode = s.m.mode)) ∧
    (s.m.saf.trip = true → s.m.saf.tripDem = 0 → s.m.elapsed s.m.saf.tripAt 500000000 = true →
      s.m.elapsed s.m.saf.tripLast 1000000000 = true → Completes .tripRelease s (fun m =>
        m.saf.trip = false ∧ m.saf.demW = s.m.saf.demW ∧ m.saf.demF = s.m.saf.demF)) ∧
    (s.m.saf.tripDem ≠ 0 ∨ s.m.elapsed s.m.saf.tripAt 500000000 = false ∨ s.m.elapsed s.m.saf.tripLast 1000000000 = false →
      Completes .tripRelease s (fun m => m.saf = s.m.saf))

/-- Walnut's functions on a sweep (R16, R79, R80, R318 to R321). Each complete sweep is evaluated once, with a profile and Walnut live: the
runs of sweeps beyond each limit go on or start again. Two sweeps of a group beyond its limit demand SF-OV or SF-UV, ten beyond the
temperature limits SF-OT and its second stage, a pod absent or missing for ten sweeps the stale sweep; SF-UV stops discharge, the others
disconnect, and a demand ends with its cause. Discharge above 2 A 2 s after the stop escalates to a DISCONNECT, into LOCKOUT with SW3-7
ON, and after 10 s of recovery, no partner demanding it, the stop ends. Where the condition does not hold nothing changes. -/
def Obligations.SweepFunctionsTakeEffect : Prop :=
  ∀ s : State, s.m.clk.procRunning = true →
    (∀ p, s.m.prof = some p → s.m.saf.walnutLive = true → s.m.chain.walnut ≠ [] →
      s.m.chain.evaluated ≠ some s.m.chain.walnutEpoch → Completes .walnutSweepEvaluation s (fun m =>
        m.chain.evaluated = some s.m.chain.walnutEpoch ∧
        m.saf.runOv = runStep s.m.saf.runOv (s.m.chain.walnut.flatMap (fun q => (List.range 16).map (fun k =>
          (groupNo q.1 k, (({ s.m with chain := m.chain } : Mach).groupBeyond p q.1 k q.2).1)))) ∧
        m.saf.runUv = runStep s.m.saf.runUv (s.m.chain.walnut.flatMap (fun q => (List.range 16).map (fun k =>
          (groupNo q.1 k, (({ s.m with chain := m.chain } : Mach).groupBeyond p q.1 k q.2).2)))) ∧
        m.saf.runOt = runOn s.m.saf.runOt (maxInt? (s.m.chain.walnut.flatMap (fun q =>
          if q.2.missing then [] else q.2.data.ntc))) (10 * p.tOt) ∧
        m.saf.runOt2 = runOn s.m.saf.runOt2 (maxInt? (s.m.chain.walnut.flatMap (fun q =>
          if q.2.missing then [] else q.2.data.ntc))) (10 * p.tOt + 1000) ∧
        m.saf.runTint = (if s.m.tIntMax = none then 0 else runOn s.m.saf.runTint s.m.tIntMax (10 * p.tOt + 500)) ∧
        m.saf.coldStop = coldNext s.m.saf.coldStop p (ntcMin s.m.chain.walnut) ∧
        (runsAt m.saf.runOv 2 = true → bit m.saf.demW 0 = true ∧ (bit s.m.saf.demW 0 = false → Disconnects s.m m .lockout)) ∧
        (runsAt m.saf.runOv 1 = false → bit s.m.saf.demP 0 = false → bit m.saf.demW 0 = false) ∧
        (runsAt m.saf.runUv 2 = true → bit m.saf.demW 1 = true ∧
          (bit s.m.saf.demW 1 = false → m.saf.dischargeStop = some s.m.now ∧ m.saf.uvOkSince = none)) ∧
        (10 ≤ m.saf.runOt ∨ 10 ≤ m.saf.runTint → bit m.saf.demW 2 = true ∧
          (bit s.m.saf.demW 2 = false → Disconnects s.m m .lockout)) ∧
        (m.saf.runOt = 0 → m.saf.runTint = 0 → bit s.m.saf.demP 2 = false → bit m.saf.demW 2 = false) ∧
        (10 ≤ m.saf.runOt2 → bit m.saf.demW 3 = true ∧
          (bit s.m.saf.demW 3 = false → m.saf.trip = true ∧ Disconnects s.m m .lockout)) ∧
        (m.saf.runOt2 = 0 → bit s.m.saf.demP 3 = false → bit m.saf.demW 3 = false) ∧
        (s.m.sweepStands = true → bit m.saf.demW 14 = true ∧ (bit s.m.saf.demW 14 = false →
          m.saf.override = true ∧ m.saf.openW = true ∧ m.saf.openF = true ∧
          (m.mode.mode = .safeHold ∨ m.mode.mode = .lockout ∨ s.m.mode.recovery = true))) ∧
        (s.m.sweepStands = false → bit s.m.saf.demP 14 = false → bit m.saf.demW 14 = false))) ∧
    (s.m.prof = none ∨ s.m.saf.walnutLive = false ∨ s.m.chain.walnut = [] ∨
        s.m.chain.evaluated = some s.m.chain.walnutEpoch →
      Completes .walnutSweepEvaluation s (fun m => m.saf = s.m.saf ∧ m.chain = s.m.chain ∧ m.mode = s.m.mode)) ∧
    (s.m.elapsed? s.m.saf.dischargeStop 2000000000 = true → 2000 < s.m.meas.sShunt → s.m.saf.uvEsc = false →
      Completes .uvEscalation s (fun m => m.saf.uvEsc = true ∧ bit m.saf.demW 1 = true ∧ m.saf.last.reaction = 2 ∧
        Disconnects s.m m (if s.m.sw3On 7 = true then .lockout else .safeHold))) ∧
    (s.m.elapsed? s.m.saf.dischargeStop 2000000000 = false ∨ s.m.meas.sShunt ≤ 2000 ∨ s.m.saf.uvEsc = true →
      Completes .uvEscalation s (fun m => m.saf = s.m.saf ∧ m.mode = s.m.mode)) ∧
    (s.m.saf.dischargeStop ≠ none → s.m.elapsed? s.m.saf.uvOkSince 10000000000 = true → bit s.m.saf.demP 1 = false →
      Completes .dischargeStopRelease s (fun m => m.saf.dischargeStop = none ∧ bit m.saf.demW 1 = false ∧
        (bit s.m.saf.demW 1 = true → m.saf.uvEsc = false))) ∧
    (s.m.saf.dischargeStop = none ∨ s.m.elapsed? s.m.saf.uvOkSince 10000000000 = false ∨ bit s.m.saf.demP 1 = true →
      Completes .dischargeStopRelease s (fun m => m.saf = s.m.saf))

/-- Inputs and the demand law (R350 to R355). A conversion writes its input's temperature and PT_FAULT bit, an input that leaves its range
counts one event, and Foxglove sees PT0 to PT3 by itself. A slow epoch writes the control temperature and the demand: the lead's in a
follower that holds one, otherwise the law's, its integrator starting from the lead's last demand, held while the output saturates against
the deviation, with the feedforward of the mode's current and the fits; in STORAGE without feedforward, or 0 where it does not cool; without
any temperature the deviation is a free value (log entry 6). Five slow epochs without a new demand are a fallback. BOOT changes nothing. -/
def Obligations.ThermalLawCommandsTakeEffect : Prop :=
  ∀ s : State, s.m.Shaped →
    (∀ pt temp, s.m.clk.powered = true → s.m.clk.procRunning = true → s.m.mode.mode ≠ .boot → pt < 8 →
      Completes (.ptConversion pt temp) s (fun m => nth m.therm.pt pt none = temp ∧ nth m.therm.ptBad pt false = temp.isNone ∧
        m.therm.nPt = (if temp = none ∧ nth s.m.therm.ptBad pt false = false then satInc s.m.therm.nPt else s.m.therm.nPt) ∧
        (pt < 4 → temp ≠ none → nth m.saf.ptFox pt none = temp) ∧
        ∀ k < 8, k ≠ pt → nth m.therm.pt k none = nth s.m.therm.pt k none)) ∧
    (∀ pt temp, s.m.clk.powered = true → s.m.clk.procRunning = false ∨ s.m.mode.mode = .boot →
      Completes (.ptConversion pt temp) s (fun m => m.therm = s.m.therm ∧
        (pt < 4 → temp ≠ none → nth m.saf.ptFox pt none = temp))) ∧
    (s.m.clk.procRunning = true → s.m.mode.mode = .storage → s.m.storageCools = false → Completes .thermalDemand s (fun m =>
      m.therm.d = 0 ∧ m.therm.idle = true ∧ m.therm.dff = 0 ∧ m.therm.tCtl = s.m.controlTemp ∧ m.therm.storeCool = false ∧
      m.therm.hadD = true ∧ m.therm.noD = 0 ∧ m.therm.fallback = false)) ∧
    (∀ d, s.m.clk.procRunning = true → s.m.mode.mode ≠ .boot → (s.m.mode.mode = .storage → s.m.storageCools = true) →
      s.m.leadDemand = some d → Completes .thermalDemand s (fun m =>
        m.therm.d = d ∧ m.therm.fromLead = true ∧ m.therm.noD = 0 ∧ m.therm.hadD = true ∧ m.therm.fallback = false ∧
        m.therm.idle = false ∧ m.therm.dff = 0 ∧ m.therm.integ = s.m.therm.integ ∧ m.therm.frozen = true ∧
        m.therm.tCtl = s.m.controlTemp)) ∧
    (∀ integ lo e, s.m.clk.procRunning = true → s.m.mode.mode ≠ .boot → (s.m.mode.mode = .storage → s.m.storageCools = true) →
      s.m.leadDemand = none → integ = (if s.m.therm.fromLead then s.m.therm.d else s.m.therm.integ) →
      lo = ((s.m.par 0x2C01 4 : Nat) : Rat) →
      e = (match s.m.controlTemp with
        | some t => ((t - s.m.parS 0x2C01 0 2 : Int) : Rat) / 100
        | none => s.m.coolError) →
      Completes .thermalDemand s (fun m =>
        m.therm.tCtl = s.m.controlTemp ∧ m.therm.fromLead = false ∧ m.therm.idle = false ∧ m.therm.fallback = false ∧
        m.therm.hadD = true ∧ m.therm.noD = 0 ∧ m.therm.storeCool = decide (s.m.mode.mode = .storage) ∧
        m.therm.qff = (if (s.m.mode.mode = .dispatch ∨ s.m.mode.mode = .busForm ∨ s.m.mode.mode = .maintain) ∧
          s.m.fitResistances ≠ [] ∧ s.m.par 0x2C01 3 ≠ 0
          then (s.m.conv.target / 1000) * (s.m.conv.target / 1000) * s.m.stringResistance else 0) ∧
        m.therm.dff = (if m.therm.qff = 0 then 0 else qdiv m.therm.qff ((s.m.par 0x2C01 3 : Nat) : Rat)) ∧
        m.therm.integ = (if (100 ≤ s.m.therm.d ∧ 0 < e) ∨ (s.m.therm.d ≤ lo ∧ e < 0) then integ
          else clampQ (-100) 100 (integ + ((s.m.par 0x2C01 2 : Nat) : Rat) / 10000 * e)) ∧
        m.therm.d = clampQ lo 100 (m.therm.dff + ((s.m.par 0x2C01 1 : Nat) : Rat) / 10 * e + m.therm.integ) ∧
        m.freeCtr = (if s.m.controlTemp = none then s.m.freeCtr + 2 else s.m.freeCtr))) ∧
    (s.m.mode.mode = .boot → Completes .thermalDemand s (fun m => m.therm = s.m.therm)) ∧
    (s.m.clk.procRunning = true → s.m.mode.mode ≠ .boot → s.m.therm.hadD = true → s.m.therm.fallback = false → 5 ≤ s.m.therm.noD →
      Completes .thermalFallback s (fun m => m.therm = { s.m.therm with
        fallback := true, nFallback := satInc s.m.therm.nFallback } ∧
        m.demandInForce = ((s.m.par 0x2C01 5 : Nat) : Rat))) ∧
    (s.m.mode.mode = .boot ∨ s.m.therm.hadD = false ∨ s.m.therm.fallback = true ∨ s.m.therm.noD < 5 →
      Completes .thermalFallback s (fun m => m.therm = s.m.therm))

/-- Fans and coolant units (R356 to R359). A fan's speed is written, with since when it has been below its minimum at 30 % duty, or at it; after
5 s below it is lost, with one event counted, and after 10 s at it recovers. A COOL_STATUS of 8 bytes of a configured unit is stored;
STATE 2, or 500 ms without one, loses the unit, STATE 1 recovers it. COOL_DEMAND makes the frame of every configured unit pending and
advances its SEQ, while this module transmits. Where the condition does not hold, and in BOOT, nothing changes. -/
def Obligations.FanAndCoolantCommandsTakeEffect : Prop :=
  ∀ s : State, s.m.Shaped → s.m.clk.procRunning = true →
    (∀ f rpm, s.m.mode.mode ≠ .boot → f < 4 → Completes (.fanSpeed f rpm) s (fun m => nth m.therm.speed f 0 = rpm ∧
      nth m.therm.slowAt f none = (if 0 < s.m.fanMin f ∧ rpm < s.m.fanMin f ∧ 30 ≤ s.m.fanDuty f then
        some ((nth s.m.therm.slowAt f none).getD s.m.now) else none) ∧
      nth m.therm.okAt f none = (if 0 < s.m.fanMin f ∧ s.m.fanMin f ≤ rpm then
        some ((nth s.m.therm.okAt f none).getD s.m.now) else none) ∧
      nth m.therm.fanLost f false = (nth s.m.therm.fanLost f false && decide (0 < s.m.fanMin f)) ∧
      ∀ k < 4, k ≠ f → nth m.therm.speed k 0 = nth s.m.therm.speed k 0)) ∧
    (∀ f, f < 4 → 0 < s.m.fanMin f → nth s.m.therm.fanLost f false = false →
      s.m.elapsed? (nth s.m.therm.slowAt f none) 5000000000 = true → Completes (.fanLost f) s (fun m =>
        nth m.therm.fanLost f false = true ∧ m.therm.nFan = satInc s.m.therm.nFan ∧
        m.therm.speed = s.m.therm.speed)) ∧
    (∀ f, s.m.fanMin f = 0 ∨ nth s.m.therm.fanLost f false = true ∨
        s.m.elapsed? (nth s.m.therm.slowAt f none) 5000000000 = false →
      Completes (.fanLost f) s (fun m => m.therm = s.m.therm ∧ m.flt = s.m.flt)) ∧
    (∀ f, f < 4 → nth s.m.therm.fanLost f false = true → s.m.elapsed? (nth s.m.therm.okAt f none) 10000000000 = true →
      Completes (.fanRecovered f) s (fun m => nth m.therm.fanLost f false = false ∧ m.therm.nFan = s.m.therm.nFan ∧
        ∀ k < 4, k ≠ f → nth m.therm.fanLost k false = nth s.m.therm.fanLost k false)) ∧
    (∀ f, s.m.elapsed? (nth s.m.therm.okAt f none) 10000000000 = false → Completes (.fanRecovered f) s (fun m =>
      m.therm = s.m.therm)) ∧
    (∀ u data, s.m.mode.mode ≠ .boot → u < 4 → u < s.m.coolUnits → data.length = 8 → Completes (.coolStatus u data) s (fun m =>
      nth m.therm.units u [] = data ∧ nth m.therm.unitAt u none = some s.m.now ∧
      (nth data 0 0 = 1 → nth m.therm.unitLost u false = false) ∧
      (nth data 0 0 = 2 → nth m.therm.unitLost u false = true ∧
        m.therm.nUnit = (if nth s.m.therm.unitLost u false then s.m.therm.nUnit else satInc s.m.therm.nUnit)) ∧
      (nth data 0 0 ≠ 1 → nth data 0 0 ≠ 2 → nth m.therm.unitLost u false = nth s.m.therm.unitLost u false))) ∧
    (∀ u data, s.m.mode.mode = .boot ∨ s.m.coolUnits ≤ u ∨ data.length ≠ 8 → Completes (.coolStatus u data) s (fun m =>
      m.therm = s.m.therm)) ∧
    (∀ u, s.m.mode.mode ≠ .boot → u < 4 → u < s.m.coolUnits →
      (nth s.m.therm.unitAt u none).all (fun t => decide (t + 500000000 ≤ s.m.now)) = true →
      nth s.m.therm.unitLost u false = false → Completes (.coolantUnitLost u) s (fun m =>
        nth m.therm.unitLost u false = true ∧ m.therm.nUnit = satInc s.m.therm.nUnit ∧ m.therm.units = s.m.therm.units)) ∧
    (∀ u, s.m.mode.mode = .boot ∨ s.m.coolUnits ≤ u ∨ nth s.m.therm.unitLost u false = true ∨
        (nth s.m.therm.unitAt u none).any (fun t => decide (s.m.now < t + 500000000)) = true →
      Completes (.coolantUnitLost u) s (fun m => m.therm = s.m.therm)) ∧
    (s.m.mode.mode ≠ .boot → s.m.txDemand = true → Completes .coolDemand s (fun m => ∀ u < 4, u < s.m.coolUnits →
      nth m.therm.seq u 0 = (nth s.m.therm.seq u 0 + 1) % 256 ∧
      ((s.m.canObj u).suspended = false → (m.canObj u).pending = true ∧
        (m.canObj u).next = s.m.coolPayload (nth s.m.therm.seq u 0)))) ∧
    (s.m.mode.mode = .boot ∨ s.m.coolSender = false ∨ s.m.therm.hadD = false ∨ s.m.coolUnits = 0 →
      Completes .coolDemand s (fun m => m.therm = s.m.therm ∧ m.can = s.m.can))

/-- Raising and counting (R362 to R366, R375). A class U or F source that is not pending is counted, takes the next sequence, the latch or
OVERFLOW, drives FAULT_N and escalates to F beside another unacknowledged U; class F enters LOCKOUT. One that is pending is only counted.
A class C source is counted and latches nothing. A counting source is counted, and joins its history while it is not pending: N events in its
window raise it as U and empty the history. -/
def Obligations.FaultEventCommandsTakeEffect : Prop :=
  ∀ s : State, s.m.clk.procRunning = true →
    (∀ src params k, src.native = some k → k ≠ .c → s.m.isPending src = false → Completes (.faultRaise src params) s (fun m =>
      m.flt.nextSeq = s.m.flt.nextSeq + 1 ∧ m.flt.overflow = (s.m.flt.overflow || s.m.flt.latch.isSome) ∧
      m.flt.counts = acount s.m.flt.counts src.id ∧ m.faultNLow = true ∧
      m.flt.raisesU = (if k = .u ∧ s.m.unacked src = [] then satInc s.m.flt.raisesU else s.m.flt.raisesU) ∧
      m.flt.raisesF = (if k = .u ∧ s.m.unacked src = [] then s.m.flt.raisesF else satInc s.m.flt.raisesF) ∧
      m.flt.escalations = (if k = .u ∧ s.m.unacked src ≠ [] then satInc s.m.flt.escalations else s.m.flt.escalations) ∧
      ∃ r : Raise, m.flt.pending = s.m.flt.pending ++ [r] ∧ r.src = src ∧ r.seq = s.m.flt.nextSeq ∧ r.time = s.m.fabTime ∧
        r.params.take 8 = padTo 8 params ∧ r.acked = false ∧ r.cls = (if k = .u ∧ s.m.unacked src ≠ [] then .f else k) ∧
        r.escalated = decide (k = .u ∧ s.m.unacked src ≠ []) ∧ m.flt.latch = some (s.m.flt.latch.getD r) ∧
        (r.cls = .f → ¬ (s.m.mode.mode = .boot ∧ s.m.mode.recovery = true) → m.mode.mode = .lockout) ∧
        (r.cls ≠ .f → m.mode = s.m.mode))) ∧
    (∀ src params k, src.native = some k → k ≠ .c → s.m.isPending src = true → Completes (.faultRaise src params) s (fun m =>
      m.flt = { s.m.flt with counts := acount s.m.flt.counts src.id } ∧ m.mode = s.m.mode)) ∧
    (∀ src params, src.native = some .c → Completes (.faultRaise src params) s (fun m =>
      m.flt = { s.m.flt with counts := acount s.m.flt.counts src.id, raisesC := satInc s.m.flt.raisesC } ∧
      m.mode = s.m.mode)) ∧
    (∀ c src params h, c = .countingEvent src params ∨ c = .faultRaise src params → src.counting = true →
      s.m.isPending src = false →
      h = s.m.now :: (aget s.m.flt.hist src.id []).filter (fun t => decide (s.m.now ≤ t + s.m.countW src)) →
      Completes c s (fun m => m.flt.raisesC = satInc s.m.flt.raisesC ∧
        aget? m.flt.lastEvent src.id = some s.m.now ∧
        (h.length < s.m.countN src → m.flt.pending = s.m.flt.pending ∧ aget? m.flt.hist src.id = some h ∧
          m.flt.counts = acount s.m.flt.counts src.id) ∧
        (s.m.countN src ≤ h.length → m.isPending src = true ∧ aget? m.flt.hist src.id = none ∧
          m.flt.nextSeq = s.m.flt.nextSeq + 1))) ∧
    (∀ c src params, c = .countingEvent src params ∨ c = .faultRaise src params → src.counting = true →
      s.m.isPending src = true → Completes c s (fun m => m.flt.raisesC = satInc s.m.flt.raisesC ∧
        m.flt.counts = acount s.m.flt.counts src.id ∧ m.flt.pending = s.m.flt.pending ∧ m.flt.hist = s.m.flt.hist)) ∧
    (∀ src params, src.counting = false → Completes (.countingEvent src params) s (fun m => m.flt = s.m.flt))

/-- Acknowledge, clear and the collector's own fault (R10, R188, R331, R332, R368, R370, R514). An acknowledge marks every raise up to its sequence.
A clear clears the class U raises up to its sequence whose source is not live, with what its chapter ties to them: the inputs' test faults,
the discrepancy, the demand of a lost contactor, the refusal to rearm; it reports the result, keeps the others, and the latch follows them;
while COLLECTOR_SELF stands it is refused. A session that only observes may do neither. A collector whose copies differ demands SAFE_HOLD. -/
def Obligations.FaultRequestsTakeEffect : Prop :=
  ∀ s : State, s.m.clk.procRunning = true →
    (∀ seq role, 1 ≤ role → Completes (.faultAcknowledge seq role) s (fun m =>
      m.flt = { s.m.flt with pending := s.m.flt.pending.map (fun r => if r.seq ≤ seq then { r with acked := true } else r) } ∧
      .writeStatus 0 s.m.fastEpoch ∈ m.out)) ∧
    (∀ c seq, c = .faultAcknowledge seq 0 ∨ c = .faultClear seq 0 → Completes c s (fun m =>
      m.flt = s.m.flt ∧ .writeStatus 0x14 0 ∈ m.out)) ∧
    (∀ seq role, 1 ≤ role → s.m.flt.selfFault = false → Completes (.faultClear seq role) s (fun m =>
      m.flt.pending = s.m.flt.pending.filter (fun r =>
        !(r.cls == .u && decide (r.seq ≤ seq) && !s.m.isLive r.src)) ∧
      m.flt.clearResult = (if m.flt.pending.isEmpty then 1
        else if m.flt.pending.any (fun r => r.cls == .u && decide (r.seq ≤ seq)) then 2
        else if m.flt.pending.any (fun r => decide (seq < r.seq)) then 3 else 4) ∧
      (m.flt.pending = [] → m.flt.latch = none ∧ m.flt.overflow = false) ∧
      (m.flt.pending ≠ [] → s.m.flt.latch.all (fun l => m.flt.pending.any (fun r => r.src == l.src)) = true →
        s.m.flt.latch ≠ none → m.flt.latch = s.m.flt.latch) ∧
      (m.flt.pending ≠ [] → s.m.flt.latch.any (fun l => m.flt.pending.all (fun r => r.src != l.src)) = true →
        m.flt.latch = m.flt.pending.head?) ∧
      (∀ r ∈ s.m.flt.pending, r.cls = .u → r.seq ≤ seq → s.m.isLive r.src = false →
        (r.src = .siTestFail → ∀ i ∈ m.saf.si, i.testFault = false) ∧ (r.src = .siDiscrepancy → m.saf.discrepancy = false) ∧
        (r.src = .contactorLost → bit m.saf.demW 19 = false) ∧
        (r.src = .fastTripLocked → m.pwm.clearPass = s.m.pwm.refused)) ∧
      .writeStatus 0 s.m.fastEpoch ∈ m.out)) ∧
    (∀ seq role, 1 ≤ role → s.m.flt.selfFault = true → Completes (.faultClear seq role) s (fun m =>
      m.flt = { s.m.flt with clearResult := 5 })) ∧
    Completes .collectorSelf s (fun m => m.flt.selfFault = true ∧ TakesDemand s.m m 0 20 .disconnect .safeHold)

/-- Fault injection (R371 to R373). A SERVICE session's injection on a listed channel for 1 to 1,000 µs runs where the collector accepts it:
outside BOOT and LOCKOUT, Walnut live, the other channel without a path fault, no demand, hold or live loop break, none running or ended
within 1 s, at a point of the table; elsewhere it is REFUSED. It ends PASSED with the time to a masked demand within its duration, where
that is no shorter than the shortest that can pass, FAILED otherwise, and ABORTED_REAL at a real event of its source. -/
def Obligations.InjectionCommandsTakeEffect : Prop :=
  ∀ s : State, s.m.clk.procRunning = true →
    (∀ src chan dur role, 3 ≤ role → chan ≤ 1 → 0 < dur → dur ≤ 1000 →
      s.m.mode.mode ≠ .boot → s.m.mode.mode ≠ .lockout → s.m.saf.walnutLive = true →
      bit s.m.mode.bootResult (if chan = 0 then 3 else 2) = false → s.m.saf.demW = 0 → s.m.saf.demF = 0 →
      s.m.holdActive = false → ¬ (src = 0x090 ∧ s.m.isLive .alarmLoopBroken = true) → s.m.flt.inj = none →
      s.m.flt.injEnd.all (fun t => decide (t + 1000000000 ≤ s.m.now)) = true →
      (if chan = 0 then src ∈ [0, 1, 2, 4, 5, 6, 7, 8, 9, 10, 11]
        else (src = 2 ∧ s.m.sw3On 3 = true) ∨ src ∈ [4, 5, 6, 7, 8, 9, 10, 11, 0x090]) →
      Completes (.faultInjection src chan dur role) s (fun m =>
        m.flt.inj = some { src := src, chan := chan, dur := dur, start := s.m.fabTime, response := none } ∧
        m.flt.injResult = 1 ∧ m.flt.injections = satInc s.m.flt.injections ∧
        m.flt.injRequest = src + 2 ^ 16 * chan + 2 ^ 24 * dur ∧ .writeStatus 0 s.m.fastEpoch ∈ m.out)) ∧
    (∀ src chan dur role, 3 ≤ role → chan ≤ 1 → 0 < dur → dur ≤ 1000 → s.m.injectOk src chan = false →
      Completes (.faultInjection src chan dur role) s (fun m => m.flt.inj = s.m.flt.inj ∧ m.flt.injResult = 5 ∧
        m.flt.injections = s.m.flt.injections ∧ .writeStatus 0x21 s.m.fastEpoch ∈ m.out)) ∧
    (∀ src chan dur role, role < 3 → Completes (.faultInjection src chan dur role) s (fun m =>
      m.flt = s.m.flt ∧ .writeStatus 0x14 0 ∈ m.out)) ∧
    (∀ src chan dur role, 3 ≤ role → (1 < chan ∨ dur = 0 ∨ 1000 < dur) → Completes (.faultInjection src chan dur role) s
      (fun m => m.flt = s.m.flt ∧ .writeStatus 0x17 0 ∈ m.out)) ∧
    (∀ i r, s.m.flt.inj = some i → r ≤ i.dur → shortestPass i.src i.chan ≤ i.dur →
      Completes (.injectionEnd (some r)) s (fun m => m.flt.inj = none ∧ m.flt.injResult = 2 ∧ m.flt.injResponse = r ∧
        m.flt.injEnd = some s.m.now ∧ m.flt.pending = s.m.flt.pending ∧
        m.flt.counts = (if i.src = 0x090 then acount s.m.flt.counts 0x090 else s.m.flt.counts))) ∧
    (∀ i r, s.m.flt.inj = some i → r.all (fun x => decide (i.dur < x ∨ i.dur < shortestPass i.src i.chan)) = true →
      Completes (.injectionEnd r) s (fun m => m.flt = { s.m.flt with
        inj := none, injResult := 3, injResponse := 0, injEnd := some s.m.now })) ∧
    (s.m.flt.inj ≠ none → Completes .injectionAbort s (fun m => m.flt = { s.m.flt with
      inj := none, injResult := 4, injResponse := 0, injEnd := some s.m.now, injAborted := satInc s.m.flt.injAborted })) ∧
    (∀ c r, c = .injectionEnd r ∨ c = .injectionAbort → s.m.flt.inj = none → Completes c s (fun m => m.flt = s.m.flt))

/-- Records enter the staging queue and are committed (R378 to R386). A record of a listed code and class takes the next SEQ in the queue, or is
dropped and counted at a full one; a privileged one captures a snapshot where none was in the last 1 ms, else joins it; class C is written
once in 100 ms for a source, with the count held back. Another code is not written. The oldest staged record goes to the ring and, while it
is not full, to the vault; below half full after drops, RECORDS_LOST follows. A SERVICE session's clear (R387, R388) commits the staging
queue and runs, but is refused in LOCKOUT, with class F pending or while one runs; while it runs nothing is committed; done, it leaves a
ledger entry and RECORDER_CLEARED, and the cleared regions empty but for it and the waiting snapshots. -/
def Obligations.RecorderCommandsTakeEffect : Prop :=
  (∀ s : State, s.m.clk.procRunning = true →
    (∀ code src cls params, codeClassOk code cls = true → code ≠ 0x0202 → s.m.seed.staging.length < 1024 →
      Completes (.recordCreate code src cls params) s (fun m => m.seed.nextSeq = seqNext s.m.seed.nextSeq ∧
        m.seed.snapCount = (if (s.m.mkRec code src params cls).privileged = true ∧ s.m.seed.clear = none ∧
          s.m.seed.lastSnap.all (fun t => decide (t + 1000000 < s.m.now)) = true then s.m.seed.snapCount + 1 else s.m.seed.snapCount) ∧
        m.seed.nCoalesced = (if (s.m.mkRec code src params cls).privileged = true ∧
          s.m.seed.lastSnap.any (fun t => decide (s.m.now ≤ t + 1000000)) = true then satInc s.m.seed.nCoalesced
          else s.m.seed.nCoalesced) ∧
        ∃ r : SeedRec, m.seed.staging = s.m.seed.staging ++ [r] ∧ r.code = code ∧ r.source = src ∧
          r.seq = s.m.seed.nextSeq ∧ r.time = s.m.fabTime ∧ r.params = padTo 10 params ∧ r.mode = s.m.modeByte ∧
          r.cls = cls + bitIf 5 s.m.fab.untraceable + bitIf 6 ((s.m.mkRec code src params cls).privileged &&
            s.m.seed.lastSnap.all (fun t => decide (t + 1000000 < s.m.now))))) ∧
    (∀ code src cls params, codeClassOk code cls = true → code ≠ 0x0202 → 1024 ≤ s.m.seed.staging.length →
      Completes (.recordCreate code src cls params) s (fun m => m.seed.staging = s.m.seed.staging ∧
        m.seed.dropped = s.m.seed.dropped + 1 ∧ m.seed.nLost = satInc s.m.seed.nLost ∧ m.seed.lost = true ∧
        m.seed.nextSeq = seqNext s.m.seed.nextSeq ∧
        m.seed.firstLost = (if s.m.seed.dropped = 0 then s.m.seed.nextSeq else s.m.seed.firstLost))) ∧
    (∀ src params x, s.m.seed.suppress.find? (fun y => y.src == src) = some x → s.m.now < x.last + 100000000 →
      Completes (.recordCreate 0x0202 src 1 params) s (fun m => m.seed.staging = s.m.seed.staging ∧
        m.seed.nSuppressed = satInc s.m.seed.nSuppressed ∧
        (m.seed.suppress.find? (fun y => y.src == src)).map (fun y => (y.last, y.held)) = some (x.last, min 65535 (x.held + 1)))) ∧
    (∀ src params, (s.m.seed.suppress.find? (fun y => y.src == src)).all (fun x => decide (x.last + 100000000 ≤ s.m.now)) = true →
      s.m.seed.staging.length < 1024 → Completes (.recordCreate 0x0202 src 1 params) s (fun m =>
        (m.seed.suppress.find? (fun y => y.src == src)).map (fun y => (y.last, y.held)) = some (s.m.now, 0) ∧
        ∃ r : SeedRec, m.seed.staging = s.m.seed.staging ++ [r] ∧ r.code = 0x0202 ∧ r.source = src ∧
          r.params = padTo 10 (u16 (((s.m.seed.suppress.find? (fun y => y.src == src)).map (fun x => x.held)).getD 0)
            ++ params.take 8))) ∧
    (∀ code src cls params, codeClassOk code cls = false → Completes (.recordCreate code src cls params) s (fun m =>
      m.seed = s.m.seed)) ∧
    (∀ r rest, s.m.seed.clear = none → s.m.seed.staging = r :: rest → s.m.seed.dropped = 0 → Completes .recordCommit s (fun m =>
      m.seed.staging = rest ∧ m.seed.lastSeq = r.seq ∧
      m.seed.ring = (if s.m.seed.ring.length < 8192 then s.m.seed.ring ++ [r] else s.m.seed.ring.drop 1 ++ [r]) ∧
      m.seed.vault = (if s.m.seed.vault.length < 1024 then s.m.seed.vault ++ [r] else s.m.seed.vault))) ∧
    (∀ r rest, s.m.seed.clear = none → s.m.seed.staging = r :: rest → 0 < s.m.seed.dropped → rest.length < 512 →
      Completes .recordCommit s (fun m => m.seed.dropped = 0 ∧ m.seed.lastSeq = r.seq ∧
        ∃ q : SeedRec, m.seed.staging = rest ++ [q] ∧ q.code = 0x0800 ∧
          q.params.take 8 = u32 s.m.seed.dropped ++ u32 s.m.seed.firstLost)) ∧
    (s.m.seed.clear ≠ none → Completes .recordCommit s (fun m => m.seed = s.m.seed))) ∧
  (∀ s : State, s.m.clk.procRunning = true →
    (∀ what role iface cert, 3 ≤ role → what < 4 → s.m.mode.mode ≠ .lockout → s.m.anyPending .f = false → s.m.seed.clear = none →
      Completes (.recorderClear what role iface cert) s (fun m =>
        m.seed.staging = [] ∧ m.seed.clearResult = 1 ∧ m.seed.clearRequest = what ∧ m.seed.nextSeq = seqNext s.m.seed.nextSeq ∧
        (s.m.seed.staging.getLast?.all (fun r => m.seed.ring.getLast? == some r)) = true ∧
        (m.seed.clear.any (fun c => decide (c.what = what ∧ c.start = s.m.fabTime ∧ c.iface = iface ∧ c.cert = cert ∧
          c.cleared.code = 0x0801 ∧ c.cleared.seq = s.m.seed.nextSeq ∧ c.waiting = []))) = true ∧
        .writeStatus 0 s.m.fastEpoch ∈ m.out)) ∧
    (∀ what role iface cert, 3 ≤ role → what < 4 →
      s.m.mode.mode = .lockout ∨ s.m.anyPending .f = true ∨ s.m.seed.clear ≠ none →
      Completes (.recorderClear what role iface cert) s (fun m => m.seed = { s.m.seed with
        clearRequest := what, clearResult := 3 } ∧ .writeStatus 0x21 0 ∈ m.out)) ∧
    (∀ what role iface cert, role < 3 ∨ 4 ≤ what → Completes (.recorderClear what role iface cert) s (fun m =>
      m.seed = s.m.seed ∧ .writeStatus (if role < 3 then 0x14 else 0x17) 0 ∈ m.out)) ∧
    (∀ c, s.m.seed.clear = some c → Completes .recorderClearDone s (fun m =>
      m.seed.clear = none ∧ m.seed.clearResult = 2 ∧ m.seed.nextLseq = s.m.seed.nextLseq + 1 ∧
      ((aget? m.seed.ledger (ledgerSlot s.m.seed.nextLseq)).any (fun e => decide (e.what = c.what ∧ e.time = c.start ∧
        e.lseq = s.m.seed.nextLseq ∧ e.iface = c.iface ∧ e.cert = c.cert))) = true ∧
      m.seed.ring.getLast? = some c.cleared ∧ (bit c.what 0 = true → m.seed.ring = [c.cleared]) ∧
      (bit c.what 1 = true → m.seed.snapCount = c.waiting.length ∧ m.seed.snaps = numbered c.waiting) ∧
      (bit c.what 1 = false → m.seed.snaps = s.m.seed.snaps))) ∧
    (s.m.seed.clear = none → Completes .recorderClearDone s (fun m => m.seed = s.m.seed)))

/-- Commits and compaction (R394, R396, R397, R399 to R401, R473). The oldest waiting transaction enters the journal with its MARK and the next
RSEQ, but waits where it would enter the reserve, and none is committed after the flush. A compaction starts at 75 % of the journal or 1 h
after the last, with no brown-out warning, and holds R_c; done, it leaves a base of the other copy with GEN + 1 in both superblock
copies, the journal behind R_c, and every covered value in the base. Where the condition does not hold nothing changes. -/
def Obligations.StoreCommandsTakeEffect : Prop :=
  ∀ s : State, s.m.clk.procRunning = true →
    (∀ p rest, s.m.nv.pending = p :: rest → s.m.nv.flushed = false →
      (s.m.nv.flushing = true ∨ s.m.nv.fillBytes + txnBytes p.items ≤ 589824) →
      Completes .journalCommit s (fun m => m.nv.pending = rest ∧ m.nv.rseq = rseqAdd s.m.nv.rseq (txnRecords p.items) ∧
        ∃ t : Txn, m.nv.journal = s.m.nv.journal ++ [t] ∧ t.items = p.items ∧ t.valid = true ∧ t.rseq = m.nv.rseq ∧
          t.bytes = txnBytes p.items)) ∧
    (∀ p rest, s.m.nv.pending = p :: rest → s.m.nv.flushed = false → s.m.nv.flushing = false →
      589824 < s.m.nv.fillBytes + txnBytes p.items →
      Completes .journalCommit s (fun m => m.nv = { s.m.nv with reserveWait := true })) ∧
    (s.m.nv.pending = [] ∨ s.m.nv.flushed = true → Completes .journalCommit s (fun m => m.nv = s.m.nv)) ∧
    (491520 ≤ s.m.nv.fillBytes ∨ s.m.nv.compAt + 3600000000000 ≤ s.m.fabTime → s.m.nv.compact = none → s.m.nv.flushed = false →
      s.m.clk.warning = false → Completes .compactionStart s (fun m =>
        m.nv = { s.m.nv with compact := some (s.m.nv.rseq, s.m.fabTime) })) ∧
    ((s.m.nv.fillBytes < 491520 ∧ s.m.fabTime < s.m.nv.compAt + 3600000000000) ∨ s.m.nv.compact ≠ none ∨
        s.m.nv.flushed = true ∨ s.m.clk.warning = true → Completes .compactionStart s (fun m => m.nv = s.m.nv)) ∧
    (∀ rc t, s.m.nv.compact = some (rc, t) → Completes .compactionComplete s (fun m =>
      m.nv.compact = none ∧ m.nv.active = 1 - s.m.nv.active ∧ m.nv.gen = (s.m.nv.gen + 1) % 2 ^ 32 ∧
      m.nv.headRseq = rseqAdd rc 1 ∧ m.nv.compAt = s.m.fabTime ∧ m.nv.nComp = satInc s.m.nv.nComp ∧
      m.nv.reserveWait = false ∧ m.nv.superA = { gen := m.nv.gen, active := m.nv.active, head := m.nv.head, headRseq :=
        m.nv.headRseq } ∧ m.nv.superB = m.nv.superA ∧ m.nv.pending = s.m.nv.pending ∧
      (∀ i ∈ s.m.nv.base, ∃ j ∈ m.nv.base, j.key = i.key) ∧
      (∀ before after u, s.m.nv.journal = before ++ u :: after → u.rseq = rc → (∀ v ∈ before, v.rseq ≠ rc) →
        m.nv.journal = after ∧ m.nv.head = (s.m.nv.head + (before ++ [u]).foldl (fun a v => a + v.bytes) 0) % 655360 ∧
        ∀ v ∈ before ++ [u], v.valid = true → ∀ i ∈ v.items, ∃ j ∈ m.nv.base, j.key = i.key))) ∧
    (s.m.nv.compact = none → Completes .compactionComplete s (fun m => m.nv = s.m.nv))

/-- Sessions (R410 to R415, R449, R454 to R458). A HELLO gets a free SID and a mailbox of its size, out of BOOT, or on J5 under the recovery loader,
or is refused without one: no mailbox, no such size, no authentication. FINISH opens the session with the role of an anchored, signed, valid
certificate that is not revoked, or in the bootstrap window with SERVICE, or ends it. CLOSE and 60 s without a frame end a session and the
load it carries, KEEPALIVE is echoed, an unknown SID is answered SESSION, a frame not accepted is discarded, and an expert unlock of 900 s
clears. -/
def Obligations.SessionCommandsTakeEffect : Prop :=
  ∀ s : State, s.m.clk.procRunning = true →
    (∀ iface size relay source, s.m.mode.mode ≠ .boot ∨ s.m.mode.recovery = true → s.m.mode.recovery = false ∨ iface = 0 →
      s.m.mbx.sessions.length < (if s.m.mode.recovery = true then 1 else 16) →
      sizeOk iface size = true → Completes (.hello iface size relay source true) s (fun m => ∃ x : Session,
        m.mbx.sessions = s.m.mbx.sessions ++ [x] ∧ x.sid = freeSid s.m.mbx.sessions 16 (s.m.mbx.sidNext % 65535 + 1) ∧
        x.iface = iface ∧ x.size = size ∧ x.opened = false ∧ x.last = s.m.now ∧ x.source = source ∧
        x.relay = (if iface = 0 then 0xFFFF else relay) ∧ .helloReply x.sid size ∈ m.out)) ∧
    (∀ iface size relay source ok, s.m.mode.mode ≠ .boot ∨ s.m.mode.recovery = true → s.m.mode.recovery = false ∨ iface = 0 →
      (if s.m.mode.recovery = true then 1 else 16) ≤ s.m.mbx.sessions.length →
      Completes (.hello iface size relay source ok) s (fun m => m.mbx.sessions = s.m.mbx.sessions ∧
        m.mbx.nRefused = satInc s.m.mbx.nRefused ∧ .plainFrame 0x02 0x41 0 ∈ m.out)) ∧
    (∀ iface size relay source ok, s.m.mode.mode ≠ .boot ∨ s.m.mode.recovery = true → s.m.mode.recovery = false ∨ iface = 0 →
      s.m.mbx.sessions.length < (if s.m.mode.recovery = true then 1 else 16) →
      sizeOk iface size = false ∨ ok = false → Completes (.hello iface size relay source ok) s (fun m =>
        m.mbx.sessions = s.m.mbx.sessions ∧ m.mbx.nRefused = satInc s.m.mbx.nRefused ∧
        .plainFrame 0x02 (if sizeOk iface size = true then 0x40 else 0x42) 0 ∈ m.out ∧
        m.upd.nAuth = (if sizeOk iface size = true then satInc s.m.upd.nAuth else s.m.upd.nAuth))) ∧
    (∀ iface size relay source ok, (s.m.mode.mode = .boot ∧ s.m.mode.recovery = false) ∨ (s.m.mode.recovery = true ∧ iface ≠ 0) →
      Completes (.hello iface size relay source ok) s (fun m => m.mbx = s.m.mbx ∧ m.out = [])) ∧
    (∀ f c x r, s.m.session f.sid = some x → x.opened = false → x.accepts f = true → c.sigOk = true → s.m.notRevoked c = true →
      s.m.certValid c = true → c.anchored = true → c.role = some r → (s.m.mode.recovery = true → r = .service) →
      Completes (.finish f c) s (fun m => m.session f.sid = some
          { x with opened := true, role := r, bootstrap := false, cert := c.digest % 2 ^ 32, rx := f.tseq, last := s.m.now,
                   relayId := f.relayId })) ∧
    (∀ f c x t, s.m.session f.sid = some x → x.opened = false → x.accepts f = true → c.sigOk = true → s.m.notRevoked c = true →
      s.m.certValid c = true → c.anchored = false → s.m.anchorsEmpty = true → x.iface = 0 → c.selfSigned = true →
      s.m.clk.bootstrap = some t → s.m.now < t + 300000000000 →
      Completes (.finish f c) s (fun m => m.session f.sid = some
        { x with opened := true, role := .service, bootstrap := true, cert := c.digest % 2 ^ 32, rx := f.tseq, last := s.m.now,
                 relayId := f.relayId })) ∧
    (∀ f c x, s.m.session f.sid = some x → x.opened = false → x.accepts f = true →
      c.sigOk = false ∨ s.m.notRevoked c = false ∨ s.m.certValid c = false ∨ (c.anchored = true ∧ c.role = none) ∨
        (s.m.mode.recovery = true ∧ c.anchored = true ∧ c.role ≠ some .service) ∨
        (c.anchored = false ∧ s.m.bootstrapOk x c = false) →
      Completes (.finish f c) s (fun m => m.session f.sid = none ∧ m.upd.nAuth = satInc s.m.upd.nAuth ∧
        m.mbx.nRefused = satInc s.m.mbx.nRefused ∧ .plainFrame 0x03 0x40 f.sid ∈ m.out)) ∧
    (∀ f x, Opens s f x → Completes (.close f) s (fun m => m.session f.sid = none ∧
      (s.m.upd.loader = some f.sid → m.upd.loader = none))) ∧
    (∀ f x, Opens s f x → Completes (.keepalive f) s (fun m => Answers f x 0x05 0 m ∧
      m.session f.sid = some { x with rx := f.tseq, tx := x.tx + 1, last := s.m.now, relayId := f.relayId })) ∧
    (∀ f c, s.m.session f.sid = none → Completes (.finish f c) s (fun m => m.mbx = s.m.mbx ∧ .plainFrame 0x03 0x43 f.sid ∈ m.out)) ∧
    (∀ f, s.m.session f.sid = none → Completes (.close f) s (fun m => m.mbx = s.m.mbx ∧ .plainFrame 0x04 0x43 f.sid ∈ m.out)) ∧
    (∀ f, s.m.session f.sid = none → Completes (.keepalive f) s (fun m =>
      m.mbx = s.m.mbx ∧ .plainFrame 0x05 0x43 f.sid ∈ m.out)) ∧
    (∀ f c k x, k = .close f ∨ k = .keepalive f ∨ k = .finish f c → s.m.session f.sid = some x →
      x.accepts f = false ∨ x.opened = decide (k = .finish f c) →
      Completes k s (fun m => m.mbx = { s.m.mbx with nDisc := satInc s.m.mbx.nDisc })) ∧
    (Completes .sessionTimeout s (fun m => (∀ x ∈ s.m.mbx.sessions, s.m.elapsed x.last 60000000000 = true →
        m.session x.sid = none) ∧
      ∀ x ∈ s.m.mbx.sessions, (∀ y ∈ s.m.mbx.sessions, y.sid = x.sid → s.m.elapsed y.last 60000000000 = false) →
        x ∈ m.mbx.sessions)) ∧
    (Completes .expertUnlockExpiry s (fun m => m.mbx.sessions = s.m.mbx.sessions.map (fun x =>
      if s.m.elapsed? x.unlock 900000000000 then { x with unlock := none } else x)))

/-- Transfers and reads (R411, R413, R416 to R420). A READ of an object that is not served, or beyond it, is refused, a streamed one answered at
once, any other waits for its capture; so does a READ_SET within its limits. The capture at a later boundary is answered with the objects' bytes,
in a pool of 512 KiB, and a request that has waited 100 ms with BUSY. ACK brings the next segment, the last one again, or completes the
transfer; ABORT and 2 s without progress end it. A request while another is answered is BUSY, a segment with more to come is acknowledged,
one already taken acknowledged again; an unknown SID is answered SESSION, a frame not accepted discarded. -/
def Obligations.TransferCommandsTakeEffect : Prop :=
  ∀ s : State, s.m.clk.procRunning = true →
    (∀ f x idx sub o l, HandsOn s f x → s.m.served idx sub = none → Completes (.mailboxRead f idx sub o l) s (fun m =>
      Answers f x 0x10 0x10 m)) ∧
    (∀ f x idx sub o l r, HandsOn s f x → s.m.served idx sub = some r →
      (isOctets idx sub r.len = false ∧ (o ≠ 0 ∨ l ≠ 0)) ∨ r.len < o →
      Completes (.mailboxRead f idx sub o l) s (fun m => Answers f x 0x10 0x17 m)) ∧
    (∀ f x idx sub o l r, HandsOn s f x → s.m.served idx sub = some r → (isOctets idx sub r.len = true ∨ (o = 0 ∧ l = 0)) →
      o ≤ r.len → isStreamed idx sub = false → Completes (.mailboxRead f idx sub o l) s (fun m =>
        (m.session f.sid).map (fun y => y.wait) = some (some
          { cmd := 0x10, objs := [(idx, sub)], offset := o, length := l,
            at_ := s.m.now, epoch := s.m.fastEpoch }))) ∧
    (∀ f x idx o l r, HandsOn s f x → s.m.served idx 0 = some r → idx = 0x2E01 ∨ idx = 0x2E02 → o ≤ r.len →
      Completes (.mailboxRead f idx 0 o l) s (fun m => Answers f x 0x10 0 m ∧
        (m.session f.sid).map (fun y => y.resp) = some (some
          { cmd := 0x10, status := 0, body := [], streamed := some (idx, o, if l = 0 then r.len - o else min l (r.len - o)) }))) ∧
    (∀ f x objs, HandsOn s f x → objs ≠ [] → objs.length ≤ 256 → s.m.setBytes objs ≤ 196608 →
      Completes (.readSet f objs) s (fun m => (m.session f.sid).map (fun y => y.wait) = some (some
        { cmd := 0x11, objs := objs, offset := 0, length := 0, at_ := s.m.now, epoch := s.m.fastEpoch }))) ∧
    (∀ f x objs, HandsOn s f x → objs = [] ∨ 256 < objs.length → Completes (.readSet f objs) s (fun m =>
      Answers f x 0x11 0x17 m)) ∧
    (∀ f x objs, HandsOn s f x → objs ≠ [] → objs.length ≤ 256 → 196608 < s.m.setBytes objs →
      Completes (.readSet f objs) s (fun m => Answers f x 0x11 0x33 m)) ∧
    (∀ f x c, c = .mailboxRead f 0x1000 0 0 0 ∨ c = .readSet f [(0x1000, 0)] → Opens s f x → f.seg = x.rxSegs →
      x.sending = true ∨ f.more = true → Completes c s (fun m =>
        Answers f x (if x.sending = true then (if c = .readSet f [(0x1000, 0)] then 0x11 else 0x10) else 0x14)
          (if x.sending = true then 0x30 else 0) m ∧
        (m.session f.sid).all (fun y => y.rxSegs == (if x.sending then x.rxSegs else x.rxSegs + 1)) = true)) ∧
    (∀ f x c, c = .mailboxRead f 0x1000 0 0 0 ∨ c = .readSet f [(0x1000, 0)] → Opens s f x → f.seg < x.rxSegs →
      Completes c s (fun m => Answers f x 0x14 0 m ∧ (m.session f.sid).all (fun y => y.rxSegs == x.rxSegs) = true)) ∧
    (∀ f x r, Opens s f x → x.unacked = true → x.resp = some r → f.seg = (x.txSeg - 1) % 65536 → x.sending = true →
      Completes (.ack f) s (fun m => Answers f x r.cmd r.status m ∧
        (m.session f.sid).map (fun y => (y.txSeg, y.txAt, y.sending)) =
          some (x.txSeg + 1, s.m.now, decide (x.txSeg + 1 < x.segments r)))) ∧
    (∀ f x r, Opens s f x → x.unacked = true → x.resp = some r → f.seg ≠ (x.txSeg - 1) % 65536 →
      f.seg = (x.txSeg + 65534) % 65536 → 0 < x.txSeg → Completes (.ack f) s (fun m => Answers f x r.cmd r.status m ∧
        (m.session f.sid).map (fun y => (y.txSeg, y.txAt)) = some (x.txSeg, x.txAt))) ∧
    (∀ f x, Opens s f x → x.unacked = true → f.seg = (x.txSeg - 1) % 65536 → x.sending = false →
      Completes (.ack f) s (fun m => m.session f.sid = some { x with
        unacked := false, pool := 0, rx := f.tseq, last := s.m.now, relayId := f.relayId })) ∧
    (∀ f x, Opens s f x → x.unacked = false → Completes (.ack f) s (fun m => m.session f.sid = some { x with
      rx := f.tseq, last := s.m.now, relayId := f.relayId })) ∧
    (∀ f x, Opens s f x → x.inTransfer = true → Completes (.abort f) s (fun m =>
      m.mbx.nAbort = satInc s.m.mbx.nAbort ∧ m.session f.sid = some
        { x with rx := f.tseq, last := s.m.now, relayId := f.relayId, wait := none, resp := none, sending := false,
                 unacked := false, rxSegs := 0, pool := 0 })) ∧
    (∀ f x, Opens s f x → x.inTransfer = false → Completes (.abort f) s (fun m =>
      m.mbx.nAbort = s.m.mbx.nAbort ∧ m.session f.sid = some { x with rx := f.tseq, last := s.m.now, relayId := f.relayId })) ∧
    (∀ f c code, (c, code) ∈ [(Instr.mailboxRead f 0x1000 0 0 0, 0x10), (.readSet f [(0x1000, 0)], 0x11), (.ack f, 0x14),
        (.abort f, 0x15)] → s.m.session f.sid = none → Completes c s (fun m =>
      m.mbx = s.m.mbx ∧ .plainFrame code 0x43 f.sid ∈ m.out)) ∧
    (∀ f c x, c ∈ [Instr.mailboxRead f 0x1000 0 0 0, .readSet f [(0x1000, 0)], .ack f, .abort f] →
      s.m.session f.sid = some x → x.opened = false ∨ x.accepts f = false → Completes c s (fun m =>
        m.mbx = { s.m.mbx with nDisc := satInc s.m.mbx.nDisc })) ∧
    (Completes .transferTimeout s (fun m => (∀ x ∈ s.m.mbx.sessions, s.m.stalled x = true →
        (∃ y, m.session x.sid = some y ∧ y.inTransfer = false) ∧
        ∃ o, .mailbox o ∈ m.out ∧ o.sid = x.sid ∧ o.cmd = 0x15 ∧ o.status = 0x31) ∧
      m.mbx.nAband = satAdd s.m.mbx.nAband (s.m.mbx.sessions.filter s.m.stalled).length)) ∧
    (∀ x rest q, s.m.mbx.sessions = x :: rest → x.wait = some q → q.epoch < s.m.fastEpoch →
      s.m.poolUsed + s.m.setBytes q.objs ≤ 524288 → Completes .capture s (fun m =>
        ∃ o, .mailbox o ∈ m.out ∧ o.sid = x.sid ∧ o.cmd = q.cmd ∧ o.status = 0 ∧ o.tseq = x.tx + 1 ∧
          o.body = (u32 (({ s.m with out := [] } : Mach).captured x.sid q).total ++
            (({ s.m with out := [] } : Mach).captured x.sid q).body).take (x.size - 32))) ∧
    ((∀ x ∈ s.m.mbx.sessions, x.wait.all (fun q => decide (s.m.fastEpoch ≤ q.epoch ∨
        524288 < s.m.poolUsed + s.m.setBytes q.objs)) = true) → Completes .capture s (fun m => m.mbx = s.m.mbx)) ∧
    (Completes .captureBusy s (fun m => ∀ x ∈ s.m.mbx.sessions, ∀ q, x.wait = some q →
      s.m.elapsed q.at_ 100000000 = true → ∃ o, .mailbox o ∈ m.out ∧ o.sid = x.sid ∧ o.cmd = q.cmd ∧ o.status = 0x35)) ∧
    ((∀ x ∈ s.m.mbx.sessions, x.wait.all (fun q => !s.m.elapsed q.at_ 100000000) = true) → Completes .captureBusy s (fun m =>
      m.mbx = s.m.mbx))

/-- Writes of the host (R397, R401, R415, R421 to R423, R433, R435, R440, R458). A write that fails a check is answered with its status and changes
no value; one that passes and is no request keeps its value for the next boundary, or, where the object is nonvolatile, waits for its commit as
one transaction with the answer; a request of a unit is made and answered. A set is checked whole and applied whole or not at all. An
accepted RWE write keeps the session's unlock. At the boundary each value is in force: a parameter in the store, the unlock of its
session, the data of a transmit object, the object resumed, the baseline request, the task. -/
def Obligations.HostWritesTakeEffect : Prop :=
  ∀ s : State, s.m.clk.procRunning = true →
    (∀ f x w, HandsOn s f x → s.m.writeCheck x [] w ≠ 0 → Completes (.write f w) s (fun m =>
      Answers f x 0x12 (s.m.writeCheck x [] w) m ∧ m.params = s.m.params ∧ m.mbx.writes = s.m.mbx.writes ∧
      m.nv = s.m.nv)) ∧
    (∀ f w, (∀ x, s.m.session f.sid = some x → (requestOf x w).isNone = true) → w.nv = false → w.idx < 65536 → w.sub < 256 →
      Defers s (.write f w) f w) ∧
    (∀ f w, (∀ x, s.m.session f.sid = some x → (requestOf x w).isNone = true) → w.nv = true → Stores s (.write f w) f w) ∧
    (∀ f x w, WriteOk s f x w → (requestOf x w).isSome = true → Completes (.write f w) s (fun m =>
      ∃ o, .mailbox o ∈ m.out ∧ o.sid = f.sid ∧ o.cmd = 0x12 ∧ o.tseq = x.tx + 1)) ∧
    (∀ f x ws, HandsOn s f x → (ws = [] ∨ 64 < ws.length) → Completes (.writeSet f ws) s (fun m =>
      Answers f x 0x13 0x17 m ∧ m.mbx.writes = s.m.mbx.writes ∧ m.nv = s.m.nv)) ∧
    (∀ f x ws, HandsOn s f x → ws ≠ [] → ws.length ≤ 64 → (∀ w ∈ ws, (requestOf x w).isNone = true ∧ w.nv = false) →
      s.m.firstFail x ws 0 ws = none → Completes (.writeSet f ws) s (fun m => Answers f x 0x13 0 m ∧
        m.mbx.writes = s.m.mbx.writes ++ ws.map (fun w => { sid := f.sid, idx := w.pair.1 / 256, sub := w.pair.1 % 256
                                                            value := w.value, effect := s.m.fastEpoch + 1 }))) ∧
    (∀ f x ws, HandsOn s f x → ws ≠ [] → ws.length ≤ 64 → (∀ w ∈ ws, (requestOf x w).isNone = true ∧ w.nv = true) →
      s.m.firstFail x ws 0 ws = none → Completes (.writeSet f ws) s (fun m => m.mbx.writes = s.m.mbx.writes ∧
        m.nv.pending.length = s.m.nv.pending.length + 1 ∧ m.nv.pending.getLast?.map (fun p => p.items) =
          some (ws.map (fun w => .param (objKey w.idx w.sub) w.value)))) ∧
    (∀ f x ws i st, HandsOn s f x → ws ≠ [] → ws.length ≤ 64 → (∀ w ∈ ws, (requestOf x w).isNone = true) →
      s.m.firstFail x ws 0 ws = some (i, st) → Completes (.writeSet f ws) s (fun m => Answers f x 0x13 st m ∧
        m.mbx.writes = s.m.mbx.writes ∧ m.nv = s.m.nv ∧ m.params = s.m.params)) ∧
    (∀ f v, Defers s (.expertUnlock f v) f { idx := 0x1200, sub := 1, len := 1, value := v }) ∧
    (∀ f k v, k < 128 → Defers s (.canObjectDataWrite f k v) f { idx := 0x3011, sub := k + 1, len := 64, value := v }) ∧
    (∀ f k, Defers s (.canObjectResume f k) f { idx := 0x3013, sub := 0, len := 1, value := k }) ∧
    (∀ f v, Stores s (.canObjectTableWrite f v) f { idx := 0x3010, sub := 0, len := 2048, value := v }) ∧
    (∀ f v, Stores s (.trustAnchorsWrite f v) f { idx := 0x3110, sub := 0, len := 388, value := v }) ∧
    (∀ c f x w, (c, w) ∈ [(Instr.expertUnlock f 1, ({ idx := 0x1200, sub := 1, len := 1, value := 1 } : WriteVal)),
        (.canObjectDataWrite f 5 7, { idx := 0x3011, sub := 6, len := 64, value := 7 }),
        (.canObjectResume f 5, { idx := 0x3013, sub := 0, len := 1, value := 5 }),
        (.canObjectTableWrite f 0, { idx := 0x3010, sub := 0, len := 2048, value := 0 }),
        (.trustAnchorsWrite f 0, { idx := 0x3110, sub := 0, len := 388, value := 0 })] →
      HandsOn s f x → s.m.writeCheck x [] w ≠ 0 → Completes c s (fun m =>
        Answers f x 0x12 (s.m.writeCheck x [] w) m ∧ m.mbx.writes = s.m.mbx.writes ∧ m.nv = s.m.nv)) ∧
    (∀ w, s.m.mbx.writes = [w] → w.effect ≤ s.m.fastEpoch → w.sub < 256 → Completes .writeEffect s (fun m =>
      m.mbx.writes = [] ∧ (w.idx ∉ [0x1200, 0x2341, 0x3011, 0x3013, 0x2017] → m.par w.idx w.sub = w.value) ∧
      (w.idx = 0x2017 → (if w.sub = 0 then m.mode.taskReq = w.value else m.par w.idx w.sub = w.value)) ∧
      (w.idx = 0x1200 → (m.session w.sid).map (fun y => y.unlock) = (s.m.session w.sid).map (fun _ =>
        if w.value = 1 then some s.m.now else none)) ∧
      (w.idx = 0x3011 → 1 ≤ w.sub → (m.canObj (w.sub - 1)).data = leBytes 64 w.value ∧
        ((s.m.canCfg (w.sub - 1)).enabled = true → (s.m.canCfg (w.sub - 1)).tx = true →
          (s.m.canObj (w.sub - 1)).suspended = false → (m.canObj (w.sub - 1)).pending = true)) ∧
      (w.idx = 0x3013 → (m.canObj w.value).suspended = false) ∧
      (w.idx = 0x2341 → w.value = 1 → m.imp.blRequest = true))) ∧
    (∀ w, s.m.mbx.writes = [w] → s.m.fastEpoch < w.effect → Completes .writeEffect s (fun m =>
      m.mbx = s.m.mbx ∧ m.params = s.m.params)) ∧
    (Completes .writeEffect s (fun m =>
      m.mbx.writes = s.m.mbx.writes.filter (fun w => !decide (w.effect ≤ s.m.fastEpoch))))

/-- The relay and the host port (R407, R408, R414, R426, R454). A host's frame for another node goes out under its RELAY_ID on the plane of the fewer
hops, under a new one where none is held, or is refused: no route, or 32 entries; an answer goes back to its endpoint. Entries end after
60 s, fragment sets after 100 ms. The link, and 1 s after its commit a changed address configuration, set the address in force, and the
latter closes every direct session. Where the condition does not hold nothing changes. -/
def Obligations.RelayAndHostPortTakeEffect : Prop :=
  ∀ s : State,
    (∀ host port target plane e, s.m.clk.procRunning = true → s.m.mode.mode ≠ .boot → s.m.parB 0x1400 8 = true →
      s.m.planeTo target = some plane →
      s.m.mbx.relay.find? (fun x => x.host == host && x.port == port && x.target == target) = some e →
      Completes (.relayFrame host port target) s (fun m => .relayOut e.id target plane ∈ m.out ∧
        m.mbx.nRelay = satInc s.m.mbx.nRelay ∧ m.mbx.relay = s.m.mbx.relay.map (fun z =>
          if z.id = e.id then { z with last := s.m.now } else z))) ∧
    (∀ host port target plane, s.m.clk.procRunning = true → s.m.mode.mode ≠ .boot → s.m.parB 0x1400 8 = true →
      s.m.planeTo target = some plane →
      s.m.mbx.relay.find? (fun x => x.host == host && x.port == port && x.target == target) = none →
      s.m.mbx.relay.length < 32 → Completes (.relayFrame host port target) s (fun m => m.mbx.relay = s.m.mbx.relay ++
        [{ id := (s.m.mbx.relayNext + 1) % 65536, host := host, port := port, target := target, last := s.m.now }] ∧
        m.mbx.relayNext = (s.m.mbx.relayNext + 1) % 65536 ∧ m.mbx.nRelay = satInc s.m.mbx.nRelay ∧
        .relayOut ((s.m.mbx.relayNext + 1) % 65536) target plane ∈ m.out)) ∧
    (∀ host port target, s.m.clk.procRunning = true → s.m.mode.mode ≠ .boot → s.m.parB 0x1400 8 = true →
      s.m.planeTo target = none ∨ (32 ≤ s.m.mbx.relay.length ∧
        s.m.mbx.relay.find? (fun x => x.host == host && x.port == port && x.target == target) = none) →
      Completes (.relayFrame host port target) s (fun m =>
        .plainFrame 0x7F (if s.m.planeTo target = none then 0x50 else 0x51) 0 ∈ m.out ∧
        m.mbx.nRelRef = satInc s.m.mbx.nRelRef ∧ m.mbx.relay = s.m.mbx.relay)) ∧
    (∀ host port target, s.m.mode.mode = .boot ∨ s.m.parB 0x1400 8 = false → Completes (.relayFrame host port target) s (fun m =>
      m.mbx = s.m.mbx ∧ m.out = [])) ∧
    (∀ id e, s.m.clk.procRunning = true → s.m.mbx.relay.find? (fun x => x.id == id) = some e → Completes (.relayReply id) s (fun m =>
      .relayIn e.host e.port ∈ m.out ∧ m.mbx.nRelay = satInc s.m.mbx.nRelay ∧ m.mbx.relay = s.m.mbx.relay.map (fun z =>
        if z.id = id then { z with last := s.m.now } else z))) ∧
    (∀ id, s.m.mbx.relay.find? (fun x => x.id == id) = none → Completes (.relayReply id) s (fun m =>
      m.mbx = s.m.mbx ∧ m.out = [])) ∧
    (s.m.clk.procRunning = true → Completes .relayEntryExpiry s (fun m =>
      m.mbx.relay = s.m.mbx.relay.filter (fun e => !s.m.elapsed e.last 60000000000))) ∧
    (s.m.clk.procRunning = true → Completes .fragmentTimeout s (fun m =>
      m.mbx.frags = s.m.mbx.frags.filter (fun p => !s.m.elapsed p.2 100000000))) ∧
    (∀ lease, s.m.clk.procRunning = true → s.m.elapsed? s.m.mbx.addrAt 1000000000 = true →
      Completes (.addressConfigEffect lease) s (fun m => m.mbx.addrAt = none ∧ (∀ x ∈ m.mbx.sessions, x.iface ≠ 0) ∧
        (s.m.mode.recovery = false → m.mbx.ipv4 = (if s.m.mbx.link = false then 0 else if s.m.par 0x1400 0 = 0 then s.m.par 0x1400 1
          else lease)))) ∧
    (∀ lease, s.m.elapsed? s.m.mbx.addrAt 1000000000 = false → Completes (.addressConfigEffect lease) s (fun m =>
      m.mbx = s.m.mbx)) ∧
    (∀ lease, s.m.clk.powered = true → Completes (.hostPortLinkChange true lease) s (fun m => m.mbx.link = true ∧
      (s.m.clk.procRunning = false → m.mbx.ipv4 = 0) ∧
      (s.m.clk.procRunning = true → s.m.mode.recovery = false →
        m.mbx.ipv4 = (if s.m.par 0x1400 0 = 0 then s.m.par 0x1400 1 else lease)) ∧
      (s.m.clk.procRunning = true → s.m.mode.recovery = true → m.mbx.ipv4 % 65536 = 169 + 256 * 254))) ∧
    (∀ lease, s.m.clk.powered = true → Completes (.hostPortLinkChange false lease) s (fun m => m.mbx.link = false ∧ m.mbx.ipv4 = 0))

/-- CAN reception (R428, R432, R436 to R438). A frame without an error enters its channel's queue with the time of arrival and lowers the receive
error counter, or is dropped at a full one; one with an error raises the counter and enters no queue. Draining empties the queue and fills
the buffer of the lowest-numbered enabled receive object of its channel and identifier; frames of objects 4 to 7 reach the thermal
function. A channel that has integrated takes its configured mode; a due restart stops it with its counters at 0. A channel that does not
run or is bus-off receives nothing; where the condition does not hold nothing changes. -/
def Obligations.CanReceptionTakesEffect : Prop :=
  ∀ s : State, s.m.Shaped → s.m.clk.procRunning = true →
    (∀ ch f, ch < 2 → (s.m.chan ch).running = true → (s.m.chan ch).busOff = false →
      Completes (.canFrameReceived ch f 0) s (fun m => (m.chan ch).alone = false ∧
        (m.chan ch).tec = (s.m.chan ch).tec ∧
        ((s.m.chan ch).mode = 1 → (s.m.chan ch).rec_ ≤ 127 → (m.chan ch).rec_ = (s.m.chan ch).rec_ - 1) ∧
        ((s.m.chan ch).mode = 1 → 127 < (s.m.chan ch).rec_ → 119 ≤ (m.chan ch).rec_ ∧ (m.chan ch).rec_ ≤ 127) ∧
        (256 ≤ (s.m.chan ch).queue.length → (m.chan ch).queue = (s.m.chan ch).queue ∧ (m.chan ch).overflow = some s.m.now) ∧
        ((s.m.chan ch).queue.length < 256 → (m.chan ch).queue = (s.m.chan ch).queue ++
            [{ f with time := s.m.fabTime, own := false,
                      data := if f.rtr = true then [] else f.data.take (dlcBytes (if f.fdf then f.dlc else min f.dlc 8)) }] ∧
          (m.chan ch).overflow = (s.m.chan ch).overflow))) ∧
    (∀ ch f err, ch < 2 → (s.m.chan ch).running = true → (s.m.chan ch).busOff = false → 0 < err →
      Completes (.canFrameReceived ch f err) s (fun m => m.chan ch = { s.m.chan ch with
        rec_ := if (s.m.chan ch).mode = 1 then min 255 ((s.m.chan ch).rec_ + err) else (s.m.chan ch).rec_ })) ∧
    (∀ ch f err, (s.m.chan ch).running = false ∨ (s.m.chan ch).busOff = true → Completes (.canFrameReceived ch f err) s (fun m =>
      m.can = s.m.can)) ∧
    (∀ ch, ch < 2 → Completes (.canQueueDrain ch) s (fun m => (m.chan ch).queue = [])) ∧
    (∀ ch g k, ch < 2 → (s.m.chan ch).queue = [g] → g.own = false → k < 128 → (s.m.canCfg k).enabled = true →
      (s.m.canCfg k).tx = false → (s.m.canCfg k).chan = ch → (s.m.canCfg k).ide = g.ide → (s.m.canCfg k).id = g.id →
      (∀ j < k, ¬ ((s.m.canCfg j).enabled = true ∧ (s.m.canCfg j).tx = false ∧ (s.m.canCfg j).chan = ch ∧
        (s.m.canCfg j).ide = g.ide ∧ (s.m.canCfg j).id = g.id)) →
      Completes (.canQueueDrain ch) s (fun m => (m.chan ch).queue = [] ∧
        m.canObj k = { s.m.canObj k with data := g.data, dlc := g.dlc, time := g.time, rtr := g.rtr, count :=
          ((s.m.canObj k).count + 1) % 2 ^ 32 } ∧
        (4 ≤ k → k < 8 → g.rtr = false → s.m.mode.mode ≠ .boot → k - 4 < s.m.coolUnits → g.data.length = 8 →
          nth m.therm.units (k - 4) [] = g.data ∧ nth m.therm.unitAt (k - 4) none = some s.m.now))) ∧
    (∀ ch g, ch < 2 → (s.m.chan ch).queue = [g] → g.own = true ∨ s.m.canMatch ch g = none →
      Completes (.canQueueDrain ch) s (fun m => (m.chan ch).queue = [] ∧ m.can.objs = s.m.can.objs)) ∧
    (∀ ch, ch < 2 → s.m.mode.mode ≠ .boot → nth s.m.can.restart ch false = false → s.m.par 0x3001 (ch + 1) ≠ 0 →
      Completes (.canIntegration ch) s (fun m => m.chan ch = { s.m.chan ch with
        integrated := true, mode := s.m.par 0x3001 (ch + 1) })) ∧
    (∀ ch, s.m.mode.mode = .boot ∨ nth s.m.can.restart ch false = true ∨ s.m.par 0x3001 (ch + 1) = 0 →
      Completes (.canIntegration ch) s (fun m => m.can = s.m.can)) ∧
    (∀ ch, ch < 2 → nth s.m.can.restart ch false = true → Completes (.canChannelRestart ch) s (fun m =>
      nth m.can.restart ch false = false ∧ m.chan ch = { s.m.chan ch with
        integrated := false, busOff := false, tec := 0, rec_ := 0, mode := s.m.par 0x3001 (ch + 1) })) ∧
    (∀ ch, nth s.m.can.restart ch false = false → Completes (.canChannelRestart ch) s (fun m => m.can = s.m.can))

/-- CAN transmission (R433, R434, R438 to R440). A periodic object that falls due has a pending frame of its newest data. Of pending frames of
one format the lowest identifier is attempted, on equal ones the lowest object: sent, it leaves, enters the queue and lowers the transmit error counter; without an acknowledgement, after 16
of which the channel is alone, with another error or lost, it is attempted again up to the retransmission limit; the third bit error suspends
the object. A counter above 255 is bus-off, which ends after its delay with both counters at 0. A disabled or suspended object, and a channel
that does not run in its normal mode, do nothing. -/
def Obligations.CanTransmissionTakesEffect : Prop :=
  ∀ s : State, s.m.Shaped → s.m.clk.procRunning = true →
    (∀ k, k < 128 → (s.m.canCfg k).enabled = true → (s.m.canCfg k).tx = true → (s.m.canObj k).suspended = false →
      0 < (s.m.canCfg k).period → s.m.fabTime / 1000000 % (s.m.canCfg k).period = 0 →
      Completes (.canPeriodic k) s (fun m => m.canObj k =
        { s.m.canObj k with
          pending := true,
          next := padTo (dlcBytes (s.m.canCfg k).dlc) (match (s.m.canCfg k).src with
            | 0 => (s.m.canObj k).data
            | 1 => (s.m.canObj k).mapped
            | _ => (s.m.canObj k).next),
          attempts := if (s.m.canObj k).pending then (s.m.canObj k).attempts else 0 })) ∧
    (∀ k, (s.m.canCfg k).enabled = false ∨ (s.m.canCfg k).tx = false ∨ (s.m.canObj k).suspended = true ∨
        (s.m.canCfg k).period = 0 ∨ s.m.fabTime / 1000000 % (s.m.canCfg k).period ≠ 0 →
      Completes (.canPeriodic k) s (fun m => m.can = s.m.can)) ∧
    (∀ ch k loop, ch < 2 → (s.m.chan ch).mode = 1 → (s.m.chan ch).running = true → (s.m.chan ch).busOff = false →
      s.m.canNext ch = some k → Completes (.canTransmit ch (.sent loop)) s (fun m =>
        (m.canObj k).pending = false ∧ (m.canObj k).attempts = 0 ∧ (m.canObj k).bitErr = 0 ∧ (m.canObj k).time = s.m.fabTime ∧
        (m.canObj k).count = ((s.m.canObj k).count + 1) % 2 ^ 32 ∧
        (m.chan ch).tec = (s.m.chan ch).tec - 1 ∧ (m.chan ch).ackRun = 0 ∧ (m.chan ch).alone = false ∧
        ((s.m.chan ch).queue.length < 256 → (m.chan ch).queue = (s.m.chan ch).queue ++
          [{ id := (s.m.canCfg k).id, ide := (s.m.canCfg k).ide, fdf := (s.m.canCfg k).fdf, brs := (s.m.canCfg k).brs,
             esi := (s.m.canCfg k).fdf && (s.m.chan ch).passive, rtr := false, dlc := (s.m.canCfg k).dlc,
             data := padTo (dlcBytes (s.m.canCfg k).dlc) (s.m.canObj k).next, time := s.m.fabTime, own := true }]))) ∧
    (∀ ch k dominant, ch < 2 → (s.m.chan ch).mode = 1 → (s.m.chan ch).running = true → (s.m.chan ch).busOff = false →
      s.m.canNext ch = some k → Completes (.canTransmit ch (.noAck dominant)) s (fun m =>
        (m.chan ch).ackRun = (s.m.chan ch).ackRun + 1 ∧
        (m.chan ch).alone = ((s.m.chan ch).alone || decide (15 ≤ (s.m.chan ch).ackRun)) ∧
        (m.chan ch).tec = (if (s.m.chan ch).passive = true ∧ dominant = false then (s.m.chan ch).tec
          else (s.m.chan ch).tec + 8) ∧
        (m.chan ch).busOff = decide (255 < (m.chan ch).tec ∧ ¬ ((s.m.chan ch).passive = true ∧ dominant = false)) ∧
        (m.canObj k).pending = decide ((s.m.canObj k).attempts < s.m.par 0x3004 (ch + 1)) ∧
        (m.canObj k).attempts = (if (m.canObj k).pending = true then (s.m.canObj k).attempts + 1 else 0))) ∧
    (∀ ch k r, r = .lost ∨ r = .error → ch < 2 → (s.m.chan ch).mode = 1 → (s.m.chan ch).running = true →
      (s.m.chan ch).busOff = false → s.m.canNext ch = some k → Completes (.canTransmit ch r) s (fun m =>
        (m.chan ch).ackRun = 0 ∧ (m.chan ch).tec = (if r = .lost then (s.m.chan ch).tec else (s.m.chan ch).tec + 8) ∧
        (m.chan ch).busOff = decide (r = .error ∧ 255 < (m.chan ch).tec) ∧
        (m.canObj k).pending = decide ((s.m.canObj k).attempts < s.m.par 0x3004 (ch + 1)) ∧
        (m.canObj k).attempts = (if (m.canObj k).pending = true then (s.m.canObj k).attempts + 1 else 0))) ∧
    (∀ ch k, ch < 2 → (s.m.chan ch).mode = 1 → (s.m.chan ch).running = true → (s.m.chan ch).busOff = false →
      s.m.canNext ch = some k → Completes (.canTransmit ch .bitError) s (fun m =>
        (m.canObj k).bitErr = min 255 ((s.m.canObj k).bitErr + 1) ∧ (m.chan ch).tec = (s.m.chan ch).tec + 8 ∧
        (m.chan ch).busOff = decide (255 < (m.chan ch).tec) ∧ (m.chan ch).ackRun = 0 ∧
        (2 ≤ (s.m.canObj k).bitErr → (m.canObj k).suspended = true ∧ (m.canObj k).pending = false) ∧
        ((s.m.canObj k).bitErr < 2 → (m.canObj k).suspended = false ∧
          (m.canObj k).pending = decide ((s.m.canObj k).attempts < s.m.par 0x3004 (ch + 1))))) ∧
    (∀ ch r, (s.m.chan ch).mode ≠ 1 ∨ (s.m.chan ch).running = false ∨ (s.m.chan ch).busOff = true ∨ s.m.canNext ch = none →
      Completes (.canTransmit ch r) s (fun m => m.can = s.m.can)) ∧
    (∀ ch k j, s.m.canNext ch = some k → j < 128 → (s.m.canCfg j).enabled = true → (s.m.canCfg j).tx = true →
      (s.m.canCfg j).chan = ch → (s.m.canObj j).pending = true → (s.m.canObj j).suspended = false →
      (∀ i < 128, (s.m.canObj i).pending = true → (s.m.canCfg i).ide = (s.m.canCfg k).ide) →
      j = k ∨ (s.m.canCfg k).before (s.m.canCfg j) k j = true) ∧
    (∀ ch, ch < 2 → (s.m.chan ch).busOff = true → s.m.elapsed (s.m.chan ch).busOffAt (s.m.par 0x3005 0 * 1000000) = true →
      Completes (.canBusOffRecovery ch) s (fun m => m.chan ch = { s.m.chan ch with busOff := false, tec := 0, rec_ := 0 })) ∧
    (∀ ch, (s.m.chan ch).busOff = false ∨ s.m.elapsed (s.m.chan ch).busOffAt (s.m.par 0x3005 0 * 1000000) = false →
      Completes (.canBusOffRecovery ch) s (fun m => m.can = s.m.can))

/-- Images (R447 to R452, R454, R458, R473). A header that passes every check makes the inactive slot LOADING, a failing one is refused with its
result; chunks come in ascending order, a repeat of the last changes nothing, any other is refused, and BUSY under a brown-out warning; the
body check makes the slot VALID or INVALID; 600 s without a chunk empties it. Activation, where R450 allows it, makes the slot the
designated one in TRIAL and resets the processor domain. Confirmation, by a write or by the trial time without a class F fault, makes it
ACTIVE, the other VALID, raises the fused version and revokes what it names. The bootstrap window ends after 300 s. -/
def Obligations.UpdateCommandsTakeEffect : Prop :=
  ∀ s : State, s.m.Shaped → s.m.clk.procRunning = true →
    (∀ f x v cr h, WriteOk s f x { idx := 0x3101, sub := 0, len := 512, value := v, crypto := cr } → h = imgDecode v →
      s.m.mode.recovery = true ∨ (s.m.mode.mode ≠ .boot ∧ s.m.upd.trial = false ∧
        (s.m.upd.loader = none ∨ s.m.upd.loader = some f.sid)) →
      h.magic = 0x55345843 → h.hdrVer = 1 → h.keySlot ≤ 3 → bit s.m.upd.revoked h.keySlot = false → h.hwMin ≤ s.m.upd.hwRev →
      s.m.upd.hwRev ≤ h.hwMax → 0 < h.bodyLen → h.bodyLen ≤ 12582912 → h.entry < h.bodyLen → s.m.upd.fused ≤ h.secVer →
      bit cr 0 = true → bit cr 1 = true → bit cr 2 = true → Completes (.imageHeader f v cr) s (fun m =>
        Answers f x 0x12 0 m ∧ m.slot s.m.loadSlot = { state := .loading, header := some h } ∧
        m.upd.loader = some f.sid ∧ m.upd.chunks = 0 ∧ m.upd.loadAt = s.m.now ∧ m.upd.checking = false ∧ m.upd.result = 1)) ∧
    (∀ f x v cr r, WriteOk s f x { idx := 0x3101, sub := 0, len := 512, value := v, crypto := cr } →
      s.m.headerFail f.sid (imgDecode v) (bit cr 0) (bit cr 1) (bit cr 2) = some r → Completes (.imageHeader f v cr) s (fun m =>
        Answers f x 0x12 0x21 m ∧ m.upd.result = r ∧ m.upd.nRefused = satInc s.m.upd.nRefused ∧
        (s.m.upd.loader ≠ some f.sid → m.upd.slots = s.m.upd.slots))) ∧
    (∀ f x k d, WriteOk s f x { idx := 0x3101, sub := 1, len := 65540, value := k + 2 ^ 32 * d } → k < 2 ^ 32 →
      s.m.clk.warning = false → s.m.upd.loader = some f.sid → k = s.m.upd.chunks → k < s.m.chunkCount →
      Completes (.imageChunk f (k + 2 ^ 32 * d)) s (fun m => Answers f x 0x12 0 m ∧ m.upd.chunks = k + 1 ∧
        m.upd.lastChunk = some d ∧ m.upd.loadAt = s.m.now ∧ m.upd.checking = decide (k + 1 = s.m.chunkCount))) ∧
    (∀ f x k d, WriteOk s f x { idx := 0x3101, sub := 1, len := 65540, value := k + 2 ^ 32 * d } → k < 2 ^ 32 →
      s.m.clk.warning = false → s.m.upd.loader = some f.sid → k + 1 = s.m.upd.chunks → s.m.upd.lastChunk = some d →
      Completes (.imageChunk f (k + 2 ^ 32 * d)) s (fun m => Answers f x 0x12 0 m ∧ m.upd = s.m.upd)) ∧
    (∀ f x k d, WriteOk s f x { idx := 0x3101, sub := 1, len := 65540, value := k + 2 ^ 32 * d } → k < 2 ^ 32 →
      s.m.clk.warning = true ∨ s.m.upd.loader ≠ some f.sid ∨ s.m.upd.chunks < k ∨ k + 1 < s.m.upd.chunks →
      Completes (.imageChunk f (k + 2 ^ 32 * d)) s (fun m =>
        Answers f x 0x12 (if s.m.clk.warning = true then 0x30 else 0x21) m ∧ m.upd.chunks = s.m.upd.chunks ∧
        m.upd.slots = s.m.upd.slots ∧
        (s.m.clk.warning = false → s.m.upd.loader = some f.sid → m.upd.result = 12))) ∧
    (∀ h t, s.m.upd.checking = true → s.m.upd.designated < 2 → Completes (.imageBodyCheck h t) s (fun m =>
      (m.slot s.m.loadSlot).state = (if h = true ∧ t = true then .valid else .invalid) ∧
      (m.slot s.m.loadSlot).header = (s.m.slot s.m.loadSlot).header ∧
      m.upd.result = (if h = false then 10 else if t = false then 11 else 2) ∧ m.upd.loader = none ∧ m.upd.checking = false)) ∧
    (∀ h t, s.m.upd.checking = false → Completes (.imageBodyCheck h t) s (fun m => m.upd = s.m.upd)) ∧
    (s.m.upd.loader ≠ none → s.m.upd.checking = false → s.m.elapsed s.m.upd.loadAt 600000000000 = true →
      Completes .loadAbandoned s (fun m => m.slot s.m.loadSlot = {} ∧ m.upd.loader = none ∧ m.upd.result = 14)) ∧
    (s.m.upd.loader = none ∨ s.m.upd.checking = true ∨ s.m.elapsed s.m.upd.loadAt 600000000000 = false →
      Completes .loadAbandoned s (fun m => m.upd = s.m.upd)) ∧
    (∀ f x, WriteOk s f x { idx := 0x3101, sub := 3, len := 1, value := 1 } → (s.m.slot s.m.loadSlot).state = .valid →
      s.m.mode.recovery = true ∨ (s.m.mode.mode = .standby ∧ (s.m.paired = false ∨ s.m.pair.pVer.any (fun v =>
        (s.m.slot s.m.loadSlot).header.any (fun h => v != h.pairVer)) = true)) ∨
        (s.m.paired = true ∧ s.m.mode.mode ≠ .boot ∧ s.m.ownMask = 0 ∧ s.m.pair.hbPresent = true ∧
          s.m.pair.pVer.any (fun v => (s.m.slot s.m.loadSlot).header.any (fun h => v != h.pairVer)) = false ∧
          (List.range 12).all (fun k => !decide (k < s.m.nPhases) || bit s.m.pair.pOwn k) = true) →
      Completes (.activate f) s (fun m => Answers f x 0x12 0 m ∧ (m.slot s.m.loadSlot).state = .trial ∧
        m.upd.designated = s.m.loadSlot ∧ m.upd.trial = true ∧ m.upd.boots = 0 ∧ m.upd.result = 16 ∧
        m.clk.procRunning = false ∧ m.clk.lastCause = .activation)) ∧
    (∀ f x, WriteOk s f x { idx := 0x3101, sub := 3, len := 1, value := 1 } → s.m.activateOk = false →
      Completes (.activate f) s (fun m => Answers f x 0x12 0x21 m ∧ m.upd.result = 15 ∧ m.upd.slots = s.m.upd.slots ∧
        m.clk.procRunning = true)) ∧
    (∀ c f x h, s.m.upd.trial = true → s.m.mode.mode ≠ .boot → s.m.upd.designated < 2 →
      (s.m.slot s.m.upd.designated).header = some h →
      (c = .confirm f ∧ WriteOk s f x { idx := 0x3101, sub := 4, len := 1, value := 1 }) ∨
        (c = .trialTimeExpiry ∧ s.m.anyPending .f = false ∧
          s.m.elapsed s.m.upd.trialAt (1000000000 * s.m.par 0x3101 5) = true) →
      Completes c s (fun m => (c = .confirm f → Answers f x 0x12 0 m) ∧
        m.upd.trial = false ∧ m.upd.fused = max s.m.upd.fused h.secVer ∧ m.upd.result = 17 ∧
        m.upd.designated = s.m.upd.designated ∧
        (∀ k < 4, bit m.upd.revoked k = (bit s.m.upd.revoked k || (bit h.revoke k && decide (k ≠ h.keySlot)))) ∧
        (s.m.upd.fused ≤ h.secVer → bit s.m.upd.revoked h.keySlot = false →
          (m.slot s.m.upd.designated).state = .active) ∧
        ((s.m.slot s.m.inactiveSlot).state = .active → (m.slot s.m.inactiveSlot).state = .valid ∨
          (m.slot s.m.inactiveSlot).state = .revoked))) ∧
    (∀ f x, WriteOk s f x { idx := 0x3101, sub := 4, len := 1, value := 1 } → s.m.upd.trial = false ∨ s.m.mode.mode = .boot →
      Completes (.confirm f) s (fun m => Answers f x 0x12 0x21 m ∧ m.upd = s.m.upd)) ∧
    (s.m.upd.trial = false ∨ s.m.mode.mode = .boot ∨ s.m.anyPending .f = true ∨
        s.m.elapsed s.m.upd.trialAt (1000000000 * s.m.par 0x3101 5) = false →
      Completes .trialTimeExpiry s (fun m => m.upd = s.m.upd)) ∧
    (s.m.elapsed? s.m.clk.bootstrap 300000000000 = true → Completes .bootstrapWindowEnd s (fun m =>
      m.clk = { s.m.clk with bootstrap := none })) ∧
    (s.m.elapsed? s.m.clk.bootstrap 300000000000 = false → Completes .bootstrapWindowEnd s (fun m => m.clk = s.m.clk))

/-- Clocks and reset inputs (R14, R466 to R471). A press of an input resets the processor domain, PWM off, owned phases released, Walnut's
coil switches open, and holds it, unless a warning before FLUSHED defers it; its release ends the hold, and within 10 s from the button
opens the bootstrap window. An input pressed for 10 s is stuck, released and ignored; one seen open for 1 s is live again. A clock failure
holds the domain until its recovery. Watchdog and reset request reset the domain. Each keeps the nonvolatile memories and Foxglove's demands. -/
def Obligations.ResetCommandsTakeEffect : Prop :=
  ∀ s : State, s.m.Shaped → s.m.clk.powered = true →
    (s.m.clk.buttonStuck = false → s.m.clk.button = none → s.m.clk.warning = false ∨ s.m.nv.flushed = true ∨
        s.m.clk.procRunning = false → Completes (.resetButton true) s (fun m =>
      m.clk.procRunning = false ∧ m.clk.buttonHeld = true ∧ m.clk.button = some s.m.now ∧
      m.clk.lastCause = .resetButton ∧ m.mode.mode = .boot ∧ (∀ c ∈ m.saf.coils, c.wSw = false) ∧
      (∀ k < 12, m.pwmOff k = true ∧ ((s.m.phase k).own = true → (m.phase k).releasing = true)) ∧
      m.nv.journal = s.m.nv.journal ∧ m.saf.demF = s.m.saf.demF)) ∧
    (s.m.clk.buttonStuck = false → s.m.clk.button = none → s.m.clk.warning = true → s.m.nv.flushed = false →
      s.m.clk.procRunning = true → Completes (.resetButton true) s (fun m => m.clk.procRunning = true ∧
        m.clk.button = some s.m.now ∧ m.clk.deferred = s.m.clk.deferred ++ [(0, s.m.now)])) ∧
    (∀ t, s.m.clk.buttonStuck = false → s.m.clk.button = some t → Completes (.resetButton false) s (fun m =>
      m.clk.button = none ∧ m.clk.buttonHeld = false ∧ m.clk.qualifying = !s.m.elapsed t 10000000000 ∧
      m.clk.bootstrap = if s.m.elapsed t 10000000000 = true then s.m.clk.bootstrap else some s.m.now)) ∧
    (∀ b, s.m.clk.buttonStuck = true → Completes (.resetButton b) s (fun m => m.clk.procRunning = s.m.clk.procRunning ∧
      m.clk.buttonStuck = true ∧ m.clk.buttonOpen = if b = true then none else some s.m.now)) ∧
    (s.m.clk.resetNStuck = false → s.m.clk.resetN = none → s.m.clk.warning = false ∨ s.m.nv.flushed = true ∨
        s.m.clk.procRunning = false → Completes (.resetN true) s (fun m =>
      m.clk.procRunning = false ∧ m.clk.resetNHeld = true ∧ m.clk.resetN = some s.m.now ∧ m.clk.lastCause = .resetN ∧
      m.mode.mode = .boot ∧ (∀ c ∈ m.saf.coils, c.wSw = false) ∧
      (∀ k < 12, m.pwmOff k = true ∧ ((s.m.phase k).own = true → (m.phase k).releasing = true)) ∧
      m.nv.journal = s.m.nv.journal ∧ m.saf.demF = s.m.saf.demF)) ∧
    (s.m.clk.resetNStuck = false → s.m.clk.resetN = none → s.m.clk.warning = true → s.m.nv.flushed = false →
      s.m.clk.procRunning = true → Completes (.resetN true) s (fun m => m.clk.procRunning = true ∧
        m.clk.resetN = some s.m.now ∧ m.clk.deferred = s.m.clk.deferred ++ [(1, s.m.now)])) ∧
    (∀ t, s.m.clk.resetNStuck = false → s.m.clk.resetN = some t → Completes (.resetN false) s (fun m =>
      m.clk.resetN = none ∧ m.clk.resetNHeld = false ∧ m.clk.bootstrap = s.m.clk.bootstrap)) ∧
    (∀ b, s.m.clk.resetNStuck = true → Completes (.resetN b) s (fun m => m.clk.procRunning = s.m.clk.procRunning ∧
      m.clk.resetNStuck = true ∧ m.clk.resetNOpen = if b = true then none else some s.m.now)) ∧
    (∀ t, s.m.clk.button = some t → s.m.elapsed t 10000000000 = true → Completes (.resetInputStuck true) s (fun m =>
      m.clk.buttonStuck = true ∧ m.clk.button = none ∧ m.clk.buttonHeld = false ∧ m.clk.lastCause = .stuckRelease ∧
      m.clk.qualifying = s.m.clk.qualifying ∧ m.clk.bootstrap = s.m.clk.bootstrap)) ∧
    (∀ t, s.m.clk.resetN = some t → s.m.elapsed t 10000000000 = true → Completes (.resetInputStuck false) s (fun m =>
      m.clk.resetNStuck = true ∧ m.clk.resetN = none ∧ m.clk.resetNHeld = false ∧ m.clk.lastCause = .stuckRelease)) ∧
    (∀ b, s.m.elapsed? (if b = true then s.m.clk.button else s.m.clk.resetN) 10000000000 = false →
      Completes (.resetInputStuck b) s (fun m => m.clk = s.m.clk)) ∧
    (∀ b, s.m.elapsed? (if b = true then s.m.clk.buttonOpen else s.m.clk.resetNOpen) 1000000000 = true →
      Completes (.stuckInputClear b) s (fun m => m.clk = if b = true then
        { s.m.clk with buttonStuck := false, buttonOpen := none }
        else { s.m.clk with resetNStuck := false, resetNOpen := none })) ∧
    (∀ b, s.m.elapsed? (if b = true then s.m.clk.buttonOpen else s.m.clk.resetNOpen) 1000000000 = false →
      Completes (.stuckInputClear b) s (fun m => m.clk = s.m.clk)) ∧
    (∀ f x, s.m.clk.procRunning = true → WriteOk s f x { idx := 0x3201, sub := 2, len := 1, value := 1 } →
      Completes (.resetRequest f) s (fun m => Answers f x 0x12 0 m ∧ m.clk.procRunning = false ∧
        m.clk.lastCause = .request ∧ m.mode.mode = .boot ∧ m.seed.staging = [] ∧ m.mbx.sessions = [] ∧
        m.nv.journal = s.m.nv.journal ∧ m.saf.demF = s.m.saf.demF)) ∧
    (s.m.clk.clockFail = false → Completes .clockFail s (fun m => m.clk.clockFail = true ∧ m.clk.foxRc = true ∧
      m.clk.pllLocked = false ∧ m.clk.procRunning = false ∧ m.clk.lastCause = .clockFail ∧ m.mode.mode = .boot ∧
      (∀ k < 12, m.pwmOff k = true) ∧ m.nv.journal = s.m.nv.journal ∧ m.saf.demF = s.m.saf.demF)) ∧
    (s.m.clk.clockFail = true → Completes .clockFail s (fun m => m.clk = s.m.clk)) ∧
    (s.m.clk.clockFail = true → Completes .clockRecovery s (fun m =>
      m.clk = { s.m.clk with clockFail := false, foxRc := false, pllLocked := true })) ∧
    (s.m.clk.clockFail = false → Completes .clockRecovery s (fun m => m.clk = s.m.clk)) ∧
    (s.m.clk.procRunning = true → Completes .watchdogReset s (fun m => m.clk.procRunning = false ∧
      m.clk.lastCause = .watchdog ∧ m.mode.mode = .boot ∧ (∀ k < 12, m.pwmOff k = true) ∧
      (∀ c ∈ m.saf.coils, c.wSw = false) ∧ m.nv.journal = s.m.nv.journal ∧ m.saf.demF = s.m.saf.demF)) ∧
    (s.m.clk.procRunning = false → Completes .watchdogReset s (fun m => m.clk = s.m.clk))

/-- The supply (R401, R472 to R475), and the observation port (R506, R508). A brown-out warning discards the running bin, freezes envelope
and reference cap at the last outer period's values (0 without a loop), abandons a compaction and starts the flush; further ones before
the recovery change nothing. The flush commits the staged records, the pending writes and the brown-out set, sets FLUSHED and
lets a deferred press act. The recovery lifts cap and FLUSHED and stages SUPPLY_DIP (not while the domain is held: log entry 136). A power
failure resets both domains and leaves what is nonvolatile; torn, it leaves the first pending transaction in the journal without its MARK.
A trace record enters the queue of 256 or is counted dropped; the port sends the oldest, and does neither while disabled or in a warning. -/
def Obligations.SupplyAndTraceCommandsTakeEffect : Prop :=
  ∀ s : State,
    (∀ low, s.m.clk.powered = true → s.m.clk.procRunning = true → s.m.clk.warning = false →
      Completes (.brownOutWarning low) s (fun m => m.clk.warning = true ∧ m.clk.warnAt = s.m.now ∧ m.clk.dipLow = low ∧
        m.clk.capped = true ∧ m.clk.capRef = (if s.m.conv.loop = .none then 0 else absQ s.m.conv.iRef) ∧
        m.clk.capLo = (if s.m.conv.loop = .none then 0 else s.m.conv.lo) ∧
        m.clk.capHi = (if s.m.conv.loop = .none then 0 else s.m.conv.hi) ∧ m.mode.mode = s.m.mode.mode ∧
        m.imp.run.all (fun r => r.discarded) = true ∧
        m.imp.nDiscarded = (if s.m.imp.run.any (fun r => !r.discarded) = true then satInc s.m.imp.nDiscarded else s.m.imp.nDiscarded) ∧ m.nv.flushing = true ∧ m.nv.flushAt = s.m.now ∧ m.nv.compact = none)) ∧
    (∀ low, s.m.clk.powered = true → s.m.clk.procRunning = false → s.m.clk.warning = false →
      Completes (.brownOutWarning low) s (fun m => m.clk.warning = true ∧ m.clk.warnAt = s.m.now ∧ m.clk.dipLow = low ∧
        m.nv = s.m.nv)) ∧
    (∀ low, s.m.clk.warning = true ∨ s.m.clk.powered = false →
      Completes (.brownOutWarning low) s (fun m => m.clk = s.m.clk ∧ m.nv = s.m.nv)) ∧
    (∀ dur, s.m.clk.procRunning = true → s.m.nv.flushing = true → s.m.clk.deferred = [] →
      Completes (.brownOutFlushDone dur) s (fun m => m.nv.flushed = true ∧ m.nv.flushing = false ∧ m.nv.pending = [] ∧
        m.seed.staging = [] ∧ m.nv.nFlush = satInc s.m.nv.nFlush ∧ m.nv.flushDur = dur ∧ m.nv.lastTime = s.m.fabTime ∧
        m.nv.countsTime = s.m.meas.rxTime)) ∧
    (∀ dur p rest, s.m.clk.procRunning = true → s.m.nv.flushing = true → s.m.clk.deferred = p :: rest →
      Completes (.brownOutFlushDone dur) s (fun m => m.clk.procRunning = false ∧ m.clk.deferred = [] ∧ m.seed.staging = [])) ∧
    (∀ dur, s.m.clk.procRunning = false ∨ s.m.nv.flushing = false →
      Completes (.brownOutFlushDone dur) s (fun m => m.nv = s.m.nv ∧ m.clk = s.m.clk)) ∧
    (∀ low time, s.m.clk.procRunning = true → s.m.clk.warning = true → s.m.seed.staging.length < 1024 →
      Completes (.supplyRecovery low time) s (fun m => m.clk.warning = false ∧ m.clk.capped = false ∧ m.nv.flushed = false ∧
        m.nv.flushing = false ∧ m.clk.dipLow = min s.m.clk.dipLow low ∧ m.clk.nDips = satInc s.m.clk.nDips ∧
        m.mode.mode = s.m.mode.mode ∧ (m.seed.staging.getLast?).any (fun r => decide (r.code = 0x0107) &&
          decide (r.params.take 6 = u16 (min s.m.clk.dipLow low) ++ u32 time)) = true)) ∧
    (∀ low time, s.m.clk.procRunning = false → s.m.clk.warning = true → Completes (.supplyRecovery low time) s (fun m =>
      m.clk.warning = false ∧ m.clk.capped = false ∧ m.nv.flushed = false ∧ m.clk.dipLow = min s.m.clk.dipLow low)) ∧
    (∀ low time, s.m.clk.warning = false → Completes (.supplyRecovery low time) s (fun m => m.clk = s.m.clk ∧ m.nv = s.m.nv)) ∧
    (∀ torn, torn = false ∨ s.m.clk.procRunning = false ∨ s.m.nv.flushed = true ∨ s.m.nv.pending = [] →
      Completes (.powerFail torn) s (fun m => m.clk.powered = false ∧ m.clk.procRunning = false ∧ m.mode.mode = .boot ∧
        m.nv.journal = s.m.nv.journal ∧ m.nv.base = s.m.nv.base ∧ m.seed.ring = s.m.seed.ring ∧
        m.seed.vault = s.m.seed.vault ∧ m.upd.slots = s.m.upd.slots ∧ m.upd.fused = s.m.upd.fused ∧
        m.saf.demF = 0 ∧ m.nv.pending = [])) ∧
    (∀ p rest, s.m.clk.procRunning = true → s.m.nv.flushed = false → s.m.nv.pending = p :: rest →
      Completes (.powerFail true) s (fun m => m.clk.powered = false ∧ m.clk.procRunning = false ∧ m.mode.mode = .boot ∧
        m.nv.journal = (s.m.nv.write p.items false).journal ∧ m.nv.base = s.m.nv.base ∧ m.seed.ring = s.m.seed.ring ∧
        m.nv.pending = [])) ∧
    (∀ high, Completes (.supplyHigh high) s (fun m => m.clk = { s.m.clk with supplyHigh := high })) ∧
    (∀ type src data, s.m.clk.procRunning = true → s.m.obs.enabled = true → s.m.clk.warning = false → s.m.obs.queue = [] →
      s.m.obs.dropped = 0 → Completes (.traceRecord (some (type, src, data))) s (fun m =>
        m.obs.nSent = satInc s.m.obs.nSent ∧ m.obs.queue = [] ∧ m.obs.tseq = (s.m.obs.tseq + 1) % 256 ∧
        .traceSent { type := type, src := src, tseq := s.m.obs.tseq, time := s.m.fabTime % 2 ^ 32, data := padTo 6 data } ∈ m.out)) ∧
    (∀ type src data t rest, s.m.clk.procRunning = true → s.m.obs.enabled = true → s.m.clk.warning = false →
      s.m.obs.queue = t :: rest → s.m.obs.queue.length < 256 → s.m.obs.dropped = 0 →
      Completes (.traceRecord (some (type, src, data))) s (fun m => .traceSent t ∈ m.out ∧ m.obs.nSent = satInc s.m.obs.nSent ∧
        m.obs.queue = rest ++ [{ type := type, src := src, tseq := s.m.obs.tseq, time := s.m.fabTime % 2 ^ 32,
                                 data := padTo 6 data }])) ∧
    (∀ type src data, s.m.clk.procRunning = true → s.m.obs.enabled = true → s.m.clk.warning = false →
      256 ≤ s.m.obs.queue.length → Completes (.traceRecord (some (type, src, data))) s (fun m =>
        m.obs.nDropped = satInc s.m.obs.nDropped ∧ m.obs.nSent = satInc s.m.obs.nSent)) ∧
    (∀ t rest, s.m.clk.procRunning = true → s.m.obs.enabled = true → s.m.clk.warning = false → s.m.obs.queue = t :: rest →
      s.m.obs.dropped = 0 → Completes (.traceRecord none) s (fun m => .traceSent t ∈ m.out ∧
        m.obs.nSent = satInc s.m.obs.nSent ∧ m.obs.queue = rest)) ∧
    (∀ e, s.m.clk.procRunning = false ∨ s.m.obs.enabled = false ∨ s.m.clk.warning = true →
      Completes (.traceRecord e) s (fun m => m.obs = s.m.obs))

/-- A step runs the command at the front of the queue on the machine with the rest of the queue, and idles on an empty queue
(log entry 2); every command answers a next state, and only a step takes a command from the queue. -/
def Obligations.StepRunsTheFrontCommand : Prop :=
  (∀ (c : Instr) (rest : List Instr) (m : Mach), step { pending := c :: rest, m := m } = exec c { pending := rest, m := m }) ∧
  (∀ m : Mach, step { pending := [], m := m } = .next { pending := [], m := m }) ∧
  ∀ (c : Instr) (s : State), ∃ t, exec c s = .next t ∧ t.pending = s.pending

/-- The state at release of power-on reset (R34, R54, R184, R188, R315, R355, R364, R369, R379, R414, R428, R449, R508): no command
waits; the module is in BOOT, its processor domain held; no phase is owned, no latch set, no demand stands, no coil is driven;
the fans are in fallback; the collector is empty with sequence 1, no record is staged, no session open, no load runs, both CAN
channels stopped, trace off, every object at its default; the invariants of the model hold in it. -/
def Obligations.ResetState : Prop :=
  State.reset.pending = [] ∧ State.reset.m.mode.mode = .boot ∧ State.reset.m.clk.procRunning = false ∧
  State.reset.m.clk.powered = true ∧ State.reset.m.ownMask = 0 ∧ State.reset.m.pwm.latch = false ∧
  State.reset.m.saf.demW = 0 ∧ State.reset.m.saf.demF = 0 ∧ State.reset.m.saf.trip = false ∧
  (∀ k < 3, (State.reset.m.coil k).wSw = false ∧ (State.reset.m.coil k).fSw = false) ∧
  State.reset.m.therm.fallback = true ∧ State.reset.m.flt.pending = [] ∧ State.reset.m.flt.latch = none ∧
  State.reset.m.flt.nextSeq = 1 ∧ State.reset.m.seed.staging = [] ∧ State.reset.m.mbx.sessions = [] ∧
  State.reset.m.upd.loader = none ∧ (∀ ch < 2, (State.reset.m.chan ch).running = false) ∧
  State.reset.m.obs.enabled = false ∧ (∀ i sub, State.reset.m.par i sub = parDefault i sub) ∧
  paramsWf State.reset.m.params = true ∧ State.reset.m.Shaped ∧ State.reset.m.Bounded

/-- While the processor domain is held in reset, a command on it changes nothing but what the last command emitted, which is
dropped, and the injector's pause (R14, R19, R467). -/
def Obligations.HeldDomainTakesNoCommand : Prop :=
  ∀ (c : Instr) (s : State), c.foxglove = false → s.m.clk.procRunning = false →
    ∃ t, exec c s = .next t ∧ t.pending = s.pending ∧ Mach.Same [.out, .iso] s.m t.m ∧
      t.m.iso = { s.m.iso with state := t.m.iso.state }

/-- Frame of the commands of chapters 1 to 9: whatever a command does, it leaves every part of the machine as it was but those
`Instr.touches` lists for it, and the queue. -/
def Obligations.MeasurementAndConverterCommandsKeepTheRest : Prop :=
  ∀ (c : Instr) (s t : State), c.chapter ∈ [.architecture, .modes, .chain, .measurement, .impedance, .estimation, .balancing, .powerStage, .converter] →
    exec c s = .next t → t.pending = s.pending ∧ Mach.Same c.touches s.m t.m

/-- Frame of the commands of chapters 10 to 14: whatever a command does, it leaves every part of the machine as it was but those
`Instr.touches` lists for it, and the queue. -/
def Obligations.PlantPairAndProtectionCommandsKeepTheRest : Prop :=
  ∀ (c : Instr) (s t : State), c.chapter ∈ [.fabric, .plant, .pair, .protection, .thermal] →
    exec c s = .next t → t.pending = s.pending ∧ Mach.Same c.touches s.m t.m

/-- Frame of the commands of chapters 15 to 21 and 24: whatever a command does, it leaves every part of the machine as it was but those
`Instr.touches` lists for it, and the queue. -/
def Obligations.FaultStoreHostAndClockCommandsKeepTheRest : Prop :=
  ∀ (c : Instr) (s t : State), c.chapter ∈ [.faults, .seedbank, .store, .observation, .mailbox, .can, .update, .clocks] →
    exec c s = .next t → t.pending = s.pending ∧ Mach.Same c.touches s.m t.m

/-- The store of host-written objects keeps its canonical form through every step: keys strictly rising, no object listed at
its default. -/
def Obligations.ObjectsStayCanonical : Prop :=
  ∀ s t : State, paramsWf s.m.params = true → step s = .next t → paramsWf t.m.params = true

/-- Every list with one place per unit of the hardware keeps its places through every step. -/
def Obligations.ShapeStays : Prop :=
  ∀ s t : State, s.m.Shaped → step s = .next t → t.m.Shaped

/-- No queue and no record region ever outgrows its size (R377 to R379, R408, R412, R436, R508). -/
def Obligations.QueuesStayBounded : Prop :=
  ∀ s t : State, s.m.Bounded → step s = .next t → t.m.Bounded

/-- LOCKOUT is left only through a reset into BOOT with the processor domain held (R39, R47, R48): no command, reaction, plant
command or pending change takes the module from LOCKOUT to another mode. -/
def Obligations.LockoutIsLeftOnlyByReset : Prop :=
  ∀ s t : State, s.m.mode.mode = .lockout → step s = .next t →
    t.m.mode.mode = .lockout ∨ (t.m.mode.mode = .boot ∧ t.m.clk.procRunning = false)

/-- The fuses only grow (R444, R452): no step lowers the fused security version or clears a revoked signing slot. -/
def Obligations.FusesOnlyGrow : Prop :=
  ∀ s t : State, step s = .next t →
    s.m.upd.fused ≤ t.m.upd.fused ∧ ∀ k, bit s.m.upd.revoked k = true → bit t.m.upd.revoked k = true

/-- The fast-trip latch is released by nothing but an accepted rearm, which is counted, or the loss of supply (R14, R188). -/
def Obligations.LatchFallsOnlyByRearm : Prop :=
  ∀ s t : State, s.m.pwm.latch = true → step s = .next t → t.m.pwm.latch = false →
    t.m.clk.powered = false ∨ (t.m.pwm.nRearms = satInc s.m.pwm.nRearms ∧ s.m.pwm.ft = 0)

/-- Mode codes and LEDs (R35, R53). The twelve modes have the codes 0x0 to 0xB; MD3 to MD0 show the code, STS the highest of its
rows: an armed on-site clear in LOCKOUT, an uncleared fault or BOOT, DEGRADED, none of these. -/
def Obligations.ModeCodesAndLeds : Prop :=
  (Mode.boot.code = 0 ∧ Mode.commission.code = 1 ∧ Mode.storage.code = 2 ∧ Mode.standby.code = 3 ∧ Mode.precharge.code = 4 ∧
    Mode.connected.code = 5 ∧ Mode.dispatch.code = 6 ∧ Mode.busForm.code = 7 ∧ Mode.maintain.code = 8 ∧
    Mode.shutdown.code = 9 ∧ Mode.safeHold.code = 10 ∧ Mode.lockout.code = 11) ∧
  (∀ (m : Mach) (i : Nat), i < 4 → m.mdLed i = m.mode.mode.code.testBit i) ∧
  ∀ m : Mach,
    (m.mode.mode = .lockout → m.siteArmed = true → m.stsLed = .redFast) ∧
    (¬ (m.mode.mode = .lockout ∧ m.siteArmed = true) → (m.noFault = false ∨ m.mode.mode = .boot) → m.stsLed = .redSteady) ∧
    (¬ (m.mode.mode = .lockout ∧ m.siteArmed = true) → m.noFault = true → m.mode.mode ≠ .boot → m.isDegraded = true →
      m.stsLed = .greenSlow) ∧
    (¬ (m.mode.mode = .lockout ∧ m.siteArmed = true) → m.noFault = true → m.mode.mode ≠ .boot → m.isDegraded = false →
      m.stsLed = .greenSteady)

/-- A source raised as U while another, different source is pending as U and unacknowledged is escalated to class F; without
one it is raised as U (R366). -/
def Obligations.SecondUnacknowledgedFaultEscalates : Prop :=
  ∀ (m : Mach) (src : Src) (params : List Nat), m.clk.procRunning = true → m.isPending src = false →
    ∃ r : Raise, (m.raiseAs src .u params).flt.pending = m.flt.pending ++ [r] ∧ r.src = src ∧
      ((∃ q ∈ m.flt.pending, q.src ≠ src ∧ q.cls = .u ∧ q.acked = false) → r.cls = .f ∧ r.escalated = true) ∧
      ((∀ q ∈ m.flt.pending, q.src ≠ src → q.cls = .u → q.acked = true) → r.cls = .u ∧ r.escalated = false)

/-- Ring and vault (R378): a committed record goes to the ring, and to the vault while that holds fewer than 1,024 records; a full
vault sets VAULT_FULL, and no step ever takes a record from the vault or puts one into a full vault. -/
def Obligations.VaultKeepsTheFirstRecords : Prop :=
  (∀ (d : Seed) (r : SeedRec), (d.store r).ring.getLast? = some r ∧
    (d.vault.length < 1024 → (d.store r).vault = d.vault ++ [r]) ∧ (1024 ≤ d.vault.length → (d.store r).vault = d.vault)) ∧
  (∀ m : Mach, bit m.seedStatus 0 = decide (1024 ≤ m.seed.vault.length)) ∧
  ∀ s t : State, step s = .next t →
    s.m.seed.vault.map (fun r => r.seq) <+: t.m.seed.vault.map (fun r => r.seq) ∧
    (1024 ≤ s.m.seed.vault.length → t.m.seed.vault.length = s.m.seed.vault.length)

/-- The clear ledger (R388): the entries of clears 1 to 32 stand for good, and the clears from the 33rd on write entries 33 to 64 in
turn, each over the oldest of them. A clear writes one entry, with its time, the next ledger sequence, what it cleared, its
interface and certificate, and the oldest and newest SEQ cleared from the ring, 0 where the ring was kept. The sequence starts
at 1 and never goes back. An entry is read as 32 bytes with its CRC-32C over the first 28. -/
def Obligations.FirstLedgerEntriesArePermanent : Prop :=
  (∀ n, 1 ≤ n → n ≤ 32 → ledgerSlot n = n - 1) ∧
  (∀ n, 33 ≤ n → 32 ≤ ledgerSlot n ∧ ledgerSlot n < 64 ∧ ledgerSlot (n + 32) = ledgerSlot n ∧
    ∀ k, n < k → k < n + 32 → ledgerSlot k ≠ ledgerSlot n) ∧
  (∀ s t : State, step s = .next t → s.m.seed.nextLseq ≤ t.m.seed.nextLseq ∧
    ∀ k e, k < 32 → k + 1 < s.m.seed.nextLseq → aget? s.m.seed.ledger k = some e →
      ∃ e', aget? t.m.seed.ledger k = some e' ∧ e' = { e with damaged := e'.damaged }) ∧
  State.reset.m.seed.nextLseq = 1 ∧
  (∀ (d : Seed) (c : SeedClear),
    (d.finishClear c).ledger = aput d.ledger (ledgerSlot d.nextLseq) (c.entry d) ∧ (d.finishClear c).nextLseq = d.nextLseq + 1 ∧
    (c.entry d).time = c.start ∧ (c.entry d).lseq = d.nextLseq ∧ (c.entry d).what = c.what ∧ (c.entry d).iface = c.iface ∧
    (c.entry d).cert = c.cert ∧
    (∀ first last, bit c.what 0 = true → d.ring.head? = some first → d.ring.getLast? = some last →
      (c.entry d).firstSeq = first.seq ∧ (c.entry d).lastSeq = last.seq) ∧
    (bit c.what 0 = false → (c.entry d).firstSeq = 0 ∧ (c.entry d).lastSeq = 0)) ∧
  ∀ e : LedgerEntry, e.damaged = false → ∃ b : List Nat, b.length = 28 ∧
    b = u64 e.time ++ u32 e.lseq ++ u8 e.what ++ u8 e.iface ++ u16 0 ++ u32 e.cert ++ u32 e.firstSeq ++ u32 e.lastSeq ∧
    e.bytes = b ++ u32 (crc32c b)

/-- Epochs (R261): fast epoch n and slow epoch m are the intervals of fabric time of 1 ms and 10 ms that begin at n ms and 10 m ms,
slow epoch m begins with fast epoch 10 m, and a 4-byte field names the epoch of its value within 2^31 of the receiver's own. -/
def Obligations.EpochsFollowFabricTime : Prop :=
  (∀ (m : Mach) (n : Nat), m.fastEpoch = n ↔ n * 1000000 ≤ m.fabTime ∧ m.fabTime < (n + 1) * 1000000) ∧
  (∀ (m : Mach) (n : Nat), m.slowEpoch = n ↔ n * 10000000 ≤ m.fabTime ∧ m.fabTime < (n + 1) * 10000000) ∧
  (∀ m : Mach, m.slowEpoch = m.fastEpoch / 10) ∧
  ∀ n e, 2 ^ 31 ≤ n → e < 2 ^ 32 →
    nearEpoch n e % 2 ^ 32 = e ∧ nearEpoch n e ≤ n + 2 ^ 31 ∧ n ≤ nearEpoch n e + 2 ^ 31
end

