-- ==== Sys2Proof/Laws/Dispatch.lean ====
section
/-! SUPPORT. Each command as the operation it runs under its wrapper, so that no later proof unfolds exec. -/

namespace Sys2Proof.Machine

theorem exec_busTransaction (cls master tReq tGrant beats : Nat) (s : State) : exec (.busTransaction cls master tReq tGrant beats) s =
    onProc (fun m => m.busTransaction cls master tReq tGrant beats) s := rfl
theorem exec_memoryEccError (tcm corrected : Bool) (who : Nat) (s : State) : exec (.memoryEccError tcm corrected who) s =
    onProc (fun m => m.eccError tcm corrected who) s := rfl
theorem exec_almondCoreLost (core : Nat) (s : State) : exec (.almondCoreLost core) s =
    onProc (fun m => m.coreLost core) s := rfl
theorem exec_mergeResult (part gen epoch : Nat) (value : Int) (s : State) : exec (.mergeResult part gen epoch value) s =
    onProc (fun m => m.mergeResult part gen epoch value) s := rfl
theorem exec_powerOnResetRelease (sw1 sw2 sw3 : Nat) (cover : Bool) (sw4 sw5 : Nat) (pcrcOk arrives : Bool) (s : State) : exec (.powerOnResetRelease sw1 sw2 sw3 cover sw4 sw5 pcrcOk arrives) s =
    onFox (fun m => m.powerOn sw1 sw2 sw3 cover sw4 sw5 pcrcOk arrives) s := rfl
theorem exec_processorDomainRelease (r : BootReport) (s : State) : exec (.processorDomainRelease r) s =
    onFox (fun m => m.release r) s := rfl
theorem exec_fastEpochBoundary (supply power : Nat) (s : State) : exec (.fastEpochBoundary supply power) s =
    onFox (fun m => m.fastBoundary supply power) s := rfl
theorem exec_modeRequest (code role : Nat) (s : State) : exec (.modeRequest code role) s =
    onProc (fun m => m.modeRequest code role) s := rfl
theorem exec_lockoutClearArm (role : Nat) (direct : Bool) (s : State) : exec (.lockoutClearArm role direct) s =
    onProc (fun m => m.armClear role direct) s := rfl
theorem exec_chainEnumeration (near far : List (Bool × Nat)) (check fwd rev : List Nat) (closure : Bool) (bad : Nat × Nat) (s : State) : exec (.chainEnumeration near far check fwd rev closure bad) s =
    onProc (fun m => m.chainEnumeration near far check fwd rev closure bad) s := rfl
theorem exec_baselineDeferral (role : Nat) (unlocked : Bool) (s : State) : exec (.baselineDeferral role unlocked) s =
    onProc (fun m => m.expertWrite role unlocked Mach.deferBaseline) s := rfl
theorem exec_commissioningAccept (role : Nat) (unlocked : Bool) (s : State) : exec (.commissioningAccept role unlocked) s =
    onProc (fun m => m.expertWrite role unlocked (fun x => x.acceptCommissioning role)) s := rfl
theorem exec_stepRetry (role : Nat) (unlocked : Bool) (s : State) : exec (.stepRetry role unlocked) s =
    onProc (fun m => m.expertWrite role unlocked Mach.stepRetry) s := rfl
theorem exec_sample (epoch reach : Nat) (far : Bool) (s : State) : exec (.sample epoch reach far) s =
    onProc (fun m => m.sample epoch reach far) s := rfl
theorem exec_dataReply (a port : Nat) (crcOk : Bool) (r : PodReply) (s : State) : exec (.dataReply a port crcOk r) s =
    onProc (fun m => m.dataReply a port crcOk r) s := rfl
theorem exec_readOne (a : Nat) (s : State) : exec (.readOne a) s =
    onProc (fun m => m.readOne a) s := rfl
theorem exec_echo (a fwd rev : Nat) (bad : Nat × Nat) (s : State) : exec (.echo a fwd rev bad) s =
    onProc (fun m => m.echo a fwd rev bad) s := rfl
theorem exec_config (bad : Nat × Nat) (s : State) : exec (.config bad) s =
    onProc (fun m => m.config bad) s := rfl
theorem exec_reverseSample (epoch skew : Nat) (s : State) : exec (.reverseSample epoch skew) s =
    onProc (fun m => m.reverseSample epoch skew) s := rfl
theorem exec_farEndReadout (answers : List Nat) (s : State) : exec (.farEndReadout answers) s =
    onProc (fun m => m.farReadout answers) s := rfl
theorem exec_chainReplyRelay (a : Nat) (crcOk : Bool) (r : PodReply) (s : State) : exec (.chainReplyRelay a crcOk r) s =
    onProc (fun m => m.replyRelay a crcOk r) s := rfl
theorem exec_lineMastershipReturn (epoch : Nat) (s : State) : exec (.lineMastershipReturn epoch) s =
    onProc (fun m => m.lineReturn epoch) s := rfl
theorem exec_streamFrame (ok ovr : Bool) (t : Nat) (i hall : Int) (str bus : Nat) (counts : Bool) (s : State) : exec (.streamFrame ok ovr t i hall str bus counts) s =
    onProc (fun m => m.streamFrame ok ovr t i hall str bus counts) s := rfl
theorem exec_chargeSample (i : Int) (s : State) : exec (.chargeSample i) s =
    onPowered (fun m => m.updMeas (fun x => x.charge i)) s := rfl
theorem exec_hallLost (supply : Bool) (s : State) : exec (.hallLost supply) s =
    onProc (fun m => m.hallGone supply) s := rfl
theorem exec_currentComparator (line : Nat) (x : Int) (s : State) : exec (.currentComparator line x) s =
    onPowered (fun m => m.comparator line x) s := rfl
theorem exec_injectionHalfPeriod (corr uncorr : Nat) (reading : Option Nat) (s : State) : exec (.injectionHalfPeriod corr uncorr reading) s =
    onProc (fun m => m.halfPeriod corr uncorr reading) s := rfl
theorem exec_tieMaskRequest (mask role : Nat) (s : State) : exec (.tieMaskRequest mask role) s =
    onProc (fun m => m.plantRequest 4 0xFFFF (signedOf 4 mask) 0 role) s := rfl
theorem exec_exciteRef (heard : Option (Nat × Nat)) (s : State) : exec (.exciteRef heard) s =
    onProc (fun m => m.exciteRef heard) s := rfl
theorem exec_corrRead (a : Nat) (s : State) : exec (.corrRead a) s =
    onProc (fun m => m.corrRead a) s := rfl
theorem exec_correlationReply (port a : Nat) (valid : Bool) (bin status excId samples : Nat) (vals : List (Int × Int × Int × Int)) (s : State) : exec (.correlationReply port a valid bin status excId samples vals) s =
    onProc (fun m => m.corrReply port a valid bin status excId samples vals) s := rfl
theorem exec_ageingUpdate (g : Nat) (s : State) : exec (.ageingUpdate g) s =
    onProc (fun m => m.ageingUpdate g) s := rfl
theorem exec_baselineRequest (role : Nat) (unlocked : Bool) (s : State) : exec (.baselineRequest role unlocked) s =
    onProc (fun m => m.expertWrite role unlocked Mach.baselineRequest) s := rfl
theorem exec_modelStep (irms : Nat) (s : State) : exec (.modelStep irms) s =
    onProc (fun m => m.modelStep irms) s := rfl
theorem exec_estimator (values : Option LeadValues) (full : Option (List (Nat × GroupEst))) (ogen : Nat) (s : State) : exec (.estimator values full ogen) s =
    onProc (fun m => m.pairFrame ogen (fun x => x.estimator values full)) s := rfl
theorem exec_masks (l : List (Nat × Nat)) (ogen : Nat) (s : State) : exec (.masks l ogen) s =
    onProc (fun m => m.pairFrame ogen (fun x => x.takeMasks l)) s := rfl
theorem exec_dutyCommand (k tag ogen : Nat) (duty : Rat) (early : Bool) (s : State) : exec (.dutyCommand k tag ogen duty early) s =
    onProc (fun m => m.dutyCommand k tag ogen duty early) s := rfl
theorem exec_pwmCommandStale (k : Nat) (s : State) : exec (.pwmCommandStale k) s =
    onProc (fun m => m.commandStale k) s := rfl
theorem exec_carrierValley (k density : Nat) (s : State) : exec (.carrierValley k density) s =
    onProc (fun m => m.valley k density) s := rfl
theorem exec_interlockBlock (k t : Nat) (s : State) : exec (.interlockBlock k t) s =
    onPowered (fun m => m.interlockBlock k t) s := rfl
theorem exec_ownershipRelease (k : Nat) (s : State) : exec (.ownershipRelease k) s =
    onProc (fun m => m.updPhase k Phase.release) s := rfl
theorem exec_ownLineDeassert (k : Nat) (s : State) : exec (.ownLineDeassert k) s =
    onFox (fun m => m.lineOff k) s := rfl
theorem exec_ownershipAcquire (k : Nat) (early : Bool) (s : State) : exec (.ownershipAcquire k early) s =
    onProc (fun m => m.acquireReq k early) s := rfl
theorem exec_pwmGateRelease (k : Nat) (s : State) : exec (.pwmGateRelease k) s =
    onFox (fun m => m.gateOpen k) s := rfl
theorem exec_fastTrip (mask : Nat) (s : State) : exec (.fastTrip mask) s =
    onFox (fun m => m.fastTrip mask) s := rfl
theorem exec_fastTripRearm (quiet : Bool) (s : State) : exec (.fastTripRearm quiet) s =
    onProc (fun m => m.rearmRequest quiet) s := rfl
theorem exec_bitstreamFault (k : Nat) (s : State) : exec (.bitstreamFault k) s =
    onProc (fun m => m.streamFault k) s := rfl
theorem exec_bitstreamValid (k : Nat) (s : State) : exec (.bitstreamValid k) s =
    onProc (fun m => m.streamValid k) s := rfl
theorem exec_offsetZero (k density : Nat) (s : State) : exec (.offsetZero k density) s =
    onProc (fun m => m.offsetZero k density) s := rfl
theorem exec_cycleByCycleLimit (k : Nat) (current : Int) (t : Nat) (s : State) : exec (.cycleByCycleLimit k current t) s =
    onProc (fun m => m.cbcLimit k current t) s := rfl
theorem exec_syncInEdge (t : Nat) (s : State) : exec (.syncInEdge t) s =
    onProc (fun m => m.syncEdge t) s := rfl
theorem exec_outerPeriod (k : Nat) (iMean : Int) (recent : Bool) (s : State) : exec (.outerPeriod k iMean recent) s =
    onProc (fun m => m.outerPeriod k iMean recent) s := rfl
theorem exec_phaseLoopUpdate (k : Nat) (s : State) : exec (.phaseLoopUpdate k) s =
    onProc (fun m => m.phaseLoop k) s := rfl
theorem exec_phaseState (k state ogen : Nat) (s : State) : exec (.phaseState k state ogen) s =
    onProc (fun m => if m.paired then m.partnerPhase k state ogen else m) s := rfl
theorem exec_busDip (v : Nat) (fall : Int) (t : Nat) (s : State) : exec (.busDip v fall t) s =
    onPowered (fun m => m.busDip v fall t) s := rfl
theorem exec_phaseLossCheck (iShunt : Int) (iPh ripple : List Int) (s : State) : exec (.phaseLossCheck iShunt iPh ripple) s =
    onProc (fun m => m.lossCheck iShunt iPh ripple) s := rfl
theorem exec_phaseReenable (k : Nat) (s : State) : exec (.phaseReenable k) s =
    onProc (fun m => m.reenable k) s := rfl
theorem exec_transceiverInserted (p : Nat) (s : State) : exec (.transceiverInserted p) s =
    onProc (fun m => m.inserted p) s := rfl
theorem exec_transceiverCheck (p : Nat) (ok : Bool) (power : Nat) (s : State) : exec (.transceiverCheck p ok power) s =
    onProc (fun m => m.pageRead p ok power) s := rfl
theorem exec_blockLock (p : Nat) (s : State) : exec (.blockLock p) s =
    onProc (fun m => if (m.port p).state == .noLock then m.updPort p (fun x => { x with state := .hello, missed := 0 }) else m) s := rfl
theorem exec_helloSend (p : Nat) (s : State) : exec (.helloSend p) s =
    onProc (fun m => m.helloSend p) s := rfl
theorem exec_helloFrame (p serial addr peerPort role peerSees : Nat) (s : State) : exec (.helloFrame p serial addr peerPort role peerSees) s =
    onProc (fun m => m.helloFrame p serial addr peerPort role peerSees) s := rfl
theorem exec_portDown (p : Nat) (removed : Bool) (s : State) : exec (.portDown p removed) s =
    onProc (fun m => m.portDown p removed) s := rfl
theorem exec_portHoldDownEnd (p : Nat) (s : State) : exec (.portHoldDownEnd p) s =
    onProc (fun m => if (m.port p).state == .heldDown && m.elapsed (m.port p).heldAt (10 * second) then m.updPort p (fun x => { x with state := .noLock }) else m) s := rfl
theorem exec_pdelaySend (p t1 : Nat) (s : State) : exec (.pdelaySend p t1) s =
    onProc (fun m => m.pdelaySend p t1) s := rfl
theorem exec_pdelay (p pseq : Nat) (resp : Option (Nat × Nat × Nat)) (s : State) : exec (.pdelay p pseq resp) s =
    onProc (fun m => m.pdelay p pseq resp) s := rfl
theorem exec_lsa (p serial addr seq : Nat) (links : List (Nat × Nat × Nat)) (s : State) : exec (.lsa p serial addr seq links) s =
    onProc (fun m => m.lsa p serial addr seq links) s := rfl
theorem exec_lsaAged (plane serial : Nat) (s : State) : exec (.lsaAged plane serial) s =
    onProc (fun m => m.lsaAged plane serial) s := rfl
theorem exec_addressClaim (sw4 sw5 : Nat) (s : State) : exec (.addressClaim sw4 sw5) s =
    onProc (fun m => m.addressClaim sw4 sw5) s := rfl
theorem exec_claim (serial addr tier kind : Nat) (s : State) : exec (.claim serial addr tier kind) s =
    onProc (fun m => m.claim serial addr tier kind) s := rfl
theorem exec_frameForward (p : Nat) (f : FabFrame) (full : Bool) (s : State) : exec (.frameForward p f full) s =
    onProc (fun m => m.frameForward p f full) s := rfl
theorem exec_sync (p rx origin : Nat) (corr : Int) (gm hops source : Nat) (s : State) : exec (.sync p rx origin corr gm hops source) s =
    onProc (fun m => m.syncFrame p rx origin corr gm hops source) s := rfl
theorem exec_announce (r : GmRank) (s : State) : exec (.announce r) s =
    onProc (fun m => m.announce r) s := rfl
theorem exec_ptpSync (domain : Nat) (locked : Bool) (offset : Int) (s : State) : exec (.ptpSync domain locked offset) s =
    onProc (fun m => m.ptpSync domain locked offset) s := rfl
theorem exec_safeMessageSend (conn : Nat) (s : State) : exec (.safeMessageSend conn) s =
    onProc (fun m => m.safeSend conn) s := rfl
theorem exec_safeFrame (plane flag conn src hdrSrc dst sseq sendTime : Nat) (sdata : List Nat) (scrcOk : Bool) (s : State) : exec (.safeFrame plane flag conn src hdrSrc dst sseq sendTime sdata scrcOk) s =
    onProc (fun m => m.safeFrame plane flag conn src hdrSrc dst sseq sendTime sdata scrcOk) s := rfl
theorem exec_safeCopyMissing (conn src : Nat) (s : State) : exec (.safeCopyMissing conn src) s =
    onProc (fun m => m.safeCopyMissing conn src) s := rfl
theorem exec_safeConnectionTimeout (conn src : Nat) (s : State) : exec (.safeConnectionTimeout conn src) s =
    onProc (fun m => m.safeTimeout conn src) s := rfl
theorem exec_fastSummary (src : Nat) (r : Summary) (crcOk inTime : Bool) (s : State) : exec (.fastSummary src r crcOk inTime) s =
    onProc (fun m => m.fastSummary src r crcOk inTime) s := rfl
theorem exec_slowRecordHead (src : Nat) (h : SlowHead) (crcOk : Bool) (s : State) : exec (.slowRecordHead src h crcOk) s =
    onProc (fun m => m.slowHead src h crcOk) s := rfl
theorem exec_bodyRequest (src epoch : Nat) (s : State) : exec (.bodyRequest src epoch) s =
    onProc (fun m => m.bodyRequest src epoch) s := rfl
theorem exec_bodyPart (src epoch part : Nat) (bytes : List Nat) (s : State) : exec (.bodyPart src epoch part bytes) s =
    onProc (fun m => m.bodyPart src epoch part bytes) s := rfl
theorem exec_headRequest (src epoch : Nat) (s : State) : exec (.headRequest src epoch) s =
    onProc (fun m => m.headRequest src epoch) s := rfl
theorem exec_recordRequest (src epoch : Nat) (s : State) : exec (.recordRequest src epoch) s =
    onProc (fun m => m.recordRequest src epoch) s := rfl
theorem exec_allocationCompute (missed : Bool) (s : State) : exec (.allocationCompute missed) s =
    onProc (fun m => m.allocCompute missed) s := rfl
theorem exec_admitIssue (a : Nat) (s : State) : exec (.admitIssue a) s =
    onProc (fun m => m.admitIssue a) s := rfl
theorem exec_removeIssue (a : Nat) (s : State) : exec (.removeIssue a) s =
    onProc (fun m => m.removeIssue a) s := rfl
theorem exec_membershipViewTransfer (effect mv founder : Nat) (members : List Member) (st : PlantState) (s : State) : exec (.membershipViewTransfer effect mv founder members st) s =
    onProc (fun m => m.viewTransfer effect mv founder members st) s := rfl
theorem exec_plantCommandReceived (c : PlantCmd) (crcOk : Bool) (s : State) : exec (.plantCommandReceived c crcOk) s =
    onProc (fun m => m.plantCommand c crcOk) s := rfl
theorem exec_commandRequest (src cseq : Nat) (s : State) : exec (.commandRequest src cseq) s =
    onProc (fun m => m.commandRequest src cseq) s := rfl
theorem exec_mode (issuer cseq : Nat) (s : State) : exec (.mode issuer cseq) s =
    onProc (fun m => m.admitted 1 issuer cseq) s := rfl
theorem exec_plantPower (issuer cseq : Nat) (s : State) : exec (.plantPower issuer cseq) s =
    onProc (fun m => m.admitted 2 issuer cseq) s := rfl
theorem exec_stringLimit (issuer cseq : Nat) (s : State) : exec (.stringLimit issuer cseq) s =
    onProc (fun m => m.admitted 3 issuer cseq) s := rfl
theorem exec_tieMask (issuer cseq : Nat) (s : State) : exec (.tieMask issuer cseq) s =
    onProc (fun m => m.admitted 4 issuer cseq) s := rfl
theorem exec_busVoltage (issuer cseq : Nat) (s : State) : exec (.busVoltage issuer cseq) s =
    onProc (fun m => m.admitted 5 issuer cseq) s := rfl
theorem exec_plantParam (issuer cseq : Nat) (s : State) : exec (.plantParam issuer cseq) s =
    onProc (fun m => m.admitted 6 issuer cseq) s := rfl
theorem exec_admitMember (issuer cseq : Nat) (s : State) : exec (.admitMember issuer cseq) s =
    onProc (fun m => m.admitted 7 issuer cseq) s := rfl
theorem exec_remove (issuer cseq : Nat) (s : State) : exec (.remove issuer cseq) s =
    onProc (fun m => m.admitted 8 issuer cseq) s := rfl
theorem exec_plantPowerRequest (p : Int) (role : Nat) (s : State) : exec (.plantPowerRequest p role) s =
    onProc (fun m => m.plantRequest 2 0xFFFF p 0 role) s := rfl
theorem exec_balancingGainRequest (v role : Nat) (s : State) : exec (.balancingGainRequest v role) s =
    onProc (fun m => m.plantRequest 6 0xFFFF 1 v role) s := rfl
theorem exec_restConcurrencyRequest (v role : Nat) (s : State) : exec (.restConcurrencyRequest v role) s =
    onProc (fun m => m.plantRequest 6 0xFFFF 2 v role) s := rfl
theorem exec_stringLimitRequest (dis chg : Int) (role : Nat) (s : State) : exec (.stringLimitRequest dis chg role) s =
    onProc (fun m => m.plantRequest 3 m.stringId dis chg role) s := rfl
theorem exec_plantModeRequest (target mode role : Nat) (s : State) : exec (.plantModeRequest target mode role) s =
    onProc (fun m => m.plantRequest 1 target mode 0 role) s := rfl
theorem exec_plantBusVoltageRequest (target v role : Nat) (s : State) : exec (.plantBusVoltageRequest target v role) s =
    onProc (fun m => m.plantRequest 5 target v 0 role) s := rfl
theorem exec_heartbeatToggle (k0 : Bool) (s : State) : exec (.heartbeatToggle k0) s =
    onProc (fun m => m.heartbeat k0) s := rfl
theorem exec_partnerHeartbeatLost (aliveRecent : Bool) (s : State) : exec (.partnerHeartbeatLost aliveRecent) s =
    onHeartbeat false (fun m => m.heartbeatLost aliveRecent) s := rfl
theorem exec_takeoverAcquisition (dip rec : Nat) (s : State) : exec (.takeoverAcquisition dip rec) s =
    onProc (fun m => m.takeoverAcquire dip rec) s := rfl
theorem exec_alive (mode own flags ver ogen : Nat) (s : State) : exec (.alive mode own flags ver ogen) s =
    onProc (fun m => m.alive mode own flags ver ogen) s := rfl
theorem exec_checkpoint (c : Option Checkpoint) (crcOk : Bool) (ogen : Nat) (s : State) : exec (.checkpoint c crcOk ogen) s =
    onProc (fun m => m.checkpoint c crcOk ogen) s := rfl
theorem exec_content (epoch : Nat) (c : Summary) (ogen : Nat) (s : State) : exec (.content epoch c ogen) s =
    onProc (fun m => m.contentFrame epoch c ogen) s := rfl
theorem exec_takebackReady (partnerClear : Bool) (s : State) : exec (.takebackReady partnerClear) s =
    onProc (fun m => m.takebackReady partnerClear) s := rfl
theorem exec_takeback (start ogen : Nat) (s : State) : exec (.takeback start ogen) s =
    onProc (fun m => m.takeback start ogen) s := rfl
theorem exec_phaseRelease (on : Bool) (role : Nat) (unlocked : Bool) (s : State) : exec (.phaseRelease on role unlocked) s =
    onProc (fun m => m.expertWrite role unlocked (fun x => x.phaseRelease on)) s := rfl
theorem exec_release (start ogen : Nat) (s : State) : exec (.release start ogen) s =
    onProc (fun m => m.releaseFrame start ogen) s := rfl
theorem exec_partnerAccept (role : Nat) (unlocked : Bool) (s : State) : exec (.partnerAccept role unlocked) s =
    onProc (fun m => m.expertWrite role unlocked Mach.partnerAccept) s := rfl
theorem exec_request (code effect task dur : Nat) (due : Bool) (ogen : Nat) (s : State) : exec (.request code effect task dur due ogen) s =
    onProc (fun m => m.forwarded code effect task dur due ogen) s := rfl
theorem exec_pairConfig (settings : List Nat) (inMode pcrc ogen : Nat) (s : State) : exec (.pairConfig settings inMode pcrc ogen) s =
    onProc (fun m => m.pairConfig settings inMode pcrc ogen) s := rfl
theorem exec_inputSample (si fb node : Nat) (s : State) : exec (.inputSample si fb node) s =
    onPowered (fun m => m.inputSample si fb node) s := rfl
theorem exec_ptOvertemp (pt : Nat) (temp : Int) (s : State) : exec (.ptOvertemp pt temp) s =
    onPowered (fun m => m.ptOver pt temp) s := rfl
theorem exec_testPulse (lows : Nat) (s : State) : exec (.testPulse lows) s =
    onPowered (fun m => m.testPulse lows) s := rfl
theorem exec_safetyInputDemand (chan k : Nat) (s : State) : exec (.safetyInputDemand chan k) s =
    onPowered (fun m => m.inputDemand chan k) s := rfl
theorem exec_ventilationDemand (chan : Nat) (s : State) : exec (.ventilationDemand chan) s =
    onPowered (fun m => m.ventilation chan) s := rfl
theorem exec_coilOpen (chan : Nat) (s : State) : exec (.coilOpen chan) s =
    onFox (fun m => m.coilOpen chan) s := rfl
theorem exec_holdRelease (chan : Nat) (s : State) : exec (.holdRelease chan) s =
    onFox (fun m => m.holdRelease chan) s := rfl
theorem exec_switchRead (sw1 sw2 sw3 : Nat) (cover : Bool) (s : State) : exec (.switchRead sw1 sw2 sw3 cover) s =
    onPowered (fun m => m.switchRead sw1 sw2 sw3 cover) s := rfl
theorem exec_coilSwitchTest (k sw : Nat) (pass : Bool) (s : State) : exec (.coilSwitchTest k sw pass) s =
    onProc (fun m => if k < 3 && sw < 2 then m.coilTest k sw pass else m) s := rfl
theorem exec_contactorPickup (k : Nat) (s : State) : exec (.contactorPickup k) s =
    onProc (fun m => m.pickupFail k) s := rfl
theorem exec_contactorDropout (k : Nat) (s : State) : exec (.contactorDropout k) s =
    onProc (fun m => m.dropoutFail k) s := rfl
theorem exec_weldedContact (k : Nat) (s : State) : exec (.weldedContact k) s =
    onPowered (fun m => m.weldedContact k) s := rfl
theorem exec_contactorLost (k : Nat) (s : State) : exec (.contactorLost k) s =
    onProc (fun m => m.contactorLost k) s := rfl
theorem exec_contactorHeld (k : Nat) (s : State) : exec (.contactorHeld k) s =
    onProc (fun m => m.contactorHeld k) s := rfl
theorem exec_ptConversion (pt : Nat) (temp : Option Int) (s : State) : exec (.ptConversion pt temp) s =
    onPowered (fun m => m.ptConvert pt temp) s := rfl
theorem exec_fanSpeed (fan rpm : Nat) (s : State) : exec (.fanSpeed fan rpm) s =
    onProc (fun m => m.fanSpeed fan rpm) s := rfl
theorem exec_fanLost (fan : Nat) (s : State) : exec (.fanLost fan) s =
    onProc (fun m => m.loseFan fan) s := rfl
theorem exec_fanRecovered (fan : Nat) (s : State) : exec (.fanRecovered fan) s =
    onProc (fun m => m.recoverFan fan) s := rfl
theorem exec_coolStatus (unit : Nat) (data : List Nat) (s : State) : exec (.coolStatus unit data) s =
    onProc (fun m => m.coolStatus unit data) s := rfl
theorem exec_coolantUnitLost (unit : Nat) (s : State) : exec (.coolantUnitLost unit) s =
    onProc (fun m => m.unitTimeout unit) s := rfl
theorem exec_faultRaise (src : Src) (params : List Nat) (s : State) : exec (.faultRaise src params) s =
    onProc (fun m => m.reportFault src params) s := rfl
theorem exec_countingEvent (src : Src) (params : List Nat) (s : State) : exec (.countingEvent src params) s =
    onProc (fun m => if src.counting then m.countSource src params else m) s := rfl
theorem exec_faultAcknowledge (seq role : Nat) (s : State) : exec (.faultAcknowledge seq role) s =
    onProc (fun m => m.operatorWrite role (fun x => x.faultAck seq)) s := rfl
theorem exec_faultClear (seq role : Nat) (s : State) : exec (.faultClear seq role) s =
    onProc (fun m => m.operatorWrite role (fun x => x.faultClear seq)) s := rfl
theorem exec_faultInjection (src chan dur role : Nat) (s : State) : exec (.faultInjection src chan dur role) s =
    onProc (fun m => m.injectWrite src chan dur role) s := rfl
theorem exec_injectionEnd (response : Option Nat) (s : State) : exec (.injectionEnd response) s =
    onProc (fun m => m.injectEnd response) s := rfl
theorem exec_recordCreate (code source cls : Nat) (params : List Nat) (s : State) : exec (.recordCreate code source cls params) s =
    onProc (fun m => m.createRecord code source cls params) s := rfl
theorem exec_recorderClear (what role iface cert : Nat) (s : State) : exec (.recorderClear what role iface cert) s =
    onProc (fun m => m.clearWrite what role iface cert) s := rfl
theorem exec_hello (iface size relay source : Nat) (ok : Bool) (s : State) : exec (.hello iface size relay source ok) s =
    onProc (fun m => m.hello iface size relay source ok) s := rfl
theorem exec_finish (f : MbxFrame) (cert : HostCert) (s : State) : exec (.finish f cert) s =
    onProc (fun m => m.finish f cert) s := rfl
theorem exec_close (f : MbxFrame) (s : State) : exec (.close f) s =
    onProc (fun m => m.closeFrame f) s := rfl
theorem exec_keepalive (f : MbxFrame) (s : State) : exec (.keepalive f) s =
    onProc (fun m => m.keepalive f) s := rfl
theorem exec_mailboxRead (f : MbxFrame) (idx sub offset length : Nat) (s : State) : exec (.mailboxRead f idx sub offset length) s =
    onProc (fun m => m.onRequest 0x10 f (fun x => x.readRequest f.sid idx sub offset length)) s := rfl
theorem exec_readSet (f : MbxFrame) (objs : List (Nat × Nat)) (s : State) : exec (.readSet f objs) s =
    onProc (fun m => m.onRequest 0x11 f (fun x => x.readSet f.sid objs)) s := rfl
theorem exec_write (f : MbxFrame) (w : WriteVal) (s : State) : exec (.write f w) s =
    onProc (fun m => m.writeFrame f w) s := rfl
theorem exec_writeSet (f : MbxFrame) (ws : List WriteVal) (s : State) : exec (.writeSet f ws) s =
    onProc (fun m => m.onRequest 0x13 f (fun x => x.writeSet f.sid ws)) s := rfl
theorem exec_ack (f : MbxFrame) (s : State) : exec (.ack f) s =
    onProc (fun m => m.ack f) s := rfl
theorem exec_abort (f : MbxFrame) (s : State) : exec (.abort f) s =
    onProc (fun m => m.abortFrame f) s := rfl
theorem exec_relayFrame (host port target : Nat) (s : State) : exec (.relayFrame host port target) s =
    onProc (fun m => m.relayFrame host port target) s := rfl
theorem exec_relayReply (id : Nat) (s : State) : exec (.relayReply id) s =
    onProc (fun m => m.relayReply id) s := rfl
theorem exec_expertUnlock (f : MbxFrame) (value : Nat) (s : State) : exec (.expertUnlock f value) s =
    onProc (fun m => m.writeFrame f { idx := 0x1200, sub := 1, len := 1, value := value }) s := rfl
theorem exec_addressConfigEffect (lease : Nat) (s : State) : exec (.addressConfigEffect lease) s =
    onProc (fun m => m.addrEffect lease) s := rfl
theorem exec_canFrameReceived (ch : Nat) (frame : CanFrame) (err : Nat) (s : State) : exec (.canFrameReceived ch frame err) s =
    onProc (fun m => m.canReceive ch frame err) s := rfl
theorem exec_canQueueDrain (ch : Nat) (s : State) : exec (.canQueueDrain ch) s =
    onProc (fun m => m.canDrain ch) s := rfl
theorem exec_canPeriodic (k : Nat) (s : State) : exec (.canPeriodic k) s =
    onProc (fun m => m.canPeriodic k) s := rfl
theorem exec_canObjectDataWrite (f : MbxFrame) (k value : Nat) (s : State) : exec (.canObjectDataWrite f k value) s =
    onProc (fun m => m.writeFrame f { idx := 0x3011, sub := k + 1, len := 64, value := value }) s := rfl
theorem exec_canObjectTableWrite (f : MbxFrame) (value : Nat) (s : State) : exec (.canObjectTableWrite f value) s =
    onProc (fun m => m.writeFrame f { idx := 0x3010, sub := 0, len := 2048, value := value }) s := rfl
theorem exec_canTransmit (ch : Nat) (outcome : TxOutcome) (s : State) : exec (.canTransmit ch outcome) s =
    onProc (fun m => m.canTransmit ch outcome) s := rfl
theorem exec_canBusOffRecovery (ch : Nat) (s : State) : exec (.canBusOffRecovery ch) s =
    onProc (fun m => m.canRecover ch) s := rfl
theorem exec_canObjectResume (f : MbxFrame) (k : Nat) (s : State) : exec (.canObjectResume f k) s =
    onProc (fun m => m.writeFrame f { idx := 0x3013, sub := 0, len := 1, value := k }) s := rfl
theorem exec_canChannelRestart (ch : Nat) (s : State) : exec (.canChannelRestart ch) s =
    onProc (fun m => m.canRestart ch) s := rfl
theorem exec_canIntegration (ch : Nat) (s : State) : exec (.canIntegration ch) s =
    onProc (fun m => m.canIntegrate ch) s := rfl
theorem exec_imageHeader (f : MbxFrame) (value crypto : Nat) (s : State) : exec (.imageHeader f value crypto) s =
    onProc (fun m => m.writeFrame f { idx := 0x3101, sub := 0, len := 512, value := value, crypto := crypto }) s := rfl
theorem exec_imageChunk (f : MbxFrame) (value : Nat) (s : State) : exec (.imageChunk f value) s =
    onProc (fun m => m.writeFrame f { idx := 0x3101, sub := 1, len := 65540, value := value }) s := rfl
theorem exec_imageBodyCheck (hashOk tagOk : Bool) (s : State) : exec (.imageBodyCheck hashOk tagOk) s =
    onProc (fun m => m.bodyCheck hashOk tagOk) s := rfl
theorem exec_activate (f : MbxFrame) (s : State) : exec (.activate f) s =
    onProc (fun m => m.writeFrame f { idx := 0x3101, sub := 3, len := 1, value := 1 }) s := rfl
theorem exec_confirm (f : MbxFrame) (s : State) : exec (.confirm f) s =
    onProc (fun m => m.writeFrame f { idx := 0x3101, sub := 4, len := 1, value := 1 }) s := rfl
theorem exec_trustAnchorsWrite (f : MbxFrame) (value : Nat) (s : State) : exec (.trustAnchorsWrite f value) s =
    onProc (fun m => m.writeFrame f { idx := 0x3110, sub := 0, len := 388, value := value }) s := rfl
theorem exec_resetButton (pressed : Bool) (s : State) : exec (.resetButton pressed) s =
    onFox (fun m => m.button pressed) s := rfl
theorem exec_resetN (low : Bool) (s : State) : exec (.resetN low) s =
    onFox (fun m => m.resetNPin low) s := rfl
theorem exec_resetInputStuck (button : Bool) (s : State) : exec (.resetInputStuck button) s =
    onFox (fun m => m.inputStuck button) s := rfl
theorem exec_stuckInputClear (button : Bool) (s : State) : exec (.stuckInputClear button) s =
    onFox (fun m => m.stuckClear button) s := rfl
theorem exec_resetRequest (f : MbxFrame) (s : State) : exec (.resetRequest f) s =
    onProc (fun m => m.writeFrame f { idx := 0x3201, sub := 2, len := 1, value := 1 }) s := rfl
theorem exec_brownOutWarning (low : Nat) (s : State) : exec (.brownOutWarning low) s =
    onFox (fun m => m.brownOut low) s := rfl
theorem exec_brownOutFlushDone (dur : Nat) (s : State) : exec (.brownOutFlushDone dur) s =
    onProc (fun m => m.flushDone dur) s := rfl
theorem exec_supplyRecovery (low time : Nat) (s : State) : exec (.supplyRecovery low time) s =
    onFox (fun m => m.supplyBack low time) s := rfl
theorem exec_powerFail (torn : Bool) (s : State) : exec (.powerFail torn) s =
    onFox (fun m => m.powerFail torn) s := rfl
theorem exec_supplyHigh (high : Bool) (s : State) : exec (.supplyHigh high) s =
    onFox (fun m => m.updClk (fun c => { c with supplyHigh := high })) s := rfl
theorem exec_traceRecord (entry : Option (Nat × Nat × List Nat)) (s : State) : exec (.traceRecord entry) s =
    onProc (fun m => (match entry with | none => m | some (type, src, data) => m.trace type src data).sendTrace) s := rfl
theorem exec_hostPortLinkChange (up : Bool) (lease : Nat) (s : State) : exec (.hostPortLinkChange up lease) s =
    onPowered (fun m => m.linkChange up lease) s := rfl
theorem exec_bootExit (s : State) : exec .bootExit s =
    onProc Mach.bootExit s := rfl
theorem exec_slowEpochBoundary (s : State) : exec .slowEpochBoundary s =
    onProc Mach.slowBoundary s := rfl
theorem exec_prechargeTimeout (s : State) : exec .prechargeTimeout s =
    onProc Mach.prechargeTimeout s := rfl
theorem exec_shutdownOpen (s : State) : exec .shutdownOpen s =
    onProc Mach.shutdownOpen s := rfl
theorem exec_shutdownTimeout (s : State) : exec .shutdownTimeout s =
    onProc Mach.shutdownTimeout s := rfl
theorem exec_lockoutArmExpired (s : State) : exec .lockoutArmExpired s =
    onFox Mach.armExpired s := rfl
theorem exec_maintenanceTaskComplete (s : State) : exec .maintenanceTaskComplete s =
    onProc Mach.taskComplete s := rfl
theorem exec_plantJoinTimeout (s : State) : exec .plantJoinTimeout s =
    onProc Mach.joinTimeout s := rfl
theorem exec_commissionC4Check (s : State) : exec .commissionC4Check s =
    onProc Mach.c4Check s := rfl
theorem exec_commissionC6Start (s : State) : exec .commissionC6Start s =
    onProc Mach.c6Start s := rfl
theorem exec_read (s : State) : exec .read s =
    onProc Mach.readAll s := rfl
theorem exec_sweepClose (s : State) : exec .sweepClose s =
    onProc Mach.sweepClose s := rfl
theorem exec_lineTakeover (s : State) : exec .lineTakeover s =
    onProc Mach.lineTakeover s := rfl
theorem exec_bleed (s : State) : exec .bleed s =
    onProc Mach.bleedSend s := rfl
theorem exec_alarmLoopBroken (s : State) : exec .alarmLoopBroken s =
    onPowered Mach.loopBreak s := rfl
theorem exec_loopSourceTakeover (s : State) : exec .loopSourceTakeover s =
    onPowered Mach.takeSource s := rfl
theorem exec_isolatedStreamLoss (s : State) : exec .isolatedStreamLoss s =
    onProc Mach.streamLoss s := rfl
theorem exec_streamRecovered (s : State) : exec .streamRecovered s =
    onProc Mach.streamRecovered s := rfl
theorem exec_sectionClockHoldover (s : State) : exec .sectionClockHoldover s =
    onPowered Mach.sectionHoldover s := rfl
theorem exec_sectionClockReturn (s : State) : exec .sectionClockReturn s =
    onPowered Mach.sectionReturn s := rfl
theorem exec_sectionRestart (s : State) : exec .sectionRestart s =
    onPowered Mach.sectionRestart s := rfl
theorem exec_hallRecovered (s : State) : exec .hallRecovered s =
    onProc Mach.hallBack s := rfl
theorem exec_injectorStart (s : State) : exec .injectorStart s =
    onProc Mach.injStart s := rfl
theorem exec_injectorStop (s : State) : exec .injectorStop s =
    onProc Mach.injStop s := rfl
theorem exec_isoBackoffEnd (s : State) : exec .isoBackoffEnd s =
    onProc Mach.backoffEnd s := rfl
theorem exec_binStart (s : State) : exec .binStart s =
    onProc Mach.binStart s := rfl
theorem exec_binWindowEnd (s : State) : exec .binWindowEnd s =
    onProc Mach.binWindowEnd s := rfl
theorem exec_binWrite (s : State) : exec .binWrite s =
    onProc Mach.binWrite s := rfl
theorem exec_passStart (s : State) : exec .passStart s =
    onProc Mach.passStart s := rfl
theorem exec_qualifyingRest (s : State) : exec .qualifyingRest s =
    onProc Mach.qualifyRest s := rfl
theorem exec_restCorrection (s : State) : exec .restCorrection s =
    onProc Mach.restAgain s := rfl
theorem exec_referenceAged (s : State) : exec .referenceAged s =
    onProc Mach.referenceAged s := rfl
theorem exec_estimatorInit (s : State) : exec .estimatorInit s =
    onProc Mach.estInit s := rfl
theorem exec_leadValuesMissing (s : State) : exec .leadValuesMissing s =
    onProc Mach.leadMissing s := rfl
theorem exec_balancingDecision (s : State) : exec .balancingDecision s =
    onProc Mach.balDecide s := rfl
theorem exec_syncHoldover (s : State) : exec .syncHoldover s =
    onProc Mach.syncHoldover s := rfl
theorem exec_syncGlide (s : State) : exec .syncGlide s =
    onProc Mach.syncGlide s := rfl
theorem exec_syncGlideEnd (s : State) : exec .syncGlideEnd s =
    onProc Mach.syncGlideEnd s := rfl
theorem exec_softStart (s : State) : exec .softStart s =
    onProc Mach.softStart s := rfl
theorem exec_softStopRamp (s : State) : exec .softStopRamp s =
    onProc Mach.softStopRamp s := rfl
theorem exec_dipPulseEnd (s : State) : exec .dipPulseEnd s =
    onProc (fun m => m.updConv (fun c => { c with burst := false })) s := rfl
theorem exec_dipFloorRelease (s : State) : exec .dipFloorRelease s =
    onProc Mach.dipRelease s := rfl
theorem exec_prechargeStageComplete (s : State) : exec .prechargeStageComplete s =
    onProc Mach.stageComplete s := rfl
theorem exec_kPreRelease (s : State) : exec .kPreRelease s =
    onProc Mach.preRelease s := rfl
theorem exec_fastTripRestart (s : State) : exec .fastTripRestart s =
    onProc Mach.orderRestart s := rfl
theorem exec_senseMismatchTimeout (s : State) : exec .senseMismatchTimeout s =
    onProc Mach.senseTimeout s := rfl
theorem exec_lsaRefresh (s : State) : exec .lsaRefresh s =
    onProc (fun m => (m.originate 0).originate 1) s := rfl
theorem exec_claimListenEnd (s : State) : exec .claimListenEnd s =
    onProc Mach.listenEnd s := rfl
theorem exec_claimWaitEnd (s : State) : exec .claimWaitEnd s =
    onProc Mach.waitEnd s := rfl
theorem exec_addressEstablished (s : State) : exec .addressEstablished s =
    onProc Mach.established s := rfl
theorem exec_announceSend (s : State) : exec .announceSend s =
    onProc (fun m => if m.gmCandidate then m.flood 6 (fun q => .announce q m.ownRank) else m) s := rfl
theorem exec_grandmasterElection (s : State) : exec .grandmasterElection s =
    onProc Mach.gmElection s := rfl
theorem exec_timeHoldover (s : State) : exec .timeHoldover s =
    onProc Mach.toHoldover s := rfl
theorem exec_fastSummarySend (s : State) : exec .fastSummarySend s =
    onProc Mach.summarySend s := rfl
theorem exec_slowRecordSend (s : State) : exec .slowRecordSend s =
    onProc Mach.slowSend s := rfl
theorem exec_provisionalView (s : State) : exec .provisionalView s =
    onProc Mach.provisional s := rfl
theorem exec_viewClose (s : State) : exec .viewClose s =
    onProc Mach.viewClose s := rfl
theorem exec_slowViewClose (s : State) : exec .slowViewClose s =
    onProc Mach.slowClose s := rfl
theorem exec_hashCheck (s : State) : exec .hashCheck s =
    onProc Mach.hashCheck s := rfl
theorem exec_allocHoldWithdraw (s : State) : exec .allocHoldWithdraw s =
    onProc Mach.holdWithdraw s := rfl
theorem exec_viewFounding (s : State) : exec .viewFounding s =
    onProc Mach.viewFounding s := rfl
theorem exec_membershipLeave (s : State) : exec .membershipLeave s =
    onProc Mach.membershipLeave s := rfl
theorem exec_restSlotStart (s : State) : exec .restSlotStart s =
    onProc Mach.restStart s := rfl
theorem exec_restSlotEnd (s : State) : exec .restSlotEnd s =
    onProc Mach.restEnd s := rfl
theorem exec_heartbeatLapse (s : State) : exec .heartbeatLapse s =
    onFox Mach.heartbeatLapse s := rfl
theorem exec_heartbeatPresent (s : State) : exec .heartbeatPresent s =
    onHeartbeat true Mach.heartbeatPresent s := rfl
theorem exec_aliveTimeout (s : State) : exec .aliveTimeout s =
    onProc Mach.aliveTimeout s := rfl
theorem exec_takebackStart (s : State) : exec .takebackStart s =
    onProc Mach.takebackStart s := rfl
theorem exec_takebackHandover (s : State) : exec .takebackHandover s =
    onProc Mach.takebackHandover s := rfl
theorem exec_takebackEnd (s : State) : exec .takebackEnd s =
    onProc Mach.takebackEnd s := rfl
theorem exec_walnutSweepEvaluation (s : State) : exec .walnutSweepEvaluation s =
    onProc Mach.walnutSweep s := rfl
theorem exec_foxgloveOcDemand (s : State) : exec .foxgloveOcDemand s =
    onPowered Mach.foxOc s := rfl
theorem exec_siDiscrepancy (s : State) : exec .siDiscrepancy s =
    onProc Mach.siDiscrepancy s := rfl
theorem exec_si6Cancelled (s : State) : exec .si6Cancelled s =
    onProc Mach.si6Cancelled s := rfl
theorem exec_contactorForcedOpen (s : State) : exec .contactorForcedOpen s =
    onFox Mach.forcedOpen s := rfl
theorem exec_uvEscalation (s : State) : exec .uvEscalation s =
    onProc Mach.uvEscalate s := rfl
theorem exec_dischargeStopRelease (s : State) : exec .dischargeStopRelease s =
    onProc Mach.dischargeRelease s := rfl
theorem exec_tripRelease (s : State) : exec .tripRelease s =
    onFox Mach.tripRelease s := rfl
theorem exec_thermalDemand (s : State) : exec .thermalDemand s =
    onProc Mach.thermalDemand s := rfl
theorem exec_thermalFallback (s : State) : exec .thermalFallback s =
    onProc Mach.thermalFallback s := rfl
theorem exec_coolDemand (s : State) : exec .coolDemand s =
    onProc Mach.coolDemand s := rfl
theorem exec_collectorSelf (s : State) : exec .collectorSelf s =
    onProc Mach.collectorSelf s := rfl
theorem exec_injectionAbort (s : State) : exec .injectionAbort s =
    onProc Mach.injectAbort s := rfl
theorem exec_recordCommit (s : State) : exec .recordCommit s =
    onProc Mach.commitRecord s := rfl
theorem exec_recorderClearDone (s : State) : exec .recorderClearDone s =
    onProc Mach.clearDone s := rfl
theorem exec_journalCommit (s : State) : exec .journalCommit s =
    onProc Mach.journalCommit s := rfl
theorem exec_compactionStart (s : State) : exec .compactionStart s =
    onProc Mach.compactionStart s := rfl
theorem exec_compactionComplete (s : State) : exec .compactionComplete s =
    onProc Mach.compactionDone s := rfl
theorem exec_relayEntryExpiry (s : State) : exec .relayEntryExpiry s =
    onProc Mach.relayExpiry s := rfl
theorem exec_sessionTimeout (s : State) : exec .sessionTimeout s =
    onProc Mach.sessionTimeout s := rfl
theorem exec_expertUnlockExpiry (s : State) : exec .expertUnlockExpiry s =
    onProc Mach.unlockExpiry s := rfl
theorem exec_transferTimeout (s : State) : exec .transferTimeout s =
    onProc Mach.transferTimeout s := rfl
theorem exec_capture (s : State) : exec .capture s =
    onProc Mach.takeCaptures s := rfl
theorem exec_captureBusy (s : State) : exec .captureBusy s =
    onProc Mach.captureBusy s := rfl
theorem exec_writeEffect (s : State) : exec .writeEffect s =
    onProc Mach.writeEffect s := rfl
theorem exec_fragmentTimeout (s : State) : exec .fragmentTimeout s =
    onProc Mach.fragTimeout s := rfl
theorem exec_loadAbandoned (s : State) : exec .loadAbandoned s =
    onProc Mach.loadTimeout s := rfl
theorem exec_trialTimeExpiry (s : State) : exec .trialTimeExpiry s =
    onProc Mach.trialTime s := rfl
theorem exec_clockFail (s : State) : exec .clockFail s =
    onFox Mach.clockFailed s := rfl
theorem exec_clockRecovery (s : State) : exec .clockRecovery s =
    onFox Mach.clockBack s := rfl
theorem exec_watchdogReset (s : State) : exec .watchdogReset s =
    onProc (fun m => m.procReset .watchdog) s := rfl
theorem exec_alarmLoopRestored (s : State) : exec .alarmLoopRestored s =
    onFox Mach.loopRestored s := rfl
theorem exec_bootstrapWindowEnd (s : State) : exec .bootstrapWindowEnd s =
    onFox Mach.bootstrapEnd s := rfl

end Sys2Proof.Machine
end

