-- ==== Sys2Proof/Laws/State.lean ====
section
/-! SUPPORT. What every change of one part leaves of every field, one lemma per change and field, so that no proof unfolds
a record update. -/

namespace Sys2Proof.Machine

variable (m : Mach)

@[simp] theorem Mach.updArch_now (f : Arch → Arch) : (m.updArch f).now = m.now := rfl
@[simp] theorem Mach.updArch_fabBase (f : Arch → Arch) : (m.updArch f).fabBase = m.fabBase := rfl
@[simp] theorem Mach.updArch_freeCtr (f : Arch → Arch) : (m.updArch f).freeCtr = m.freeCtr := rfl
@[simp] theorem Mach.updArch_out (f : Arch → Arch) : (m.updArch f).out = m.out := rfl
@[simp] theorem Mach.updArch_params (f : Arch → Arch) : (m.updArch f).params = m.params := rfl
@[simp] theorem Mach.updArch_arch (f : Arch → Arch) : (m.updArch f).arch = f m.arch := rfl
@[simp] theorem Mach.updArch_mode (f : Arch → Arch) : (m.updArch f).mode = m.mode := rfl
@[simp] theorem Mach.updArch_chain (f : Arch → Arch) : (m.updArch f).chain = m.chain := rfl
@[simp] theorem Mach.updArch_meas (f : Arch → Arch) : (m.updArch f).meas = m.meas := rfl
@[simp] theorem Mach.updArch_iso (f : Arch → Arch) : (m.updArch f).iso = m.iso := rfl
@[simp] theorem Mach.updArch_imp (f : Arch → Arch) : (m.updArch f).imp = m.imp := rfl
@[simp] theorem Mach.updArch_est (f : Arch → Arch) : (m.updArch f).est = m.est := rfl
@[simp] theorem Mach.updArch_bal (f : Arch → Arch) : (m.updArch f).bal = m.bal := rfl
@[simp] theorem Mach.updArch_pwm (f : Arch → Arch) : (m.updArch f).pwm = m.pwm := rfl
@[simp] theorem Mach.updArch_conv (f : Arch → Arch) : (m.updArch f).conv = m.conv := rfl
@[simp] theorem Mach.updArch_fab (f : Arch → Arch) : (m.updArch f).fab = m.fab := rfl
@[simp] theorem Mach.updArch_safe (f : Arch → Arch) : (m.updArch f).safe = m.safe := rfl
@[simp] theorem Mach.updArch_plant (f : Arch → Arch) : (m.updArch f).plant = m.plant := rfl
@[simp] theorem Mach.updArch_plantCnt (f : Arch → Arch) : (m.updArch f).plantCnt = m.plantCnt := rfl
@[simp] theorem Mach.updArch_pair (f : Arch → Arch) : (m.updArch f).pair = m.pair := rfl
@[simp] theorem Mach.updArch_saf (f : Arch → Arch) : (m.updArch f).saf = m.saf := rfl
@[simp] theorem Mach.updArch_therm (f : Arch → Arch) : (m.updArch f).therm = m.therm := rfl
@[simp] theorem Mach.updArch_flt (f : Arch → Arch) : (m.updArch f).flt = m.flt := rfl
@[simp] theorem Mach.updArch_seed (f : Arch → Arch) : (m.updArch f).seed = m.seed := rfl
@[simp] theorem Mach.updArch_nv (f : Arch → Arch) : (m.updArch f).nv = m.nv := rfl
@[simp] theorem Mach.updArch_mbx (f : Arch → Arch) : (m.updArch f).mbx = m.mbx := rfl
@[simp] theorem Mach.updArch_can (f : Arch → Arch) : (m.updArch f).can = m.can := rfl
@[simp] theorem Mach.updArch_upd (f : Arch → Arch) : (m.updArch f).upd = m.upd := rfl
@[simp] theorem Mach.updArch_clk (f : Arch → Arch) : (m.updArch f).clk = m.clk := rfl
@[simp] theorem Mach.updArch_fact (f : Arch → Arch) : (m.updArch f).fact = m.fact := rfl
@[simp] theorem Mach.updArch_obs (f : Arch → Arch) : (m.updArch f).obs = m.obs := rfl

@[simp] theorem Mach.updMode_now (f : ModeSt → ModeSt) : (m.updMode f).now = m.now := rfl
@[simp] theorem Mach.updMode_fabBase (f : ModeSt → ModeSt) : (m.updMode f).fabBase = m.fabBase := rfl
@[simp] theorem Mach.updMode_freeCtr (f : ModeSt → ModeSt) : (m.updMode f).freeCtr = m.freeCtr := rfl
@[simp] theorem Mach.updMode_out (f : ModeSt → ModeSt) : (m.updMode f).out = m.out := rfl
@[simp] theorem Mach.updMode_params (f : ModeSt → ModeSt) : (m.updMode f).params = m.params := rfl
@[simp] theorem Mach.updMode_arch (f : ModeSt → ModeSt) : (m.updMode f).arch = m.arch := rfl
@[simp] theorem Mach.updMode_mode (f : ModeSt → ModeSt) : (m.updMode f).mode = f m.mode := rfl
@[simp] theorem Mach.updMode_chain (f : ModeSt → ModeSt) : (m.updMode f).chain = m.chain := rfl
@[simp] theorem Mach.updMode_meas (f : ModeSt → ModeSt) : (m.updMode f).meas = m.meas := rfl
@[simp] theorem Mach.updMode_iso (f : ModeSt → ModeSt) : (m.updMode f).iso = m.iso := rfl
@[simp] theorem Mach.updMode_imp (f : ModeSt → ModeSt) : (m.updMode f).imp = m.imp := rfl
@[simp] theorem Mach.updMode_est (f : ModeSt → ModeSt) : (m.updMode f).est = m.est := rfl
@[simp] theorem Mach.updMode_bal (f : ModeSt → ModeSt) : (m.updMode f).bal = m.bal := rfl
@[simp] theorem Mach.updMode_pwm (f : ModeSt → ModeSt) : (m.updMode f).pwm = m.pwm := rfl
@[simp] theorem Mach.updMode_conv (f : ModeSt → ModeSt) : (m.updMode f).conv = m.conv := rfl
@[simp] theorem Mach.updMode_fab (f : ModeSt → ModeSt) : (m.updMode f).fab = m.fab := rfl
@[simp] theorem Mach.updMode_safe (f : ModeSt → ModeSt) : (m.updMode f).safe = m.safe := rfl
@[simp] theorem Mach.updMode_plant (f : ModeSt → ModeSt) : (m.updMode f).plant = m.plant := rfl
@[simp] theorem Mach.updMode_plantCnt (f : ModeSt → ModeSt) : (m.updMode f).plantCnt = m.plantCnt := rfl
@[simp] theorem Mach.updMode_pair (f : ModeSt → ModeSt) : (m.updMode f).pair = m.pair := rfl
@[simp] theorem Mach.updMode_saf (f : ModeSt → ModeSt) : (m.updMode f).saf = m.saf := rfl
@[simp] theorem Mach.updMode_therm (f : ModeSt → ModeSt) : (m.updMode f).therm = m.therm := rfl
@[simp] theorem Mach.updMode_flt (f : ModeSt → ModeSt) : (m.updMode f).flt = m.flt := rfl
@[simp] theorem Mach.updMode_seed (f : ModeSt → ModeSt) : (m.updMode f).seed = m.seed := rfl
@[simp] theorem Mach.updMode_nv (f : ModeSt → ModeSt) : (m.updMode f).nv = m.nv := rfl
@[simp] theorem Mach.updMode_mbx (f : ModeSt → ModeSt) : (m.updMode f).mbx = m.mbx := rfl
@[simp] theorem Mach.updMode_can (f : ModeSt → ModeSt) : (m.updMode f).can = m.can := rfl
@[simp] theorem Mach.updMode_upd (f : ModeSt → ModeSt) : (m.updMode f).upd = m.upd := rfl
@[simp] theorem Mach.updMode_clk (f : ModeSt → ModeSt) : (m.updMode f).clk = m.clk := rfl
@[simp] theorem Mach.updMode_fact (f : ModeSt → ModeSt) : (m.updMode f).fact = m.fact := rfl
@[simp] theorem Mach.updMode_obs (f : ModeSt → ModeSt) : (m.updMode f).obs = m.obs := rfl

@[simp] theorem Mach.updChain_now (f : Chain → Chain) : (m.updChain f).now = m.now := rfl
@[simp] theorem Mach.updChain_fabBase (f : Chain → Chain) : (m.updChain f).fabBase = m.fabBase := rfl
@[simp] theorem Mach.updChain_freeCtr (f : Chain → Chain) : (m.updChain f).freeCtr = m.freeCtr := rfl
@[simp] theorem Mach.updChain_out (f : Chain → Chain) : (m.updChain f).out = m.out := rfl
@[simp] theorem Mach.updChain_params (f : Chain → Chain) : (m.updChain f).params = m.params := rfl
@[simp] theorem Mach.updChain_arch (f : Chain → Chain) : (m.updChain f).arch = m.arch := rfl
@[simp] theorem Mach.updChain_mode (f : Chain → Chain) : (m.updChain f).mode = m.mode := rfl
@[simp] theorem Mach.updChain_chain (f : Chain → Chain) : (m.updChain f).chain = f m.chain := rfl
@[simp] theorem Mach.updChain_meas (f : Chain → Chain) : (m.updChain f).meas = m.meas := rfl
@[simp] theorem Mach.updChain_iso (f : Chain → Chain) : (m.updChain f).iso = m.iso := rfl
@[simp] theorem Mach.updChain_imp (f : Chain → Chain) : (m.updChain f).imp = m.imp := rfl
@[simp] theorem Mach.updChain_est (f : Chain → Chain) : (m.updChain f).est = m.est := rfl
@[simp] theorem Mach.updChain_bal (f : Chain → Chain) : (m.updChain f).bal = m.bal := rfl
@[simp] theorem Mach.updChain_pwm (f : Chain → Chain) : (m.updChain f).pwm = m.pwm := rfl
@[simp] theorem Mach.updChain_conv (f : Chain → Chain) : (m.updChain f).conv = m.conv := rfl
@[simp] theorem Mach.updChain_fab (f : Chain → Chain) : (m.updChain f).fab = m.fab := rfl
@[simp] theorem Mach.updChain_safe (f : Chain → Chain) : (m.updChain f).safe = m.safe := rfl
@[simp] theorem Mach.updChain_plant (f : Chain → Chain) : (m.updChain f).plant = m.plant := rfl
@[simp] theorem Mach.updChain_plantCnt (f : Chain → Chain) : (m.updChain f).plantCnt = m.plantCnt := rfl
@[simp] theorem Mach.updChain_pair (f : Chain → Chain) : (m.updChain f).pair = m.pair := rfl
@[simp] theorem Mach.updChain_saf (f : Chain → Chain) : (m.updChain f).saf = m.saf := rfl
@[simp] theorem Mach.updChain_therm (f : Chain → Chain) : (m.updChain f).therm = m.therm := rfl
@[simp] theorem Mach.updChain_flt (f : Chain → Chain) : (m.updChain f).flt = m.flt := rfl
@[simp] theorem Mach.updChain_seed (f : Chain → Chain) : (m.updChain f).seed = m.seed := rfl
@[simp] theorem Mach.updChain_nv (f : Chain → Chain) : (m.updChain f).nv = m.nv := rfl
@[simp] theorem Mach.updChain_mbx (f : Chain → Chain) : (m.updChain f).mbx = m.mbx := rfl
@[simp] theorem Mach.updChain_can (f : Chain → Chain) : (m.updChain f).can = m.can := rfl
@[simp] theorem Mach.updChain_upd (f : Chain → Chain) : (m.updChain f).upd = m.upd := rfl
@[simp] theorem Mach.updChain_clk (f : Chain → Chain) : (m.updChain f).clk = m.clk := rfl
@[simp] theorem Mach.updChain_fact (f : Chain → Chain) : (m.updChain f).fact = m.fact := rfl
@[simp] theorem Mach.updChain_obs (f : Chain → Chain) : (m.updChain f).obs = m.obs := rfl

@[simp] theorem Mach.updMeas_now (f : Meas → Meas) : (m.updMeas f).now = m.now := rfl
@[simp] theorem Mach.updMeas_fabBase (f : Meas → Meas) : (m.updMeas f).fabBase = m.fabBase := rfl
@[simp] theorem Mach.updMeas_freeCtr (f : Meas → Meas) : (m.updMeas f).freeCtr = m.freeCtr := rfl
@[simp] theorem Mach.updMeas_out (f : Meas → Meas) : (m.updMeas f).out = m.out := rfl
@[simp] theorem Mach.updMeas_params (f : Meas → Meas) : (m.updMeas f).params = m.params := rfl
@[simp] theorem Mach.updMeas_arch (f : Meas → Meas) : (m.updMeas f).arch = m.arch := rfl
@[simp] theorem Mach.updMeas_mode (f : Meas → Meas) : (m.updMeas f).mode = m.mode := rfl
@[simp] theorem Mach.updMeas_chain (f : Meas → Meas) : (m.updMeas f).chain = m.chain := rfl
@[simp] theorem Mach.updMeas_meas (f : Meas → Meas) : (m.updMeas f).meas = f m.meas := rfl
@[simp] theorem Mach.updMeas_iso (f : Meas → Meas) : (m.updMeas f).iso = m.iso := rfl
@[simp] theorem Mach.updMeas_imp (f : Meas → Meas) : (m.updMeas f).imp = m.imp := rfl
@[simp] theorem Mach.updMeas_est (f : Meas → Meas) : (m.updMeas f).est = m.est := rfl
@[simp] theorem Mach.updMeas_bal (f : Meas → Meas) : (m.updMeas f).bal = m.bal := rfl
@[simp] theorem Mach.updMeas_pwm (f : Meas → Meas) : (m.updMeas f).pwm = m.pwm := rfl
@[simp] theorem Mach.updMeas_conv (f : Meas → Meas) : (m.updMeas f).conv = m.conv := rfl
@[simp] theorem Mach.updMeas_fab (f : Meas → Meas) : (m.updMeas f).fab = m.fab := rfl
@[simp] theorem Mach.updMeas_safe (f : Meas → Meas) : (m.updMeas f).safe = m.safe := rfl
@[simp] theorem Mach.updMeas_plant (f : Meas → Meas) : (m.updMeas f).plant = m.plant := rfl
@[simp] theorem Mach.updMeas_plantCnt (f : Meas → Meas) : (m.updMeas f).plantCnt = m.plantCnt := rfl
@[simp] theorem Mach.updMeas_pair (f : Meas → Meas) : (m.updMeas f).pair = m.pair := rfl
@[simp] theorem Mach.updMeas_saf (f : Meas → Meas) : (m.updMeas f).saf = m.saf := rfl
@[simp] theorem Mach.updMeas_therm (f : Meas → Meas) : (m.updMeas f).therm = m.therm := rfl
@[simp] theorem Mach.updMeas_flt (f : Meas → Meas) : (m.updMeas f).flt = m.flt := rfl
@[simp] theorem Mach.updMeas_seed (f : Meas → Meas) : (m.updMeas f).seed = m.seed := rfl
@[simp] theorem Mach.updMeas_nv (f : Meas → Meas) : (m.updMeas f).nv = m.nv := rfl
@[simp] theorem Mach.updMeas_mbx (f : Meas → Meas) : (m.updMeas f).mbx = m.mbx := rfl
@[simp] theorem Mach.updMeas_can (f : Meas → Meas) : (m.updMeas f).can = m.can := rfl
@[simp] theorem Mach.updMeas_upd (f : Meas → Meas) : (m.updMeas f).upd = m.upd := rfl
@[simp] theorem Mach.updMeas_clk (f : Meas → Meas) : (m.updMeas f).clk = m.clk := rfl
@[simp] theorem Mach.updMeas_fact (f : Meas → Meas) : (m.updMeas f).fact = m.fact := rfl
@[simp] theorem Mach.updMeas_obs (f : Meas → Meas) : (m.updMeas f).obs = m.obs := rfl

@[simp] theorem Mach.updIso_now (f : Iso → Iso) : (m.updIso f).now = m.now := rfl
@[simp] theorem Mach.updIso_fabBase (f : Iso → Iso) : (m.updIso f).fabBase = m.fabBase := rfl
@[simp] theorem Mach.updIso_freeCtr (f : Iso → Iso) : (m.updIso f).freeCtr = m.freeCtr := rfl
@[simp] theorem Mach.updIso_out (f : Iso → Iso) : (m.updIso f).out = m.out := rfl
@[simp] theorem Mach.updIso_params (f : Iso → Iso) : (m.updIso f).params = m.params := rfl
@[simp] theorem Mach.updIso_arch (f : Iso → Iso) : (m.updIso f).arch = m.arch := rfl
@[simp] theorem Mach.updIso_mode (f : Iso → Iso) : (m.updIso f).mode = m.mode := rfl
@[simp] theorem Mach.updIso_chain (f : Iso → Iso) : (m.updIso f).chain = m.chain := rfl
@[simp] theorem Mach.updIso_meas (f : Iso → Iso) : (m.updIso f).meas = m.meas := rfl
@[simp] theorem Mach.updIso_iso (f : Iso → Iso) : (m.updIso f).iso = f m.iso := rfl
@[simp] theorem Mach.updIso_imp (f : Iso → Iso) : (m.updIso f).imp = m.imp := rfl
@[simp] theorem Mach.updIso_est (f : Iso → Iso) : (m.updIso f).est = m.est := rfl
@[simp] theorem Mach.updIso_bal (f : Iso → Iso) : (m.updIso f).bal = m.bal := rfl
@[simp] theorem Mach.updIso_pwm (f : Iso → Iso) : (m.updIso f).pwm = m.pwm := rfl
@[simp] theorem Mach.updIso_conv (f : Iso → Iso) : (m.updIso f).conv = m.conv := rfl
@[simp] theorem Mach.updIso_fab (f : Iso → Iso) : (m.updIso f).fab = m.fab := rfl
@[simp] theorem Mach.updIso_safe (f : Iso → Iso) : (m.updIso f).safe = m.safe := rfl
@[simp] theorem Mach.updIso_plant (f : Iso → Iso) : (m.updIso f).plant = m.plant := rfl
@[simp] theorem Mach.updIso_plantCnt (f : Iso → Iso) : (m.updIso f).plantCnt = m.plantCnt := rfl
@[simp] theorem Mach.updIso_pair (f : Iso → Iso) : (m.updIso f).pair = m.pair := rfl
@[simp] theorem Mach.updIso_saf (f : Iso → Iso) : (m.updIso f).saf = m.saf := rfl
@[simp] theorem Mach.updIso_therm (f : Iso → Iso) : (m.updIso f).therm = m.therm := rfl
@[simp] theorem Mach.updIso_flt (f : Iso → Iso) : (m.updIso f).flt = m.flt := rfl
@[simp] theorem Mach.updIso_seed (f : Iso → Iso) : (m.updIso f).seed = m.seed := rfl
@[simp] theorem Mach.updIso_nv (f : Iso → Iso) : (m.updIso f).nv = m.nv := rfl
@[simp] theorem Mach.updIso_mbx (f : Iso → Iso) : (m.updIso f).mbx = m.mbx := rfl
@[simp] theorem Mach.updIso_can (f : Iso → Iso) : (m.updIso f).can = m.can := rfl
@[simp] theorem Mach.updIso_upd (f : Iso → Iso) : (m.updIso f).upd = m.upd := rfl
@[simp] theorem Mach.updIso_clk (f : Iso → Iso) : (m.updIso f).clk = m.clk := rfl
@[simp] theorem Mach.updIso_fact (f : Iso → Iso) : (m.updIso f).fact = m.fact := rfl
@[simp] theorem Mach.updIso_obs (f : Iso → Iso) : (m.updIso f).obs = m.obs := rfl

@[simp] theorem Mach.updImp_now (f : Imp → Imp) : (m.updImp f).now = m.now := rfl
@[simp] theorem Mach.updImp_fabBase (f : Imp → Imp) : (m.updImp f).fabBase = m.fabBase := rfl
@[simp] theorem Mach.updImp_freeCtr (f : Imp → Imp) : (m.updImp f).freeCtr = m.freeCtr := rfl
@[simp] theorem Mach.updImp_out (f : Imp → Imp) : (m.updImp f).out = m.out := rfl
@[simp] theorem Mach.updImp_params (f : Imp → Imp) : (m.updImp f).params = m.params := rfl
@[simp] theorem Mach.updImp_arch (f : Imp → Imp) : (m.updImp f).arch = m.arch := rfl
@[simp] theorem Mach.updImp_mode (f : Imp → Imp) : (m.updImp f).mode = m.mode := rfl
@[simp] theorem Mach.updImp_chain (f : Imp → Imp) : (m.updImp f).chain = m.chain := rfl
@[simp] theorem Mach.updImp_meas (f : Imp → Imp) : (m.updImp f).meas = m.meas := rfl
@[simp] theorem Mach.updImp_iso (f : Imp → Imp) : (m.updImp f).iso = m.iso := rfl
@[simp] theorem Mach.updImp_imp (f : Imp → Imp) : (m.updImp f).imp = f m.imp := rfl
@[simp] theorem Mach.updImp_est (f : Imp → Imp) : (m.updImp f).est = m.est := rfl
@[simp] theorem Mach.updImp_bal (f : Imp → Imp) : (m.updImp f).bal = m.bal := rfl
@[simp] theorem Mach.updImp_pwm (f : Imp → Imp) : (m.updImp f).pwm = m.pwm := rfl
@[simp] theorem Mach.updImp_conv (f : Imp → Imp) : (m.updImp f).conv = m.conv := rfl
@[simp] theorem Mach.updImp_fab (f : Imp → Imp) : (m.updImp f).fab = m.fab := rfl
@[simp] theorem Mach.updImp_safe (f : Imp → Imp) : (m.updImp f).safe = m.safe := rfl
@[simp] theorem Mach.updImp_plant (f : Imp → Imp) : (m.updImp f).plant = m.plant := rfl
@[simp] theorem Mach.updImp_plantCnt (f : Imp → Imp) : (m.updImp f).plantCnt = m.plantCnt := rfl
@[simp] theorem Mach.updImp_pair (f : Imp → Imp) : (m.updImp f).pair = m.pair := rfl
@[simp] theorem Mach.updImp_saf (f : Imp → Imp) : (m.updImp f).saf = m.saf := rfl
@[simp] theorem Mach.updImp_therm (f : Imp → Imp) : (m.updImp f).therm = m.therm := rfl
@[simp] theorem Mach.updImp_flt (f : Imp → Imp) : (m.updImp f).flt = m.flt := rfl
@[simp] theorem Mach.updImp_seed (f : Imp → Imp) : (m.updImp f).seed = m.seed := rfl
@[simp] theorem Mach.updImp_nv (f : Imp → Imp) : (m.updImp f).nv = m.nv := rfl
@[simp] theorem Mach.updImp_mbx (f : Imp → Imp) : (m.updImp f).mbx = m.mbx := rfl
@[simp] theorem Mach.updImp_can (f : Imp → Imp) : (m.updImp f).can = m.can := rfl
@[simp] theorem Mach.updImp_upd (f : Imp → Imp) : (m.updImp f).upd = m.upd := rfl
@[simp] theorem Mach.updImp_clk (f : Imp → Imp) : (m.updImp f).clk = m.clk := rfl
@[simp] theorem Mach.updImp_fact (f : Imp → Imp) : (m.updImp f).fact = m.fact := rfl
@[simp] theorem Mach.updImp_obs (f : Imp → Imp) : (m.updImp f).obs = m.obs := rfl

@[simp] theorem Mach.updEst_now (f : Est → Est) : (m.updEst f).now = m.now := rfl
@[simp] theorem Mach.updEst_fabBase (f : Est → Est) : (m.updEst f).fabBase = m.fabBase := rfl
@[simp] theorem Mach.updEst_freeCtr (f : Est → Est) : (m.updEst f).freeCtr = m.freeCtr := rfl
@[simp] theorem Mach.updEst_out (f : Est → Est) : (m.updEst f).out = m.out := rfl
@[simp] theorem Mach.updEst_params (f : Est → Est) : (m.updEst f).params = m.params := rfl
@[simp] theorem Mach.updEst_arch (f : Est → Est) : (m.updEst f).arch = m.arch := rfl
@[simp] theorem Mach.updEst_mode (f : Est → Est) : (m.updEst f).mode = m.mode := rfl
@[simp] theorem Mach.updEst_chain (f : Est → Est) : (m.updEst f).chain = m.chain := rfl
@[simp] theorem Mach.updEst_meas (f : Est → Est) : (m.updEst f).meas = m.meas := rfl
@[simp] theorem Mach.updEst_iso (f : Est → Est) : (m.updEst f).iso = m.iso := rfl
@[simp] theorem Mach.updEst_imp (f : Est → Est) : (m.updEst f).imp = m.imp := rfl
@[simp] theorem Mach.updEst_est (f : Est → Est) : (m.updEst f).est = f m.est := rfl
@[simp] theorem Mach.updEst_bal (f : Est → Est) : (m.updEst f).bal = m.bal := rfl
@[simp] theorem Mach.updEst_pwm (f : Est → Est) : (m.updEst f).pwm = m.pwm := rfl
@[simp] theorem Mach.updEst_conv (f : Est → Est) : (m.updEst f).conv = m.conv := rfl
@[simp] theorem Mach.updEst_fab (f : Est → Est) : (m.updEst f).fab = m.fab := rfl
@[simp] theorem Mach.updEst_safe (f : Est → Est) : (m.updEst f).safe = m.safe := rfl
@[simp] theorem Mach.updEst_plant (f : Est → Est) : (m.updEst f).plant = m.plant := rfl
@[simp] theorem Mach.updEst_plantCnt (f : Est → Est) : (m.updEst f).plantCnt = m.plantCnt := rfl
@[simp] theorem Mach.updEst_pair (f : Est → Est) : (m.updEst f).pair = m.pair := rfl
@[simp] theorem Mach.updEst_saf (f : Est → Est) : (m.updEst f).saf = m.saf := rfl
@[simp] theorem Mach.updEst_therm (f : Est → Est) : (m.updEst f).therm = m.therm := rfl
@[simp] theorem Mach.updEst_flt (f : Est → Est) : (m.updEst f).flt = m.flt := rfl
@[simp] theorem Mach.updEst_seed (f : Est → Est) : (m.updEst f).seed = m.seed := rfl
@[simp] theorem Mach.updEst_nv (f : Est → Est) : (m.updEst f).nv = m.nv := rfl
@[simp] theorem Mach.updEst_mbx (f : Est → Est) : (m.updEst f).mbx = m.mbx := rfl
@[simp] theorem Mach.updEst_can (f : Est → Est) : (m.updEst f).can = m.can := rfl
@[simp] theorem Mach.updEst_upd (f : Est → Est) : (m.updEst f).upd = m.upd := rfl
@[simp] theorem Mach.updEst_clk (f : Est → Est) : (m.updEst f).clk = m.clk := rfl
@[simp] theorem Mach.updEst_fact (f : Est → Est) : (m.updEst f).fact = m.fact := rfl
@[simp] theorem Mach.updEst_obs (f : Est → Est) : (m.updEst f).obs = m.obs := rfl

@[simp] theorem Mach.updBal_now (f : Bal → Bal) : (m.updBal f).now = m.now := rfl
@[simp] theorem Mach.updBal_fabBase (f : Bal → Bal) : (m.updBal f).fabBase = m.fabBase := rfl
@[simp] theorem Mach.updBal_freeCtr (f : Bal → Bal) : (m.updBal f).freeCtr = m.freeCtr := rfl
@[simp] theorem Mach.updBal_out (f : Bal → Bal) : (m.updBal f).out = m.out := rfl
@[simp] theorem Mach.updBal_params (f : Bal → Bal) : (m.updBal f).params = m.params := rfl
@[simp] theorem Mach.updBal_arch (f : Bal → Bal) : (m.updBal f).arch = m.arch := rfl
@[simp] theorem Mach.updBal_mode (f : Bal → Bal) : (m.updBal f).mode = m.mode := rfl
@[simp] theorem Mach.updBal_chain (f : Bal → Bal) : (m.updBal f).chain = m.chain := rfl
@[simp] theorem Mach.updBal_meas (f : Bal → Bal) : (m.updBal f).meas = m.meas := rfl
@[simp] theorem Mach.updBal_iso (f : Bal → Bal) : (m.updBal f).iso = m.iso := rfl
@[simp] theorem Mach.updBal_imp (f : Bal → Bal) : (m.updBal f).imp = m.imp := rfl
@[simp] theorem Mach.updBal_est (f : Bal → Bal) : (m.updBal f).est = m.est := rfl
@[simp] theorem Mach.updBal_bal (f : Bal → Bal) : (m.updBal f).bal = f m.bal := rfl
@[simp] theorem Mach.updBal_pwm (f : Bal → Bal) : (m.updBal f).pwm = m.pwm := rfl
@[simp] theorem Mach.updBal_conv (f : Bal → Bal) : (m.updBal f).conv = m.conv := rfl
@[simp] theorem Mach.updBal_fab (f : Bal → Bal) : (m.updBal f).fab = m.fab := rfl
@[simp] theorem Mach.updBal_safe (f : Bal → Bal) : (m.updBal f).safe = m.safe := rfl
@[simp] theorem Mach.updBal_plant (f : Bal → Bal) : (m.updBal f).plant = m.plant := rfl
@[simp] theorem Mach.updBal_plantCnt (f : Bal → Bal) : (m.updBal f).plantCnt = m.plantCnt := rfl
@[simp] theorem Mach.updBal_pair (f : Bal → Bal) : (m.updBal f).pair = m.pair := rfl
@[simp] theorem Mach.updBal_saf (f : Bal → Bal) : (m.updBal f).saf = m.saf := rfl
@[simp] theorem Mach.updBal_therm (f : Bal → Bal) : (m.updBal f).therm = m.therm := rfl
@[simp] theorem Mach.updBal_flt (f : Bal → Bal) : (m.updBal f).flt = m.flt := rfl
@[simp] theorem Mach.updBal_seed (f : Bal → Bal) : (m.updBal f).seed = m.seed := rfl
@[simp] theorem Mach.updBal_nv (f : Bal → Bal) : (m.updBal f).nv = m.nv := rfl
@[simp] theorem Mach.updBal_mbx (f : Bal → Bal) : (m.updBal f).mbx = m.mbx := rfl
@[simp] theorem Mach.updBal_can (f : Bal → Bal) : (m.updBal f).can = m.can := rfl
@[simp] theorem Mach.updBal_upd (f : Bal → Bal) : (m.updBal f).upd = m.upd := rfl
@[simp] theorem Mach.updBal_clk (f : Bal → Bal) : (m.updBal f).clk = m.clk := rfl
@[simp] theorem Mach.updBal_fact (f : Bal → Bal) : (m.updBal f).fact = m.fact := rfl
@[simp] theorem Mach.updBal_obs (f : Bal → Bal) : (m.updBal f).obs = m.obs := rfl

@[simp] theorem Mach.updPwm_now (f : Pwm → Pwm) : (m.updPwm f).now = m.now := rfl
@[simp] theorem Mach.updPwm_fabBase (f : Pwm → Pwm) : (m.updPwm f).fabBase = m.fabBase := rfl
@[simp] theorem Mach.updPwm_freeCtr (f : Pwm → Pwm) : (m.updPwm f).freeCtr = m.freeCtr := rfl
@[simp] theorem Mach.updPwm_out (f : Pwm → Pwm) : (m.updPwm f).out = m.out := rfl
@[simp] theorem Mach.updPwm_params (f : Pwm → Pwm) : (m.updPwm f).params = m.params := rfl
@[simp] theorem Mach.updPwm_arch (f : Pwm → Pwm) : (m.updPwm f).arch = m.arch := rfl
@[simp] theorem Mach.updPwm_mode (f : Pwm → Pwm) : (m.updPwm f).mode = m.mode := rfl
@[simp] theorem Mach.updPwm_chain (f : Pwm → Pwm) : (m.updPwm f).chain = m.chain := rfl
@[simp] theorem Mach.updPwm_meas (f : Pwm → Pwm) : (m.updPwm f).meas = m.meas := rfl
@[simp] theorem Mach.updPwm_iso (f : Pwm → Pwm) : (m.updPwm f).iso = m.iso := rfl
@[simp] theorem Mach.updPwm_imp (f : Pwm → Pwm) : (m.updPwm f).imp = m.imp := rfl
@[simp] theorem Mach.updPwm_est (f : Pwm → Pwm) : (m.updPwm f).est = m.est := rfl
@[simp] theorem Mach.updPwm_bal (f : Pwm → Pwm) : (m.updPwm f).bal = m.bal := rfl
@[simp] theorem Mach.updPwm_pwm (f : Pwm → Pwm) : (m.updPwm f).pwm = f m.pwm := rfl
@[simp] theorem Mach.updPwm_conv (f : Pwm → Pwm) : (m.updPwm f).conv = m.conv := rfl
@[simp] theorem Mach.updPwm_fab (f : Pwm → Pwm) : (m.updPwm f).fab = m.fab := rfl
@[simp] theorem Mach.updPwm_safe (f : Pwm → Pwm) : (m.updPwm f).safe = m.safe := rfl
@[simp] theorem Mach.updPwm_plant (f : Pwm → Pwm) : (m.updPwm f).plant = m.plant := rfl
@[simp] theorem Mach.updPwm_plantCnt (f : Pwm → Pwm) : (m.updPwm f).plantCnt = m.plantCnt := rfl
@[simp] theorem Mach.updPwm_pair (f : Pwm → Pwm) : (m.updPwm f).pair = m.pair := rfl
@[simp] theorem Mach.updPwm_saf (f : Pwm → Pwm) : (m.updPwm f).saf = m.saf := rfl
@[simp] theorem Mach.updPwm_therm (f : Pwm → Pwm) : (m.updPwm f).therm = m.therm := rfl
@[simp] theorem Mach.updPwm_flt (f : Pwm → Pwm) : (m.updPwm f).flt = m.flt := rfl
@[simp] theorem Mach.updPwm_seed (f : Pwm → Pwm) : (m.updPwm f).seed = m.seed := rfl
@[simp] theorem Mach.updPwm_nv (f : Pwm → Pwm) : (m.updPwm f).nv = m.nv := rfl
@[simp] theorem Mach.updPwm_mbx (f : Pwm → Pwm) : (m.updPwm f).mbx = m.mbx := rfl
@[simp] theorem Mach.updPwm_can (f : Pwm → Pwm) : (m.updPwm f).can = m.can := rfl
@[simp] theorem Mach.updPwm_upd (f : Pwm → Pwm) : (m.updPwm f).upd = m.upd := rfl
@[simp] theorem Mach.updPwm_clk (f : Pwm → Pwm) : (m.updPwm f).clk = m.clk := rfl
@[simp] theorem Mach.updPwm_fact (f : Pwm → Pwm) : (m.updPwm f).fact = m.fact := rfl
@[simp] theorem Mach.updPwm_obs (f : Pwm → Pwm) : (m.updPwm f).obs = m.obs := rfl

@[simp] theorem Mach.updConv_now (f : Conv → Conv) : (m.updConv f).now = m.now := rfl
@[simp] theorem Mach.updConv_fabBase (f : Conv → Conv) : (m.updConv f).fabBase = m.fabBase := rfl
@[simp] theorem Mach.updConv_freeCtr (f : Conv → Conv) : (m.updConv f).freeCtr = m.freeCtr := rfl
@[simp] theorem Mach.updConv_out (f : Conv → Conv) : (m.updConv f).out = m.out := rfl
@[simp] theorem Mach.updConv_params (f : Conv → Conv) : (m.updConv f).params = m.params := rfl
@[simp] theorem Mach.updConv_arch (f : Conv → Conv) : (m.updConv f).arch = m.arch := rfl
@[simp] theorem Mach.updConv_mode (f : Conv → Conv) : (m.updConv f).mode = m.mode := rfl
@[simp] theorem Mach.updConv_chain (f : Conv → Conv) : (m.updConv f).chain = m.chain := rfl
@[simp] theorem Mach.updConv_meas (f : Conv → Conv) : (m.updConv f).meas = m.meas := rfl
@[simp] theorem Mach.updConv_iso (f : Conv → Conv) : (m.updConv f).iso = m.iso := rfl
@[simp] theorem Mach.updConv_imp (f : Conv → Conv) : (m.updConv f).imp = m.imp := rfl
@[simp] theorem Mach.updConv_est (f : Conv → Conv) : (m.updConv f).est = m.est := rfl
@[simp] theorem Mach.updConv_bal (f : Conv → Conv) : (m.updConv f).bal = m.bal := rfl
@[simp] theorem Mach.updConv_pwm (f : Conv → Conv) : (m.updConv f).pwm = m.pwm := rfl
@[simp] theorem Mach.updConv_conv (f : Conv → Conv) : (m.updConv f).conv = f m.conv := rfl
@[simp] theorem Mach.updConv_fab (f : Conv → Conv) : (m.updConv f).fab = m.fab := rfl
@[simp] theorem Mach.updConv_safe (f : Conv → Conv) : (m.updConv f).safe = m.safe := rfl
@[simp] theorem Mach.updConv_plant (f : Conv → Conv) : (m.updConv f).plant = m.plant := rfl
@[simp] theorem Mach.updConv_plantCnt (f : Conv → Conv) : (m.updConv f).plantCnt = m.plantCnt := rfl
@[simp] theorem Mach.updConv_pair (f : Conv → Conv) : (m.updConv f).pair = m.pair := rfl
@[simp] theorem Mach.updConv_saf (f : Conv → Conv) : (m.updConv f).saf = m.saf := rfl
@[simp] theorem Mach.updConv_therm (f : Conv → Conv) : (m.updConv f).therm = m.therm := rfl
@[simp] theorem Mach.updConv_flt (f : Conv → Conv) : (m.updConv f).flt = m.flt := rfl
@[simp] theorem Mach.updConv_seed (f : Conv → Conv) : (m.updConv f).seed = m.seed := rfl
@[simp] theorem Mach.updConv_nv (f : Conv → Conv) : (m.updConv f).nv = m.nv := rfl
@[simp] theorem Mach.updConv_mbx (f : Conv → Conv) : (m.updConv f).mbx = m.mbx := rfl
@[simp] theorem Mach.updConv_can (f : Conv → Conv) : (m.updConv f).can = m.can := rfl
@[simp] theorem Mach.updConv_upd (f : Conv → Conv) : (m.updConv f).upd = m.upd := rfl
@[simp] theorem Mach.updConv_clk (f : Conv → Conv) : (m.updConv f).clk = m.clk := rfl
@[simp] theorem Mach.updConv_fact (f : Conv → Conv) : (m.updConv f).fact = m.fact := rfl
@[simp] theorem Mach.updConv_obs (f : Conv → Conv) : (m.updConv f).obs = m.obs := rfl

@[simp] theorem Mach.updFab_now (f : Fab → Fab) : (m.updFab f).now = m.now := rfl
@[simp] theorem Mach.updFab_fabBase (f : Fab → Fab) : (m.updFab f).fabBase = m.fabBase := rfl
@[simp] theorem Mach.updFab_freeCtr (f : Fab → Fab) : (m.updFab f).freeCtr = m.freeCtr := rfl
@[simp] theorem Mach.updFab_out (f : Fab → Fab) : (m.updFab f).out = m.out := rfl
@[simp] theorem Mach.updFab_params (f : Fab → Fab) : (m.updFab f).params = m.params := rfl
@[simp] theorem Mach.updFab_arch (f : Fab → Fab) : (m.updFab f).arch = m.arch := rfl
@[simp] theorem Mach.updFab_mode (f : Fab → Fab) : (m.updFab f).mode = m.mode := rfl
@[simp] theorem Mach.updFab_chain (f : Fab → Fab) : (m.updFab f).chain = m.chain := rfl
@[simp] theorem Mach.updFab_meas (f : Fab → Fab) : (m.updFab f).meas = m.meas := rfl
@[simp] theorem Mach.updFab_iso (f : Fab → Fab) : (m.updFab f).iso = m.iso := rfl
@[simp] theorem Mach.updFab_imp (f : Fab → Fab) : (m.updFab f).imp = m.imp := rfl
@[simp] theorem Mach.updFab_est (f : Fab → Fab) : (m.updFab f).est = m.est := rfl
@[simp] theorem Mach.updFab_bal (f : Fab → Fab) : (m.updFab f).bal = m.bal := rfl
@[simp] theorem Mach.updFab_pwm (f : Fab → Fab) : (m.updFab f).pwm = m.pwm := rfl
@[simp] theorem Mach.updFab_conv (f : Fab → Fab) : (m.updFab f).conv = m.conv := rfl
@[simp] theorem Mach.updFab_fab (f : Fab → Fab) : (m.updFab f).fab = f m.fab := rfl
@[simp] theorem Mach.updFab_safe (f : Fab → Fab) : (m.updFab f).safe = m.safe := rfl
@[simp] theorem Mach.updFab_plant (f : Fab → Fab) : (m.updFab f).plant = m.plant := rfl
@[simp] theorem Mach.updFab_plantCnt (f : Fab → Fab) : (m.updFab f).plantCnt = m.plantCnt := rfl
@[simp] theorem Mach.updFab_pair (f : Fab → Fab) : (m.updFab f).pair = m.pair := rfl
@[simp] theorem Mach.updFab_saf (f : Fab → Fab) : (m.updFab f).saf = m.saf := rfl
@[simp] theorem Mach.updFab_therm (f : Fab → Fab) : (m.updFab f).therm = m.therm := rfl
@[simp] theorem Mach.updFab_flt (f : Fab → Fab) : (m.updFab f).flt = m.flt := rfl
@[simp] theorem Mach.updFab_seed (f : Fab → Fab) : (m.updFab f).seed = m.seed := rfl
@[simp] theorem Mach.updFab_nv (f : Fab → Fab) : (m.updFab f).nv = m.nv := rfl
@[simp] theorem Mach.updFab_mbx (f : Fab → Fab) : (m.updFab f).mbx = m.mbx := rfl
@[simp] theorem Mach.updFab_can (f : Fab → Fab) : (m.updFab f).can = m.can := rfl
@[simp] theorem Mach.updFab_upd (f : Fab → Fab) : (m.updFab f).upd = m.upd := rfl
@[simp] theorem Mach.updFab_clk (f : Fab → Fab) : (m.updFab f).clk = m.clk := rfl
@[simp] theorem Mach.updFab_fact (f : Fab → Fab) : (m.updFab f).fact = m.fact := rfl
@[simp] theorem Mach.updFab_obs (f : Fab → Fab) : (m.updFab f).obs = m.obs := rfl

@[simp] theorem Mach.updSafe_now (f : Safe → Safe) : (m.updSafe f).now = m.now := rfl
@[simp] theorem Mach.updSafe_fabBase (f : Safe → Safe) : (m.updSafe f).fabBase = m.fabBase := rfl
@[simp] theorem Mach.updSafe_freeCtr (f : Safe → Safe) : (m.updSafe f).freeCtr = m.freeCtr := rfl
@[simp] theorem Mach.updSafe_out (f : Safe → Safe) : (m.updSafe f).out = m.out := rfl
@[simp] theorem Mach.updSafe_params (f : Safe → Safe) : (m.updSafe f).params = m.params := rfl
@[simp] theorem Mach.updSafe_arch (f : Safe → Safe) : (m.updSafe f).arch = m.arch := rfl
@[simp] theorem Mach.updSafe_mode (f : Safe → Safe) : (m.updSafe f).mode = m.mode := rfl
@[simp] theorem Mach.updSafe_chain (f : Safe → Safe) : (m.updSafe f).chain = m.chain := rfl
@[simp] theorem Mach.updSafe_meas (f : Safe → Safe) : (m.updSafe f).meas = m.meas := rfl
@[simp] theorem Mach.updSafe_iso (f : Safe → Safe) : (m.updSafe f).iso = m.iso := rfl
@[simp] theorem Mach.updSafe_imp (f : Safe → Safe) : (m.updSafe f).imp = m.imp := rfl
@[simp] theorem Mach.updSafe_est (f : Safe → Safe) : (m.updSafe f).est = m.est := rfl
@[simp] theorem Mach.updSafe_bal (f : Safe → Safe) : (m.updSafe f).bal = m.bal := rfl
@[simp] theorem Mach.updSafe_pwm (f : Safe → Safe) : (m.updSafe f).pwm = m.pwm := rfl
@[simp] theorem Mach.updSafe_conv (f : Safe → Safe) : (m.updSafe f).conv = m.conv := rfl
@[simp] theorem Mach.updSafe_fab (f : Safe → Safe) : (m.updSafe f).fab = m.fab := rfl
@[simp] theorem Mach.updSafe_safe (f : Safe → Safe) : (m.updSafe f).safe = f m.safe := rfl
@[simp] theorem Mach.updSafe_plant (f : Safe → Safe) : (m.updSafe f).plant = m.plant := rfl
@[simp] theorem Mach.updSafe_plantCnt (f : Safe → Safe) : (m.updSafe f).plantCnt = m.plantCnt := rfl
@[simp] theorem Mach.updSafe_pair (f : Safe → Safe) : (m.updSafe f).pair = m.pair := rfl
@[simp] theorem Mach.updSafe_saf (f : Safe → Safe) : (m.updSafe f).saf = m.saf := rfl
@[simp] theorem Mach.updSafe_therm (f : Safe → Safe) : (m.updSafe f).therm = m.therm := rfl
@[simp] theorem Mach.updSafe_flt (f : Safe → Safe) : (m.updSafe f).flt = m.flt := rfl
@[simp] theorem Mach.updSafe_seed (f : Safe → Safe) : (m.updSafe f).seed = m.seed := rfl
@[simp] theorem Mach.updSafe_nv (f : Safe → Safe) : (m.updSafe f).nv = m.nv := rfl
@[simp] theorem Mach.updSafe_mbx (f : Safe → Safe) : (m.updSafe f).mbx = m.mbx := rfl
@[simp] theorem Mach.updSafe_can (f : Safe → Safe) : (m.updSafe f).can = m.can := rfl
@[simp] theorem Mach.updSafe_upd (f : Safe → Safe) : (m.updSafe f).upd = m.upd := rfl
@[simp] theorem Mach.updSafe_clk (f : Safe → Safe) : (m.updSafe f).clk = m.clk := rfl
@[simp] theorem Mach.updSafe_fact (f : Safe → Safe) : (m.updSafe f).fact = m.fact := rfl
@[simp] theorem Mach.updSafe_obs (f : Safe → Safe) : (m.updSafe f).obs = m.obs := rfl

@[simp] theorem Mach.updPlant_now (f : Plant → Plant) : (m.updPlant f).now = m.now := rfl
@[simp] theorem Mach.updPlant_fabBase (f : Plant → Plant) : (m.updPlant f).fabBase = m.fabBase := rfl
@[simp] theorem Mach.updPlant_freeCtr (f : Plant → Plant) : (m.updPlant f).freeCtr = m.freeCtr := rfl
@[simp] theorem Mach.updPlant_out (f : Plant → Plant) : (m.updPlant f).out = m.out := rfl
@[simp] theorem Mach.updPlant_params (f : Plant → Plant) : (m.updPlant f).params = m.params := rfl
@[simp] theorem Mach.updPlant_arch (f : Plant → Plant) : (m.updPlant f).arch = m.arch := rfl
@[simp] theorem Mach.updPlant_mode (f : Plant → Plant) : (m.updPlant f).mode = m.mode := rfl
@[simp] theorem Mach.updPlant_chain (f : Plant → Plant) : (m.updPlant f).chain = m.chain := rfl
@[simp] theorem Mach.updPlant_meas (f : Plant → Plant) : (m.updPlant f).meas = m.meas := rfl
@[simp] theorem Mach.updPlant_iso (f : Plant → Plant) : (m.updPlant f).iso = m.iso := rfl
@[simp] theorem Mach.updPlant_imp (f : Plant → Plant) : (m.updPlant f).imp = m.imp := rfl
@[simp] theorem Mach.updPlant_est (f : Plant → Plant) : (m.updPlant f).est = m.est := rfl
@[simp] theorem Mach.updPlant_bal (f : Plant → Plant) : (m.updPlant f).bal = m.bal := rfl
@[simp] theorem Mach.updPlant_pwm (f : Plant → Plant) : (m.updPlant f).pwm = m.pwm := rfl
@[simp] theorem Mach.updPlant_conv (f : Plant → Plant) : (m.updPlant f).conv = m.conv := rfl
@[simp] theorem Mach.updPlant_fab (f : Plant → Plant) : (m.updPlant f).fab = m.fab := rfl
@[simp] theorem Mach.updPlant_safe (f : Plant → Plant) : (m.updPlant f).safe = m.safe := rfl
@[simp] theorem Mach.updPlant_plant (f : Plant → Plant) : (m.updPlant f).plant = f m.plant := rfl
@[simp] theorem Mach.updPlant_plantCnt (f : Plant → Plant) : (m.updPlant f).plantCnt = m.plantCnt := rfl
@[simp] theorem Mach.updPlant_pair (f : Plant → Plant) : (m.updPlant f).pair = m.pair := rfl
@[simp] theorem Mach.updPlant_saf (f : Plant → Plant) : (m.updPlant f).saf = m.saf := rfl
@[simp] theorem Mach.updPlant_therm (f : Plant → Plant) : (m.updPlant f).therm = m.therm := rfl
@[simp] theorem Mach.updPlant_flt (f : Plant → Plant) : (m.updPlant f).flt = m.flt := rfl
@[simp] theorem Mach.updPlant_seed (f : Plant → Plant) : (m.updPlant f).seed = m.seed := rfl
@[simp] theorem Mach.updPlant_nv (f : Plant → Plant) : (m.updPlant f).nv = m.nv := rfl
@[simp] theorem Mach.updPlant_mbx (f : Plant → Plant) : (m.updPlant f).mbx = m.mbx := rfl
@[simp] theorem Mach.updPlant_can (f : Plant → Plant) : (m.updPlant f).can = m.can := rfl
@[simp] theorem Mach.updPlant_upd (f : Plant → Plant) : (m.updPlant f).upd = m.upd := rfl
@[simp] theorem Mach.updPlant_clk (f : Plant → Plant) : (m.updPlant f).clk = m.clk := rfl
@[simp] theorem Mach.updPlant_fact (f : Plant → Plant) : (m.updPlant f).fact = m.fact := rfl
@[simp] theorem Mach.updPlant_obs (f : Plant → Plant) : (m.updPlant f).obs = m.obs := rfl

@[simp] theorem Mach.updPlantCnt_now (f : PlantCnt → PlantCnt) : (m.updPlantCnt f).now = m.now := rfl
@[simp] theorem Mach.updPlantCnt_fabBase (f : PlantCnt → PlantCnt) : (m.updPlantCnt f).fabBase = m.fabBase := rfl
@[simp] theorem Mach.updPlantCnt_freeCtr (f : PlantCnt → PlantCnt) : (m.updPlantCnt f).freeCtr = m.freeCtr := rfl
@[simp] theorem Mach.updPlantCnt_out (f : PlantCnt → PlantCnt) : (m.updPlantCnt f).out = m.out := rfl
@[simp] theorem Mach.updPlantCnt_params (f : PlantCnt → PlantCnt) : (m.updPlantCnt f).params = m.params := rfl
@[simp] theorem Mach.updPlantCnt_arch (f : PlantCnt → PlantCnt) : (m.updPlantCnt f).arch = m.arch := rfl
@[simp] theorem Mach.updPlantCnt_mode (f : PlantCnt → PlantCnt) : (m.updPlantCnt f).mode = m.mode := rfl
@[simp] theorem Mach.updPlantCnt_chain (f : PlantCnt → PlantCnt) : (m.updPlantCnt f).chain = m.chain := rfl
@[simp] theorem Mach.updPlantCnt_meas (f : PlantCnt → PlantCnt) : (m.updPlantCnt f).meas = m.meas := rfl
@[simp] theorem Mach.updPlantCnt_iso (f : PlantCnt → PlantCnt) : (m.updPlantCnt f).iso = m.iso := rfl
@[simp] theorem Mach.updPlantCnt_imp (f : PlantCnt → PlantCnt) : (m.updPlantCnt f).imp = m.imp := rfl
@[simp] theorem Mach.updPlantCnt_est (f : PlantCnt → PlantCnt) : (m.updPlantCnt f).est = m.est := rfl
@[simp] theorem Mach.updPlantCnt_bal (f : PlantCnt → PlantCnt) : (m.updPlantCnt f).bal = m.bal := rfl
@[simp] theorem Mach.updPlantCnt_pwm (f : PlantCnt → PlantCnt) : (m.updPlantCnt f).pwm = m.pwm := rfl
@[simp] theorem Mach.updPlantCnt_conv (f : PlantCnt → PlantCnt) : (m.updPlantCnt f).conv = m.conv := rfl
@[simp] theorem Mach.updPlantCnt_fab (f : PlantCnt → PlantCnt) : (m.updPlantCnt f).fab = m.fab := rfl
@[simp] theorem Mach.updPlantCnt_safe (f : PlantCnt → PlantCnt) : (m.updPlantCnt f).safe = m.safe := rfl
@[simp] theorem Mach.updPlantCnt_plant (f : PlantCnt → PlantCnt) : (m.updPlantCnt f).plant = m.plant := rfl
@[simp] theorem Mach.updPlantCnt_plantCnt (f : PlantCnt → PlantCnt) : (m.updPlantCnt f).plantCnt = f m.plantCnt := rfl
@[simp] theorem Mach.updPlantCnt_pair (f : PlantCnt → PlantCnt) : (m.updPlantCnt f).pair = m.pair := rfl
@[simp] theorem Mach.updPlantCnt_saf (f : PlantCnt → PlantCnt) : (m.updPlantCnt f).saf = m.saf := rfl
@[simp] theorem Mach.updPlantCnt_therm (f : PlantCnt → PlantCnt) : (m.updPlantCnt f).therm = m.therm := rfl
@[simp] theorem Mach.updPlantCnt_flt (f : PlantCnt → PlantCnt) : (m.updPlantCnt f).flt = m.flt := rfl
@[simp] theorem Mach.updPlantCnt_seed (f : PlantCnt → PlantCnt) : (m.updPlantCnt f).seed = m.seed := rfl
@[simp] theorem Mach.updPlantCnt_nv (f : PlantCnt → PlantCnt) : (m.updPlantCnt f).nv = m.nv := rfl
@[simp] theorem Mach.updPlantCnt_mbx (f : PlantCnt → PlantCnt) : (m.updPlantCnt f).mbx = m.mbx := rfl
@[simp] theorem Mach.updPlantCnt_can (f : PlantCnt → PlantCnt) : (m.updPlantCnt f).can = m.can := rfl
@[simp] theorem Mach.updPlantCnt_upd (f : PlantCnt → PlantCnt) : (m.updPlantCnt f).upd = m.upd := rfl
@[simp] theorem Mach.updPlantCnt_clk (f : PlantCnt → PlantCnt) : (m.updPlantCnt f).clk = m.clk := rfl
@[simp] theorem Mach.updPlantCnt_fact (f : PlantCnt → PlantCnt) : (m.updPlantCnt f).fact = m.fact := rfl
@[simp] theorem Mach.updPlantCnt_obs (f : PlantCnt → PlantCnt) : (m.updPlantCnt f).obs = m.obs := rfl

@[simp] theorem Mach.updPair_now (f : Pair → Pair) : (m.updPair f).now = m.now := rfl
@[simp] theorem Mach.updPair_fabBase (f : Pair → Pair) : (m.updPair f).fabBase = m.fabBase := rfl
@[simp] theorem Mach.updPair_freeCtr (f : Pair → Pair) : (m.updPair f).freeCtr = m.freeCtr := rfl
@[simp] theorem Mach.updPair_out (f : Pair → Pair) : (m.updPair f).out = m.out := rfl
@[simp] theorem Mach.updPair_params (f : Pair → Pair) : (m.updPair f).params = m.params := rfl
@[simp] theorem Mach.updPair_arch (f : Pair → Pair) : (m.updPair f).arch = m.arch := rfl
@[simp] theorem Mach.updPair_mode (f : Pair → Pair) : (m.updPair f).mode = m.mode := rfl
@[simp] theorem Mach.updPair_chain (f : Pair → Pair) : (m.updPair f).chain = m.chain := rfl
@[simp] theorem Mach.updPair_meas (f : Pair → Pair) : (m.updPair f).meas = m.meas := rfl
@[simp] theorem Mach.updPair_iso (f : Pair → Pair) : (m.updPair f).iso = m.iso := rfl
@[simp] theorem Mach.updPair_imp (f : Pair → Pair) : (m.updPair f).imp = m.imp := rfl
@[simp] theorem Mach.updPair_est (f : Pair → Pair) : (m.updPair f).est = m.est := rfl
@[simp] theorem Mach.updPair_bal (f : Pair → Pair) : (m.updPair f).bal = m.bal := rfl
@[simp] theorem Mach.updPair_pwm (f : Pair → Pair) : (m.updPair f).pwm = m.pwm := rfl
@[simp] theorem Mach.updPair_conv (f : Pair → Pair) : (m.updPair f).conv = m.conv := rfl
@[simp] theorem Mach.updPair_fab (f : Pair → Pair) : (m.updPair f).fab = m.fab := rfl
@[simp] theorem Mach.updPair_safe (f : Pair → Pair) : (m.updPair f).safe = m.safe := rfl
@[simp] theorem Mach.updPair_plant (f : Pair → Pair) : (m.updPair f).plant = m.plant := rfl
@[simp] theorem Mach.updPair_plantCnt (f : Pair → Pair) : (m.updPair f).plantCnt = m.plantCnt := rfl
@[simp] theorem Mach.updPair_pair (f : Pair → Pair) : (m.updPair f).pair = f m.pair := rfl
@[simp] theorem Mach.updPair_saf (f : Pair → Pair) : (m.updPair f).saf = m.saf := rfl
@[simp] theorem Mach.updPair_therm (f : Pair → Pair) : (m.updPair f).therm = m.therm := rfl
@[simp] theorem Mach.updPair_flt (f : Pair → Pair) : (m.updPair f).flt = m.flt := rfl
@[simp] theorem Mach.updPair_seed (f : Pair → Pair) : (m.updPair f).seed = m.seed := rfl
@[simp] theorem Mach.updPair_nv (f : Pair → Pair) : (m.updPair f).nv = m.nv := rfl
@[simp] theorem Mach.updPair_mbx (f : Pair → Pair) : (m.updPair f).mbx = m.mbx := rfl
@[simp] theorem Mach.updPair_can (f : Pair → Pair) : (m.updPair f).can = m.can := rfl
@[simp] theorem Mach.updPair_upd (f : Pair → Pair) : (m.updPair f).upd = m.upd := rfl
@[simp] theorem Mach.updPair_clk (f : Pair → Pair) : (m.updPair f).clk = m.clk := rfl
@[simp] theorem Mach.updPair_fact (f : Pair → Pair) : (m.updPair f).fact = m.fact := rfl
@[simp] theorem Mach.updPair_obs (f : Pair → Pair) : (m.updPair f).obs = m.obs := rfl

@[simp] theorem Mach.updSaf_now (f : Saf → Saf) : (m.updSaf f).now = m.now := rfl
@[simp] theorem Mach.updSaf_fabBase (f : Saf → Saf) : (m.updSaf f).fabBase = m.fabBase := rfl
@[simp] theorem Mach.updSaf_freeCtr (f : Saf → Saf) : (m.updSaf f).freeCtr = m.freeCtr := rfl
@[simp] theorem Mach.updSaf_out (f : Saf → Saf) : (m.updSaf f).out = m.out := rfl
@[simp] theorem Mach.updSaf_params (f : Saf → Saf) : (m.updSaf f).params = m.params := rfl
@[simp] theorem Mach.updSaf_arch (f : Saf → Saf) : (m.updSaf f).arch = m.arch := rfl
@[simp] theorem Mach.updSaf_mode (f : Saf → Saf) : (m.updSaf f).mode = m.mode := rfl
@[simp] theorem Mach.updSaf_chain (f : Saf → Saf) : (m.updSaf f).chain = m.chain := rfl
@[simp] theorem Mach.updSaf_meas (f : Saf → Saf) : (m.updSaf f).meas = m.meas := rfl
@[simp] theorem Mach.updSaf_iso (f : Saf → Saf) : (m.updSaf f).iso = m.iso := rfl
@[simp] theorem Mach.updSaf_imp (f : Saf → Saf) : (m.updSaf f).imp = m.imp := rfl
@[simp] theorem Mach.updSaf_est (f : Saf → Saf) : (m.updSaf f).est = m.est := rfl
@[simp] theorem Mach.updSaf_bal (f : Saf → Saf) : (m.updSaf f).bal = m.bal := rfl
@[simp] theorem Mach.updSaf_pwm (f : Saf → Saf) : (m.updSaf f).pwm = m.pwm := rfl
@[simp] theorem Mach.updSaf_conv (f : Saf → Saf) : (m.updSaf f).conv = m.conv := rfl
@[simp] theorem Mach.updSaf_fab (f : Saf → Saf) : (m.updSaf f).fab = m.fab := rfl
@[simp] theorem Mach.updSaf_safe (f : Saf → Saf) : (m.updSaf f).safe = m.safe := rfl
@[simp] theorem Mach.updSaf_plant (f : Saf → Saf) : (m.updSaf f).plant = m.plant := rfl
@[simp] theorem Mach.updSaf_plantCnt (f : Saf → Saf) : (m.updSaf f).plantCnt = m.plantCnt := rfl
@[simp] theorem Mach.updSaf_pair (f : Saf → Saf) : (m.updSaf f).pair = m.pair := rfl
@[simp] theorem Mach.updSaf_saf (f : Saf → Saf) : (m.updSaf f).saf = f m.saf := rfl
@[simp] theorem Mach.updSaf_therm (f : Saf → Saf) : (m.updSaf f).therm = m.therm := rfl
@[simp] theorem Mach.updSaf_flt (f : Saf → Saf) : (m.updSaf f).flt = m.flt := rfl
@[simp] theorem Mach.updSaf_seed (f : Saf → Saf) : (m.updSaf f).seed = m.seed := rfl
@[simp] theorem Mach.updSaf_nv (f : Saf → Saf) : (m.updSaf f).nv = m.nv := rfl
@[simp] theorem Mach.updSaf_mbx (f : Saf → Saf) : (m.updSaf f).mbx = m.mbx := rfl
@[simp] theorem Mach.updSaf_can (f : Saf → Saf) : (m.updSaf f).can = m.can := rfl
@[simp] theorem Mach.updSaf_upd (f : Saf → Saf) : (m.updSaf f).upd = m.upd := rfl
@[simp] theorem Mach.updSaf_clk (f : Saf → Saf) : (m.updSaf f).clk = m.clk := rfl
@[simp] theorem Mach.updSaf_fact (f : Saf → Saf) : (m.updSaf f).fact = m.fact := rfl
@[simp] theorem Mach.updSaf_obs (f : Saf → Saf) : (m.updSaf f).obs = m.obs := rfl

@[simp] theorem Mach.updTherm_now (f : Therm → Therm) : (m.updTherm f).now = m.now := rfl
@[simp] theorem Mach.updTherm_fabBase (f : Therm → Therm) : (m.updTherm f).fabBase = m.fabBase := rfl
@[simp] theorem Mach.updTherm_freeCtr (f : Therm → Therm) : (m.updTherm f).freeCtr = m.freeCtr := rfl
@[simp] theorem Mach.updTherm_out (f : Therm → Therm) : (m.updTherm f).out = m.out := rfl
@[simp] theorem Mach.updTherm_params (f : Therm → Therm) : (m.updTherm f).params = m.params := rfl
@[simp] theorem Mach.updTherm_arch (f : Therm → Therm) : (m.updTherm f).arch = m.arch := rfl
@[simp] theorem Mach.updTherm_mode (f : Therm → Therm) : (m.updTherm f).mode = m.mode := rfl
@[simp] theorem Mach.updTherm_chain (f : Therm → Therm) : (m.updTherm f).chain = m.chain := rfl
@[simp] theorem Mach.updTherm_meas (f : Therm → Therm) : (m.updTherm f).meas = m.meas := rfl
@[simp] theorem Mach.updTherm_iso (f : Therm → Therm) : (m.updTherm f).iso = m.iso := rfl
@[simp] theorem Mach.updTherm_imp (f : Therm → Therm) : (m.updTherm f).imp = m.imp := rfl
@[simp] theorem Mach.updTherm_est (f : Therm → Therm) : (m.updTherm f).est = m.est := rfl
@[simp] theorem Mach.updTherm_bal (f : Therm → Therm) : (m.updTherm f).bal = m.bal := rfl
@[simp] theorem Mach.updTherm_pwm (f : Therm → Therm) : (m.updTherm f).pwm = m.pwm := rfl
@[simp] theorem Mach.updTherm_conv (f : Therm → Therm) : (m.updTherm f).conv = m.conv := rfl
@[simp] theorem Mach.updTherm_fab (f : Therm → Therm) : (m.updTherm f).fab = m.fab := rfl
@[simp] theorem Mach.updTherm_safe (f : Therm → Therm) : (m.updTherm f).safe = m.safe := rfl
@[simp] theorem Mach.updTherm_plant (f : Therm → Therm) : (m.updTherm f).plant = m.plant := rfl
@[simp] theorem Mach.updTherm_plantCnt (f : Therm → Therm) : (m.updTherm f).plantCnt = m.plantCnt := rfl
@[simp] theorem Mach.updTherm_pair (f : Therm → Therm) : (m.updTherm f).pair = m.pair := rfl
@[simp] theorem Mach.updTherm_saf (f : Therm → Therm) : (m.updTherm f).saf = m.saf := rfl
@[simp] theorem Mach.updTherm_therm (f : Therm → Therm) : (m.updTherm f).therm = f m.therm := rfl
@[simp] theorem Mach.updTherm_flt (f : Therm → Therm) : (m.updTherm f).flt = m.flt := rfl
@[simp] theorem Mach.updTherm_seed (f : Therm → Therm) : (m.updTherm f).seed = m.seed := rfl
@[simp] theorem Mach.updTherm_nv (f : Therm → Therm) : (m.updTherm f).nv = m.nv := rfl
@[simp] theorem Mach.updTherm_mbx (f : Therm → Therm) : (m.updTherm f).mbx = m.mbx := rfl
@[simp] theorem Mach.updTherm_can (f : Therm → Therm) : (m.updTherm f).can = m.can := rfl
@[simp] theorem Mach.updTherm_upd (f : Therm → Therm) : (m.updTherm f).upd = m.upd := rfl
@[simp] theorem Mach.updTherm_clk (f : Therm → Therm) : (m.updTherm f).clk = m.clk := rfl
@[simp] theorem Mach.updTherm_fact (f : Therm → Therm) : (m.updTherm f).fact = m.fact := rfl
@[simp] theorem Mach.updTherm_obs (f : Therm → Therm) : (m.updTherm f).obs = m.obs := rfl

@[simp] theorem Mach.updFlt_now (f : Flt → Flt) : (m.updFlt f).now = m.now := rfl
@[simp] theorem Mach.updFlt_fabBase (f : Flt → Flt) : (m.updFlt f).fabBase = m.fabBase := rfl
@[simp] theorem Mach.updFlt_freeCtr (f : Flt → Flt) : (m.updFlt f).freeCtr = m.freeCtr := rfl
@[simp] theorem Mach.updFlt_out (f : Flt → Flt) : (m.updFlt f).out = m.out := rfl
@[simp] theorem Mach.updFlt_params (f : Flt → Flt) : (m.updFlt f).params = m.params := rfl
@[simp] theorem Mach.updFlt_arch (f : Flt → Flt) : (m.updFlt f).arch = m.arch := rfl
@[simp] theorem Mach.updFlt_mode (f : Flt → Flt) : (m.updFlt f).mode = m.mode := rfl
@[simp] theorem Mach.updFlt_chain (f : Flt → Flt) : (m.updFlt f).chain = m.chain := rfl
@[simp] theorem Mach.updFlt_meas (f : Flt → Flt) : (m.updFlt f).meas = m.meas := rfl
@[simp] theorem Mach.updFlt_iso (f : Flt → Flt) : (m.updFlt f).iso = m.iso := rfl
@[simp] theorem Mach.updFlt_imp (f : Flt → Flt) : (m.updFlt f).imp = m.imp := rfl
@[simp] theorem Mach.updFlt_est (f : Flt → Flt) : (m.updFlt f).est = m.est := rfl
@[simp] theorem Mach.updFlt_bal (f : Flt → Flt) : (m.updFlt f).bal = m.bal := rfl
@[simp] theorem Mach.updFlt_pwm (f : Flt → Flt) : (m.updFlt f).pwm = m.pwm := rfl
@[simp] theorem Mach.updFlt_conv (f : Flt → Flt) : (m.updFlt f).conv = m.conv := rfl
@[simp] theorem Mach.updFlt_fab (f : Flt → Flt) : (m.updFlt f).fab = m.fab := rfl
@[simp] theorem Mach.updFlt_safe (f : Flt → Flt) : (m.updFlt f).safe = m.safe := rfl
@[simp] theorem Mach.updFlt_plant (f : Flt → Flt) : (m.updFlt f).plant = m.plant := rfl
@[simp] theorem Mach.updFlt_plantCnt (f : Flt → Flt) : (m.updFlt f).plantCnt = m.plantCnt := rfl
@[simp] theorem Mach.updFlt_pair (f : Flt → Flt) : (m.updFlt f).pair = m.pair := rfl
@[simp] theorem Mach.updFlt_saf (f : Flt → Flt) : (m.updFlt f).saf = m.saf := rfl
@[simp] theorem Mach.updFlt_therm (f : Flt → Flt) : (m.updFlt f).therm = m.therm := rfl
@[simp] theorem Mach.updFlt_flt (f : Flt → Flt) : (m.updFlt f).flt = f m.flt := rfl
@[simp] theorem Mach.updFlt_seed (f : Flt → Flt) : (m.updFlt f).seed = m.seed := rfl
@[simp] theorem Mach.updFlt_nv (f : Flt → Flt) : (m.updFlt f).nv = m.nv := rfl
@[simp] theorem Mach.updFlt_mbx (f : Flt → Flt) : (m.updFlt f).mbx = m.mbx := rfl
@[simp] theorem Mach.updFlt_can (f : Flt → Flt) : (m.updFlt f).can = m.can := rfl
@[simp] theorem Mach.updFlt_upd (f : Flt → Flt) : (m.updFlt f).upd = m.upd := rfl
@[simp] theorem Mach.updFlt_clk (f : Flt → Flt) : (m.updFlt f).clk = m.clk := rfl
@[simp] theorem Mach.updFlt_fact (f : Flt → Flt) : (m.updFlt f).fact = m.fact := rfl
@[simp] theorem Mach.updFlt_obs (f : Flt → Flt) : (m.updFlt f).obs = m.obs := rfl

@[simp] theorem Mach.updSeed_now (f : Seed → Seed) : (m.updSeed f).now = m.now := rfl
@[simp] theorem Mach.updSeed_fabBase (f : Seed → Seed) : (m.updSeed f).fabBase = m.fabBase := rfl
@[simp] theorem Mach.updSeed_freeCtr (f : Seed → Seed) : (m.updSeed f).freeCtr = m.freeCtr := rfl
@[simp] theorem Mach.updSeed_out (f : Seed → Seed) : (m.updSeed f).out = m.out := rfl
@[simp] theorem Mach.updSeed_params (f : Seed → Seed) : (m.updSeed f).params = m.params := rfl
@[simp] theorem Mach.updSeed_arch (f : Seed → Seed) : (m.updSeed f).arch = m.arch := rfl
@[simp] theorem Mach.updSeed_mode (f : Seed → Seed) : (m.updSeed f).mode = m.mode := rfl
@[simp] theorem Mach.updSeed_chain (f : Seed → Seed) : (m.updSeed f).chain = m.chain := rfl
@[simp] theorem Mach.updSeed_meas (f : Seed → Seed) : (m.updSeed f).meas = m.meas := rfl
@[simp] theorem Mach.updSeed_iso (f : Seed → Seed) : (m.updSeed f).iso = m.iso := rfl
@[simp] theorem Mach.updSeed_imp (f : Seed → Seed) : (m.updSeed f).imp = m.imp := rfl
@[simp] theorem Mach.updSeed_est (f : Seed → Seed) : (m.updSeed f).est = m.est := rfl
@[simp] theorem Mach.updSeed_bal (f : Seed → Seed) : (m.updSeed f).bal = m.bal := rfl
@[simp] theorem Mach.updSeed_pwm (f : Seed → Seed) : (m.updSeed f).pwm = m.pwm := rfl
@[simp] theorem Mach.updSeed_conv (f : Seed → Seed) : (m.updSeed f).conv = m.conv := rfl
@[simp] theorem Mach.updSeed_fab (f : Seed → Seed) : (m.updSeed f).fab = m.fab := rfl
@[simp] theorem Mach.updSeed_safe (f : Seed → Seed) : (m.updSeed f).safe = m.safe := rfl
@[simp] theorem Mach.updSeed_plant (f : Seed → Seed) : (m.updSeed f).plant = m.plant := rfl
@[simp] theorem Mach.updSeed_plantCnt (f : Seed → Seed) : (m.updSeed f).plantCnt = m.plantCnt := rfl
@[simp] theorem Mach.updSeed_pair (f : Seed → Seed) : (m.updSeed f).pair = m.pair := rfl
@[simp] theorem Mach.updSeed_saf (f : Seed → Seed) : (m.updSeed f).saf = m.saf := rfl
@[simp] theorem Mach.updSeed_therm (f : Seed → Seed) : (m.updSeed f).therm = m.therm := rfl
@[simp] theorem Mach.updSeed_flt (f : Seed → Seed) : (m.updSeed f).flt = m.flt := rfl
@[simp] theorem Mach.updSeed_seed (f : Seed → Seed) : (m.updSeed f).seed = f m.seed := rfl
@[simp] theorem Mach.updSeed_nv (f : Seed → Seed) : (m.updSeed f).nv = m.nv := rfl
@[simp] theorem Mach.updSeed_mbx (f : Seed → Seed) : (m.updSeed f).mbx = m.mbx := rfl
@[simp] theorem Mach.updSeed_can (f : Seed → Seed) : (m.updSeed f).can = m.can := rfl
@[simp] theorem Mach.updSeed_upd (f : Seed → Seed) : (m.updSeed f).upd = m.upd := rfl
@[simp] theorem Mach.updSeed_clk (f : Seed → Seed) : (m.updSeed f).clk = m.clk := rfl
@[simp] theorem Mach.updSeed_fact (f : Seed → Seed) : (m.updSeed f).fact = m.fact := rfl
@[simp] theorem Mach.updSeed_obs (f : Seed → Seed) : (m.updSeed f).obs = m.obs := rfl

@[simp] theorem Mach.updNv_now (f : Nv → Nv) : (m.updNv f).now = m.now := rfl
@[simp] theorem Mach.updNv_fabBase (f : Nv → Nv) : (m.updNv f).fabBase = m.fabBase := rfl
@[simp] theorem Mach.updNv_freeCtr (f : Nv → Nv) : (m.updNv f).freeCtr = m.freeCtr := rfl
@[simp] theorem Mach.updNv_out (f : Nv → Nv) : (m.updNv f).out = m.out := rfl
@[simp] theorem Mach.updNv_params (f : Nv → Nv) : (m.updNv f).params = m.params := rfl
@[simp] theorem Mach.updNv_arch (f : Nv → Nv) : (m.updNv f).arch = m.arch := rfl
@[simp] theorem Mach.updNv_mode (f : Nv → Nv) : (m.updNv f).mode = m.mode := rfl
@[simp] theorem Mach.updNv_chain (f : Nv → Nv) : (m.updNv f).chain = m.chain := rfl
@[simp] theorem Mach.updNv_meas (f : Nv → Nv) : (m.updNv f).meas = m.meas := rfl
@[simp] theorem Mach.updNv_iso (f : Nv → Nv) : (m.updNv f).iso = m.iso := rfl
@[simp] theorem Mach.updNv_imp (f : Nv → Nv) : (m.updNv f).imp = m.imp := rfl
@[simp] theorem Mach.updNv_est (f : Nv → Nv) : (m.updNv f).est = m.est := rfl
@[simp] theorem Mach.updNv_bal (f : Nv → Nv) : (m.updNv f).bal = m.bal := rfl
@[simp] theorem Mach.updNv_pwm (f : Nv → Nv) : (m.updNv f).pwm = m.pwm := rfl
@[simp] theorem Mach.updNv_conv (f : Nv → Nv) : (m.updNv f).conv = m.conv := rfl
@[simp] theorem Mach.updNv_fab (f : Nv → Nv) : (m.updNv f).fab = m.fab := rfl
@[simp] theorem Mach.updNv_safe (f : Nv → Nv) : (m.updNv f).safe = m.safe := rfl
@[simp] theorem Mach.updNv_plant (f : Nv → Nv) : (m.updNv f).plant = m.plant := rfl
@[simp] theorem Mach.updNv_plantCnt (f : Nv → Nv) : (m.updNv f).plantCnt = m.plantCnt := rfl
@[simp] theorem Mach.updNv_pair (f : Nv → Nv) : (m.updNv f).pair = m.pair := rfl
@[simp] theorem Mach.updNv_saf (f : Nv → Nv) : (m.updNv f).saf = m.saf := rfl
@[simp] theorem Mach.updNv_therm (f : Nv → Nv) : (m.updNv f).therm = m.therm := rfl
@[simp] theorem Mach.updNv_flt (f : Nv → Nv) : (m.updNv f).flt = m.flt := rfl
@[simp] theorem Mach.updNv_seed (f : Nv → Nv) : (m.updNv f).seed = m.seed := rfl
@[simp] theorem Mach.updNv_nv (f : Nv → Nv) : (m.updNv f).nv = f m.nv := rfl
@[simp] theorem Mach.updNv_mbx (f : Nv → Nv) : (m.updNv f).mbx = m.mbx := rfl
@[simp] theorem Mach.updNv_can (f : Nv → Nv) : (m.updNv f).can = m.can := rfl
@[simp] theorem Mach.updNv_upd (f : Nv → Nv) : (m.updNv f).upd = m.upd := rfl
@[simp] theorem Mach.updNv_clk (f : Nv → Nv) : (m.updNv f).clk = m.clk := rfl
@[simp] theorem Mach.updNv_fact (f : Nv → Nv) : (m.updNv f).fact = m.fact := rfl
@[simp] theorem Mach.updNv_obs (f : Nv → Nv) : (m.updNv f).obs = m.obs := rfl

@[simp] theorem Mach.updMbx_now (f : Mbx → Mbx) : (m.updMbx f).now = m.now := rfl
@[simp] theorem Mach.updMbx_fabBase (f : Mbx → Mbx) : (m.updMbx f).fabBase = m.fabBase := rfl
@[simp] theorem Mach.updMbx_freeCtr (f : Mbx → Mbx) : (m.updMbx f).freeCtr = m.freeCtr := rfl
@[simp] theorem Mach.updMbx_out (f : Mbx → Mbx) : (m.updMbx f).out = m.out := rfl
@[simp] theorem Mach.updMbx_params (f : Mbx → Mbx) : (m.updMbx f).params = m.params := rfl
@[simp] theorem Mach.updMbx_arch (f : Mbx → Mbx) : (m.updMbx f).arch = m.arch := rfl
@[simp] theorem Mach.updMbx_mode (f : Mbx → Mbx) : (m.updMbx f).mode = m.mode := rfl
@[simp] theorem Mach.updMbx_chain (f : Mbx → Mbx) : (m.updMbx f).chain = m.chain := rfl
@[simp] theorem Mach.updMbx_meas (f : Mbx → Mbx) : (m.updMbx f).meas = m.meas := rfl
@[simp] theorem Mach.updMbx_iso (f : Mbx → Mbx) : (m.updMbx f).iso = m.iso := rfl
@[simp] theorem Mach.updMbx_imp (f : Mbx → Mbx) : (m.updMbx f).imp = m.imp := rfl
@[simp] theorem Mach.updMbx_est (f : Mbx → Mbx) : (m.updMbx f).est = m.est := rfl
@[simp] theorem Mach.updMbx_bal (f : Mbx → Mbx) : (m.updMbx f).bal = m.bal := rfl
@[simp] theorem Mach.updMbx_pwm (f : Mbx → Mbx) : (m.updMbx f).pwm = m.pwm := rfl
@[simp] theorem Mach.updMbx_conv (f : Mbx → Mbx) : (m.updMbx f).conv = m.conv := rfl
@[simp] theorem Mach.updMbx_fab (f : Mbx → Mbx) : (m.updMbx f).fab = m.fab := rfl
@[simp] theorem Mach.updMbx_safe (f : Mbx → Mbx) : (m.updMbx f).safe = m.safe := rfl
@[simp] theorem Mach.updMbx_plant (f : Mbx → Mbx) : (m.updMbx f).plant = m.plant := rfl
@[simp] theorem Mach.updMbx_plantCnt (f : Mbx → Mbx) : (m.updMbx f).plantCnt = m.plantCnt := rfl
@[simp] theorem Mach.updMbx_pair (f : Mbx → Mbx) : (m.updMbx f).pair = m.pair := rfl
@[simp] theorem Mach.updMbx_saf (f : Mbx → Mbx) : (m.updMbx f).saf = m.saf := rfl
@[simp] theorem Mach.updMbx_therm (f : Mbx → Mbx) : (m.updMbx f).therm = m.therm := rfl
@[simp] theorem Mach.updMbx_flt (f : Mbx → Mbx) : (m.updMbx f).flt = m.flt := rfl
@[simp] theorem Mach.updMbx_seed (f : Mbx → Mbx) : (m.updMbx f).seed = m.seed := rfl
@[simp] theorem Mach.updMbx_nv (f : Mbx → Mbx) : (m.updMbx f).nv = m.nv := rfl
@[simp] theorem Mach.updMbx_mbx (f : Mbx → Mbx) : (m.updMbx f).mbx = f m.mbx := rfl
@[simp] theorem Mach.updMbx_can (f : Mbx → Mbx) : (m.updMbx f).can = m.can := rfl
@[simp] theorem Mach.updMbx_upd (f : Mbx → Mbx) : (m.updMbx f).upd = m.upd := rfl
@[simp] theorem Mach.updMbx_clk (f : Mbx → Mbx) : (m.updMbx f).clk = m.clk := rfl
@[simp] theorem Mach.updMbx_fact (f : Mbx → Mbx) : (m.updMbx f).fact = m.fact := rfl
@[simp] theorem Mach.updMbx_obs (f : Mbx → Mbx) : (m.updMbx f).obs = m.obs := rfl

@[simp] theorem Mach.updCan_now (f : Can → Can) : (m.updCan f).now = m.now := rfl
@[simp] theorem Mach.updCan_fabBase (f : Can → Can) : (m.updCan f).fabBase = m.fabBase := rfl
@[simp] theorem Mach.updCan_freeCtr (f : Can → Can) : (m.updCan f).freeCtr = m.freeCtr := rfl
@[simp] theorem Mach.updCan_out (f : Can → Can) : (m.updCan f).out = m.out := rfl
@[simp] theorem Mach.updCan_params (f : Can → Can) : (m.updCan f).params = m.params := rfl
@[simp] theorem Mach.updCan_arch (f : Can → Can) : (m.updCan f).arch = m.arch := rfl
@[simp] theorem Mach.updCan_mode (f : Can → Can) : (m.updCan f).mode = m.mode := rfl
@[simp] theorem Mach.updCan_chain (f : Can → Can) : (m.updCan f).chain = m.chain := rfl
@[simp] theorem Mach.updCan_meas (f : Can → Can) : (m.updCan f).meas = m.meas := rfl
@[simp] theorem Mach.updCan_iso (f : Can → Can) : (m.updCan f).iso = m.iso := rfl
@[simp] theorem Mach.updCan_imp (f : Can → Can) : (m.updCan f).imp = m.imp := rfl
@[simp] theorem Mach.updCan_est (f : Can → Can) : (m.updCan f).est = m.est := rfl
@[simp] theorem Mach.updCan_bal (f : Can → Can) : (m.updCan f).bal = m.bal := rfl
@[simp] theorem Mach.updCan_pwm (f : Can → Can) : (m.updCan f).pwm = m.pwm := rfl
@[simp] theorem Mach.updCan_conv (f : Can → Can) : (m.updCan f).conv = m.conv := rfl
@[simp] theorem Mach.updCan_fab (f : Can → Can) : (m.updCan f).fab = m.fab := rfl
@[simp] theorem Mach.updCan_safe (f : Can → Can) : (m.updCan f).safe = m.safe := rfl
@[simp] theorem Mach.updCan_plant (f : Can → Can) : (m.updCan f).plant = m.plant := rfl
@[simp] theorem Mach.updCan_plantCnt (f : Can → Can) : (m.updCan f).plantCnt = m.plantCnt := rfl
@[simp] theorem Mach.updCan_pair (f : Can → Can) : (m.updCan f).pair = m.pair := rfl
@[simp] theorem Mach.updCan_saf (f : Can → Can) : (m.updCan f).saf = m.saf := rfl
@[simp] theorem Mach.updCan_therm (f : Can → Can) : (m.updCan f).therm = m.therm := rfl
@[simp] theorem Mach.updCan_flt (f : Can → Can) : (m.updCan f).flt = m.flt := rfl
@[simp] theorem Mach.updCan_seed (f : Can → Can) : (m.updCan f).seed = m.seed := rfl
@[simp] theorem Mach.updCan_nv (f : Can → Can) : (m.updCan f).nv = m.nv := rfl
@[simp] theorem Mach.updCan_mbx (f : Can → Can) : (m.updCan f).mbx = m.mbx := rfl
@[simp] theorem Mach.updCan_can (f : Can → Can) : (m.updCan f).can = f m.can := rfl
@[simp] theorem Mach.updCan_upd (f : Can → Can) : (m.updCan f).upd = m.upd := rfl
@[simp] theorem Mach.updCan_clk (f : Can → Can) : (m.updCan f).clk = m.clk := rfl
@[simp] theorem Mach.updCan_fact (f : Can → Can) : (m.updCan f).fact = m.fact := rfl
@[simp] theorem Mach.updCan_obs (f : Can → Can) : (m.updCan f).obs = m.obs := rfl

@[simp] theorem Mach.updUpd_now (f : Upd → Upd) : (m.updUpd f).now = m.now := rfl
@[simp] theorem Mach.updUpd_fabBase (f : Upd → Upd) : (m.updUpd f).fabBase = m.fabBase := rfl
@[simp] theorem Mach.updUpd_freeCtr (f : Upd → Upd) : (m.updUpd f).freeCtr = m.freeCtr := rfl
@[simp] theorem Mach.updUpd_out (f : Upd → Upd) : (m.updUpd f).out = m.out := rfl
@[simp] theorem Mach.updUpd_params (f : Upd → Upd) : (m.updUpd f).params = m.params := rfl
@[simp] theorem Mach.updUpd_arch (f : Upd → Upd) : (m.updUpd f).arch = m.arch := rfl
@[simp] theorem Mach.updUpd_mode (f : Upd → Upd) : (m.updUpd f).mode = m.mode := rfl
@[simp] theorem Mach.updUpd_chain (f : Upd → Upd) : (m.updUpd f).chain = m.chain := rfl
@[simp] theorem Mach.updUpd_meas (f : Upd → Upd) : (m.updUpd f).meas = m.meas := rfl
@[simp] theorem Mach.updUpd_iso (f : Upd → Upd) : (m.updUpd f).iso = m.iso := rfl
@[simp] theorem Mach.updUpd_imp (f : Upd → Upd) : (m.updUpd f).imp = m.imp := rfl
@[simp] theorem Mach.updUpd_est (f : Upd → Upd) : (m.updUpd f).est = m.est := rfl
@[simp] theorem Mach.updUpd_bal (f : Upd → Upd) : (m.updUpd f).bal = m.bal := rfl
@[simp] theorem Mach.updUpd_pwm (f : Upd → Upd) : (m.updUpd f).pwm = m.pwm := rfl
@[simp] theorem Mach.updUpd_conv (f : Upd → Upd) : (m.updUpd f).conv = m.conv := rfl
@[simp] theorem Mach.updUpd_fab (f : Upd → Upd) : (m.updUpd f).fab = m.fab := rfl
@[simp] theorem Mach.updUpd_safe (f : Upd → Upd) : (m.updUpd f).safe = m.safe := rfl
@[simp] theorem Mach.updUpd_plant (f : Upd → Upd) : (m.updUpd f).plant = m.plant := rfl
@[simp] theorem Mach.updUpd_plantCnt (f : Upd → Upd) : (m.updUpd f).plantCnt = m.plantCnt := rfl
@[simp] theorem Mach.updUpd_pair (f : Upd → Upd) : (m.updUpd f).pair = m.pair := rfl
@[simp] theorem Mach.updUpd_saf (f : Upd → Upd) : (m.updUpd f).saf = m.saf := rfl
@[simp] theorem Mach.updUpd_therm (f : Upd → Upd) : (m.updUpd f).therm = m.therm := rfl
@[simp] theorem Mach.updUpd_flt (f : Upd → Upd) : (m.updUpd f).flt = m.flt := rfl
@[simp] theorem Mach.updUpd_seed (f : Upd → Upd) : (m.updUpd f).seed = m.seed := rfl
@[simp] theorem Mach.updUpd_nv (f : Upd → Upd) : (m.updUpd f).nv = m.nv := rfl
@[simp] theorem Mach.updUpd_mbx (f : Upd → Upd) : (m.updUpd f).mbx = m.mbx := rfl
@[simp] theorem Mach.updUpd_can (f : Upd → Upd) : (m.updUpd f).can = m.can := rfl
@[simp] theorem Mach.updUpd_upd (f : Upd → Upd) : (m.updUpd f).upd = f m.upd := rfl
@[simp] theorem Mach.updUpd_clk (f : Upd → Upd) : (m.updUpd f).clk = m.clk := rfl
@[simp] theorem Mach.updUpd_fact (f : Upd → Upd) : (m.updUpd f).fact = m.fact := rfl
@[simp] theorem Mach.updUpd_obs (f : Upd → Upd) : (m.updUpd f).obs = m.obs := rfl

@[simp] theorem Mach.updClk_now (f : Clk → Clk) : (m.updClk f).now = m.now := rfl
@[simp] theorem Mach.updClk_fabBase (f : Clk → Clk) : (m.updClk f).fabBase = m.fabBase := rfl
@[simp] theorem Mach.updClk_freeCtr (f : Clk → Clk) : (m.updClk f).freeCtr = m.freeCtr := rfl
@[simp] theorem Mach.updClk_out (f : Clk → Clk) : (m.updClk f).out = m.out := rfl
@[simp] theorem Mach.updClk_params (f : Clk → Clk) : (m.updClk f).params = m.params := rfl
@[simp] theorem Mach.updClk_arch (f : Clk → Clk) : (m.updClk f).arch = m.arch := rfl
@[simp] theorem Mach.updClk_mode (f : Clk → Clk) : (m.updClk f).mode = m.mode := rfl
@[simp] theorem Mach.updClk_chain (f : Clk → Clk) : (m.updClk f).chain = m.chain := rfl
@[simp] theorem Mach.updClk_meas (f : Clk → Clk) : (m.updClk f).meas = m.meas := rfl
@[simp] theorem Mach.updClk_iso (f : Clk → Clk) : (m.updClk f).iso = m.iso := rfl
@[simp] theorem Mach.updClk_imp (f : Clk → Clk) : (m.updClk f).imp = m.imp := rfl
@[simp] theorem Mach.updClk_est (f : Clk → Clk) : (m.updClk f).est = m.est := rfl
@[simp] theorem Mach.updClk_bal (f : Clk → Clk) : (m.updClk f).bal = m.bal := rfl
@[simp] theorem Mach.updClk_pwm (f : Clk → Clk) : (m.updClk f).pwm = m.pwm := rfl
@[simp] theorem Mach.updClk_conv (f : Clk → Clk) : (m.updClk f).conv = m.conv := rfl
@[simp] theorem Mach.updClk_fab (f : Clk → Clk) : (m.updClk f).fab = m.fab := rfl
@[simp] theorem Mach.updClk_safe (f : Clk → Clk) : (m.updClk f).safe = m.safe := rfl
@[simp] theorem Mach.updClk_plant (f : Clk → Clk) : (m.updClk f).plant = m.plant := rfl
@[simp] theorem Mach.updClk_plantCnt (f : Clk → Clk) : (m.updClk f).plantCnt = m.plantCnt := rfl
@[simp] theorem Mach.updClk_pair (f : Clk → Clk) : (m.updClk f).pair = m.pair := rfl
@[simp] theorem Mach.updClk_saf (f : Clk → Clk) : (m.updClk f).saf = m.saf := rfl
@[simp] theorem Mach.updClk_therm (f : Clk → Clk) : (m.updClk f).therm = m.therm := rfl
@[simp] theorem Mach.updClk_flt (f : Clk → Clk) : (m.updClk f).flt = m.flt := rfl
@[simp] theorem Mach.updClk_seed (f : Clk → Clk) : (m.updClk f).seed = m.seed := rfl
@[simp] theorem Mach.updClk_nv (f : Clk → Clk) : (m.updClk f).nv = m.nv := rfl
@[simp] theorem Mach.updClk_mbx (f : Clk → Clk) : (m.updClk f).mbx = m.mbx := rfl
@[simp] theorem Mach.updClk_can (f : Clk → Clk) : (m.updClk f).can = m.can := rfl
@[simp] theorem Mach.updClk_upd (f : Clk → Clk) : (m.updClk f).upd = m.upd := rfl
@[simp] theorem Mach.updClk_clk (f : Clk → Clk) : (m.updClk f).clk = f m.clk := rfl
@[simp] theorem Mach.updClk_fact (f : Clk → Clk) : (m.updClk f).fact = m.fact := rfl
@[simp] theorem Mach.updClk_obs (f : Clk → Clk) : (m.updClk f).obs = m.obs := rfl

@[simp] theorem Mach.updObs_now (f : Obs → Obs) : (m.updObs f).now = m.now := rfl
@[simp] theorem Mach.updObs_fabBase (f : Obs → Obs) : (m.updObs f).fabBase = m.fabBase := rfl
@[simp] theorem Mach.updObs_freeCtr (f : Obs → Obs) : (m.updObs f).freeCtr = m.freeCtr := rfl
@[simp] theorem Mach.updObs_out (f : Obs → Obs) : (m.updObs f).out = m.out := rfl
@[simp] theorem Mach.updObs_params (f : Obs → Obs) : (m.updObs f).params = m.params := rfl
@[simp] theorem Mach.updObs_arch (f : Obs → Obs) : (m.updObs f).arch = m.arch := rfl
@[simp] theorem Mach.updObs_mode (f : Obs → Obs) : (m.updObs f).mode = m.mode := rfl
@[simp] theorem Mach.updObs_chain (f : Obs → Obs) : (m.updObs f).chain = m.chain := rfl
@[simp] theorem Mach.updObs_meas (f : Obs → Obs) : (m.updObs f).meas = m.meas := rfl
@[simp] theorem Mach.updObs_iso (f : Obs → Obs) : (m.updObs f).iso = m.iso := rfl
@[simp] theorem Mach.updObs_imp (f : Obs → Obs) : (m.updObs f).imp = m.imp := rfl
@[simp] theorem Mach.updObs_est (f : Obs → Obs) : (m.updObs f).est = m.est := rfl
@[simp] theorem Mach.updObs_bal (f : Obs → Obs) : (m.updObs f).bal = m.bal := rfl
@[simp] theorem Mach.updObs_pwm (f : Obs → Obs) : (m.updObs f).pwm = m.pwm := rfl
@[simp] theorem Mach.updObs_conv (f : Obs → Obs) : (m.updObs f).conv = m.conv := rfl
@[simp] theorem Mach.updObs_fab (f : Obs → Obs) : (m.updObs f).fab = m.fab := rfl
@[simp] theorem Mach.updObs_safe (f : Obs → Obs) : (m.updObs f).safe = m.safe := rfl
@[simp] theorem Mach.updObs_plant (f : Obs → Obs) : (m.updObs f).plant = m.plant := rfl
@[simp] theorem Mach.updObs_plantCnt (f : Obs → Obs) : (m.updObs f).plantCnt = m.plantCnt := rfl
@[simp] theorem Mach.updObs_pair (f : Obs → Obs) : (m.updObs f).pair = m.pair := rfl
@[simp] theorem Mach.updObs_saf (f : Obs → Obs) : (m.updObs f).saf = m.saf := rfl
@[simp] theorem Mach.updObs_therm (f : Obs → Obs) : (m.updObs f).therm = m.therm := rfl
@[simp] theorem Mach.updObs_flt (f : Obs → Obs) : (m.updObs f).flt = m.flt := rfl
@[simp] theorem Mach.updObs_seed (f : Obs → Obs) : (m.updObs f).seed = m.seed := rfl
@[simp] theorem Mach.updObs_nv (f : Obs → Obs) : (m.updObs f).nv = m.nv := rfl
@[simp] theorem Mach.updObs_mbx (f : Obs → Obs) : (m.updObs f).mbx = m.mbx := rfl
@[simp] theorem Mach.updObs_can (f : Obs → Obs) : (m.updObs f).can = m.can := rfl
@[simp] theorem Mach.updObs_upd (f : Obs → Obs) : (m.updObs f).upd = m.upd := rfl
@[simp] theorem Mach.updObs_clk (f : Obs → Obs) : (m.updObs f).clk = m.clk := rfl
@[simp] theorem Mach.updObs_fact (f : Obs → Obs) : (m.updObs f).fact = m.fact := rfl
@[simp] theorem Mach.updObs_obs (f : Obs → Obs) : (m.updObs f).obs = f m.obs := rfl

@[simp] theorem Mach.emit_now (x : Out) : (m.emit x).now = m.now := rfl
@[simp] theorem Mach.emit_fabBase (x : Out) : (m.emit x).fabBase = m.fabBase := rfl
@[simp] theorem Mach.emit_freeCtr (x : Out) : (m.emit x).freeCtr = m.freeCtr := rfl
@[simp] theorem Mach.emit_out (x : Out) : (m.emit x).out = m.out ++ [x] := rfl
@[simp] theorem Mach.emit_params (x : Out) : (m.emit x).params = m.params := rfl
@[simp] theorem Mach.emit_arch (x : Out) : (m.emit x).arch = m.arch := rfl
@[simp] theorem Mach.emit_mode (x : Out) : (m.emit x).mode = m.mode := rfl
@[simp] theorem Mach.emit_chain (x : Out) : (m.emit x).chain = m.chain := rfl
@[simp] theorem Mach.emit_meas (x : Out) : (m.emit x).meas = m.meas := rfl
@[simp] theorem Mach.emit_iso (x : Out) : (m.emit x).iso = m.iso := rfl
@[simp] theorem Mach.emit_imp (x : Out) : (m.emit x).imp = m.imp := rfl
@[simp] theorem Mach.emit_est (x : Out) : (m.emit x).est = m.est := rfl
@[simp] theorem Mach.emit_bal (x : Out) : (m.emit x).bal = m.bal := rfl
@[simp] theorem Mach.emit_pwm (x : Out) : (m.emit x).pwm = m.pwm := rfl
@[simp] theorem Mach.emit_conv (x : Out) : (m.emit x).conv = m.conv := rfl
@[simp] theorem Mach.emit_fab (x : Out) : (m.emit x).fab = m.fab := rfl
@[simp] theorem Mach.emit_safe (x : Out) : (m.emit x).safe = m.safe := rfl
@[simp] theorem Mach.emit_plant (x : Out) : (m.emit x).plant = m.plant := rfl
@[simp] theorem Mach.emit_plantCnt (x : Out) : (m.emit x).plantCnt = m.plantCnt := rfl
@[simp] theorem Mach.emit_pair (x : Out) : (m.emit x).pair = m.pair := rfl
@[simp] theorem Mach.emit_saf (x : Out) : (m.emit x).saf = m.saf := rfl
@[simp] theorem Mach.emit_therm (x : Out) : (m.emit x).therm = m.therm := rfl
@[simp] theorem Mach.emit_flt (x : Out) : (m.emit x).flt = m.flt := rfl
@[simp] theorem Mach.emit_seed (x : Out) : (m.emit x).seed = m.seed := rfl
@[simp] theorem Mach.emit_nv (x : Out) : (m.emit x).nv = m.nv := rfl
@[simp] theorem Mach.emit_mbx (x : Out) : (m.emit x).mbx = m.mbx := rfl
@[simp] theorem Mach.emit_can (x : Out) : (m.emit x).can = m.can := rfl
@[simp] theorem Mach.emit_upd (x : Out) : (m.emit x).upd = m.upd := rfl
@[simp] theorem Mach.emit_clk (x : Out) : (m.emit x).clk = m.clk := rfl
@[simp] theorem Mach.emit_fact (x : Out) : (m.emit x).fact = m.fact := rfl
@[simp] theorem Mach.emit_obs (x : Out) : (m.emit x).obs = m.obs := rfl
@[simp] theorem Mach.emits_now (l : List Out) : (m.emits l).now = m.now := rfl
@[simp] theorem Mach.emits_fabBase (l : List Out) : (m.emits l).fabBase = m.fabBase := rfl
@[simp] theorem Mach.emits_freeCtr (l : List Out) : (m.emits l).freeCtr = m.freeCtr := rfl
@[simp] theorem Mach.emits_out (l : List Out) : (m.emits l).out = m.out ++ l := rfl
@[simp] theorem Mach.emits_params (l : List Out) : (m.emits l).params = m.params := rfl
@[simp] theorem Mach.emits_arch (l : List Out) : (m.emits l).arch = m.arch := rfl
@[simp] theorem Mach.emits_mode (l : List Out) : (m.emits l).mode = m.mode := rfl
@[simp] theorem Mach.emits_chain (l : List Out) : (m.emits l).chain = m.chain := rfl
@[simp] theorem Mach.emits_meas (l : List Out) : (m.emits l).meas = m.meas := rfl
@[simp] theorem Mach.emits_iso (l : List Out) : (m.emits l).iso = m.iso := rfl
@[simp] theorem Mach.emits_imp (l : List Out) : (m.emits l).imp = m.imp := rfl
@[simp] theorem Mach.emits_est (l : List Out) : (m.emits l).est = m.est := rfl
@[simp] theorem Mach.emits_bal (l : List Out) : (m.emits l).bal = m.bal := rfl
@[simp] theorem Mach.emits_pwm (l : List Out) : (m.emits l).pwm = m.pwm := rfl
@[simp] theorem Mach.emits_conv (l : List Out) : (m.emits l).conv = m.conv := rfl
@[simp] theorem Mach.emits_fab (l : List Out) : (m.emits l).fab = m.fab := rfl
@[simp] theorem Mach.emits_safe (l : List Out) : (m.emits l).safe = m.safe := rfl
@[simp] theorem Mach.emits_plant (l : List Out) : (m.emits l).plant = m.plant := rfl
@[simp] theorem Mach.emits_plantCnt (l : List Out) : (m.emits l).plantCnt = m.plantCnt := rfl
@[simp] theorem Mach.emits_pair (l : List Out) : (m.emits l).pair = m.pair := rfl
@[simp] theorem Mach.emits_saf (l : List Out) : (m.emits l).saf = m.saf := rfl
@[simp] theorem Mach.emits_therm (l : List Out) : (m.emits l).therm = m.therm := rfl
@[simp] theorem Mach.emits_flt (l : List Out) : (m.emits l).flt = m.flt := rfl
@[simp] theorem Mach.emits_seed (l : List Out) : (m.emits l).seed = m.seed := rfl
@[simp] theorem Mach.emits_nv (l : List Out) : (m.emits l).nv = m.nv := rfl
@[simp] theorem Mach.emits_mbx (l : List Out) : (m.emits l).mbx = m.mbx := rfl
@[simp] theorem Mach.emits_can (l : List Out) : (m.emits l).can = m.can := rfl
@[simp] theorem Mach.emits_upd (l : List Out) : (m.emits l).upd = m.upd := rfl
@[simp] theorem Mach.emits_clk (l : List Out) : (m.emits l).clk = m.clk := rfl
@[simp] theorem Mach.emits_fact (l : List Out) : (m.emits l).fact = m.fact := rfl
@[simp] theorem Mach.emits_obs (l : List Out) : (m.emits l).obs = m.obs := rfl
@[simp] theorem Mach.setPar_now (i j v : Nat) : (m.setPar i j v).now = m.now := rfl
@[simp] theorem Mach.setPar_fabBase (i j v : Nat) : (m.setPar i j v).fabBase = m.fabBase := rfl
@[simp] theorem Mach.setPar_freeCtr (i j v : Nat) : (m.setPar i j v).freeCtr = m.freeCtr := rfl
@[simp] theorem Mach.setPar_out (i j v : Nat) : (m.setPar i j v).out = m.out := rfl
@[simp] theorem Mach.setPar_params (i j v : Nat) : (m.setPar i j v).params = setParams m.params (objKey i j) v := rfl
@[simp] theorem Mach.setPar_arch (i j v : Nat) : (m.setPar i j v).arch = m.arch := rfl
@[simp] theorem Mach.setPar_mode (i j v : Nat) : (m.setPar i j v).mode = m.mode := rfl
@[simp] theorem Mach.setPar_chain (i j v : Nat) : (m.setPar i j v).chain = m.chain := rfl
@[simp] theorem Mach.setPar_meas (i j v : Nat) : (m.setPar i j v).meas = m.meas := rfl
@[simp] theorem Mach.setPar_iso (i j v : Nat) : (m.setPar i j v).iso = m.iso := rfl
@[simp] theorem Mach.setPar_imp (i j v : Nat) : (m.setPar i j v).imp = m.imp := rfl
@[simp] theorem Mach.setPar_est (i j v : Nat) : (m.setPar i j v).est = m.est := rfl
@[simp] theorem Mach.setPar_bal (i j v : Nat) : (m.setPar i j v).bal = m.bal := rfl
@[simp] theorem Mach.setPar_pwm (i j v : Nat) : (m.setPar i j v).pwm = m.pwm := rfl
@[simp] theorem Mach.setPar_conv (i j v : Nat) : (m.setPar i j v).conv = m.conv := rfl
@[simp] theorem Mach.setPar_fab (i j v : Nat) : (m.setPar i j v).fab = m.fab := rfl
@[simp] theorem Mach.setPar_safe (i j v : Nat) : (m.setPar i j v).safe = m.safe := rfl
@[simp] theorem Mach.setPar_plant (i j v : Nat) : (m.setPar i j v).plant = m.plant := rfl
@[simp] theorem Mach.setPar_plantCnt (i j v : Nat) : (m.setPar i j v).plantCnt = m.plantCnt := rfl
@[simp] theorem Mach.setPar_pair (i j v : Nat) : (m.setPar i j v).pair = m.pair := rfl
@[simp] theorem Mach.setPar_saf (i j v : Nat) : (m.setPar i j v).saf = m.saf := rfl
@[simp] theorem Mach.setPar_therm (i j v : Nat) : (m.setPar i j v).therm = m.therm := rfl
@[simp] theorem Mach.setPar_flt (i j v : Nat) : (m.setPar i j v).flt = m.flt := rfl
@[simp] theorem Mach.setPar_seed (i j v : Nat) : (m.setPar i j v).seed = m.seed := rfl
@[simp] theorem Mach.setPar_nv (i j v : Nat) : (m.setPar i j v).nv = m.nv := rfl
@[simp] theorem Mach.setPar_mbx (i j v : Nat) : (m.setPar i j v).mbx = m.mbx := rfl
@[simp] theorem Mach.setPar_can (i j v : Nat) : (m.setPar i j v).can = m.can := rfl
@[simp] theorem Mach.setPar_upd (i j v : Nat) : (m.setPar i j v).upd = m.upd := rfl
@[simp] theorem Mach.setPar_clk (i j v : Nat) : (m.setPar i j v).clk = m.clk := rfl
@[simp] theorem Mach.setPar_fact (i j v : Nat) : (m.setPar i j v).fact = m.fact := rfl
@[simp] theorem Mach.setPar_obs (i j v : Nat) : (m.setPar i j v).obs = m.obs := rfl
@[simp] theorem Mach.nextFree_now : m.nextFree.now = m.now := rfl
@[simp] theorem Mach.nextFree_fabBase : m.nextFree.fabBase = m.fabBase := rfl
@[simp] theorem Mach.nextFree_freeCtr : m.nextFree.freeCtr = m.freeCtr + 1 := rfl
@[simp] theorem Mach.nextFree_out : m.nextFree.out = m.out := rfl
@[simp] theorem Mach.nextFree_params : m.nextFree.params = m.params := rfl
@[simp] theorem Mach.nextFree_arch : m.nextFree.arch = m.arch := rfl
@[simp] theorem Mach.nextFree_mode : m.nextFree.mode = m.mode := rfl
@[simp] theorem Mach.nextFree_chain : m.nextFree.chain = m.chain := rfl
@[simp] theorem Mach.nextFree_meas : m.nextFree.meas = m.meas := rfl
@[simp] theorem Mach.nextFree_iso : m.nextFree.iso = m.iso := rfl
@[simp] theorem Mach.nextFree_imp : m.nextFree.imp = m.imp := rfl
@[simp] theorem Mach.nextFree_est : m.nextFree.est = m.est := rfl
@[simp] theorem Mach.nextFree_bal : m.nextFree.bal = m.bal := rfl
@[simp] theorem Mach.nextFree_pwm : m.nextFree.pwm = m.pwm := rfl
@[simp] theorem Mach.nextFree_conv : m.nextFree.conv = m.conv := rfl
@[simp] theorem Mach.nextFree_fab : m.nextFree.fab = m.fab := rfl
@[simp] theorem Mach.nextFree_safe : m.nextFree.safe = m.safe := rfl
@[simp] theorem Mach.nextFree_plant : m.nextFree.plant = m.plant := rfl
@[simp] theorem Mach.nextFree_plantCnt : m.nextFree.plantCnt = m.plantCnt := rfl
@[simp] theorem Mach.nextFree_pair : m.nextFree.pair = m.pair := rfl
@[simp] theorem Mach.nextFree_saf : m.nextFree.saf = m.saf := rfl
@[simp] theorem Mach.nextFree_therm : m.nextFree.therm = m.therm := rfl
@[simp] theorem Mach.nextFree_flt : m.nextFree.flt = m.flt := rfl
@[simp] theorem Mach.nextFree_seed : m.nextFree.seed = m.seed := rfl
@[simp] theorem Mach.nextFree_nv : m.nextFree.nv = m.nv := rfl
@[simp] theorem Mach.nextFree_mbx : m.nextFree.mbx = m.mbx := rfl
@[simp] theorem Mach.nextFree_can : m.nextFree.can = m.can := rfl
@[simp] theorem Mach.nextFree_upd : m.nextFree.upd = m.upd := rfl
@[simp] theorem Mach.nextFree_clk : m.nextFree.clk = m.clk := rfl
@[simp] theorem Mach.nextFree_fact : m.nextFree.fact = m.fact := rfl
@[simp] theorem Mach.nextFree_obs : m.nextFree.obs = m.obs := rfl
@[simp] theorem Mach.when_now (b : Bool) (f : Mach → Mach) : (m.when b f).now = if b then (f m).now else m.now := by
  cases b <;> rfl
@[simp] theorem Mach.when_fabBase (b : Bool) (f : Mach → Mach) : (m.when b f).fabBase = if b then (f m).fabBase else m.fabBase := by
  cases b <;> rfl
@[simp] theorem Mach.when_freeCtr (b : Bool) (f : Mach → Mach) : (m.when b f).freeCtr = if b then (f m).freeCtr else m.freeCtr := by
  cases b <;> rfl
@[simp] theorem Mach.when_out (b : Bool) (f : Mach → Mach) : (m.when b f).out = if b then (f m).out else m.out := by
  cases b <;> rfl
@[simp] theorem Mach.when_params (b : Bool) (f : Mach → Mach) : (m.when b f).params = if b then (f m).params else m.params := by
  cases b <;> rfl
@[simp] theorem Mach.when_arch (b : Bool) (f : Mach → Mach) : (m.when b f).arch = if b then (f m).arch else m.arch := by
  cases b <;> rfl
@[simp] theorem Mach.when_mode (b : Bool) (f : Mach → Mach) : (m.when b f).mode = if b then (f m).mode else m.mode := by
  cases b <;> rfl
@[simp] theorem Mach.when_chain (b : Bool) (f : Mach → Mach) : (m.when b f).chain = if b then (f m).chain else m.chain := by
  cases b <;> rfl
@[simp] theorem Mach.when_meas (b : Bool) (f : Mach → Mach) : (m.when b f).meas = if b then (f m).meas else m.meas := by
  cases b <;> rfl
@[simp] theorem Mach.when_iso (b : Bool) (f : Mach → Mach) : (m.when b f).iso = if b then (f m).iso else m.iso := by
  cases b <;> rfl
@[simp] theorem Mach.when_imp (b : Bool) (f : Mach → Mach) : (m.when b f).imp = if b then (f m).imp else m.imp := by
  cases b <;> rfl
@[simp] theorem Mach.when_est (b : Bool) (f : Mach → Mach) : (m.when b f).est = if b then (f m).est else m.est := by
  cases b <;> rfl
@[simp] theorem Mach.when_bal (b : Bool) (f : Mach → Mach) : (m.when b f).bal = if b then (f m).bal else m.bal := by
  cases b <;> rfl
@[simp] theorem Mach.when_pwm (b : Bool) (f : Mach → Mach) : (m.when b f).pwm = if b then (f m).pwm else m.pwm := by
  cases b <;> rfl
@[simp] theorem Mach.when_conv (b : Bool) (f : Mach → Mach) : (m.when b f).conv = if b then (f m).conv else m.conv := by
  cases b <;> rfl
@[simp] theorem Mach.when_fab (b : Bool) (f : Mach → Mach) : (m.when b f).fab = if b then (f m).fab else m.fab := by
  cases b <;> rfl
@[simp] theorem Mach.when_safe (b : Bool) (f : Mach → Mach) : (m.when b f).safe = if b then (f m).safe else m.safe := by
  cases b <;> rfl
@[simp] theorem Mach.when_plant (b : Bool) (f : Mach → Mach) : (m.when b f).plant = if b then (f m).plant else m.plant := by
  cases b <;> rfl
@[simp] theorem Mach.when_plantCnt (b : Bool) (f : Mach → Mach) : (m.when b f).plantCnt = if b then (f m).plantCnt else m.plantCnt := by
  cases b <;> rfl
@[simp] theorem Mach.when_pair (b : Bool) (f : Mach → Mach) : (m.when b f).pair = if b then (f m).pair else m.pair := by
  cases b <;> rfl
@[simp] theorem Mach.when_saf (b : Bool) (f : Mach → Mach) : (m.when b f).saf = if b then (f m).saf else m.saf := by
  cases b <;> rfl
@[simp] theorem Mach.when_therm (b : Bool) (f : Mach → Mach) : (m.when b f).therm = if b then (f m).therm else m.therm := by
  cases b <;> rfl
@[simp] theorem Mach.when_flt (b : Bool) (f : Mach → Mach) : (m.when b f).flt = if b then (f m).flt else m.flt := by
  cases b <;> rfl
@[simp] theorem Mach.when_seed (b : Bool) (f : Mach → Mach) : (m.when b f).seed = if b then (f m).seed else m.seed := by
  cases b <;> rfl
@[simp] theorem Mach.when_nv (b : Bool) (f : Mach → Mach) : (m.when b f).nv = if b then (f m).nv else m.nv := by
  cases b <;> rfl
@[simp] theorem Mach.when_mbx (b : Bool) (f : Mach → Mach) : (m.when b f).mbx = if b then (f m).mbx else m.mbx := by
  cases b <;> rfl
@[simp] theorem Mach.when_can (b : Bool) (f : Mach → Mach) : (m.when b f).can = if b then (f m).can else m.can := by
  cases b <;> rfl
@[simp] theorem Mach.when_upd (b : Bool) (f : Mach → Mach) : (m.when b f).upd = if b then (f m).upd else m.upd := by
  cases b <;> rfl
@[simp] theorem Mach.when_clk (b : Bool) (f : Mach → Mach) : (m.when b f).clk = if b then (f m).clk else m.clk := by
  cases b <;> rfl
@[simp] theorem Mach.when_fact (b : Bool) (f : Mach → Mach) : (m.when b f).fact = if b then (f m).fact else m.fact := by
  cases b <;> rfl
@[simp] theorem Mach.when_obs (b : Bool) (f : Mach → Mach) : (m.when b f).obs = if b then (f m).obs else m.obs := by
  cases b <;> rfl

/-- What every element's operation leaves, the whole run leaves. -/
theorem Mach.each_keep {α β : Type} (g : Mach → β) {f : α → Mach → Mach} (h : ∀ x y, g (f x y) = g y) :
    ∀ (l : List α) (m : Mach), g (m.each l f) = g m
  | [], _ => rfl
  | x :: t, m => (Mach.each_keep g h t (f x m)).trans (h x m)

@[simp] theorem Mach.each_now {α : Type} (l : List α) (f : α → Mach → Mach) (h : ∀ x y, (f x y).now = y.now) : (m.each l f).now = m.now :=
  Mach.each_keep Mach.now h l m
@[simp] theorem Mach.each_fabBase {α : Type} (l : List α) (f : α → Mach → Mach) (h : ∀ x y, (f x y).fabBase = y.fabBase) : (m.each l f).fabBase = m.fabBase :=
  Mach.each_keep Mach.fabBase h l m
@[simp] theorem Mach.each_freeCtr {α : Type} (l : List α) (f : α → Mach → Mach) (h : ∀ x y, (f x y).freeCtr = y.freeCtr) : (m.each l f).freeCtr = m.freeCtr :=
  Mach.each_keep Mach.freeCtr h l m
@[simp] theorem Mach.each_out {α : Type} (l : List α) (f : α → Mach → Mach) (h : ∀ x y, (f x y).out = y.out) : (m.each l f).out = m.out :=
  Mach.each_keep Mach.out h l m
@[simp] theorem Mach.each_params {α : Type} (l : List α) (f : α → Mach → Mach) (h : ∀ x y, (f x y).params = y.params) : (m.each l f).params = m.params :=
  Mach.each_keep Mach.params h l m
@[simp] theorem Mach.each_arch {α : Type} (l : List α) (f : α → Mach → Mach) (h : ∀ x y, (f x y).arch = y.arch) : (m.each l f).arch = m.arch :=
  Mach.each_keep Mach.arch h l m
@[simp] theorem Mach.each_mode {α : Type} (l : List α) (f : α → Mach → Mach) (h : ∀ x y, (f x y).mode = y.mode) : (m.each l f).mode = m.mode :=
  Mach.each_keep Mach.mode h l m
@[simp] theorem Mach.each_chain {α : Type} (l : List α) (f : α → Mach → Mach) (h : ∀ x y, (f x y).chain = y.chain) : (m.each l f).chain = m.chain :=
  Mach.each_keep Mach.chain h l m
@[simp] theorem Mach.each_meas {α : Type} (l : List α) (f : α → Mach → Mach) (h : ∀ x y, (f x y).meas = y.meas) : (m.each l f).meas = m.meas :=
  Mach.each_keep Mach.meas h l m
@[simp] theorem Mach.each_iso {α : Type} (l : List α) (f : α → Mach → Mach) (h : ∀ x y, (f x y).iso = y.iso) : (m.each l f).iso = m.iso :=
  Mach.each_keep Mach.iso h l m
@[simp] theorem Mach.each_imp {α : Type} (l : List α) (f : α → Mach → Mach) (h : ∀ x y, (f x y).imp = y.imp) : (m.each l f).imp = m.imp :=
  Mach.each_keep Mach.imp h l m
@[simp] theorem Mach.each_est {α : Type} (l : List α) (f : α → Mach → Mach) (h : ∀ x y, (f x y).est = y.est) : (m.each l f).est = m.est :=
  Mach.each_keep Mach.est h l m
@[simp] theorem Mach.each_bal {α : Type} (l : List α) (f : α → Mach → Mach) (h : ∀ x y, (f x y).bal = y.bal) : (m.each l f).bal = m.bal :=
  Mach.each_keep Mach.bal h l m
@[simp] theorem Mach.each_pwm {α : Type} (l : List α) (f : α → Mach → Mach) (h : ∀ x y, (f x y).pwm = y.pwm) : (m.each l f).pwm = m.pwm :=
  Mach.each_keep Mach.pwm h l m
@[simp] theorem Mach.each_conv {α : Type} (l : List α) (f : α → Mach → Mach) (h : ∀ x y, (f x y).conv = y.conv) : (m.each l f).conv = m.conv :=
  Mach.each_keep Mach.conv h l m
@[simp] theorem Mach.each_fab {α : Type} (l : List α) (f : α → Mach → Mach) (h : ∀ x y, (f x y).fab = y.fab) : (m.each l f).fab = m.fab :=
  Mach.each_keep Mach.fab h l m
@[simp] theorem Mach.each_safe {α : Type} (l : List α) (f : α → Mach → Mach) (h : ∀ x y, (f x y).safe = y.safe) : (m.each l f).safe = m.safe :=
  Mach.each_keep Mach.safe h l m
@[simp] theorem Mach.each_plant {α : Type} (l : List α) (f : α → Mach → Mach) (h : ∀ x y, (f x y).plant = y.plant) : (m.each l f).plant = m.plant :=
  Mach.each_keep Mach.plant h l m
@[simp] theorem Mach.each_plantCnt {α : Type} (l : List α) (f : α → Mach → Mach) (h : ∀ x y, (f x y).plantCnt = y.plantCnt) : (m.each l f).plantCnt = m.plantCnt :=
  Mach.each_keep Mach.plantCnt h l m
@[simp] theorem Mach.each_pair {α : Type} (l : List α) (f : α → Mach → Mach) (h : ∀ x y, (f x y).pair = y.pair) : (m.each l f).pair = m.pair :=
  Mach.each_keep Mach.pair h l m
@[simp] theorem Mach.each_saf {α : Type} (l : List α) (f : α → Mach → Mach) (h : ∀ x y, (f x y).saf = y.saf) : (m.each l f).saf = m.saf :=
  Mach.each_keep Mach.saf h l m
@[simp] theorem Mach.each_therm {α : Type} (l : List α) (f : α → Mach → Mach) (h : ∀ x y, (f x y).therm = y.therm) : (m.each l f).therm = m.therm :=
  Mach.each_keep Mach.therm h l m
@[simp] theorem Mach.each_flt {α : Type} (l : List α) (f : α → Mach → Mach) (h : ∀ x y, (f x y).flt = y.flt) : (m.each l f).flt = m.flt :=
  Mach.each_keep Mach.flt h l m
@[simp] theorem Mach.each_seed {α : Type} (l : List α) (f : α → Mach → Mach) (h : ∀ x y, (f x y).seed = y.seed) : (m.each l f).seed = m.seed :=
  Mach.each_keep Mach.seed h l m
@[simp] theorem Mach.each_nv {α : Type} (l : List α) (f : α → Mach → Mach) (h : ∀ x y, (f x y).nv = y.nv) : (m.each l f).nv = m.nv :=
  Mach.each_keep Mach.nv h l m
@[simp] theorem Mach.each_mbx {α : Type} (l : List α) (f : α → Mach → Mach) (h : ∀ x y, (f x y).mbx = y.mbx) : (m.each l f).mbx = m.mbx :=
  Mach.each_keep Mach.mbx h l m
@[simp] theorem Mach.each_can {α : Type} (l : List α) (f : α → Mach → Mach) (h : ∀ x y, (f x y).can = y.can) : (m.each l f).can = m.can :=
  Mach.each_keep Mach.can h l m
@[simp] theorem Mach.each_upd {α : Type} (l : List α) (f : α → Mach → Mach) (h : ∀ x y, (f x y).upd = y.upd) : (m.each l f).upd = m.upd :=
  Mach.each_keep Mach.upd h l m
@[simp] theorem Mach.each_clk {α : Type} (l : List α) (f : α → Mach → Mach) (h : ∀ x y, (f x y).clk = y.clk) : (m.each l f).clk = m.clk :=
  Mach.each_keep Mach.clk h l m
@[simp] theorem Mach.each_fact {α : Type} (l : List α) (f : α → Mach → Mach) (h : ∀ x y, (f x y).fact = y.fact) : (m.each l f).fact = m.fact :=
  Mach.each_keep Mach.fact h l m
@[simp] theorem Mach.each_obs {α : Type} (l : List α) (f : α → Mach → Mach) (h : ∀ x y, (f x y).obs = y.obs) : (m.each l f).obs = m.obs :=
  Mach.each_keep Mach.obs h l m

@[simp] theorem Mach.when_true (f : Mach → Mach) : m.when true f = f m := rfl
@[simp] theorem Mach.when_false (f : Mach → Mach) : m.when false f = m := rfl
@[simp] theorem Mach.each_nil {α : Type} (f : α → Mach → Mach) : m.each [] f = m := rfl
@[simp] theorem Mach.each_cons {α : Type} (x : α) (l : List α) (f : α → Mach → Mach) : m.each (x :: l) f = (f x m).each l f := rfl

end Sys2Proof.Machine
end

