-- ==== Sys2Proof/Laws/Frames.lean ====
section
/-! SUPPORT. What the shared operations leave: for each operation over the machine one lemma that names every part it
does not change, so that no later proof unfolds it. -/

namespace Sys2Proof.Machine

@[simp] theorem Mach.snapshot_frame (m : Mach) (r : SeedRec) :
    (m.snapshot r).1.now = m.now ∧ (m.snapshot r).1.fabBase = m.fabBase ∧ (m.snapshot r).1.freeCtr = m.freeCtr ∧
    (m.snapshot r).1.out = m.out ∧ (m.snapshot r).1.params = m.params ∧ (m.snapshot r).1.arch = m.arch ∧
    (m.snapshot r).1.mode = m.mode ∧ (m.snapshot r).1.chain = m.chain ∧ (m.snapshot r).1.meas = m.meas ∧
    (m.snapshot r).1.iso = m.iso ∧ (m.snapshot r).1.imp = m.imp ∧ (m.snapshot r).1.est = m.est ∧
    (m.snapshot r).1.bal = m.bal ∧ (m.snapshot r).1.pwm = m.pwm ∧ (m.snapshot r).1.conv = m.conv ∧
    (m.snapshot r).1.fab = m.fab ∧ (m.snapshot r).1.safe = m.safe ∧ (m.snapshot r).1.plant = m.plant ∧
    (m.snapshot r).1.plantCnt = m.plantCnt ∧ (m.snapshot r).1.pair = m.pair ∧ (m.snapshot r).1.saf = m.saf ∧
    (m.snapshot r).1.therm = m.therm ∧ (m.snapshot r).1.flt = m.flt ∧ (m.snapshot r).1.nv = m.nv ∧
    (m.snapshot r).1.mbx = m.mbx ∧ (m.snapshot r).1.can = m.can ∧ (m.snapshot r).1.upd = m.upd ∧
    (m.snapshot r).1.clk = m.clk ∧ (m.snapshot r).1.fact = m.fact ∧ (m.snapshot r).1.obs = m.obs := by
  unfold Mach.snapshot
  cases m.seed.lastSnap with
  | none => simp
  | some t =>
    by_cases h : m.now ≤ t + 1000000 <;> simp [h]

@[simp] theorem Mach.countEvent_frame (m : Mach) (code n : Nat) :
    (Mach.countEvent m code n).now = m.now ∧ (Mach.countEvent m code n).fabBase = m.fabBase ∧
    (Mach.countEvent m code n).freeCtr = m.freeCtr ∧ (Mach.countEvent m code n).out = m.out ∧
    (Mach.countEvent m code n).params = m.params ∧ (Mach.countEvent m code n).arch = m.arch ∧
    (Mach.countEvent m code n).mode = m.mode ∧ (Mach.countEvent m code n).chain = m.chain ∧
    (Mach.countEvent m code n).meas = m.meas ∧ (Mach.countEvent m code n).iso = m.iso ∧
    (Mach.countEvent m code n).imp = m.imp ∧ (Mach.countEvent m code n).est = m.est ∧
    (Mach.countEvent m code n).bal = m.bal ∧ (Mach.countEvent m code n).pwm = m.pwm ∧
    (Mach.countEvent m code n).conv = m.conv ∧ (Mach.countEvent m code n).fab = m.fab ∧
    (Mach.countEvent m code n).safe = m.safe ∧ (Mach.countEvent m code n).plant = m.plant ∧
    (Mach.countEvent m code n).plantCnt = m.plantCnt ∧ (Mach.countEvent m code n).pair = m.pair ∧
    (Mach.countEvent m code n).saf = m.saf ∧ (Mach.countEvent m code n).therm = m.therm ∧
    (Mach.countEvent m code n).flt = m.flt ∧ (Mach.countEvent m code n).seed = m.seed ∧
    (Mach.countEvent m code n).nv = m.nv ∧ (Mach.countEvent m code n).mbx = m.mbx ∧
    (Mach.countEvent m code n).can = m.can ∧ (Mach.countEvent m code n).upd = m.upd ∧
    (Mach.countEvent m code n).clk = m.clk ∧ (Mach.countEvent m code n).fact = m.fact := by
  unfold Mach.countEvent; simp

@[simp] theorem Mach.trace_frame (m : Mach) (type src : Nat) (data : List Nat) :
    (Mach.trace m type src data).now = m.now ∧ (Mach.trace m type src data).fabBase = m.fabBase ∧
    (Mach.trace m type src data).freeCtr = m.freeCtr ∧ (Mach.trace m type src data).out = m.out ∧
    (Mach.trace m type src data).params = m.params ∧ (Mach.trace m type src data).arch = m.arch ∧
    (Mach.trace m type src data).mode = m.mode ∧ (Mach.trace m type src data).chain = m.chain ∧
    (Mach.trace m type src data).meas = m.meas ∧ (Mach.trace m type src data).iso = m.iso ∧
    (Mach.trace m type src data).imp = m.imp ∧ (Mach.trace m type src data).est = m.est ∧
    (Mach.trace m type src data).bal = m.bal ∧ (Mach.trace m type src data).pwm = m.pwm ∧
    (Mach.trace m type src data).conv = m.conv ∧ (Mach.trace m type src data).fab = m.fab ∧
    (Mach.trace m type src data).safe = m.safe ∧ (Mach.trace m type src data).plant = m.plant ∧
    (Mach.trace m type src data).plantCnt = m.plantCnt ∧ (Mach.trace m type src data).pair = m.pair ∧
    (Mach.trace m type src data).saf = m.saf ∧ (Mach.trace m type src data).therm = m.therm ∧
    (Mach.trace m type src data).flt = m.flt ∧ (Mach.trace m type src data).seed = m.seed ∧
    (Mach.trace m type src data).nv = m.nv ∧ (Mach.trace m type src data).mbx = m.mbx ∧
    (Mach.trace m type src data).can = m.can ∧ (Mach.trace m type src data).upd = m.upd ∧
    (Mach.trace m type src data).clk = m.clk ∧ (Mach.trace m type src data).fact = m.fact := by
  unfold Mach.trace; (repeat' split) <;> simp

@[simp] theorem Mach.stageRec_frame (m : Mach) (r : SeedRec) :
    (Mach.stageRec m r).now = m.now ∧ (Mach.stageRec m r).fabBase = m.fabBase ∧
    (Mach.stageRec m r).freeCtr = m.freeCtr ∧ (Mach.stageRec m r).out = m.out ∧
    (Mach.stageRec m r).params = m.params ∧ (Mach.stageRec m r).arch = m.arch ∧ (Mach.stageRec m r).mode = m.mode ∧
    (Mach.stageRec m r).chain = m.chain ∧ (Mach.stageRec m r).meas = m.meas ∧ (Mach.stageRec m r).iso = m.iso ∧
    (Mach.stageRec m r).imp = m.imp ∧ (Mach.stageRec m r).est = m.est ∧ (Mach.stageRec m r).bal = m.bal ∧
    (Mach.stageRec m r).pwm = m.pwm ∧ (Mach.stageRec m r).conv = m.conv ∧ (Mach.stageRec m r).fab = m.fab ∧
    (Mach.stageRec m r).safe = m.safe ∧ (Mach.stageRec m r).plant = m.plant ∧
    (Mach.stageRec m r).plantCnt = m.plantCnt ∧ (Mach.stageRec m r).pair = m.pair ∧
    (Mach.stageRec m r).saf = m.saf ∧ (Mach.stageRec m r).therm = m.therm ∧ (Mach.stageRec m r).flt = m.flt ∧
    (Mach.stageRec m r).nv = m.nv ∧ (Mach.stageRec m r).mbx = m.mbx ∧ (Mach.stageRec m r).can = m.can ∧
    (Mach.stageRec m r).upd = m.upd ∧ (Mach.stageRec m r).clk = m.clk ∧ (Mach.stageRec m r).fact = m.fact ∧
    (Mach.stageRec m r).obs = m.obs := by
  unfold Mach.stageRec; split <;> simp

@[simp] theorem Mach.recordCls_frame (m : Mach) (code source : Nat) (params : List Nat) (cls : Nat) :
    (Mach.recordCls m code source params cls).now = m.now ∧
    (Mach.recordCls m code source params cls).fabBase = m.fabBase ∧
    (Mach.recordCls m code source params cls).freeCtr = m.freeCtr ∧
    (Mach.recordCls m code source params cls).out = m.out ∧
    (Mach.recordCls m code source params cls).params = m.params ∧
    (Mach.recordCls m code source params cls).arch = m.arch ∧
    (Mach.recordCls m code source params cls).mode = m.mode ∧
    (Mach.recordCls m code source params cls).chain = m.chain ∧
    (Mach.recordCls m code source params cls).meas = m.meas ∧
    (Mach.recordCls m code source params cls).iso = m.iso ∧ (Mach.recordCls m code source params cls).imp = m.imp ∧
    (Mach.recordCls m code source params cls).est = m.est ∧ (Mach.recordCls m code source params cls).bal = m.bal ∧
    (Mach.recordCls m code source params cls).pwm = m.pwm ∧
    (Mach.recordCls m code source params cls).conv = m.conv ∧
    (Mach.recordCls m code source params cls).fab = m.fab ∧
    (Mach.recordCls m code source params cls).safe = m.safe ∧
    (Mach.recordCls m code source params cls).plant = m.plant ∧
    (Mach.recordCls m code source params cls).plantCnt = m.plantCnt ∧
    (Mach.recordCls m code source params cls).pair = m.pair ∧
    (Mach.recordCls m code source params cls).saf = m.saf ∧
    (Mach.recordCls m code source params cls).therm = m.therm ∧
    (Mach.recordCls m code source params cls).flt = m.flt ∧ (Mach.recordCls m code source params cls).nv = m.nv ∧
    (Mach.recordCls m code source params cls).mbx = m.mbx ∧ (Mach.recordCls m code source params cls).can = m.can ∧
    (Mach.recordCls m code source params cls).upd = m.upd ∧ (Mach.recordCls m code source params cls).clk = m.clk ∧
    (Mach.recordCls m code source params cls).fact = m.fact ∧
    (Mach.recordCls m code source params cls).obs = m.obs := by
  unfold Mach.recordCls; (repeat' split) <;> simp

@[simp] theorem Mach.record_frame (m : Mach) (code source : Nat) (params : List Nat) :
    (Mach.record m code source params).now = m.now ∧ (Mach.record m code source params).fabBase = m.fabBase ∧
    (Mach.record m code source params).freeCtr = m.freeCtr ∧ (Mach.record m code source params).out = m.out ∧
    (Mach.record m code source params).params = m.params ∧ (Mach.record m code source params).arch = m.arch ∧
    (Mach.record m code source params).mode = m.mode ∧ (Mach.record m code source params).chain = m.chain ∧
    (Mach.record m code source params).meas = m.meas ∧ (Mach.record m code source params).iso = m.iso ∧
    (Mach.record m code source params).imp = m.imp ∧ (Mach.record m code source params).est = m.est ∧
    (Mach.record m code source params).bal = m.bal ∧ (Mach.record m code source params).pwm = m.pwm ∧
    (Mach.record m code source params).conv = m.conv ∧ (Mach.record m code source params).fab = m.fab ∧
    (Mach.record m code source params).safe = m.safe ∧ (Mach.record m code source params).plant = m.plant ∧
    (Mach.record m code source params).plantCnt = m.plantCnt ∧ (Mach.record m code source params).pair = m.pair ∧
    (Mach.record m code source params).saf = m.saf ∧ (Mach.record m code source params).therm = m.therm ∧
    (Mach.record m code source params).flt = m.flt ∧ (Mach.record m code source params).nv = m.nv ∧
    (Mach.record m code source params).mbx = m.mbx ∧ (Mach.record m code source params).can = m.can ∧
    (Mach.record m code source params).upd = m.upd ∧ (Mach.record m code source params).clk = m.clk ∧
    (Mach.record m code source params).fact = m.fact ∧ (Mach.record m code source params).obs = m.obs := by
  unfold Mach.record; simp

@[simp] theorem Mach.recordC_frame (m : Mach) (src : Nat) (params : List Nat) (injected : Bool) :
    (Mach.recordC m src params injected).now = m.now ∧ (Mach.recordC m src params injected).fabBase = m.fabBase ∧
    (Mach.recordC m src params injected).freeCtr = m.freeCtr ∧ (Mach.recordC m src params injected).out = m.out ∧
    (Mach.recordC m src params injected).params = m.params ∧ (Mach.recordC m src params injected).arch = m.arch ∧
    (Mach.recordC m src params injected).mode = m.mode ∧ (Mach.recordC m src params injected).chain = m.chain ∧
    (Mach.recordC m src params injected).meas = m.meas ∧ (Mach.recordC m src params injected).iso = m.iso ∧
    (Mach.recordC m src params injected).imp = m.imp ∧ (Mach.recordC m src params injected).est = m.est ∧
    (Mach.recordC m src params injected).bal = m.bal ∧ (Mach.recordC m src params injected).pwm = m.pwm ∧
    (Mach.recordC m src params injected).conv = m.conv ∧ (Mach.recordC m src params injected).fab = m.fab ∧
    (Mach.recordC m src params injected).safe = m.safe ∧ (Mach.recordC m src params injected).plant = m.plant ∧
    (Mach.recordC m src params injected).plantCnt = m.plantCnt ∧
    (Mach.recordC m src params injected).pair = m.pair ∧ (Mach.recordC m src params injected).saf = m.saf ∧
    (Mach.recordC m src params injected).therm = m.therm ∧ (Mach.recordC m src params injected).flt = m.flt ∧
    (Mach.recordC m src params injected).nv = m.nv ∧ (Mach.recordC m src params injected).mbx = m.mbx ∧
    (Mach.recordC m src params injected).can = m.can ∧ (Mach.recordC m src params injected).upd = m.upd ∧
    (Mach.recordC m src params injected).clk = m.clk ∧ (Mach.recordC m src params injected).fact = m.fact ∧
    (Mach.recordC m src params injected).obs = m.obs := by
  unfold Mach.recordC; dsimp only; split
  · split <;> simp
  · simp

@[simp] theorem Mach.foxRecord_frame (m : Mach) (code source : Nat) (params : List Nat) :
    (Mach.foxRecord m code source params).now = m.now ∧ (Mach.foxRecord m code source params).fabBase = m.fabBase ∧
    (Mach.foxRecord m code source params).freeCtr = m.freeCtr ∧ (Mach.foxRecord m code source params).out = m.out ∧
    (Mach.foxRecord m code source params).params = m.params ∧ (Mach.foxRecord m code source params).arch = m.arch ∧
    (Mach.foxRecord m code source params).mode = m.mode ∧ (Mach.foxRecord m code source params).chain = m.chain ∧
    (Mach.foxRecord m code source params).meas = m.meas ∧ (Mach.foxRecord m code source params).iso = m.iso ∧
    (Mach.foxRecord m code source params).imp = m.imp ∧ (Mach.foxRecord m code source params).est = m.est ∧
    (Mach.foxRecord m code source params).bal = m.bal ∧ (Mach.foxRecord m code source params).pwm = m.pwm ∧
    (Mach.foxRecord m code source params).conv = m.conv ∧ (Mach.foxRecord m code source params).fab = m.fab ∧
    (Mach.foxRecord m code source params).safe = m.safe ∧ (Mach.foxRecord m code source params).plant = m.plant ∧
    (Mach.foxRecord m code source params).plantCnt = m.plantCnt ∧
    (Mach.foxRecord m code source params).pair = m.pair ∧ (Mach.foxRecord m code source params).therm = m.therm ∧
    (Mach.foxRecord m code source params).flt = m.flt ∧ (Mach.foxRecord m code source params).nv = m.nv ∧
    (Mach.foxRecord m code source params).mbx = m.mbx ∧ (Mach.foxRecord m code source params).can = m.can ∧
    (Mach.foxRecord m code source params).upd = m.upd ∧ (Mach.foxRecord m code source params).clk = m.clk ∧
    (Mach.foxRecord m code source params).fact = m.fact ∧ (Mach.foxRecord m code source params).obs = m.obs := by
  unfold Mach.foxRecord; simp

@[simp] theorem Mach.replayFox_frame (m : Mach) :
    (Mach.replayFox m).now = m.now ∧ (Mach.replayFox m).fabBase = m.fabBase ∧
    (Mach.replayFox m).freeCtr = m.freeCtr ∧ (Mach.replayFox m).out = m.out ∧ (Mach.replayFox m).params = m.params ∧
    (Mach.replayFox m).arch = m.arch ∧ (Mach.replayFox m).mode = m.mode ∧ (Mach.replayFox m).chain = m.chain ∧
    (Mach.replayFox m).meas = m.meas ∧ (Mach.replayFox m).iso = m.iso ∧ (Mach.replayFox m).imp = m.imp ∧
    (Mach.replayFox m).est = m.est ∧ (Mach.replayFox m).bal = m.bal ∧ (Mach.replayFox m).pwm = m.pwm ∧
    (Mach.replayFox m).conv = m.conv ∧ (Mach.replayFox m).fab = m.fab ∧ (Mach.replayFox m).safe = m.safe ∧
    (Mach.replayFox m).plant = m.plant ∧ (Mach.replayFox m).plantCnt = m.plantCnt ∧
    (Mach.replayFox m).pair = m.pair ∧ (Mach.replayFox m).therm = m.therm ∧ (Mach.replayFox m).flt = m.flt ∧
    (Mach.replayFox m).nv = m.nv ∧ (Mach.replayFox m).mbx = m.mbx ∧ (Mach.replayFox m).can = m.can ∧
    (Mach.replayFox m).upd = m.upd ∧ (Mach.replayFox m).clk = m.clk ∧ (Mach.replayFox m).fact = m.fact ∧
    (Mach.replayFox m).obs = m.obs := by
  unfold Mach.replayFox; (repeat' split) <;> simp

@[simp] theorem Mach.reportLost_frame (m : Mach) :
    (Mach.reportLost m).now = m.now ∧ (Mach.reportLost m).fabBase = m.fabBase ∧
    (Mach.reportLost m).freeCtr = m.freeCtr ∧ (Mach.reportLost m).out = m.out ∧
    (Mach.reportLost m).params = m.params ∧ (Mach.reportLost m).arch = m.arch ∧ (Mach.reportLost m).mode = m.mode ∧
    (Mach.reportLost m).chain = m.chain ∧ (Mach.reportLost m).meas = m.meas ∧ (Mach.reportLost m).iso = m.iso ∧
    (Mach.reportLost m).imp = m.imp ∧ (Mach.reportLost m).est = m.est ∧ (Mach.reportLost m).bal = m.bal ∧
    (Mach.reportLost m).pwm = m.pwm ∧ (Mach.reportLost m).conv = m.conv ∧ (Mach.reportLost m).fab = m.fab ∧
    (Mach.reportLost m).safe = m.safe ∧ (Mach.reportLost m).plant = m.plant ∧
    (Mach.reportLost m).plantCnt = m.plantCnt ∧ (Mach.reportLost m).pair = m.pair ∧
    (Mach.reportLost m).saf = m.saf ∧ (Mach.reportLost m).therm = m.therm ∧ (Mach.reportLost m).flt = m.flt ∧
    (Mach.reportLost m).nv = m.nv ∧ (Mach.reportLost m).mbx = m.mbx ∧ (Mach.reportLost m).can = m.can ∧
    (Mach.reportLost m).upd = m.upd ∧ (Mach.reportLost m).clk = m.clk ∧ (Mach.reportLost m).fact = m.fact ∧
    (Mach.reportLost m).obs = m.obs := by
  unfold Mach.reportLost; (repeat' split) <;> simp

@[simp] theorem Mach.noteDegraded_frame (m : Mach) :
    (Mach.noteDegraded m).now = m.now ∧ (Mach.noteDegraded m).fabBase = m.fabBase ∧
    (Mach.noteDegraded m).freeCtr = m.freeCtr ∧ (Mach.noteDegraded m).out = m.out ∧
    (Mach.noteDegraded m).params = m.params ∧ (Mach.noteDegraded m).arch = m.arch ∧
    (Mach.noteDegraded m).chain = m.chain ∧ (Mach.noteDegraded m).meas = m.meas ∧
    (Mach.noteDegraded m).iso = m.iso ∧ (Mach.noteDegraded m).imp = m.imp ∧ (Mach.noteDegraded m).est = m.est ∧
    (Mach.noteDegraded m).bal = m.bal ∧ (Mach.noteDegraded m).pwm = m.pwm ∧ (Mach.noteDegraded m).conv = m.conv ∧
    (Mach.noteDegraded m).fab = m.fab ∧ (Mach.noteDegraded m).safe = m.safe ∧
    (Mach.noteDegraded m).plant = m.plant ∧ (Mach.noteDegraded m).plantCnt = m.plantCnt ∧
    (Mach.noteDegraded m).pair = m.pair ∧ (Mach.noteDegraded m).saf = m.saf ∧
    (Mach.noteDegraded m).therm = m.therm ∧ (Mach.noteDegraded m).flt = m.flt ∧ (Mach.noteDegraded m).nv = m.nv ∧
    (Mach.noteDegraded m).mbx = m.mbx ∧ (Mach.noteDegraded m).can = m.can ∧ (Mach.noteDegraded m).upd = m.upd ∧
    (Mach.noteDegraded m).clk = m.clk ∧ (Mach.noteDegraded m).fact = m.fact ∧ (Mach.noteDegraded m).obs = m.obs := by
  unfold Mach.noteDegraded; (repeat' split) <;> simp

@[simp] theorem Mach.store_frame (m : Mach) (items : List NvItem) (after : List After) :
    (Mach.store m items after).now = m.now ∧ (Mach.store m items after).fabBase = m.fabBase ∧
    (Mach.store m items after).freeCtr = m.freeCtr ∧ (Mach.store m items after).out = m.out ∧
    (Mach.store m items after).params = m.params ∧ (Mach.store m items after).arch = m.arch ∧
    (Mach.store m items after).mode = m.mode ∧ (Mach.store m items after).chain = m.chain ∧
    (Mach.store m items after).meas = m.meas ∧ (Mach.store m items after).iso = m.iso ∧
    (Mach.store m items after).imp = m.imp ∧ (Mach.store m items after).est = m.est ∧
    (Mach.store m items after).bal = m.bal ∧ (Mach.store m items after).pwm = m.pwm ∧
    (Mach.store m items after).conv = m.conv ∧ (Mach.store m items after).fab = m.fab ∧
    (Mach.store m items after).safe = m.safe ∧ (Mach.store m items after).plant = m.plant ∧
    (Mach.store m items after).plantCnt = m.plantCnt ∧ (Mach.store m items after).pair = m.pair ∧
    (Mach.store m items after).saf = m.saf ∧ (Mach.store m items after).therm = m.therm ∧
    (Mach.store m items after).flt = m.flt ∧ (Mach.store m items after).seed = m.seed ∧
    (Mach.store m items after).mbx = m.mbx ∧ (Mach.store m items after).can = m.can ∧
    (Mach.store m items after).upd = m.upd ∧ (Mach.store m items after).clk = m.clk ∧
    (Mach.store m items after).fact = m.fact ∧ (Mach.store m items after).obs = m.obs := by
  unfold Mach.store; simp

@[simp] theorem Mach.storeNow_frame (m : Mach) (items : List NvItem) :
    (Mach.storeNow m items).now = m.now ∧ (Mach.storeNow m items).fabBase = m.fabBase ∧
    (Mach.storeNow m items).freeCtr = m.freeCtr ∧ (Mach.storeNow m items).out = m.out ∧
    (Mach.storeNow m items).params = m.params ∧ (Mach.storeNow m items).arch = m.arch ∧
    (Mach.storeNow m items).mode = m.mode ∧ (Mach.storeNow m items).chain = m.chain ∧
    (Mach.storeNow m items).meas = m.meas ∧ (Mach.storeNow m items).iso = m.iso ∧
    (Mach.storeNow m items).imp = m.imp ∧ (Mach.storeNow m items).est = m.est ∧
    (Mach.storeNow m items).bal = m.bal ∧ (Mach.storeNow m items).pwm = m.pwm ∧
    (Mach.storeNow m items).conv = m.conv ∧ (Mach.storeNow m items).fab = m.fab ∧
    (Mach.storeNow m items).safe = m.safe ∧ (Mach.storeNow m items).plant = m.plant ∧
    (Mach.storeNow m items).plantCnt = m.plantCnt ∧ (Mach.storeNow m items).pair = m.pair ∧
    (Mach.storeNow m items).saf = m.saf ∧ (Mach.storeNow m items).therm = m.therm ∧
    (Mach.storeNow m items).flt = m.flt ∧ (Mach.storeNow m items).seed = m.seed ∧
    (Mach.storeNow m items).mbx = m.mbx ∧ (Mach.storeNow m items).can = m.can ∧
    (Mach.storeNow m items).upd = m.upd ∧ (Mach.storeNow m items).clk = m.clk ∧
    (Mach.storeNow m items).fact = m.fact ∧ (Mach.storeNow m items).obs = m.obs := by
  unfold Mach.storeNow; (repeat' split) <;> simp

@[simp] theorem Mach.restoreCounters_frame (m : Mach) (c : List (Nat × Nat)) :
    (Mach.restoreCounters m c).now = m.now ∧ (Mach.restoreCounters m c).fabBase = m.fabBase ∧
    (Mach.restoreCounters m c).freeCtr = m.freeCtr ∧ (Mach.restoreCounters m c).out = m.out ∧
    (Mach.restoreCounters m c).params = m.params ∧ (Mach.restoreCounters m c).arch = m.arch ∧
    (Mach.restoreCounters m c).mode = m.mode ∧ (Mach.restoreCounters m c).chain = m.chain ∧
    (Mach.restoreCounters m c).iso = m.iso ∧ (Mach.restoreCounters m c).imp = m.imp ∧
    (Mach.restoreCounters m c).bal = m.bal ∧ (Mach.restoreCounters m c).pwm = m.pwm ∧
    (Mach.restoreCounters m c).conv = m.conv ∧ (Mach.restoreCounters m c).fab = m.fab ∧
    (Mach.restoreCounters m c).safe = m.safe ∧ (Mach.restoreCounters m c).plant = m.plant ∧
    (Mach.restoreCounters m c).plantCnt = m.plantCnt ∧ (Mach.restoreCounters m c).therm = m.therm ∧
    (Mach.restoreCounters m c).flt = m.flt ∧ (Mach.restoreCounters m c).seed = m.seed ∧
    (Mach.restoreCounters m c).mbx = m.mbx ∧ (Mach.restoreCounters m c).can = m.can ∧
    (Mach.restoreCounters m c).fact = m.fact ∧ (Mach.restoreCounters m c).obs = m.obs := by
  unfold Mach.restoreCounters; simp

@[simp] theorem Mach.restore_frame (m : Mach) (i : NvItem) :
    (Mach.restore m i).now = m.now ∧ (Mach.restore m i).fabBase = m.fabBase ∧
    (Mach.restore m i).freeCtr = m.freeCtr ∧ (Mach.restore m i).out = m.out ∧ (Mach.restore m i).arch = m.arch ∧
    (Mach.restore m i).chain = m.chain ∧ (Mach.restore m i).pwm = m.pwm ∧ (Mach.restore m i).conv = m.conv ∧
    (Mach.restore m i).safe = m.safe ∧ (Mach.restore m i).plant = m.plant ∧
    (Mach.restore m i).plantCnt = m.plantCnt ∧ (Mach.restore m i).therm = m.therm ∧ (Mach.restore m i).flt = m.flt ∧
    (Mach.restore m i).seed = m.seed ∧ (Mach.restore m i).mbx = m.mbx ∧ (Mach.restore m i).can = m.can ∧
    (Mach.restore m i).fact = m.fact ∧ (Mach.restore m i).obs = m.obs := by
  unfold Mach.restore; (repeat' split) <;> simp

@[simp] theorem Mach.replay_frame (m : Mach) (badSuper : Nat) (badKeys badTxns : List Nat) :
    (Mach.replay m badSuper badKeys badTxns).now = m.now ∧
    (Mach.replay m badSuper badKeys badTxns).fabBase = m.fabBase ∧
    (Mach.replay m badSuper badKeys badTxns).freeCtr = m.freeCtr ∧
    (Mach.replay m badSuper badKeys badTxns).out = m.out ∧ (Mach.replay m badSuper badKeys badTxns).arch = m.arch ∧
    (Mach.replay m badSuper badKeys badTxns).chain = m.chain ∧
    (Mach.replay m badSuper badKeys badTxns).pwm = m.pwm ∧ (Mach.replay m badSuper badKeys badTxns).conv = m.conv ∧
    (Mach.replay m badSuper badKeys badTxns).safe = m.safe ∧
    (Mach.replay m badSuper badKeys badTxns).plant = m.plant ∧
    (Mach.replay m badSuper badKeys badTxns).plantCnt = m.plantCnt ∧
    (Mach.replay m badSuper badKeys badTxns).therm = m.therm ∧
    (Mach.replay m badSuper badKeys badTxns).flt = m.flt ∧ (Mach.replay m badSuper badKeys badTxns).seed = m.seed ∧
    (Mach.replay m badSuper badKeys badTxns).mbx = m.mbx ∧ (Mach.replay m badSuper badKeys badTxns).can = m.can ∧
    (Mach.replay m badSuper badKeys badTxns).fact = m.fact ∧ (Mach.replay m badSuper badKeys badTxns).obs = m.obs := by
  unfold Mach.replay; dsimp only; simp

@[simp] theorem Mach.podsTake_frame (m : Mach) (hit : Nat → Bool) (f : ChainCmd) :
    (Mach.podsTake m hit f).now = m.now ∧ (Mach.podsTake m hit f).fabBase = m.fabBase ∧
    (Mach.podsTake m hit f).freeCtr = m.freeCtr ∧ (Mach.podsTake m hit f).out = m.out ∧
    (Mach.podsTake m hit f).params = m.params ∧ (Mach.podsTake m hit f).arch = m.arch ∧
    (Mach.podsTake m hit f).mode = m.mode ∧ (Mach.podsTake m hit f).meas = m.meas ∧
    (Mach.podsTake m hit f).iso = m.iso ∧ (Mach.podsTake m hit f).imp = m.imp ∧
    (Mach.podsTake m hit f).est = m.est ∧ (Mach.podsTake m hit f).bal = m.bal ∧
    (Mach.podsTake m hit f).pwm = m.pwm ∧ (Mach.podsTake m hit f).conv = m.conv ∧
    (Mach.podsTake m hit f).fab = m.fab ∧ (Mach.podsTake m hit f).safe = m.safe ∧
    (Mach.podsTake m hit f).plant = m.plant ∧ (Mach.podsTake m hit f).plantCnt = m.plantCnt ∧
    (Mach.podsTake m hit f).pair = m.pair ∧ (Mach.podsTake m hit f).saf = m.saf ∧
    (Mach.podsTake m hit f).therm = m.therm ∧ (Mach.podsTake m hit f).flt = m.flt ∧
    (Mach.podsTake m hit f).seed = m.seed ∧ (Mach.podsTake m hit f).nv = m.nv ∧
    (Mach.podsTake m hit f).mbx = m.mbx ∧ (Mach.podsTake m hit f).can = m.can ∧
    (Mach.podsTake m hit f).upd = m.upd ∧ (Mach.podsTake m hit f).clk = m.clk ∧
    (Mach.podsTake m hit f).fact = m.fact ∧ (Mach.podsTake m hit f).obs = m.obs := by
  unfold Mach.podsTake; (repeat' split) <;> simp

@[simp] theorem Mach.putChain_frame (m : Mach) (f : ChainCmd) :
    (Mach.putChain m f).now = m.now ∧ (Mach.putChain m f).fabBase = m.fabBase ∧
    (Mach.putChain m f).freeCtr = m.freeCtr ∧ (Mach.putChain m f).params = m.params ∧
    (Mach.putChain m f).arch = m.arch ∧ (Mach.putChain m f).mode = m.mode ∧ (Mach.putChain m f).meas = m.meas ∧
    (Mach.putChain m f).iso = m.iso ∧ (Mach.putChain m f).imp = m.imp ∧ (Mach.putChain m f).est = m.est ∧
    (Mach.putChain m f).bal = m.bal ∧ (Mach.putChain m f).pwm = m.pwm ∧ (Mach.putChain m f).conv = m.conv ∧
    (Mach.putChain m f).fab = m.fab ∧ (Mach.putChain m f).safe = m.safe ∧ (Mach.putChain m f).plant = m.plant ∧
    (Mach.putChain m f).plantCnt = m.plantCnt ∧ (Mach.putChain m f).pair = m.pair ∧
    (Mach.putChain m f).saf = m.saf ∧ (Mach.putChain m f).therm = m.therm ∧ (Mach.putChain m f).flt = m.flt ∧
    (Mach.putChain m f).seed = m.seed ∧ (Mach.putChain m f).nv = m.nv ∧ (Mach.putChain m f).mbx = m.mbx ∧
    (Mach.putChain m f).can = m.can ∧ (Mach.putChain m f).upd = m.upd ∧ (Mach.putChain m f).clk = m.clk ∧
    (Mach.putChain m f).fact = m.fact ∧ (Mach.putChain m f).obs = m.obs := by
  unfold Mach.putChain; simp

@[simp] theorem Mach.putFar_frame (m : Mach) (f : ChainCmd) :
    (Mach.putFar m f).now = m.now ∧ (Mach.putFar m f).fabBase = m.fabBase ∧ (Mach.putFar m f).freeCtr = m.freeCtr ∧
    (Mach.putFar m f).params = m.params ∧ (Mach.putFar m f).arch = m.arch ∧ (Mach.putFar m f).mode = m.mode ∧
    (Mach.putFar m f).meas = m.meas ∧ (Mach.putFar m f).iso = m.iso ∧ (Mach.putFar m f).imp = m.imp ∧
    (Mach.putFar m f).est = m.est ∧ (Mach.putFar m f).bal = m.bal ∧ (Mach.putFar m f).pwm = m.pwm ∧
    (Mach.putFar m f).conv = m.conv ∧ (Mach.putFar m f).fab = m.fab ∧ (Mach.putFar m f).safe = m.safe ∧
    (Mach.putFar m f).plant = m.plant ∧ (Mach.putFar m f).plantCnt = m.plantCnt ∧ (Mach.putFar m f).pair = m.pair ∧
    (Mach.putFar m f).saf = m.saf ∧ (Mach.putFar m f).therm = m.therm ∧ (Mach.putFar m f).flt = m.flt ∧
    (Mach.putFar m f).seed = m.seed ∧ (Mach.putFar m f).nv = m.nv ∧ (Mach.putFar m f).mbx = m.mbx ∧
    (Mach.putFar m f).can = m.can ∧ (Mach.putFar m f).upd = m.upd ∧ (Mach.putFar m f).clk = m.clk ∧
    (Mach.putFar m f).fact = m.fact ∧ (Mach.putFar m f).obs = m.obs := by
  unfold Mach.putFar; simp

@[simp] theorem Mach.sendChain_frame (m : Mach) (f : ChainCmd) :
    (Mach.sendChain m f).now = m.now ∧ (Mach.sendChain m f).fabBase = m.fabBase ∧
    (Mach.sendChain m f).freeCtr = m.freeCtr ∧ (Mach.sendChain m f).params = m.params ∧
    (Mach.sendChain m f).arch = m.arch ∧ (Mach.sendChain m f).mode = m.mode ∧ (Mach.sendChain m f).meas = m.meas ∧
    (Mach.sendChain m f).iso = m.iso ∧ (Mach.sendChain m f).imp = m.imp ∧ (Mach.sendChain m f).est = m.est ∧
    (Mach.sendChain m f).bal = m.bal ∧ (Mach.sendChain m f).pwm = m.pwm ∧ (Mach.sendChain m f).conv = m.conv ∧
    (Mach.sendChain m f).fab = m.fab ∧ (Mach.sendChain m f).safe = m.safe ∧ (Mach.sendChain m f).plant = m.plant ∧
    (Mach.sendChain m f).plantCnt = m.plantCnt ∧ (Mach.sendChain m f).pair = m.pair ∧
    (Mach.sendChain m f).saf = m.saf ∧ (Mach.sendChain m f).therm = m.therm ∧ (Mach.sendChain m f).flt = m.flt ∧
    (Mach.sendChain m f).seed = m.seed ∧ (Mach.sendChain m f).nv = m.nv ∧ (Mach.sendChain m f).mbx = m.mbx ∧
    (Mach.sendChain m f).can = m.can ∧ (Mach.sendChain m f).upd = m.upd ∧ (Mach.sendChain m f).clk = m.clk ∧
    (Mach.sendChain m f).fact = m.fact ∧ (Mach.sendChain m f).obs = m.obs := by
  unfold Mach.sendChain; simp

@[simp] theorem Mach.sendFar_frame (m : Mach) (f : ChainCmd) :
    (Mach.sendFar m f).now = m.now ∧ (Mach.sendFar m f).fabBase = m.fabBase ∧
    (Mach.sendFar m f).freeCtr = m.freeCtr ∧ (Mach.sendFar m f).params = m.params ∧
    (Mach.sendFar m f).arch = m.arch ∧ (Mach.sendFar m f).mode = m.mode ∧ (Mach.sendFar m f).meas = m.meas ∧
    (Mach.sendFar m f).iso = m.iso ∧ (Mach.sendFar m f).imp = m.imp ∧ (Mach.sendFar m f).est = m.est ∧
    (Mach.sendFar m f).bal = m.bal ∧ (Mach.sendFar m f).pwm = m.pwm ∧ (Mach.sendFar m f).conv = m.conv ∧
    (Mach.sendFar m f).fab = m.fab ∧ (Mach.sendFar m f).safe = m.safe ∧ (Mach.sendFar m f).plant = m.plant ∧
    (Mach.sendFar m f).plantCnt = m.plantCnt ∧ (Mach.sendFar m f).pair = m.pair ∧ (Mach.sendFar m f).saf = m.saf ∧
    (Mach.sendFar m f).therm = m.therm ∧ (Mach.sendFar m f).flt = m.flt ∧ (Mach.sendFar m f).seed = m.seed ∧
    (Mach.sendFar m f).nv = m.nv ∧ (Mach.sendFar m f).mbx = m.mbx ∧ (Mach.sendFar m f).can = m.can ∧
    (Mach.sendFar m f).upd = m.upd ∧ (Mach.sendFar m f).clk = m.clk ∧ (Mach.sendFar m f).fact = m.fact ∧
    (Mach.sendFar m f).obs = m.obs := by
  unfold Mach.sendFar; simp

@[simp] theorem Mach.broadcast_frame (m : Mach) (f : ChainCmd) :
    (Mach.broadcast m f).now = m.now ∧ (Mach.broadcast m f).fabBase = m.fabBase ∧
    (Mach.broadcast m f).freeCtr = m.freeCtr ∧ (Mach.broadcast m f).params = m.params ∧
    (Mach.broadcast m f).arch = m.arch ∧ (Mach.broadcast m f).mode = m.mode ∧ (Mach.broadcast m f).meas = m.meas ∧
    (Mach.broadcast m f).iso = m.iso ∧ (Mach.broadcast m f).imp = m.imp ∧ (Mach.broadcast m f).est = m.est ∧
    (Mach.broadcast m f).bal = m.bal ∧ (Mach.broadcast m f).pwm = m.pwm ∧ (Mach.broadcast m f).conv = m.conv ∧
    (Mach.broadcast m f).fab = m.fab ∧ (Mach.broadcast m f).safe = m.safe ∧ (Mach.broadcast m f).plant = m.plant ∧
    (Mach.broadcast m f).plantCnt = m.plantCnt ∧ (Mach.broadcast m f).pair = m.pair ∧
    (Mach.broadcast m f).saf = m.saf ∧ (Mach.broadcast m f).therm = m.therm ∧ (Mach.broadcast m f).flt = m.flt ∧
    (Mach.broadcast m f).seed = m.seed ∧ (Mach.broadcast m f).nv = m.nv ∧ (Mach.broadcast m f).mbx = m.mbx ∧
    (Mach.broadcast m f).can = m.can ∧ (Mach.broadcast m f).upd = m.upd ∧ (Mach.broadcast m f).clk = m.clk ∧
    (Mach.broadcast m f).fact = m.fact ∧ (Mach.broadcast m f).obs = m.obs := by
  unfold Mach.broadcast; simp only [Mach.when]; (repeat' split) <;> simp

@[simp] theorem Mach.sendStop_frame (m : Mach) :
    (Mach.sendStop m).now = m.now ∧ (Mach.sendStop m).fabBase = m.fabBase ∧ (Mach.sendStop m).freeCtr = m.freeCtr ∧
    (Mach.sendStop m).params = m.params ∧ (Mach.sendStop m).arch = m.arch ∧ (Mach.sendStop m).mode = m.mode ∧
    (Mach.sendStop m).meas = m.meas ∧ (Mach.sendStop m).iso = m.iso ∧ (Mach.sendStop m).est = m.est ∧
    (Mach.sendStop m).bal = m.bal ∧ (Mach.sendStop m).pwm = m.pwm ∧ (Mach.sendStop m).conv = m.conv ∧
    (Mach.sendStop m).fab = m.fab ∧ (Mach.sendStop m).safe = m.safe ∧ (Mach.sendStop m).plant = m.plant ∧
    (Mach.sendStop m).plantCnt = m.plantCnt ∧ (Mach.sendStop m).pair = m.pair ∧ (Mach.sendStop m).saf = m.saf ∧
    (Mach.sendStop m).therm = m.therm ∧ (Mach.sendStop m).flt = m.flt ∧ (Mach.sendStop m).seed = m.seed ∧
    (Mach.sendStop m).nv = m.nv ∧ (Mach.sendStop m).mbx = m.mbx ∧ (Mach.sendStop m).can = m.can ∧
    (Mach.sendStop m).upd = m.upd ∧ (Mach.sendStop m).clk = m.clk ∧ (Mach.sendStop m).fact = m.fact ∧
    (Mach.sendStop m).obs = m.obs := by
  unfold Mach.sendStop; (repeat' split) <;> simp

@[simp] theorem Mach.abortBin_frame (m : Mach) (stop : Bool) :
    (Mach.abortBin m stop).now = m.now ∧ (Mach.abortBin m stop).fabBase = m.fabBase ∧
    (Mach.abortBin m stop).freeCtr = m.freeCtr ∧ (Mach.abortBin m stop).params = m.params ∧
    (Mach.abortBin m stop).arch = m.arch ∧ (Mach.abortBin m stop).mode = m.mode ∧
    (Mach.abortBin m stop).meas = m.meas ∧ (Mach.abortBin m stop).iso = m.iso ∧ (Mach.abortBin m stop).est = m.est ∧
    (Mach.abortBin m stop).bal = m.bal ∧ (Mach.abortBin m stop).pwm = m.pwm ∧ (Mach.abortBin m stop).conv = m.conv ∧
    (Mach.abortBin m stop).fab = m.fab ∧ (Mach.abortBin m stop).safe = m.safe ∧
    (Mach.abortBin m stop).plant = m.plant ∧ (Mach.abortBin m stop).plantCnt = m.plantCnt ∧
    (Mach.abortBin m stop).pair = m.pair ∧ (Mach.abortBin m stop).saf = m.saf ∧
    (Mach.abortBin m stop).therm = m.therm ∧ (Mach.abortBin m stop).flt = m.flt ∧
    (Mach.abortBin m stop).seed = m.seed ∧ (Mach.abortBin m stop).nv = m.nv ∧ (Mach.abortBin m stop).mbx = m.mbx ∧
    (Mach.abortBin m stop).can = m.can ∧ (Mach.abortBin m stop).upd = m.upd ∧ (Mach.abortBin m stop).clk = m.clk ∧
    (Mach.abortBin m stop).fact = m.fact ∧ (Mach.abortBin m stop).obs = m.obs := by
  unfold Mach.abortBin; (repeat' split) <;> simp

@[simp] theorem Mach.discardBin_frame (m : Mach) (clipped : Bool) :
    (Mach.discardBin m clipped).now = m.now ∧ (Mach.discardBin m clipped).fabBase = m.fabBase ∧
    (Mach.discardBin m clipped).freeCtr = m.freeCtr ∧ (Mach.discardBin m clipped).out = m.out ∧
    (Mach.discardBin m clipped).params = m.params ∧ (Mach.discardBin m clipped).arch = m.arch ∧
    (Mach.discardBin m clipped).mode = m.mode ∧ (Mach.discardBin m clipped).chain = m.chain ∧
    (Mach.discardBin m clipped).meas = m.meas ∧ (Mach.discardBin m clipped).iso = m.iso ∧
    (Mach.discardBin m clipped).est = m.est ∧ (Mach.discardBin m clipped).bal = m.bal ∧
    (Mach.discardBin m clipped).pwm = m.pwm ∧ (Mach.discardBin m clipped).conv = m.conv ∧
    (Mach.discardBin m clipped).fab = m.fab ∧ (Mach.discardBin m clipped).safe = m.safe ∧
    (Mach.discardBin m clipped).plant = m.plant ∧ (Mach.discardBin m clipped).plantCnt = m.plantCnt ∧
    (Mach.discardBin m clipped).pair = m.pair ∧ (Mach.discardBin m clipped).saf = m.saf ∧
    (Mach.discardBin m clipped).therm = m.therm ∧ (Mach.discardBin m clipped).flt = m.flt ∧
    (Mach.discardBin m clipped).seed = m.seed ∧ (Mach.discardBin m clipped).nv = m.nv ∧
    (Mach.discardBin m clipped).mbx = m.mbx ∧ (Mach.discardBin m clipped).can = m.can ∧
    (Mach.discardBin m clipped).upd = m.upd ∧ (Mach.discardBin m clipped).clk = m.clk ∧
    (Mach.discardBin m clipped).fact = m.fact ∧ (Mach.discardBin m clipped).obs = m.obs := by
  unfold Mach.discardBin; (repeat' split) <;> simp

@[simp] theorem Mach.modeBin_frame (m : Mach) (dest : Mode) :
    (Mach.modeBin m dest).now = m.now ∧ (Mach.modeBin m dest).fabBase = m.fabBase ∧
    (Mach.modeBin m dest).freeCtr = m.freeCtr ∧ (Mach.modeBin m dest).params = m.params ∧
    (Mach.modeBin m dest).arch = m.arch ∧ (Mach.modeBin m dest).mode = m.mode ∧
    (Mach.modeBin m dest).meas = m.meas ∧ (Mach.modeBin m dest).iso = m.iso ∧ (Mach.modeBin m dest).est = m.est ∧
    (Mach.modeBin m dest).bal = m.bal ∧ (Mach.modeBin m dest).pwm = m.pwm ∧ (Mach.modeBin m dest).conv = m.conv ∧
    (Mach.modeBin m dest).fab = m.fab ∧ (Mach.modeBin m dest).safe = m.safe ∧
    (Mach.modeBin m dest).plant = m.plant ∧ (Mach.modeBin m dest).plantCnt = m.plantCnt ∧
    (Mach.modeBin m dest).pair = m.pair ∧ (Mach.modeBin m dest).saf = m.saf ∧
    (Mach.modeBin m dest).therm = m.therm ∧ (Mach.modeBin m dest).flt = m.flt ∧
    (Mach.modeBin m dest).seed = m.seed ∧ (Mach.modeBin m dest).nv = m.nv ∧ (Mach.modeBin m dest).mbx = m.mbx ∧
    (Mach.modeBin m dest).can = m.can ∧ (Mach.modeBin m dest).upd = m.upd ∧ (Mach.modeBin m dest).clk = m.clk ∧
    (Mach.modeBin m dest).fact = m.fact ∧ (Mach.modeBin m dest).obs = m.obs := by
  unfold Mach.modeBin; (repeat' split) <;> simp

@[simp] theorem Mach.beginBaseline_frame (m : Mach) :
    (Mach.beginBaseline m).now = m.now ∧ (Mach.beginBaseline m).fabBase = m.fabBase ∧
    (Mach.beginBaseline m).freeCtr = m.freeCtr ∧ (Mach.beginBaseline m).out = m.out ∧
    (Mach.beginBaseline m).params = m.params ∧ (Mach.beginBaseline m).arch = m.arch ∧
    (Mach.beginBaseline m).mode = m.mode ∧ (Mach.beginBaseline m).chain = m.chain ∧
    (Mach.beginBaseline m).meas = m.meas ∧ (Mach.beginBaseline m).iso = m.iso ∧ (Mach.beginBaseline m).est = m.est ∧
    (Mach.beginBaseline m).bal = m.bal ∧ (Mach.beginBaseline m).pwm = m.pwm ∧ (Mach.beginBaseline m).conv = m.conv ∧
    (Mach.beginBaseline m).fab = m.fab ∧ (Mach.beginBaseline m).safe = m.safe ∧
    (Mach.beginBaseline m).plant = m.plant ∧ (Mach.beginBaseline m).plantCnt = m.plantCnt ∧
    (Mach.beginBaseline m).pair = m.pair ∧ (Mach.beginBaseline m).saf = m.saf ∧
    (Mach.beginBaseline m).therm = m.therm ∧ (Mach.beginBaseline m).flt = m.flt ∧
    (Mach.beginBaseline m).seed = m.seed ∧ (Mach.beginBaseline m).nv = m.nv ∧ (Mach.beginBaseline m).mbx = m.mbx ∧
    (Mach.beginBaseline m).can = m.can ∧ (Mach.beginBaseline m).upd = m.upd ∧ (Mach.beginBaseline m).clk = m.clk ∧
    (Mach.beginBaseline m).fact = m.fact ∧ (Mach.beginBaseline m).obs = m.obs := by
  unfold Mach.beginBaseline; simp

@[simp] theorem Mach.beginTask_frame (m : Mach) (t : MTask) :
    (Mach.beginTask m t).now = m.now ∧ (Mach.beginTask m t).fabBase = m.fabBase ∧
    (Mach.beginTask m t).freeCtr = m.freeCtr ∧ (Mach.beginTask m t).out = m.out ∧
    (Mach.beginTask m t).params = m.params ∧ (Mach.beginTask m t).arch = m.arch ∧
    (Mach.beginTask m t).chain = m.chain ∧ (Mach.beginTask m t).meas = m.meas ∧ (Mach.beginTask m t).iso = m.iso ∧
    (Mach.beginTask m t).est = m.est ∧ (Mach.beginTask m t).bal = m.bal ∧ (Mach.beginTask m t).pwm = m.pwm ∧
    (Mach.beginTask m t).fab = m.fab ∧ (Mach.beginTask m t).safe = m.safe ∧ (Mach.beginTask m t).plant = m.plant ∧
    (Mach.beginTask m t).plantCnt = m.plantCnt ∧ (Mach.beginTask m t).pair = m.pair ∧
    (Mach.beginTask m t).saf = m.saf ∧ (Mach.beginTask m t).therm = m.therm ∧ (Mach.beginTask m t).flt = m.flt ∧
    (Mach.beginTask m t).seed = m.seed ∧ (Mach.beginTask m t).nv = m.nv ∧ (Mach.beginTask m t).mbx = m.mbx ∧
    (Mach.beginTask m t).can = m.can ∧ (Mach.beginTask m t).upd = m.upd ∧ (Mach.beginTask m t).clk = m.clk ∧
    (Mach.beginTask m t).fact = m.fact ∧ (Mach.beginTask m t).obs = m.obs := by
  unfold Mach.beginTask; (repeat' split) <;> simp

@[simp] theorem Mach.enterMaintain_frame (m : Mach) :
    (Mach.enterMaintain m).now = m.now ∧ (Mach.enterMaintain m).fabBase = m.fabBase ∧
    (Mach.enterMaintain m).freeCtr = m.freeCtr ∧ (Mach.enterMaintain m).out = m.out ∧
    (Mach.enterMaintain m).params = m.params ∧ (Mach.enterMaintain m).arch = m.arch ∧
    (Mach.enterMaintain m).chain = m.chain ∧ (Mach.enterMaintain m).meas = m.meas ∧
    (Mach.enterMaintain m).iso = m.iso ∧ (Mach.enterMaintain m).est = m.est ∧ (Mach.enterMaintain m).bal = m.bal ∧
    (Mach.enterMaintain m).pwm = m.pwm ∧ (Mach.enterMaintain m).fab = m.fab ∧ (Mach.enterMaintain m).safe = m.safe ∧
    (Mach.enterMaintain m).plant = m.plant ∧ (Mach.enterMaintain m).plantCnt = m.plantCnt ∧
    (Mach.enterMaintain m).pair = m.pair ∧ (Mach.enterMaintain m).saf = m.saf ∧
    (Mach.enterMaintain m).therm = m.therm ∧ (Mach.enterMaintain m).flt = m.flt ∧
    (Mach.enterMaintain m).seed = m.seed ∧ (Mach.enterMaintain m).nv = m.nv ∧ (Mach.enterMaintain m).mbx = m.mbx ∧
    (Mach.enterMaintain m).can = m.can ∧ (Mach.enterMaintain m).upd = m.upd ∧ (Mach.enterMaintain m).clk = m.clk ∧
    (Mach.enterMaintain m).fact = m.fact ∧ (Mach.enterMaintain m).obs = m.obs := by
  unfold Mach.enterMaintain; (repeat' split) <;> simp

@[simp] theorem Mach.leaveMaintain_frame (m : Mach) :
    (Mach.leaveMaintain m).now = m.now ∧ (Mach.leaveMaintain m).fabBase = m.fabBase ∧
    (Mach.leaveMaintain m).freeCtr = m.freeCtr ∧ (Mach.leaveMaintain m).out = m.out ∧
    (Mach.leaveMaintain m).params = m.params ∧ (Mach.leaveMaintain m).arch = m.arch ∧
    (Mach.leaveMaintain m).chain = m.chain ∧ (Mach.leaveMaintain m).meas = m.meas ∧
    (Mach.leaveMaintain m).iso = m.iso ∧ (Mach.leaveMaintain m).est = m.est ∧ (Mach.leaveMaintain m).bal = m.bal ∧
    (Mach.leaveMaintain m).pwm = m.pwm ∧ (Mach.leaveMaintain m).conv = m.conv ∧ (Mach.leaveMaintain m).fab = m.fab ∧
    (Mach.leaveMaintain m).safe = m.safe ∧ (Mach.leaveMaintain m).plant = m.plant ∧
    (Mach.leaveMaintain m).plantCnt = m.plantCnt ∧ (Mach.leaveMaintain m).pair = m.pair ∧
    (Mach.leaveMaintain m).saf = m.saf ∧ (Mach.leaveMaintain m).therm = m.therm ∧
    (Mach.leaveMaintain m).flt = m.flt ∧ (Mach.leaveMaintain m).seed = m.seed ∧ (Mach.leaveMaintain m).nv = m.nv ∧
    (Mach.leaveMaintain m).mbx = m.mbx ∧ (Mach.leaveMaintain m).can = m.can ∧ (Mach.leaveMaintain m).upd = m.upd ∧
    (Mach.leaveMaintain m).clk = m.clk ∧ (Mach.leaveMaintain m).fact = m.fact ∧ (Mach.leaveMaintain m).obs = m.obs := by
  unfold Mach.leaveMaintain; (repeat' split) <;> simp

@[simp] theorem Mach.setCoil_frame (m : Mach) (k : Nat) (on : Bool) :
    (Mach.setCoil m k on).now = m.now ∧ (Mach.setCoil m k on).fabBase = m.fabBase ∧
    (Mach.setCoil m k on).freeCtr = m.freeCtr ∧ (Mach.setCoil m k on).out = m.out ∧
    (Mach.setCoil m k on).params = m.params ∧ (Mach.setCoil m k on).arch = m.arch ∧
    (Mach.setCoil m k on).mode = m.mode ∧ (Mach.setCoil m k on).chain = m.chain ∧
    (Mach.setCoil m k on).meas = m.meas ∧ (Mach.setCoil m k on).iso = m.iso ∧ (Mach.setCoil m k on).imp = m.imp ∧
    (Mach.setCoil m k on).est = m.est ∧ (Mach.setCoil m k on).bal = m.bal ∧ (Mach.setCoil m k on).pwm = m.pwm ∧
    (Mach.setCoil m k on).conv = m.conv ∧ (Mach.setCoil m k on).fab = m.fab ∧ (Mach.setCoil m k on).safe = m.safe ∧
    (Mach.setCoil m k on).plant = m.plant ∧ (Mach.setCoil m k on).plantCnt = m.plantCnt ∧
    (Mach.setCoil m k on).pair = m.pair ∧ (Mach.setCoil m k on).therm = m.therm ∧
    (Mach.setCoil m k on).flt = m.flt ∧ (Mach.setCoil m k on).seed = m.seed ∧ (Mach.setCoil m k on).nv = m.nv ∧
    (Mach.setCoil m k on).mbx = m.mbx ∧ (Mach.setCoil m k on).can = m.can ∧ (Mach.setCoil m k on).upd = m.upd ∧
    (Mach.setCoil m k on).clk = m.clk ∧ (Mach.setCoil m k on).fact = m.fact ∧ (Mach.setCoil m k on).obs = m.obs := by
  unfold Mach.setCoil; simp

@[simp] theorem Mach.assertTrip_frame (m : Mach) (ch : Nat) :
    (Mach.assertTrip m ch).now = m.now ∧ (Mach.assertTrip m ch).fabBase = m.fabBase ∧
    (Mach.assertTrip m ch).freeCtr = m.freeCtr ∧ (Mach.assertTrip m ch).out = m.out ∧
    (Mach.assertTrip m ch).params = m.params ∧ (Mach.assertTrip m ch).arch = m.arch ∧
    (Mach.assertTrip m ch).mode = m.mode ∧ (Mach.assertTrip m ch).chain = m.chain ∧
    (Mach.assertTrip m ch).meas = m.meas ∧ (Mach.assertTrip m ch).iso = m.iso ∧ (Mach.assertTrip m ch).imp = m.imp ∧
    (Mach.assertTrip m ch).est = m.est ∧ (Mach.assertTrip m ch).bal = m.bal ∧ (Mach.assertTrip m ch).pwm = m.pwm ∧
    (Mach.assertTrip m ch).conv = m.conv ∧ (Mach.assertTrip m ch).fab = m.fab ∧
    (Mach.assertTrip m ch).safe = m.safe ∧ (Mach.assertTrip m ch).plant = m.plant ∧
    (Mach.assertTrip m ch).plantCnt = m.plantCnt ∧ (Mach.assertTrip m ch).pair = m.pair ∧
    (Mach.assertTrip m ch).therm = m.therm ∧ (Mach.assertTrip m ch).flt = m.flt ∧ (Mach.assertTrip m ch).nv = m.nv ∧
    (Mach.assertTrip m ch).mbx = m.mbx ∧ (Mach.assertTrip m ch).can = m.can ∧ (Mach.assertTrip m ch).upd = m.upd ∧
    (Mach.assertTrip m ch).clk = m.clk ∧ (Mach.assertTrip m ch).fact = m.fact ∧ (Mach.assertTrip m ch).obs = m.obs := by
  unfold Mach.assertTrip; (repeat' split) <;> simp

@[simp] theorem Mach.openSide_frame (m : Mach) (ch k : Nat) :
    (Mach.openSide m ch k).now = m.now ∧ (Mach.openSide m ch k).fabBase = m.fabBase ∧
    (Mach.openSide m ch k).freeCtr = m.freeCtr ∧ (Mach.openSide m ch k).out = m.out ∧
    (Mach.openSide m ch k).params = m.params ∧ (Mach.openSide m ch k).arch = m.arch ∧
    (Mach.openSide m ch k).mode = m.mode ∧ (Mach.openSide m ch k).chain = m.chain ∧
    (Mach.openSide m ch k).meas = m.meas ∧ (Mach.openSide m ch k).iso = m.iso ∧ (Mach.openSide m ch k).imp = m.imp ∧
    (Mach.openSide m ch k).est = m.est ∧ (Mach.openSide m ch k).bal = m.bal ∧ (Mach.openSide m ch k).pwm = m.pwm ∧
    (Mach.openSide m ch k).conv = m.conv ∧ (Mach.openSide m ch k).fab = m.fab ∧
    (Mach.openSide m ch k).safe = m.safe ∧ (Mach.openSide m ch k).plant = m.plant ∧
    (Mach.openSide m ch k).plantCnt = m.plantCnt ∧ (Mach.openSide m ch k).pair = m.pair ∧
    (Mach.openSide m ch k).therm = m.therm ∧ (Mach.openSide m ch k).flt = m.flt ∧ (Mach.openSide m ch k).nv = m.nv ∧
    (Mach.openSide m ch k).mbx = m.mbx ∧ (Mach.openSide m ch k).can = m.can ∧ (Mach.openSide m ch k).upd = m.upd ∧
    (Mach.openSide m ch k).clk = m.clk ∧ (Mach.openSide m ch k).fact = m.fact ∧ (Mach.openSide m ch k).obs = m.obs := by
  unfold Mach.openSide; dsimp only; (repeat' split) <;> simp <;> (repeat' split) <;> simp

@[simp] theorem Mach.openCoil_frame (m : Mach) (k : Nat) :
    (Mach.openCoil m k).now = m.now ∧ (Mach.openCoil m k).fabBase = m.fabBase ∧
    (Mach.openCoil m k).freeCtr = m.freeCtr ∧ (Mach.openCoil m k).out = m.out ∧
    (Mach.openCoil m k).params = m.params ∧ (Mach.openCoil m k).arch = m.arch ∧ (Mach.openCoil m k).mode = m.mode ∧
    (Mach.openCoil m k).chain = m.chain ∧ (Mach.openCoil m k).meas = m.meas ∧ (Mach.openCoil m k).iso = m.iso ∧
    (Mach.openCoil m k).imp = m.imp ∧ (Mach.openCoil m k).est = m.est ∧ (Mach.openCoil m k).bal = m.bal ∧
    (Mach.openCoil m k).pwm = m.pwm ∧ (Mach.openCoil m k).conv = m.conv ∧ (Mach.openCoil m k).fab = m.fab ∧
    (Mach.openCoil m k).safe = m.safe ∧ (Mach.openCoil m k).plant = m.plant ∧
    (Mach.openCoil m k).plantCnt = m.plantCnt ∧ (Mach.openCoil m k).pair = m.pair ∧
    (Mach.openCoil m k).therm = m.therm ∧ (Mach.openCoil m k).flt = m.flt ∧ (Mach.openCoil m k).nv = m.nv ∧
    (Mach.openCoil m k).mbx = m.mbx ∧ (Mach.openCoil m k).can = m.can ∧ (Mach.openCoil m k).upd = m.upd ∧
    (Mach.openCoil m k).clk = m.clk ∧ (Mach.openCoil m k).fact = m.fact ∧ (Mach.openCoil m k).obs = m.obs := by
  unfold Mach.openCoil; simp

@[simp] theorem Mach.openAll_frame (m : Mach) :
    (Mach.openAll m).now = m.now ∧ (Mach.openAll m).fabBase = m.fabBase ∧ (Mach.openAll m).freeCtr = m.freeCtr ∧
    (Mach.openAll m).out = m.out ∧ (Mach.openAll m).params = m.params ∧ (Mach.openAll m).arch = m.arch ∧
    (Mach.openAll m).mode = m.mode ∧ (Mach.openAll m).chain = m.chain ∧ (Mach.openAll m).meas = m.meas ∧
    (Mach.openAll m).iso = m.iso ∧ (Mach.openAll m).imp = m.imp ∧ (Mach.openAll m).est = m.est ∧
    (Mach.openAll m).bal = m.bal ∧ (Mach.openAll m).pwm = m.pwm ∧ (Mach.openAll m).conv = m.conv ∧
    (Mach.openAll m).fab = m.fab ∧ (Mach.openAll m).safe = m.safe ∧ (Mach.openAll m).plant = m.plant ∧
    (Mach.openAll m).plantCnt = m.plantCnt ∧ (Mach.openAll m).pair = m.pair ∧ (Mach.openAll m).therm = m.therm ∧
    (Mach.openAll m).flt = m.flt ∧ (Mach.openAll m).seed = m.seed ∧ (Mach.openAll m).nv = m.nv ∧
    (Mach.openAll m).mbx = m.mbx ∧ (Mach.openAll m).can = m.can ∧ (Mach.openAll m).upd = m.upd ∧
    (Mach.openAll m).clk = m.clk ∧ (Mach.openAll m).fact = m.fact ∧ (Mach.openAll m).obs = m.obs := by
  unfold Mach.openAll; simp

@[simp] theorem Mach.phasesIdle_frame (m : Mach) :
    (Mach.phasesIdle m).now = m.now ∧ (Mach.phasesIdle m).fabBase = m.fabBase ∧
    (Mach.phasesIdle m).freeCtr = m.freeCtr ∧ (Mach.phasesIdle m).out = m.out ∧
    (Mach.phasesIdle m).params = m.params ∧ (Mach.phasesIdle m).arch = m.arch ∧ (Mach.phasesIdle m).mode = m.mode ∧
    (Mach.phasesIdle m).chain = m.chain ∧ (Mach.phasesIdle m).meas = m.meas ∧ (Mach.phasesIdle m).iso = m.iso ∧
    (Mach.phasesIdle m).imp = m.imp ∧ (Mach.phasesIdle m).est = m.est ∧ (Mach.phasesIdle m).bal = m.bal ∧
    (Mach.phasesIdle m).conv = m.conv ∧ (Mach.phasesIdle m).fab = m.fab ∧ (Mach.phasesIdle m).safe = m.safe ∧
    (Mach.phasesIdle m).plant = m.plant ∧ (Mach.phasesIdle m).plantCnt = m.plantCnt ∧
    (Mach.phasesIdle m).pair = m.pair ∧ (Mach.phasesIdle m).saf = m.saf ∧ (Mach.phasesIdle m).therm = m.therm ∧
    (Mach.phasesIdle m).flt = m.flt ∧ (Mach.phasesIdle m).seed = m.seed ∧ (Mach.phasesIdle m).nv = m.nv ∧
    (Mach.phasesIdle m).mbx = m.mbx ∧ (Mach.phasesIdle m).can = m.can ∧ (Mach.phasesIdle m).upd = m.upd ∧
    (Mach.phasesIdle m).clk = m.clk ∧ (Mach.phasesIdle m).fact = m.fact ∧ (Mach.phasesIdle m).obs = m.obs := by
  unfold Mach.phasesIdle; simp

@[simp] theorem Mach.loopOff_frame (m : Mach) :
    (Mach.loopOff m).now = m.now ∧ (Mach.loopOff m).fabBase = m.fabBase ∧ (Mach.loopOff m).freeCtr = m.freeCtr ∧
    (Mach.loopOff m).out = m.out ∧ (Mach.loopOff m).params = m.params ∧ (Mach.loopOff m).arch = m.arch ∧
    (Mach.loopOff m).mode = m.mode ∧ (Mach.loopOff m).chain = m.chain ∧ (Mach.loopOff m).meas = m.meas ∧
    (Mach.loopOff m).iso = m.iso ∧ (Mach.loopOff m).imp = m.imp ∧ (Mach.loopOff m).est = m.est ∧
    (Mach.loopOff m).bal = m.bal ∧ (Mach.loopOff m).fab = m.fab ∧ (Mach.loopOff m).safe = m.safe ∧
    (Mach.loopOff m).plant = m.plant ∧ (Mach.loopOff m).plantCnt = m.plantCnt ∧ (Mach.loopOff m).pair = m.pair ∧
    (Mach.loopOff m).saf = m.saf ∧ (Mach.loopOff m).therm = m.therm ∧ (Mach.loopOff m).flt = m.flt ∧
    (Mach.loopOff m).seed = m.seed ∧ (Mach.loopOff m).nv = m.nv ∧ (Mach.loopOff m).mbx = m.mbx ∧
    (Mach.loopOff m).can = m.can ∧ (Mach.loopOff m).upd = m.upd ∧ (Mach.loopOff m).clk = m.clk ∧
    (Mach.loopOff m).fact = m.fact ∧ (Mach.loopOff m).obs = m.obs := by
  unfold Mach.loopOff; simp

@[simp] theorem Mach.convEnter_frame (m : Mach) (dest : Mode) :
    (Mach.convEnter m dest).now = m.now ∧ (Mach.convEnter m dest).fabBase = m.fabBase ∧
    (Mach.convEnter m dest).freeCtr = m.freeCtr ∧ (Mach.convEnter m dest).out = m.out ∧
    (Mach.convEnter m dest).params = m.params ∧ (Mach.convEnter m dest).arch = m.arch ∧
    (Mach.convEnter m dest).chain = m.chain ∧ (Mach.convEnter m dest).meas = m.meas ∧
    (Mach.convEnter m dest).iso = m.iso ∧ (Mach.convEnter m dest).imp = m.imp ∧
    (Mach.convEnter m dest).est = m.est ∧ (Mach.convEnter m dest).bal = m.bal ∧
    (Mach.convEnter m dest).fab = m.fab ∧ (Mach.convEnter m dest).safe = m.safe ∧
    (Mach.convEnter m dest).plant = m.plant ∧ (Mach.convEnter m dest).plantCnt = m.plantCnt ∧
    (Mach.convEnter m dest).pair = m.pair ∧ (Mach.convEnter m dest).therm = m.therm ∧
    (Mach.convEnter m dest).flt = m.flt ∧ (Mach.convEnter m dest).nv = m.nv ∧ (Mach.convEnter m dest).mbx = m.mbx ∧
    (Mach.convEnter m dest).can = m.can ∧ (Mach.convEnter m dest).upd = m.upd ∧
    (Mach.convEnter m dest).clk = m.clk ∧ (Mach.convEnter m dest).fact = m.fact ∧
    (Mach.convEnter m dest).obs = m.obs := by
  unfold Mach.convEnter; split <;> simp [Mach.when] <;> split <;> simp

@[simp] theorem Mach.injEnter_frame (m : Mach) (dest : Mode) :
    (Mach.injEnter m dest).now = m.now ∧ (Mach.injEnter m dest).fabBase = m.fabBase ∧
    (Mach.injEnter m dest).freeCtr = m.freeCtr ∧ (Mach.injEnter m dest).out = m.out ∧
    (Mach.injEnter m dest).params = m.params ∧ (Mach.injEnter m dest).arch = m.arch ∧
    (Mach.injEnter m dest).mode = m.mode ∧ (Mach.injEnter m dest).chain = m.chain ∧
    (Mach.injEnter m dest).meas = m.meas ∧ (Mach.injEnter m dest).imp = m.imp ∧ (Mach.injEnter m dest).est = m.est ∧
    (Mach.injEnter m dest).bal = m.bal ∧ (Mach.injEnter m dest).pwm = m.pwm ∧ (Mach.injEnter m dest).conv = m.conv ∧
    (Mach.injEnter m dest).fab = m.fab ∧ (Mach.injEnter m dest).safe = m.safe ∧
    (Mach.injEnter m dest).plant = m.plant ∧ (Mach.injEnter m dest).plantCnt = m.plantCnt ∧
    (Mach.injEnter m dest).pair = m.pair ∧ (Mach.injEnter m dest).saf = m.saf ∧
    (Mach.injEnter m dest).therm = m.therm ∧ (Mach.injEnter m dest).flt = m.flt ∧
    (Mach.injEnter m dest).seed = m.seed ∧ (Mach.injEnter m dest).nv = m.nv ∧ (Mach.injEnter m dest).mbx = m.mbx ∧
    (Mach.injEnter m dest).can = m.can ∧ (Mach.injEnter m dest).upd = m.upd ∧ (Mach.injEnter m dest).clk = m.clk ∧
    (Mach.injEnter m dest).fact = m.fact ∧ (Mach.injEnter m dest).obs = m.obs := by
  unfold Mach.injEnter; (repeat' split) <;> simp

@[simp] theorem Mach.injPause_frame (m : Mach) :
    (Mach.injPause m).now = m.now ∧ (Mach.injPause m).fabBase = m.fabBase ∧ (Mach.injPause m).freeCtr = m.freeCtr ∧
    (Mach.injPause m).out = m.out ∧ (Mach.injPause m).params = m.params ∧ (Mach.injPause m).arch = m.arch ∧
    (Mach.injPause m).mode = m.mode ∧ (Mach.injPause m).chain = m.chain ∧ (Mach.injPause m).meas = m.meas ∧
    (Mach.injPause m).imp = m.imp ∧ (Mach.injPause m).est = m.est ∧ (Mach.injPause m).bal = m.bal ∧
    (Mach.injPause m).pwm = m.pwm ∧ (Mach.injPause m).conv = m.conv ∧ (Mach.injPause m).fab = m.fab ∧
    (Mach.injPause m).safe = m.safe ∧ (Mach.injPause m).plant = m.plant ∧ (Mach.injPause m).plantCnt = m.plantCnt ∧
    (Mach.injPause m).pair = m.pair ∧ (Mach.injPause m).saf = m.saf ∧ (Mach.injPause m).therm = m.therm ∧
    (Mach.injPause m).flt = m.flt ∧ (Mach.injPause m).seed = m.seed ∧ (Mach.injPause m).nv = m.nv ∧
    (Mach.injPause m).mbx = m.mbx ∧ (Mach.injPause m).can = m.can ∧ (Mach.injPause m).upd = m.upd ∧
    (Mach.injPause m).clk = m.clk ∧ (Mach.injPause m).fact = m.fact ∧ (Mach.injPause m).obs = m.obs := by
  unfold Mach.injPause; (repeat' split) <;> simp

@[simp] theorem Mach.parkBleed_frame (m : Mach) :
    (Mach.parkBleed m).now = m.now ∧ (Mach.parkBleed m).fabBase = m.fabBase ∧
    (Mach.parkBleed m).freeCtr = m.freeCtr ∧ (Mach.parkBleed m).params = m.params ∧
    (Mach.parkBleed m).arch = m.arch ∧ (Mach.parkBleed m).mode = m.mode ∧ (Mach.parkBleed m).meas = m.meas ∧
    (Mach.parkBleed m).iso = m.iso ∧ (Mach.parkBleed m).imp = m.imp ∧ (Mach.parkBleed m).est = m.est ∧
    (Mach.parkBleed m).pwm = m.pwm ∧ (Mach.parkBleed m).conv = m.conv ∧ (Mach.parkBleed m).fab = m.fab ∧
    (Mach.parkBleed m).safe = m.safe ∧ (Mach.parkBleed m).plant = m.plant ∧
    (Mach.parkBleed m).plantCnt = m.plantCnt ∧ (Mach.parkBleed m).pair = m.pair ∧ (Mach.parkBleed m).saf = m.saf ∧
    (Mach.parkBleed m).therm = m.therm ∧ (Mach.parkBleed m).flt = m.flt ∧ (Mach.parkBleed m).seed = m.seed ∧
    (Mach.parkBleed m).nv = m.nv ∧ (Mach.parkBleed m).mbx = m.mbx ∧ (Mach.parkBleed m).can = m.can ∧
    (Mach.parkBleed m).upd = m.upd ∧ (Mach.parkBleed m).clk = m.clk ∧ (Mach.parkBleed m).fact = m.fact ∧
    (Mach.parkBleed m).obs = m.obs := by
  unfold Mach.parkBleed; simp

@[simp] theorem Mach.enterMode_frame (m : Mach) (dest : Mode) (cause : Cause) :
    (Mach.enterMode m dest cause).now = m.now ∧ (Mach.enterMode m dest cause).fabBase = m.fabBase ∧
    (Mach.enterMode m dest cause).freeCtr = m.freeCtr ∧ (Mach.enterMode m dest cause).params = m.params ∧
    (Mach.enterMode m dest cause).arch = m.arch ∧ (Mach.enterMode m dest cause).meas = m.meas ∧
    (Mach.enterMode m dest cause).est = m.est ∧ (Mach.enterMode m dest cause).fab = m.fab ∧
    (Mach.enterMode m dest cause).safe = m.safe ∧ (Mach.enterMode m dest cause).plant = m.plant ∧
    (Mach.enterMode m dest cause).plantCnt = m.plantCnt ∧ (Mach.enterMode m dest cause).pair = m.pair ∧
    (Mach.enterMode m dest cause).therm = m.therm ∧ (Mach.enterMode m dest cause).flt = m.flt ∧
    (Mach.enterMode m dest cause).mbx = m.mbx ∧ (Mach.enterMode m dest cause).can = m.can ∧
    (Mach.enterMode m dest cause).upd = m.upd ∧ (Mach.enterMode m dest cause).clk = m.clk ∧
    (Mach.enterMode m dest cause).fact = m.fact := by
  unfold Mach.enterMode; simp only [Mach.when]; (repeat' split) <;> simp

@[simp] theorem Mach.holdReact_frame (m : Mach) (dest : Mode) (cause : Cause) :
    (Mach.holdReact m dest cause).now = m.now ∧ (Mach.holdReact m dest cause).fabBase = m.fabBase ∧
    (Mach.holdReact m dest cause).freeCtr = m.freeCtr ∧ (Mach.holdReact m dest cause).out = m.out ∧
    (Mach.holdReact m dest cause).params = m.params ∧ (Mach.holdReact m dest cause).arch = m.arch ∧
    (Mach.holdReact m dest cause).chain = m.chain ∧ (Mach.holdReact m dest cause).meas = m.meas ∧
    (Mach.holdReact m dest cause).iso = m.iso ∧ (Mach.holdReact m dest cause).imp = m.imp ∧
    (Mach.holdReact m dest cause).est = m.est ∧ (Mach.holdReact m dest cause).bal = m.bal ∧
    (Mach.holdReact m dest cause).pwm = m.pwm ∧ (Mach.holdReact m dest cause).conv = m.conv ∧
    (Mach.holdReact m dest cause).fab = m.fab ∧ (Mach.holdReact m dest cause).safe = m.safe ∧
    (Mach.holdReact m dest cause).plant = m.plant ∧ (Mach.holdReact m dest cause).plantCnt = m.plantCnt ∧
    (Mach.holdReact m dest cause).pair = m.pair ∧ (Mach.holdReact m dest cause).saf = m.saf ∧
    (Mach.holdReact m dest cause).therm = m.therm ∧ (Mach.holdReact m dest cause).flt = m.flt ∧
    (Mach.holdReact m dest cause).seed = m.seed ∧ (Mach.holdReact m dest cause).nv = m.nv ∧
    (Mach.holdReact m dest cause).mbx = m.mbx ∧ (Mach.holdReact m dest cause).can = m.can ∧
    (Mach.holdReact m dest cause).upd = m.upd ∧ (Mach.holdReact m dest cause).clk = m.clk ∧
    (Mach.holdReact m dest cause).fact = m.fact ∧ (Mach.holdReact m dest cause).obs = m.obs := by
  unfold Mach.holdReact; (repeat' split) <;> simp

@[simp] theorem Mach.react_frame (m : Mach) (dest : Mode) (cause : Cause) :
    (Mach.react m dest cause).now = m.now ∧ (Mach.react m dest cause).fabBase = m.fabBase ∧
    (Mach.react m dest cause).freeCtr = m.freeCtr ∧ (Mach.react m dest cause).params = m.params ∧
    (Mach.react m dest cause).arch = m.arch ∧ (Mach.react m dest cause).meas = m.meas ∧
    (Mach.react m dest cause).est = m.est ∧ (Mach.react m dest cause).fab = m.fab ∧
    (Mach.react m dest cause).safe = m.safe ∧ (Mach.react m dest cause).plant = m.plant ∧
    (Mach.react m dest cause).plantCnt = m.plantCnt ∧ (Mach.react m dest cause).pair = m.pair ∧
    (Mach.react m dest cause).therm = m.therm ∧ (Mach.react m dest cause).flt = m.flt ∧
    (Mach.react m dest cause).mbx = m.mbx ∧ (Mach.react m dest cause).can = m.can ∧
    (Mach.react m dest cause).upd = m.upd ∧ (Mach.react m dest cause).clk = m.clk ∧
    (Mach.react m dest cause).fact = m.fact := by
  unfold Mach.react; (repeat' split) <;> simp

@[simp] theorem Mach.abortInjection_frame (m : Mach) (func : Nat) :
    (Mach.abortInjection m func).now = m.now ∧ (Mach.abortInjection m func).fabBase = m.fabBase ∧
    (Mach.abortInjection m func).freeCtr = m.freeCtr ∧ (Mach.abortInjection m func).out = m.out ∧
    (Mach.abortInjection m func).params = m.params ∧ (Mach.abortInjection m func).arch = m.arch ∧
    (Mach.abortInjection m func).mode = m.mode ∧ (Mach.abortInjection m func).chain = m.chain ∧
    (Mach.abortInjection m func).meas = m.meas ∧ (Mach.abortInjection m func).iso = m.iso ∧
    (Mach.abortInjection m func).imp = m.imp ∧ (Mach.abortInjection m func).est = m.est ∧
    (Mach.abortInjection m func).bal = m.bal ∧ (Mach.abortInjection m func).pwm = m.pwm ∧
    (Mach.abortInjection m func).conv = m.conv ∧ (Mach.abortInjection m func).fab = m.fab ∧
    (Mach.abortInjection m func).safe = m.safe ∧ (Mach.abortInjection m func).plant = m.plant ∧
    (Mach.abortInjection m func).plantCnt = m.plantCnt ∧ (Mach.abortInjection m func).pair = m.pair ∧
    (Mach.abortInjection m func).saf = m.saf ∧ (Mach.abortInjection m func).therm = m.therm ∧
    (Mach.abortInjection m func).nv = m.nv ∧ (Mach.abortInjection m func).mbx = m.mbx ∧
    (Mach.abortInjection m func).can = m.can ∧ (Mach.abortInjection m func).upd = m.upd ∧
    (Mach.abortInjection m func).clk = m.clk ∧ (Mach.abortInjection m func).fact = m.fact ∧
    (Mach.abortInjection m func).obs = m.obs := by
  unfold Mach.abortInjection; (repeat' split) <;> simp

@[simp] theorem Mach.demand_frame (m : Mach) (chan func : Nat) (re : Reaction) (dest : Option Mode) (value : Int) :
    (Mach.demand m chan func re dest value).now = m.now ∧
    (Mach.demand m chan func re dest value).fabBase = m.fabBase ∧
    (Mach.demand m chan func re dest value).freeCtr = m.freeCtr ∧
    (Mach.demand m chan func re dest value).params = m.params ∧
    (Mach.demand m chan func re dest value).arch = m.arch ∧ (Mach.demand m chan func re dest value).meas = m.meas ∧
    (Mach.demand m chan func re dest value).est = m.est ∧ (Mach.demand m chan func re dest value).fab = m.fab ∧
    (Mach.demand m chan func re dest value).safe = m.safe ∧
    (Mach.demand m chan func re dest value).plant = m.plant ∧
    (Mach.demand m chan func re dest value).plantCnt = m.plantCnt ∧
    (Mach.demand m chan func re dest value).pair = m.pair ∧
    (Mach.demand m chan func re dest value).therm = m.therm ∧ (Mach.demand m chan func re dest value).mbx = m.mbx ∧
    (Mach.demand m chan func re dest value).can = m.can ∧ (Mach.demand m chan func re dest value).upd = m.upd ∧
    (Mach.demand m chan func re dest value).clk = m.clk ∧ (Mach.demand m chan func re dest value).fact = m.fact := by
  unfold Mach.demand; simp only [Mach.when]; (repeat' split) <;> simp

@[simp] theorem Mach.endDemand_frame (m : Mach) (chan func : Nat) :
    (Mach.endDemand m chan func).now = m.now ∧ (Mach.endDemand m chan func).fabBase = m.fabBase ∧
    (Mach.endDemand m chan func).freeCtr = m.freeCtr ∧ (Mach.endDemand m chan func).out = m.out ∧
    (Mach.endDemand m chan func).params = m.params ∧ (Mach.endDemand m chan func).arch = m.arch ∧
    (Mach.endDemand m chan func).mode = m.mode ∧ (Mach.endDemand m chan func).chain = m.chain ∧
    (Mach.endDemand m chan func).meas = m.meas ∧ (Mach.endDemand m chan func).iso = m.iso ∧
    (Mach.endDemand m chan func).imp = m.imp ∧ (Mach.endDemand m chan func).est = m.est ∧
    (Mach.endDemand m chan func).bal = m.bal ∧ (Mach.endDemand m chan func).pwm = m.pwm ∧
    (Mach.endDemand m chan func).conv = m.conv ∧ (Mach.endDemand m chan func).fab = m.fab ∧
    (Mach.endDemand m chan func).safe = m.safe ∧ (Mach.endDemand m chan func).plant = m.plant ∧
    (Mach.endDemand m chan func).plantCnt = m.plantCnt ∧ (Mach.endDemand m chan func).pair = m.pair ∧
    (Mach.endDemand m chan func).therm = m.therm ∧ (Mach.endDemand m chan func).flt = m.flt ∧
    (Mach.endDemand m chan func).nv = m.nv ∧ (Mach.endDemand m chan func).mbx = m.mbx ∧
    (Mach.endDemand m chan func).can = m.can ∧ (Mach.endDemand m chan func).upd = m.upd ∧
    (Mach.endDemand m chan func).clk = m.clk ∧ (Mach.endDemand m chan func).fact = m.fact ∧
    (Mach.endDemand m chan func).obs = m.obs := by
  unfold Mach.endDemand; (repeat' split) <;> simp

@[simp] theorem Mach.releaseLine_frame (m : Mach) :
    (Mach.releaseLine m).now = m.now ∧ (Mach.releaseLine m).fabBase = m.fabBase ∧
    (Mach.releaseLine m).freeCtr = m.freeCtr ∧ (Mach.releaseLine m).out = m.out ∧
    (Mach.releaseLine m).params = m.params ∧ (Mach.releaseLine m).arch = m.arch ∧
    (Mach.releaseLine m).mode = m.mode ∧ (Mach.releaseLine m).chain = m.chain ∧ (Mach.releaseLine m).meas = m.meas ∧
    (Mach.releaseLine m).iso = m.iso ∧ (Mach.releaseLine m).imp = m.imp ∧ (Mach.releaseLine m).est = m.est ∧
    (Mach.releaseLine m).bal = m.bal ∧ (Mach.releaseLine m).pwm = m.pwm ∧ (Mach.releaseLine m).conv = m.conv ∧
    (Mach.releaseLine m).fab = m.fab ∧ (Mach.releaseLine m).safe = m.safe ∧ (Mach.releaseLine m).plant = m.plant ∧
    (Mach.releaseLine m).plantCnt = m.plantCnt ∧ (Mach.releaseLine m).pair = m.pair ∧
    (Mach.releaseLine m).therm = m.therm ∧ (Mach.releaseLine m).flt = m.flt ∧ (Mach.releaseLine m).seed = m.seed ∧
    (Mach.releaseLine m).nv = m.nv ∧ (Mach.releaseLine m).mbx = m.mbx ∧ (Mach.releaseLine m).can = m.can ∧
    (Mach.releaseLine m).upd = m.upd ∧ (Mach.releaseLine m).clk = m.clk ∧ (Mach.releaseLine m).fact = m.fact ∧
    (Mach.releaseLine m).obs = m.obs := by
  unfold Mach.releaseLine; (repeat' split) <;> simp

@[simp] theorem Mach.siDemand_frame (m : Mach) (chan k : Nat) :
    (Mach.siDemand m chan k).now = m.now ∧ (Mach.siDemand m chan k).fabBase = m.fabBase ∧
    (Mach.siDemand m chan k).freeCtr = m.freeCtr ∧ (Mach.siDemand m chan k).params = m.params ∧
    (Mach.siDemand m chan k).arch = m.arch ∧ (Mach.siDemand m chan k).meas = m.meas ∧
    (Mach.siDemand m chan k).est = m.est ∧ (Mach.siDemand m chan k).fab = m.fab ∧
    (Mach.siDemand m chan k).safe = m.safe ∧ (Mach.siDemand m chan k).plant = m.plant ∧
    (Mach.siDemand m chan k).plantCnt = m.plantCnt ∧ (Mach.siDemand m chan k).pair = m.pair ∧
    (Mach.siDemand m chan k).therm = m.therm ∧ (Mach.siDemand m chan k).mbx = m.mbx ∧
    (Mach.siDemand m chan k).can = m.can ∧ (Mach.siDemand m chan k).upd = m.upd ∧
    (Mach.siDemand m chan k).clk = m.clk ∧ (Mach.siDemand m chan k).fact = m.fact := by
  unfold Mach.siDemand; simp

@[simp] theorem Mach.inputDemand_frame (m : Mach) (chan k : Nat) :
    (Mach.inputDemand m chan k).now = m.now ∧ (Mach.inputDemand m chan k).fabBase = m.fabBase ∧
    (Mach.inputDemand m chan k).freeCtr = m.freeCtr ∧ (Mach.inputDemand m chan k).params = m.params ∧
    (Mach.inputDemand m chan k).arch = m.arch ∧ (Mach.inputDemand m chan k).meas = m.meas ∧
    (Mach.inputDemand m chan k).est = m.est ∧ (Mach.inputDemand m chan k).fab = m.fab ∧
    (Mach.inputDemand m chan k).safe = m.safe ∧ (Mach.inputDemand m chan k).plant = m.plant ∧
    (Mach.inputDemand m chan k).plantCnt = m.plantCnt ∧ (Mach.inputDemand m chan k).pair = m.pair ∧
    (Mach.inputDemand m chan k).therm = m.therm ∧ (Mach.inputDemand m chan k).mbx = m.mbx ∧
    (Mach.inputDemand m chan k).can = m.can ∧ (Mach.inputDemand m chan k).upd = m.upd ∧
    (Mach.inputDemand m chan k).clk = m.clk ∧ (Mach.inputDemand m chan k).fact = m.fact := by
  unfold Mach.inputDemand; (repeat' split) <;> simp

@[simp] theorem Mach.ventilation_frame (m : Mach) (chan : Nat) :
    (Mach.ventilation m chan).now = m.now ∧ (Mach.ventilation m chan).fabBase = m.fabBase ∧
    (Mach.ventilation m chan).freeCtr = m.freeCtr ∧ (Mach.ventilation m chan).params = m.params ∧
    (Mach.ventilation m chan).arch = m.arch ∧ (Mach.ventilation m chan).meas = m.meas ∧
    (Mach.ventilation m chan).est = m.est ∧ (Mach.ventilation m chan).fab = m.fab ∧
    (Mach.ventilation m chan).safe = m.safe ∧ (Mach.ventilation m chan).plant = m.plant ∧
    (Mach.ventilation m chan).plantCnt = m.plantCnt ∧ (Mach.ventilation m chan).pair = m.pair ∧
    (Mach.ventilation m chan).therm = m.therm ∧ (Mach.ventilation m chan).mbx = m.mbx ∧
    (Mach.ventilation m chan).can = m.can ∧ (Mach.ventilation m chan).upd = m.upd ∧
    (Mach.ventilation m chan).clk = m.clk ∧ (Mach.ventilation m chan).fact = m.fact := by
  unfold Mach.ventilation; (repeat' split) <;> simp

@[simp] theorem Mach.takeInput_frame (m : Mach) (k : Nat) :
    (Mach.takeInput m k).now = m.now ∧ (Mach.takeInput m k).fabBase = m.fabBase ∧
    (Mach.takeInput m k).freeCtr = m.freeCtr ∧ (Mach.takeInput m k).params = m.params ∧
    (Mach.takeInput m k).arch = m.arch ∧ (Mach.takeInput m k).meas = m.meas ∧ (Mach.takeInput m k).est = m.est ∧
    (Mach.takeInput m k).fab = m.fab ∧ (Mach.takeInput m k).safe = m.safe ∧ (Mach.takeInput m k).plant = m.plant ∧
    (Mach.takeInput m k).plantCnt = m.plantCnt ∧ (Mach.takeInput m k).pair = m.pair ∧
    (Mach.takeInput m k).therm = m.therm ∧ (Mach.takeInput m k).mbx = m.mbx ∧ (Mach.takeInput m k).can = m.can ∧
    (Mach.takeInput m k).upd = m.upd ∧ (Mach.takeInput m k).clk = m.clk ∧ (Mach.takeInput m k).fact = m.fact := by
  unfold Mach.takeInput; simp only [Mach.when]; (repeat' split) <;> simp

@[simp] theorem Mach.takeInputs_frame (m : Mach) :
    (Mach.takeInputs m).now = m.now ∧ (Mach.takeInputs m).fabBase = m.fabBase ∧
    (Mach.takeInputs m).freeCtr = m.freeCtr ∧ (Mach.takeInputs m).params = m.params ∧
    (Mach.takeInputs m).arch = m.arch ∧ (Mach.takeInputs m).meas = m.meas ∧ (Mach.takeInputs m).est = m.est ∧
    (Mach.takeInputs m).fab = m.fab ∧ (Mach.takeInputs m).safe = m.safe ∧ (Mach.takeInputs m).plant = m.plant ∧
    (Mach.takeInputs m).plantCnt = m.plantCnt ∧ (Mach.takeInputs m).pair = m.pair ∧
    (Mach.takeInputs m).therm = m.therm ∧ (Mach.takeInputs m).mbx = m.mbx ∧ (Mach.takeInputs m).can = m.can ∧
    (Mach.takeInputs m).upd = m.upd ∧ (Mach.takeInputs m).clk = m.clk ∧ (Mach.takeInputs m).fact = m.fact := by
  unfold Mach.takeInputs; simp

@[simp] theorem Mach.raiseAs_frame (m : Mach) (s : Src) (k : FClass) (params : List Nat) :
    (Mach.raiseAs m s k params).now = m.now ∧ (Mach.raiseAs m s k params).fabBase = m.fabBase ∧
    (Mach.raiseAs m s k params).freeCtr = m.freeCtr ∧ (Mach.raiseAs m s k params).params = m.params ∧
    (Mach.raiseAs m s k params).arch = m.arch ∧ (Mach.raiseAs m s k params).meas = m.meas ∧
    (Mach.raiseAs m s k params).est = m.est ∧ (Mach.raiseAs m s k params).fab = m.fab ∧
    (Mach.raiseAs m s k params).safe = m.safe ∧ (Mach.raiseAs m s k params).plant = m.plant ∧
    (Mach.raiseAs m s k params).plantCnt = m.plantCnt ∧ (Mach.raiseAs m s k params).pair = m.pair ∧
    (Mach.raiseAs m s k params).therm = m.therm ∧ (Mach.raiseAs m s k params).mbx = m.mbx ∧
    (Mach.raiseAs m s k params).can = m.can ∧ (Mach.raiseAs m s k params).upd = m.upd ∧
    (Mach.raiseAs m s k params).clk = m.clk ∧ (Mach.raiseAs m s k params).fact = m.fact := by
  unfold Mach.raiseAs; simp only [Mach.when]; (repeat' split) <;> simp

@[simp] theorem Mach.raiseFault_frame (m : Mach) (s : Src) (params : List Nat) :
    (Mach.raiseFault m s params).now = m.now ∧ (Mach.raiseFault m s params).fabBase = m.fabBase ∧
    (Mach.raiseFault m s params).freeCtr = m.freeCtr ∧ (Mach.raiseFault m s params).params = m.params ∧
    (Mach.raiseFault m s params).arch = m.arch ∧ (Mach.raiseFault m s params).meas = m.meas ∧
    (Mach.raiseFault m s params).est = m.est ∧ (Mach.raiseFault m s params).fab = m.fab ∧
    (Mach.raiseFault m s params).safe = m.safe ∧ (Mach.raiseFault m s params).plant = m.plant ∧
    (Mach.raiseFault m s params).plantCnt = m.plantCnt ∧ (Mach.raiseFault m s params).pair = m.pair ∧
    (Mach.raiseFault m s params).therm = m.therm ∧ (Mach.raiseFault m s params).mbx = m.mbx ∧
    (Mach.raiseFault m s params).can = m.can ∧ (Mach.raiseFault m s params).upd = m.upd ∧
    (Mach.raiseFault m s params).clk = m.clk ∧ (Mach.raiseFault m s params).fact = m.fact := by
  unfold Mach.raiseFault; (repeat' split) <;> simp

@[simp] theorem Mach.raiseC_frame (m : Mach) (s : Src) (params : List Nat) :
    (Mach.raiseC m s params).now = m.now ∧ (Mach.raiseC m s params).fabBase = m.fabBase ∧
    (Mach.raiseC m s params).freeCtr = m.freeCtr ∧ (Mach.raiseC m s params).out = m.out ∧
    (Mach.raiseC m s params).params = m.params ∧ (Mach.raiseC m s params).arch = m.arch ∧
    (Mach.raiseC m s params).mode = m.mode ∧ (Mach.raiseC m s params).chain = m.chain ∧
    (Mach.raiseC m s params).meas = m.meas ∧ (Mach.raiseC m s params).iso = m.iso ∧
    (Mach.raiseC m s params).imp = m.imp ∧ (Mach.raiseC m s params).est = m.est ∧
    (Mach.raiseC m s params).bal = m.bal ∧ (Mach.raiseC m s params).pwm = m.pwm ∧
    (Mach.raiseC m s params).conv = m.conv ∧ (Mach.raiseC m s params).fab = m.fab ∧
    (Mach.raiseC m s params).safe = m.safe ∧ (Mach.raiseC m s params).plant = m.plant ∧
    (Mach.raiseC m s params).plantCnt = m.plantCnt ∧ (Mach.raiseC m s params).pair = m.pair ∧
    (Mach.raiseC m s params).saf = m.saf ∧ (Mach.raiseC m s params).therm = m.therm ∧
    (Mach.raiseC m s params).nv = m.nv ∧ (Mach.raiseC m s params).mbx = m.mbx ∧
    (Mach.raiseC m s params).can = m.can ∧ (Mach.raiseC m s params).upd = m.upd ∧
    (Mach.raiseC m s params).clk = m.clk ∧ (Mach.raiseC m s params).fact = m.fact ∧
    (Mach.raiseC m s params).obs = m.obs := by
  unfold Mach.raiseC; (repeat' split) <;> simp

@[simp] theorem Mach.countEvt_frame (m : Mach) (s : Src) :
    (Mach.countEvt m s).now = m.now ∧ (Mach.countEvt m s).fabBase = m.fabBase ∧
    (Mach.countEvt m s).freeCtr = m.freeCtr ∧ (Mach.countEvt m s).out = m.out ∧
    (Mach.countEvt m s).params = m.params ∧ (Mach.countEvt m s).arch = m.arch ∧ (Mach.countEvt m s).mode = m.mode ∧
    (Mach.countEvt m s).chain = m.chain ∧ (Mach.countEvt m s).meas = m.meas ∧ (Mach.countEvt m s).iso = m.iso ∧
    (Mach.countEvt m s).imp = m.imp ∧ (Mach.countEvt m s).est = m.est ∧ (Mach.countEvt m s).bal = m.bal ∧
    (Mach.countEvt m s).pwm = m.pwm ∧ (Mach.countEvt m s).conv = m.conv ∧ (Mach.countEvt m s).fab = m.fab ∧
    (Mach.countEvt m s).safe = m.safe ∧ (Mach.countEvt m s).plant = m.plant ∧
    (Mach.countEvt m s).plantCnt = m.plantCnt ∧ (Mach.countEvt m s).pair = m.pair ∧
    (Mach.countEvt m s).saf = m.saf ∧ (Mach.countEvt m s).therm = m.therm ∧ (Mach.countEvt m s).seed = m.seed ∧
    (Mach.countEvt m s).nv = m.nv ∧ (Mach.countEvt m s).mbx = m.mbx ∧ (Mach.countEvt m s).can = m.can ∧
    (Mach.countEvt m s).upd = m.upd ∧ (Mach.countEvt m s).clk = m.clk ∧ (Mach.countEvt m s).fact = m.fact ∧
    (Mach.countEvt m s).obs = m.obs := by
  unfold Mach.countEvt; simp

@[simp] theorem Mach.countWindow_frame (m : Mach) (s : Src) (params : List Nat) :
    (Mach.countWindow m s params).now = m.now ∧ (Mach.countWindow m s params).fabBase = m.fabBase ∧
    (Mach.countWindow m s params).freeCtr = m.freeCtr ∧ (Mach.countWindow m s params).params = m.params ∧
    (Mach.countWindow m s params).arch = m.arch ∧ (Mach.countWindow m s params).meas = m.meas ∧
    (Mach.countWindow m s params).est = m.est ∧ (Mach.countWindow m s params).fab = m.fab ∧
    (Mach.countWindow m s params).safe = m.safe ∧ (Mach.countWindow m s params).plant = m.plant ∧
    (Mach.countWindow m s params).plantCnt = m.plantCnt ∧ (Mach.countWindow m s params).pair = m.pair ∧
    (Mach.countWindow m s params).therm = m.therm ∧ (Mach.countWindow m s params).mbx = m.mbx ∧
    (Mach.countWindow m s params).can = m.can ∧ (Mach.countWindow m s params).upd = m.upd ∧
    (Mach.countWindow m s params).clk = m.clk ∧ (Mach.countWindow m s params).fact = m.fact := by
  unfold Mach.countWindow; dsimp only; split
  · simp
  · split <;> simp

@[simp] theorem Mach.countSource_frame (m : Mach) (s : Src) (params : List Nat) :
    (Mach.countSource m s params).now = m.now ∧ (Mach.countSource m s params).fabBase = m.fabBase ∧
    (Mach.countSource m s params).freeCtr = m.freeCtr ∧ (Mach.countSource m s params).params = m.params ∧
    (Mach.countSource m s params).arch = m.arch ∧ (Mach.countSource m s params).meas = m.meas ∧
    (Mach.countSource m s params).est = m.est ∧ (Mach.countSource m s params).fab = m.fab ∧
    (Mach.countSource m s params).safe = m.safe ∧ (Mach.countSource m s params).plant = m.plant ∧
    (Mach.countSource m s params).plantCnt = m.plantCnt ∧ (Mach.countSource m s params).pair = m.pair ∧
    (Mach.countSource m s params).therm = m.therm ∧ (Mach.countSource m s params).mbx = m.mbx ∧
    (Mach.countSource m s params).can = m.can ∧ (Mach.countSource m s params).upd = m.upd ∧
    (Mach.countSource m s params).clk = m.clk ∧ (Mach.countSource m s params).fact = m.fact := by
  unfold Mach.countSource; (repeat' split) <;> simp

@[simp] theorem Mach.automatic_frame (m : Mach) (dest : Mode) (cause : Cause) :
    (Mach.automatic m dest cause).now = m.now ∧ (Mach.automatic m dest cause).fabBase = m.fabBase ∧
    (Mach.automatic m dest cause).freeCtr = m.freeCtr ∧ (Mach.automatic m dest cause).out = m.out ∧
    (Mach.automatic m dest cause).params = m.params ∧ (Mach.automatic m dest cause).arch = m.arch ∧
    (Mach.automatic m dest cause).chain = m.chain ∧ (Mach.automatic m dest cause).meas = m.meas ∧
    (Mach.automatic m dest cause).iso = m.iso ∧ (Mach.automatic m dest cause).imp = m.imp ∧
    (Mach.automatic m dest cause).est = m.est ∧ (Mach.automatic m dest cause).bal = m.bal ∧
    (Mach.automatic m dest cause).pwm = m.pwm ∧ (Mach.automatic m dest cause).conv = m.conv ∧
    (Mach.automatic m dest cause).fab = m.fab ∧ (Mach.automatic m dest cause).safe = m.safe ∧
    (Mach.automatic m dest cause).plant = m.plant ∧ (Mach.automatic m dest cause).plantCnt = m.plantCnt ∧
    (Mach.automatic m dest cause).pair = m.pair ∧ (Mach.automatic m dest cause).saf = m.saf ∧
    (Mach.automatic m dest cause).therm = m.therm ∧ (Mach.automatic m dest cause).flt = m.flt ∧
    (Mach.automatic m dest cause).seed = m.seed ∧ (Mach.automatic m dest cause).nv = m.nv ∧
    (Mach.automatic m dest cause).mbx = m.mbx ∧ (Mach.automatic m dest cause).can = m.can ∧
    (Mach.automatic m dest cause).upd = m.upd ∧ (Mach.automatic m dest cause).clk = m.clk ∧
    (Mach.automatic m dest cause).fact = m.fact ∧ (Mach.automatic m dest cause).obs = m.obs := by
  unfold Mach.automatic; simp

@[simp] theorem Mach.endPasses_frame (m : Mach) :
    (Mach.endPasses m).now = m.now ∧ (Mach.endPasses m).fabBase = m.fabBase ∧
    (Mach.endPasses m).freeCtr = m.freeCtr ∧ (Mach.endPasses m).params = m.params ∧
    (Mach.endPasses m).arch = m.arch ∧ (Mach.endPasses m).mode = m.mode ∧ (Mach.endPasses m).meas = m.meas ∧
    (Mach.endPasses m).iso = m.iso ∧ (Mach.endPasses m).est = m.est ∧ (Mach.endPasses m).bal = m.bal ∧
    (Mach.endPasses m).pwm = m.pwm ∧ (Mach.endPasses m).conv = m.conv ∧ (Mach.endPasses m).fab = m.fab ∧
    (Mach.endPasses m).safe = m.safe ∧ (Mach.endPasses m).plant = m.plant ∧
    (Mach.endPasses m).plantCnt = m.plantCnt ∧ (Mach.endPasses m).pair = m.pair ∧ (Mach.endPasses m).saf = m.saf ∧
    (Mach.endPasses m).therm = m.therm ∧ (Mach.endPasses m).flt = m.flt ∧ (Mach.endPasses m).seed = m.seed ∧
    (Mach.endPasses m).nv = m.nv ∧ (Mach.endPasses m).mbx = m.mbx ∧ (Mach.endPasses m).can = m.can ∧
    (Mach.endPasses m).upd = m.upd ∧ (Mach.endPasses m).clk = m.clk ∧ (Mach.endPasses m).fact = m.fact ∧
    (Mach.endPasses m).obs = m.obs := by
  unfold Mach.endPasses; simp

@[simp] theorem Mach.c6Stop_frame (m : Mach) :
    (Mach.c6Stop m).now = m.now ∧ (Mach.c6Stop m).fabBase = m.fabBase ∧ (Mach.c6Stop m).freeCtr = m.freeCtr ∧
    (Mach.c6Stop m).out = m.out ∧ (Mach.c6Stop m).params = m.params ∧ (Mach.c6Stop m).arch = m.arch ∧
    (Mach.c6Stop m).chain = m.chain ∧ (Mach.c6Stop m).meas = m.meas ∧ (Mach.c6Stop m).iso = m.iso ∧
    (Mach.c6Stop m).imp = m.imp ∧ (Mach.c6Stop m).est = m.est ∧ (Mach.c6Stop m).bal = m.bal ∧
    (Mach.c6Stop m).pwm = m.pwm ∧ (Mach.c6Stop m).fab = m.fab ∧ (Mach.c6Stop m).safe = m.safe ∧
    (Mach.c6Stop m).plant = m.plant ∧ (Mach.c6Stop m).plantCnt = m.plantCnt ∧ (Mach.c6Stop m).pair = m.pair ∧
    (Mach.c6Stop m).saf = m.saf ∧ (Mach.c6Stop m).therm = m.therm ∧ (Mach.c6Stop m).flt = m.flt ∧
    (Mach.c6Stop m).seed = m.seed ∧ (Mach.c6Stop m).nv = m.nv ∧ (Mach.c6Stop m).mbx = m.mbx ∧
    (Mach.c6Stop m).can = m.can ∧ (Mach.c6Stop m).upd = m.upd ∧ (Mach.c6Stop m).clk = m.clk ∧
    (Mach.c6Stop m).fact = m.fact ∧ (Mach.c6Stop m).obs = m.obs := by
  unfold Mach.c6Stop; simp

@[simp] theorem Mach.c6Fail_frame (m : Mach) :
    (Mach.c6Fail m).now = m.now ∧ (Mach.c6Fail m).fabBase = m.fabBase ∧ (Mach.c6Fail m).freeCtr = m.freeCtr ∧
    (Mach.c6Fail m).params = m.params ∧ (Mach.c6Fail m).arch = m.arch ∧ (Mach.c6Fail m).meas = m.meas ∧
    (Mach.c6Fail m).iso = m.iso ∧ (Mach.c6Fail m).est = m.est ∧ (Mach.c6Fail m).bal = m.bal ∧
    (Mach.c6Fail m).fab = m.fab ∧ (Mach.c6Fail m).safe = m.safe ∧ (Mach.c6Fail m).plant = m.plant ∧
    (Mach.c6Fail m).plantCnt = m.plantCnt ∧ (Mach.c6Fail m).pair = m.pair ∧ (Mach.c6Fail m).therm = m.therm ∧
    (Mach.c6Fail m).flt = m.flt ∧ (Mach.c6Fail m).nv = m.nv ∧ (Mach.c6Fail m).mbx = m.mbx ∧
    (Mach.c6Fail m).can = m.can ∧ (Mach.c6Fail m).upd = m.upd ∧ (Mach.c6Fail m).clk = m.clk ∧
    (Mach.c6Fail m).fact = m.fact ∧ (Mach.c6Fail m).obs = m.obs := by
  unfold Mach.c6Fail; (repeat' split) <;> simp

@[simp] theorem Mach.orderShutdown_frame (m : Mach) (cause : Cause) :
    (Mach.orderShutdown m cause).now = m.now ∧ (Mach.orderShutdown m cause).fabBase = m.fabBase ∧
    (Mach.orderShutdown m cause).freeCtr = m.freeCtr ∧ (Mach.orderShutdown m cause).params = m.params ∧
    (Mach.orderShutdown m cause).arch = m.arch ∧ (Mach.orderShutdown m cause).meas = m.meas ∧
    (Mach.orderShutdown m cause).iso = m.iso ∧ (Mach.orderShutdown m cause).est = m.est ∧
    (Mach.orderShutdown m cause).bal = m.bal ∧ (Mach.orderShutdown m cause).fab = m.fab ∧
    (Mach.orderShutdown m cause).safe = m.safe ∧ (Mach.orderShutdown m cause).plant = m.plant ∧
    (Mach.orderShutdown m cause).plantCnt = m.plantCnt ∧ (Mach.orderShutdown m cause).pair = m.pair ∧
    (Mach.orderShutdown m cause).therm = m.therm ∧ (Mach.orderShutdown m cause).flt = m.flt ∧
    (Mach.orderShutdown m cause).nv = m.nv ∧ (Mach.orderShutdown m cause).mbx = m.mbx ∧
    (Mach.orderShutdown m cause).can = m.can ∧ (Mach.orderShutdown m cause).upd = m.upd ∧
    (Mach.orderShutdown m cause).clk = m.clk ∧ (Mach.orderShutdown m cause).fact = m.fact ∧
    (Mach.orderShutdown m cause).obs = m.obs := by
  unfold Mach.orderShutdown; (repeat' split) <;> simp

@[simp] theorem Mach.notePhase_frame (old : Mach) (k : Nat) (m : Mach) :
    (Mach.notePhase old k m).now = m.now ∧ (Mach.notePhase old k m).fabBase = m.fabBase ∧
    (Mach.notePhase old k m).freeCtr = m.freeCtr ∧ (Mach.notePhase old k m).params = m.params ∧
    (Mach.notePhase old k m).arch = m.arch ∧ (Mach.notePhase old k m).mode = m.mode ∧
    (Mach.notePhase old k m).chain = m.chain ∧ (Mach.notePhase old k m).meas = m.meas ∧
    (Mach.notePhase old k m).iso = m.iso ∧ (Mach.notePhase old k m).imp = m.imp ∧
    (Mach.notePhase old k m).est = m.est ∧ (Mach.notePhase old k m).bal = m.bal ∧
    (Mach.notePhase old k m).conv = m.conv ∧ (Mach.notePhase old k m).fab = m.fab ∧
    (Mach.notePhase old k m).safe = m.safe ∧ (Mach.notePhase old k m).plant = m.plant ∧
    (Mach.notePhase old k m).plantCnt = m.plantCnt ∧ (Mach.notePhase old k m).pair = m.pair ∧
    (Mach.notePhase old k m).saf = m.saf ∧ (Mach.notePhase old k m).therm = m.therm ∧
    (Mach.notePhase old k m).flt = m.flt ∧ (Mach.notePhase old k m).seed = m.seed ∧
    (Mach.notePhase old k m).nv = m.nv ∧ (Mach.notePhase old k m).mbx = m.mbx ∧
    (Mach.notePhase old k m).can = m.can ∧ (Mach.notePhase old k m).upd = m.upd ∧
    (Mach.notePhase old k m).clk = m.clk ∧ (Mach.notePhase old k m).fact = m.fact := by
  unfold Mach.notePhase; simp only [Mach.when]; (repeat' split) <;> simp

@[simp] theorem Mach.settle_frame (old m : Mach) :
    (Mach.settle old m).now = m.now ∧ (Mach.settle old m).fabBase = m.fabBase ∧
    (Mach.settle old m).freeCtr = m.freeCtr ∧ (Mach.settle old m).params = m.params ∧
    (Mach.settle old m).arch = m.arch ∧ (Mach.settle old m).mode = m.mode ∧ (Mach.settle old m).chain = m.chain ∧
    (Mach.settle old m).meas = m.meas ∧ (Mach.settle old m).imp = m.imp ∧ (Mach.settle old m).est = m.est ∧
    (Mach.settle old m).bal = m.bal ∧ (Mach.settle old m).conv = m.conv ∧ (Mach.settle old m).fab = m.fab ∧
    (Mach.settle old m).safe = m.safe ∧ (Mach.settle old m).plant = m.plant ∧
    (Mach.settle old m).plantCnt = m.plantCnt ∧ (Mach.settle old m).pair = m.pair ∧
    (Mach.settle old m).saf = m.saf ∧ (Mach.settle old m).therm = m.therm ∧ (Mach.settle old m).flt = m.flt ∧
    (Mach.settle old m).seed = m.seed ∧ (Mach.settle old m).nv = m.nv ∧ (Mach.settle old m).mbx = m.mbx ∧
    (Mach.settle old m).can = m.can ∧ (Mach.settle old m).upd = m.upd ∧ (Mach.settle old m).clk = m.clk ∧
    (Mach.settle old m).fact = m.fact := by
  unfold Mach.settle; simp

end Sys2Proof.Machine
end

