-- ==== Sys2Proof/Laws/Reactions.lean ====
section
/-! SUPPORT. What wraps every meaning (onFox, onProc, settle), what raising a fault, demanding a reaction and entering a mode
bring about, and how a command is shown to complete. -/

namespace Sys2Proof.Machine

/-! ## Tables, bits and lists -/

theorem aget_aput {α : Type} (k k' : Nat) (v d : α) :
    ∀ l : List (Nat × α), aget (aput l k v) k' d = if k = k' then v else aget l k' d
  | [] => by simp [aput, aget]
  | (j, w) :: t => by
    have ih := aget_aput k k' v d t
    unfold aput
    split
    · simp [aget]
    · split
      · rename_i h; subst h; by_cases hk : k = k' <;> simp [aget, hk]
      · rename_i h1 h2
        by_cases hj : j = k'
        · subst hj; simp [aget, h2]
        · simp [aget, hj, ih]

@[simp] theorem aget_aput_self {α : Type} (l : List (Nat × α)) (k : Nat) (v d : α) : aget (aput l k v) k d = v := by
  simp [aget_aput]

@[simp] theorem aget_aupd_self {α : Type} (l : List (Nat × α)) (k : Nat) (d d' : α) (f : α → α) :
    aget (aupd l k d f) k d' = f (aget l k d) := by simp [aupd]

/-- The library's reading of a list with a default. -/
theorem nth_getD {α : Type} (l : List α) (n : Nat) (d : α) : nth l n d = l[n]?.getD d := by
  induction l generalizing n with
  | nil => simp [nth]
  | cons x t ih => cases n <;> simp [nth, ih]

/-- Element k after element n has been changed. -/
theorem nth_updNth_eq {α : Type} (l : List α) (n k : Nat) (f : α → α) (d : α) :
    nth (updNth l n f) k d = if n = k ∧ k < l.length then f (nth l k d) else nth l k d := by
  rw [nth_getD, nth_getD, updNth, List.getElem?_modify]
  by_cases hk : k < l.length <;> by_cases hn : n = k <;> simp [hk, hn]

theorem nth_updNth {α : Type} (f : α → α) (d : α) (l : List α) (n : Nat) (h : n < l.length) :
    nth (updNth l n f) n d = f (nth l n d) := by simp [nth_updNth_eq, h]

theorem nth_updNth_ne {α : Type} (f : α → α) (d : α) (l : List α) (n k : Nat) (h : n ≠ k) :
    nth (updNth l n f) k d = nth l k d := by simp [nth_updNth_eq, h]

@[simp] theorem updNth_length {α : Type} (f : α → α) (l : List α) (n : Nat) : (updNth l n f).length = l.length := by
  simp [updNth]

/-- An update that keeps a field keeps it at every place. -/
theorem nth_updNth_keep {α β : Type} (g : α → β) (f : α → α) (h : ∀ x, g (f x) = g x) (d : α) (l : List α) (n k : Nat) :
    g (nth (updNth l n f) k d) = g (nth l k d) := by
  rw [nth_updNth_eq]; split <;> simp [h]

@[simp] theorem bit_setBit_self (a i : Nat) (b : Bool) : bit (setBit a i b) i = b := by
  have sub_bit (x : Nat) (h : x.testBit i = true) : (x - 2 ^ i).testBit i = false := by
    have hle : 2 ^ i ≤ x := Nat.ge_two_pow_of_testBit h
    have hx : x = 2 ^ i + (x - 2 ^ i) := by omega
    by_contra hc
    have h1 : (x - 2 ^ i).testBit i = true := by simpa using hc
    rw [hx, Nat.testBit_two_pow_add_eq, h1] at h
    exact absurd h (by decide)
  have add_bit (x : Nat) (h : x.testBit i = false) : (x + 2 ^ i).testBit i = true := by
    rw [Nat.add_comm, Nat.testBit_two_pow_add_eq, h]; rfl
  unfold bit setBit
  cases h : a.testBit i <;> cases b <;> simp [h, sub_bit, add_bit]

/-! ## The parameter store -/

/-- Keys strictly rising, above a bound, with no entry equal to its default. -/
def paramsAbove (b : Nat) : List (Nat × Nat) → Prop
  | [] => True
  | (k, v) :: t => b ≤ k ∧ v ≠ keyDefault k ∧ paramsAbove (k + 1) t

theorem paramsAbove_weaken {b b' : Nat} (h : b' ≤ b) : ∀ {l : List (Nat × Nat)}, paramsAbove b l → paramsAbove b' l
  | [], _ => trivial
  | (_, _) :: _, hl => ⟨le_trans h hl.1, hl.2⟩

theorem paramsWf_iff : ∀ l : List (Nat × Nat), paramsWf l = true ↔ paramsAbove 0 l
  | [] => by simp [paramsWf, paramsAbove]
  | [(k, v)] => by simp [paramsWf, paramsAbove]
  | (k, v) :: (k', v') :: t => by
    have ih := paramsWf_iff ((k', v') :: t)
    unfold paramsWf
    simp only [Bool.and_eq_true, bne_iff_ne, decide_eq_true_eq]
    rw [ih]
    unfold paramsAbove
    constructor
    · rintro ⟨⟨h1, h2⟩, h3⟩
      exact ⟨Nat.zero_le _, h1, h2, h3.2⟩
    · rintro ⟨_, h1, h2⟩
      exact ⟨⟨h1, h2.1⟩, Nat.zero_le _, h2.2⟩

theorem adel_above (k : Nat) : ∀ {b : Nat} {l : List (Nat × Nat)}, paramsAbove b l → paramsAbove b (adel l k)
  | _, [], _ => trivial
  | b, (k', v') :: t, h => by
    have ih := adel_above k h.2.2
    unfold adel
    split
    · exact paramsAbove_weaken (by have := h.1; omega) ih
    · exact ⟨h.1, h.2.1, ih⟩

theorem aput_above {k v : Nat} (hv : v ≠ keyDefault k) :
    ∀ {b : Nat} {l : List (Nat × Nat)}, b ≤ k → paramsAbove b l → paramsAbove b (aput l k v)
  | _, [], hb, _ => ⟨hb, hv, trivial⟩
  | b, (k', v') :: t, hb, h => by
    unfold aput
    split
    · exact ⟨hb, hv, by omega, h.2.1, h.2.2⟩
    · split
      · rename_i he; subst he; exact ⟨hb, hv, h.2.2⟩
      · exact ⟨h.1, h.2.1, aput_above hv (by omega) h.2.2⟩

/-- Setting an object keeps the parameter store in its canonical form. -/
theorem setParams_wf {l : List (Nat × Nat)} (k v : Nat) (h : paramsWf l = true) : paramsWf (setParams l k v) = true := by
  rw [paramsWf_iff] at h ⊢
  unfold setParams
  split
  · exact adel_above k h
  · rename_i hv; exact aput_above hv (Nat.zero_le _) h

/-! ## What wraps every meaning -/

@[simp] theorem onProc_live (f : Mach → Mach) (s : State) (h : s.m.clk.procRunning = true) : onProc f s = onFox f s := by
  simp [onProc, onFox, h]

@[simp] theorem onPowered_live (f : Mach → Mach) (s : State) (h : s.m.clk.powered = true) : onPowered f s = onFox f s := by
  simp [onPowered, onFox, h]

/-- A command of the Foxglove domain, the pins or the outside completes. -/
theorem completes_fox {c : Instr} {s : State} {f : Mach → Mach} {P : Mach → Prop} (h : exec c s = onFox f s)
    (hp : P (s.m.settle (f { s.m with out := [] }))) : Completes c s P :=
  ⟨{ s with m := s.m.settle (f { s.m with out := [] }) }, h.trans rfl, rfl, hp⟩

/-- A command of the Foxglove domain or the isolated section completes while the module is powered. -/
theorem completes_powered {c : Instr} {s : State} {f : Mach → Mach} {P : Mach → Prop} (h : exec c s = onPowered f s)
    (hl : s.m.clk.powered = true) (hp : P (s.m.settle (f { s.m with out := [] }))) : Completes c s P :=
  completes_fox (h.trans (onPowered_live f s hl)) hp

/-- A command of the processor domain completes while that domain runs. -/
theorem completes_proc {c : Instr} {s : State} {f : Mach → Mach} {P : Mach → Prop} (h : exec c s = onProc f s)
    (hl : s.m.clk.procRunning = true) (hp : P (s.m.settle (f { s.m with out := [] }))) : Completes c s P :=
  completes_fox (h.trans (onProc_live f s hl)) hp

@[simp] theorem injPause_iso_id (m : Mach) : m.injPause.iso.id = m.iso.id := rfl
@[simp] theorem injPause_iso_tie (m : Mach) : m.injPause.iso.tie = m.iso.tie := rfl
@[simp] theorem injPause_iso_selfTest (m : Mach) : m.injPause.iso.selfTest = m.iso.selfTest := rfl
@[simp] theorem injPause_iso_elected (m : Mach) : m.injPause.iso.elected = m.iso.elected := rfl
@[simp] theorem injPause_iso_views (m : Mach) : m.injPause.iso.views = m.iso.views := rfl
@[simp] theorem injPause_iso_members (m : Mach) : m.injPause.iso.members = m.iso.members := rfl
@[simp] theorem injPause_iso_prbs (m : Mach) : m.injPause.iso.prbs = m.iso.prbs := rfl
@[simp] theorem injPause_iso_foreign (m : Mach) : m.injPause.iso.foreign = m.iso.foreign := rfl
@[simp] theorem injPause_iso_backoff (m : Mach) : m.injPause.iso.backoff = m.iso.backoff := rfl
@[simp] theorem injPause_iso_reading (m : Mach) : m.injPause.iso.reading = m.iso.reading := rfl
@[simp] theorem injPause_iso_stale (m : Mach) : m.injPause.iso.stale = m.iso.stale := rfl
@[simp] theorem injPause_iso_conflict (m : Mach) : m.injPause.iso.conflict = m.iso.conflict := rfl
@[simp] theorem injPause_iso_above (m : Mach) : m.injPause.iso.above = m.iso.above := rfl
@[simp] theorem injPause_iso_below (m : Mach) : m.injPause.iso.below = m.iso.below := rfl
@[simp] theorem injPause_iso_alarm (m : Mach) : m.injPause.iso.alarm = m.iso.alarm := rfl
@[simp] theorem injPause_iso_warning (m : Mach) : m.injPause.iso.warning = m.iso.warning := rfl
@[simp] theorem injPause_iso_c4Reading (m : Mach) : m.injPause.iso.c4Reading = m.iso.c4Reading := rfl
@[simp] theorem injPause_iso_nConflict (m : Mach) : m.injPause.iso.nConflict = m.iso.nConflict := rfl
@[simp] theorem settle_iso_id (old m : Mach) : (old.settle m).iso.id = m.iso.id := by
  simp [Mach.settle]
@[simp] theorem settle_iso_tie (old m : Mach) : (old.settle m).iso.tie = m.iso.tie := by
  simp [Mach.settle]
@[simp] theorem settle_iso_selfTest (old m : Mach) : (old.settle m).iso.selfTest = m.iso.selfTest := by
  simp [Mach.settle]
@[simp] theorem settle_iso_elected (old m : Mach) : (old.settle m).iso.elected = m.iso.elected := by
  simp [Mach.settle]
@[simp] theorem settle_iso_views (old m : Mach) : (old.settle m).iso.views = m.iso.views := by
  simp [Mach.settle]
@[simp] theorem settle_iso_members (old m : Mach) : (old.settle m).iso.members = m.iso.members := by
  simp [Mach.settle]
@[simp] theorem settle_iso_prbs (old m : Mach) : (old.settle m).iso.prbs = m.iso.prbs := by
  simp [Mach.settle]
@[simp] theorem settle_iso_foreign (old m : Mach) : (old.settle m).iso.foreign = m.iso.foreign := by
  simp [Mach.settle]
@[simp] theorem settle_iso_backoff (old m : Mach) : (old.settle m).iso.backoff = m.iso.backoff := by
  simp [Mach.settle]
@[simp] theorem settle_iso_reading (old m : Mach) : (old.settle m).iso.reading = m.iso.reading := by
  simp [Mach.settle]
@[simp] theorem settle_iso_stale (old m : Mach) : (old.settle m).iso.stale = m.iso.stale := by
  simp [Mach.settle]
@[simp] theorem settle_iso_conflict (old m : Mach) : (old.settle m).iso.conflict = m.iso.conflict := by
  simp [Mach.settle]
@[simp] theorem settle_iso_above (old m : Mach) : (old.settle m).iso.above = m.iso.above := by
  simp [Mach.settle]
@[simp] theorem settle_iso_below (old m : Mach) : (old.settle m).iso.below = m.iso.below := by
  simp [Mach.settle]
@[simp] theorem settle_iso_alarm (old m : Mach) : (old.settle m).iso.alarm = m.iso.alarm := by
  simp [Mach.settle]
@[simp] theorem settle_iso_warning (old m : Mach) : (old.settle m).iso.warning = m.iso.warning := by
  simp [Mach.settle]
@[simp] theorem settle_iso_c4Reading (old m : Mach) : (old.settle m).iso.c4Reading = m.iso.c4Reading := by
  simp [Mach.settle]
@[simp] theorem settle_iso_nConflict (old m : Mach) : (old.settle m).iso.nConflict = m.iso.nConflict := by
  simp [Mach.settle]

@[simp] theorem notePhase_pwm_ft (old m : Mach) (k : Nat) : (old.notePhase k m).pwm.ft = m.pwm.ft := by
  unfold Mach.notePhase; dsimp only; split <;> simp
@[simp] theorem notePhase_pwm_ftOff (old m : Mach) (k : Nat) : (old.notePhase k m).pwm.ftOff = m.pwm.ftOff := by
  unfold Mach.notePhase; dsimp only; split <;> simp
@[simp] theorem notePhase_pwm_latch (old m : Mach) (k : Nat) : (old.notePhase k m).pwm.latch = m.pwm.latch := by
  unfold Mach.notePhase; dsimp only; split <;> simp
@[simp] theorem notePhase_pwm_latchAt (old m : Mach) (k : Nat) : (old.notePhase k m).pwm.latchAt = m.pwm.latchAt := by
  unfold Mach.notePhase; dsimp only; split <;> simp
@[simp] theorem notePhase_pwm_capture (old m : Mach) (k : Nat) : (old.notePhase k m).pwm.capture = m.pwm.capture := by
  unfold Mach.notePhase; dsimp only; split <;> simp
@[simp] theorem notePhase_pwm_rearms (old m : Mach) (k : Nat) : (old.notePhase k m).pwm.rearms = m.pwm.rearms := by
  unfold Mach.notePhase; dsimp only; split <;> simp
@[simp] theorem notePhase_pwm_refused (old m : Mach) (k : Nat) : (old.notePhase k m).pwm.refused = m.pwm.refused := by
  unfold Mach.notePhase; dsimp only; split <;> simp
@[simp] theorem notePhase_pwm_clearPass (old m : Mach) (k : Nat) : (old.notePhase k m).pwm.clearPass = m.pwm.clearPass := by
  unfold Mach.notePhase; dsimp only; split <;> simp
@[simp] theorem notePhase_pwm_inForce (old m : Mach) (k : Nat) : (old.notePhase k m).pwm.inForce = m.pwm.inForce := by
  unfold Mach.notePhase; dsimp only; split <;> simp
@[simp] theorem notePhase_pwm_settingsDue (old m : Mach) (k : Nat) : (old.notePhase k m).pwm.settingsDue = m.pwm.settingsDue := by
  unfold Mach.notePhase; dsimp only; split <;> simp
@[simp] theorem notePhase_pwm_sync (old m : Mach) (k : Nat) : (old.notePhase k m).pwm.sync = m.pwm.sync := by
  unfold Mach.notePhase; dsimp only; split <;> simp
@[simp] theorem notePhase_pwm_freq (old m : Mach) (k : Nat) : (old.notePhase k m).pwm.freq = m.pwm.freq := by
  unfold Mach.notePhase; dsimp only; split <;> simp
@[simp] theorem notePhase_pwm_phaseErr (old m : Mach) (k : Nat) : (old.notePhase k m).pwm.phaseErr = m.pwm.phaseErr := by
  unfold Mach.notePhase; dsimp only; split <;> simp
@[simp] theorem notePhase_pwm_origin (old m : Mach) (k : Nat) : (old.notePhase k m).pwm.origin = m.pwm.origin := by
  unfold Mach.notePhase; dsimp only; split <;> simp
@[simp] theorem notePhase_pwm_lastEdge (old m : Mach) (k : Nat) : (old.notePhase k m).pwm.lastEdge = m.pwm.lastEdge := by
  unfold Mach.notePhase; dsimp only; split <;> simp
@[simp] theorem notePhase_pwm_edgeRun (old m : Mach) (k : Nat) : (old.notePhase k m).pwm.edgeRun = m.pwm.edgeRun := by
  unfold Mach.notePhase; dsimp only; split <;> simp
@[simp] theorem notePhase_pwm_lockRun (old m : Mach) (k : Nat) : (old.notePhase k m).pwm.lockRun = m.pwm.lockRun := by
  unfold Mach.notePhase; dsimp only; split <;> simp
@[simp] theorem notePhase_pwm_holdAt (old m : Mach) (k : Nat) : (old.notePhase k m).pwm.holdAt = m.pwm.holdAt := by
  unfold Mach.notePhase; dsimp only; split <;> simp
@[simp] theorem notePhase_pwm_syncOut (old m : Mach) (k : Nat) : (old.notePhase k m).pwm.syncOut = m.pwm.syncOut := by
  unfold Mach.notePhase; dsimp only; split <;> simp
@[simp] theorem notePhase_pwm_valleys (old m : Mach) (k : Nat) : (old.notePhase k m).pwm.valleys = m.pwm.valleys := by
  unfold Mach.notePhase; dsimp only; split <;> simp
@[simp] theorem notePhase_pwm_mismatch (old m : Mach) (k : Nat) : (old.notePhase k m).pwm.mismatch = m.pwm.mismatch := by
  unfold Mach.notePhase; dsimp only; split <;> simp
@[simp] theorem notePhase_pwm_cbcNow (old m : Mach) (k : Nat) : (old.notePhase k m).pwm.cbcNow = m.pwm.cbcNow := by
  unfold Mach.notePhase; dsimp only; split <;> simp
@[simp] theorem notePhase_pwm_cbcActive (old m : Mach) (k : Nat) : (old.notePhase k m).pwm.cbcActive = m.pwm.cbcActive := by
  unfold Mach.notePhase; dsimp only; split <;> simp
@[simp] theorem notePhase_pwm_interlock (old m : Mach) (k : Nat) : (old.notePhase k m).pwm.interlock = m.pwm.interlock := by
  unfold Mach.notePhase; dsimp only; split <;> simp
@[simp] theorem notePhase_pwm_tripPending (old m : Mach) (k : Nat) : (old.notePhase k m).pwm.tripPending = m.pwm.tripPending := by
  unfold Mach.notePhase; dsimp only; split <;> simp
@[simp] theorem notePhase_pwm_glideAt (old m : Mach) (k : Nat) : (old.notePhase k m).pwm.glideAt = m.pwm.glideAt := by
  unfold Mach.notePhase; dsimp only; split <;> simp
@[simp] theorem notePhase_pwm_nTrips (old m : Mach) (k : Nat) : (old.notePhase k m).pwm.nTrips = m.pwm.nTrips := by
  unfold Mach.notePhase; dsimp only; split <;> simp
@[simp] theorem notePhase_pwm_nRearms (old m : Mach) (k : Nat) : (old.notePhase k m).pwm.nRearms = m.pwm.nRearms := by
  unfold Mach.notePhase; dsimp only; split <;> simp
@[simp] theorem notePhase_pwm_nStream (old m : Mach) (k : Nat) : (old.notePhase k m).pwm.nStream = m.pwm.nStream := by
  unfold Mach.notePhase; dsimp only; split <;> simp
@[simp] theorem notePhase_pwm_nEdges (old m : Mach) (k : Nat) : (old.notePhase k m).pwm.nEdges = m.pwm.nEdges := by
  unfold Mach.notePhase; dsimp only; split <;> simp
@[simp] theorem notePhase_pwm_nInter (old m : Mach) (k : Nat) : (old.notePhase k m).pwm.nInter = m.pwm.nInter := by
  unfold Mach.notePhase; dsimp only; split <;> simp
@[simp] theorem notePhase_pwm_nCbc (old m : Mach) (k : Nat) : (old.notePhase k m).pwm.nCbc = m.pwm.nCbc := by
  unfold Mach.notePhase; dsimp only; split <;> simp
@[simp] theorem settle_pwm_ft (old m : Mach) : (old.settle m).pwm.ft = m.pwm.ft := by
  simp [Mach.settle, Mach.each_keep (fun x => x.pwm.ft) (f := fun k x => old.notePhase k x) (by simp)]
@[simp] theorem settle_pwm_ftOff (old m : Mach) : (old.settle m).pwm.ftOff = m.pwm.ftOff := by
  simp [Mach.settle, Mach.each_keep (fun x => x.pwm.ftOff) (f := fun k x => old.notePhase k x) (by simp)]
@[simp] theorem settle_pwm_latch (old m : Mach) : (old.settle m).pwm.latch = m.pwm.latch := by
  simp [Mach.settle, Mach.each_keep (fun x => x.pwm.latch) (f := fun k x => old.notePhase k x) (by simp)]
@[simp] theorem settle_pwm_latchAt (old m : Mach) : (old.settle m).pwm.latchAt = m.pwm.latchAt := by
  simp [Mach.settle, Mach.each_keep (fun x => x.pwm.latchAt) (f := fun k x => old.notePhase k x) (by simp)]
@[simp] theorem settle_pwm_capture (old m : Mach) : (old.settle m).pwm.capture = m.pwm.capture := by
  simp [Mach.settle, Mach.each_keep (fun x => x.pwm.capture) (f := fun k x => old.notePhase k x) (by simp)]
@[simp] theorem settle_pwm_rearms (old m : Mach) : (old.settle m).pwm.rearms = m.pwm.rearms := by
  simp [Mach.settle, Mach.each_keep (fun x => x.pwm.rearms) (f := fun k x => old.notePhase k x) (by simp)]
@[simp] theorem settle_pwm_refused (old m : Mach) : (old.settle m).pwm.refused = m.pwm.refused := by
  simp [Mach.settle, Mach.each_keep (fun x => x.pwm.refused) (f := fun k x => old.notePhase k x) (by simp)]
@[simp] theorem settle_pwm_clearPass (old m : Mach) : (old.settle m).pwm.clearPass = m.pwm.clearPass := by
  simp [Mach.settle, Mach.each_keep (fun x => x.pwm.clearPass) (f := fun k x => old.notePhase k x) (by simp)]
@[simp] theorem settle_pwm_inForce (old m : Mach) : (old.settle m).pwm.inForce = m.pwm.inForce := by
  simp [Mach.settle, Mach.each_keep (fun x => x.pwm.inForce) (f := fun k x => old.notePhase k x) (by simp)]
@[simp] theorem settle_pwm_settingsDue (old m : Mach) : (old.settle m).pwm.settingsDue = m.pwm.settingsDue := by
  simp [Mach.settle, Mach.each_keep (fun x => x.pwm.settingsDue) (f := fun k x => old.notePhase k x) (by simp)]
@[simp] theorem settle_pwm_sync (old m : Mach) : (old.settle m).pwm.sync = m.pwm.sync := by
  simp [Mach.settle, Mach.each_keep (fun x => x.pwm.sync) (f := fun k x => old.notePhase k x) (by simp)]
@[simp] theorem settle_pwm_freq (old m : Mach) : (old.settle m).pwm.freq = m.pwm.freq := by
  simp [Mach.settle, Mach.each_keep (fun x => x.pwm.freq) (f := fun k x => old.notePhase k x) (by simp)]
@[simp] theorem settle_pwm_phaseErr (old m : Mach) : (old.settle m).pwm.phaseErr = m.pwm.phaseErr := by
  simp [Mach.settle, Mach.each_keep (fun x => x.pwm.phaseErr) (f := fun k x => old.notePhase k x) (by simp)]
@[simp] theorem settle_pwm_origin (old m : Mach) : (old.settle m).pwm.origin = m.pwm.origin := by
  simp [Mach.settle, Mach.each_keep (fun x => x.pwm.origin) (f := fun k x => old.notePhase k x) (by simp)]
@[simp] theorem settle_pwm_lastEdge (old m : Mach) : (old.settle m).pwm.lastEdge = m.pwm.lastEdge := by
  simp [Mach.settle, Mach.each_keep (fun x => x.pwm.lastEdge) (f := fun k x => old.notePhase k x) (by simp)]
@[simp] theorem settle_pwm_edgeRun (old m : Mach) : (old.settle m).pwm.edgeRun = m.pwm.edgeRun := by
  simp [Mach.settle, Mach.each_keep (fun x => x.pwm.edgeRun) (f := fun k x => old.notePhase k x) (by simp)]
@[simp] theorem settle_pwm_lockRun (old m : Mach) : (old.settle m).pwm.lockRun = m.pwm.lockRun := by
  simp [Mach.settle, Mach.each_keep (fun x => x.pwm.lockRun) (f := fun k x => old.notePhase k x) (by simp)]
@[simp] theorem settle_pwm_holdAt (old m : Mach) : (old.settle m).pwm.holdAt = m.pwm.holdAt := by
  simp [Mach.settle, Mach.each_keep (fun x => x.pwm.holdAt) (f := fun k x => old.notePhase k x) (by simp)]
@[simp] theorem settle_pwm_syncOut (old m : Mach) : (old.settle m).pwm.syncOut = m.pwm.syncOut := by
  simp [Mach.settle, Mach.each_keep (fun x => x.pwm.syncOut) (f := fun k x => old.notePhase k x) (by simp)]
@[simp] theorem settle_pwm_valleys (old m : Mach) : (old.settle m).pwm.valleys = m.pwm.valleys := by
  simp [Mach.settle, Mach.each_keep (fun x => x.pwm.valleys) (f := fun k x => old.notePhase k x) (by simp)]
@[simp] theorem settle_pwm_mismatch (old m : Mach) : (old.settle m).pwm.mismatch = m.pwm.mismatch := by
  simp [Mach.settle, Mach.each_keep (fun x => x.pwm.mismatch) (f := fun k x => old.notePhase k x) (by simp)]
@[simp] theorem settle_pwm_cbcNow (old m : Mach) : (old.settle m).pwm.cbcNow = m.pwm.cbcNow := by
  simp [Mach.settle, Mach.each_keep (fun x => x.pwm.cbcNow) (f := fun k x => old.notePhase k x) (by simp)]
@[simp] theorem settle_pwm_cbcActive (old m : Mach) : (old.settle m).pwm.cbcActive = m.pwm.cbcActive := by
  simp [Mach.settle, Mach.each_keep (fun x => x.pwm.cbcActive) (f := fun k x => old.notePhase k x) (by simp)]
@[simp] theorem settle_pwm_interlock (old m : Mach) : (old.settle m).pwm.interlock = m.pwm.interlock := by
  simp [Mach.settle, Mach.each_keep (fun x => x.pwm.interlock) (f := fun k x => old.notePhase k x) (by simp)]
@[simp] theorem settle_pwm_tripPending (old m : Mach) : (old.settle m).pwm.tripPending = m.pwm.tripPending := by
  simp [Mach.settle, Mach.each_keep (fun x => x.pwm.tripPending) (f := fun k x => old.notePhase k x) (by simp)]
@[simp] theorem settle_pwm_glideAt (old m : Mach) : (old.settle m).pwm.glideAt = m.pwm.glideAt := by
  simp [Mach.settle, Mach.each_keep (fun x => x.pwm.glideAt) (f := fun k x => old.notePhase k x) (by simp)]
@[simp] theorem settle_pwm_nTrips (old m : Mach) : (old.settle m).pwm.nTrips = m.pwm.nTrips := by
  simp [Mach.settle, Mach.each_keep (fun x => x.pwm.nTrips) (f := fun k x => old.notePhase k x) (by simp)]
@[simp] theorem settle_pwm_nRearms (old m : Mach) : (old.settle m).pwm.nRearms = m.pwm.nRearms := by
  simp [Mach.settle, Mach.each_keep (fun x => x.pwm.nRearms) (f := fun k x => old.notePhase k x) (by simp)]
@[simp] theorem settle_pwm_nStream (old m : Mach) : (old.settle m).pwm.nStream = m.pwm.nStream := by
  simp [Mach.settle, Mach.each_keep (fun x => x.pwm.nStream) (f := fun k x => old.notePhase k x) (by simp)]
@[simp] theorem settle_pwm_nEdges (old m : Mach) : (old.settle m).pwm.nEdges = m.pwm.nEdges := by
  simp [Mach.settle, Mach.each_keep (fun x => x.pwm.nEdges) (f := fun k x => old.notePhase k x) (by simp)]
@[simp] theorem settle_pwm_nInter (old m : Mach) : (old.settle m).pwm.nInter = m.pwm.nInter := by
  simp [Mach.settle, Mach.each_keep (fun x => x.pwm.nInter) (f := fun k x => old.notePhase k x) (by simp)]
@[simp] theorem settle_pwm_nCbc (old m : Mach) : (old.settle m).pwm.nCbc = m.pwm.nCbc := by
  simp [Mach.settle, Mach.each_keep (fun x => x.pwm.nCbc) (f := fun k x => old.notePhase k x) (by simp)]

@[simp] theorem notePhase_phases_length (old m : Mach) (k : Nat) :
    (old.notePhase k m).pwm.phases.length = m.pwm.phases.length := by
  unfold Mach.notePhase; dsimp only; split <;> simp
@[simp] theorem settle_phases_length (old m : Mach) : (old.settle m).pwm.phases.length = m.pwm.phases.length := by
  simp [Mach.settle, Mach.each_keep (fun x => x.pwm.phases.length) (f := fun k x => old.notePhase k x) (by simp)]

theorem notePhase_phase {β : Type} (g : Phase → β) (hg : ∀ (q : Phase) n, g { q with offAt := n } = g q) (old m : Mach)
    (k j : Nat) (d : Phase) : g (nth (old.notePhase k m).pwm.phases j d) = g (nth m.pwm.phases j d) := by
  have key : ∀ n : Phase → Nat, g (nth (updNth m.pwm.phases k (fun q => { q with offAt := n q })) j d)
      = g (nth m.pwm.phases j d) := fun n => nth_updNth_keep g _ (fun x => hg x (n x)) d _ _ _
  unfold Mach.notePhase
  dsimp only
  split
  · rfl
  · simp [key]

/-- What a command's own effect leaves in a phase stays, but for the time from which it is off. -/
theorem settle_phase {β : Type} (g : Phase → β) (hg : ∀ (q : Phase) n, g { q with offAt := n } = g q) (old m : Mach)
    (j : Nat) (d : Phase) : g (nth (old.settle m).pwm.phases j d) = g (nth m.pwm.phases j d) := by
  simpa [Mach.settle] using
    Mach.each_keep (fun x => g (nth x.pwm.phases j d)) (f := fun k x => old.notePhase k x)
      (fun k x => notePhase_phase g hg old x k j d) (List.range 12) m

@[simp] theorem settle_phase_own (old m : Mach) (j : Nat) (d : Phase) :
    (nth (old.settle m).pwm.phases j d).own = (nth m.pwm.phases j d).own := settle_phase Phase.own (fun _ _ => rfl) old m j d
@[simp] theorem settle_phase_gate (old m : Mach) (j : Nat) (d : Phase) :
    (nth (old.settle m).pwm.phases j d).gate = (nth m.pwm.phases j d).gate := settle_phase Phase.gate (fun _ _ => rfl) old m j d
@[simp] theorem settle_phase_releasing (old m : Mach) (j : Nat) (d : Phase) :
    (nth (old.settle m).pwm.phases j d).releasing = (nth m.pwm.phases j d).releasing := settle_phase Phase.releasing (fun _ _ => rfl) old m j d
@[simp] theorem settle_phase_acquiring (old m : Mach) (j : Nat) (d : Phase) :
    (nth (old.settle m).pwm.phases j d).acquiring = (nth m.pwm.phases j d).acquiring := settle_phase Phase.acquiring (fun _ _ => rfl) old m j d
@[simp] theorem settle_phase_acqHeld (old m : Mach) (j : Nat) (d : Phase) :
    (nth (old.settle m).pwm.phases j d).acqHeld = (nth m.pwm.phases j d).acqHeld := settle_phase Phase.acqHeld (fun _ _ => rfl) old m j d
@[simp] theorem settle_phase_disabled (old m : Mach) (j : Nat) (d : Phase) :
    (nth (old.settle m).pwm.phases j d).disabled = (nth m.pwm.phases j d).disabled := settle_phase Phase.disabled (fun _ _ => rfl) old m j d
@[simp] theorem settle_phase_commanded (old m : Mach) (j : Nat) (d : Phase) :
    (nth (old.settle m).pwm.phases j d).commanded = (nth m.pwm.phases j d).commanded := settle_phase Phase.commanded (fun _ _ => rfl) old m j d
@[simp] theorem settle_phase_duty (old m : Mach) (j : Nat) (d : Phase) :
    (nth (old.settle m).pwm.phases j d).duty = (nth m.pwm.phases j d).duty := settle_phase Phase.duty (fun _ _ => rfl) old m j d
@[simp] theorem settle_phase_waiting (old m : Mach) (j : Nat) (d : Phase) :
    (nth (old.settle m).pwm.phases j d).waiting = (nth m.pwm.phases j d).waiting := settle_phase Phase.waiting (fun _ _ => rfl) old m j d
@[simp] theorem settle_phase_later (old m : Mach) (j : Nat) (d : Phase) :
    (nth (old.settle m).pwm.phases j d).later = (nth m.pwm.phases j d).later := settle_phase Phase.later (fun _ _ => rfl) old m j d
@[simp] theorem settle_phase_shadow (old m : Mach) (j : Nat) (d : Phase) :
    (nth (old.settle m).pwm.phases j d).shadow = (nth m.pwm.phases j d).shadow := settle_phase Phase.shadow (fun _ _ => rfl) old m j d
@[simp] theorem settle_phase_tag (old m : Mach) (j : Nat) (d : Phase) :
    (nth (old.settle m).pwm.phases j d).tag = (nth m.pwm.phases j d).tag := settle_phase Phase.tag (fun _ _ => rfl) old m j d
@[simp] theorem settle_phase_fault (old m : Mach) (j : Nat) (d : Phase) :
    (nth (old.settle m).pwm.phases j d).fault = (nth m.pwm.phases j d).fault := settle_phase Phase.fault (fun _ _ => rfl) old m j d
@[simp] theorem settle_phase_offsetBad (old m : Mach) (j : Nat) (d : Phase) :
    (nth (old.settle m).pwm.phases j d).offsetBad = (nth m.pwm.phases j d).offsetBad := settle_phase Phase.offsetBad (fun _ _ => rfl) old m j d
@[simp] theorem settle_phase_offset (old m : Mach) (j : Nat) (d : Phase) :
    (nth (old.settle m).pwm.phases j d).offset = (nth m.pwm.phases j d).offset := settle_phase Phase.offset (fun _ _ => rfl) old m j d
@[simp] theorem settle_phase_heldOff (old m : Mach) (j : Nat) (d : Phase) :
    (nth (old.settle m).pwm.phases j d).heldOff = (nth m.pwm.phases j d).heldOff := settle_phase Phase.heldOff (fun _ _ => rfl) old m j d
@[simp] theorem settle_phase_avg (old m : Mach) (j : Nat) (d : Phase) :
    (nth (old.settle m).pwm.phases j d).avg = (nth m.pwm.phases j d).avg := settle_phase Phase.avg (fun _ _ => rfl) old m j d
@[simp] theorem settle_phase_blocked (old m : Mach) (j : Nat) (d : Phase) :
    (nth (old.settle m).pwm.phases j d).blocked = (nth m.pwm.phases j d).blocked := settle_phase Phase.blocked (fun _ _ => rfl) old m j d
@[simp] theorem settle_phase_cbc (old m : Mach) (j : Nat) (d : Phase) :
    (nth (old.settle m).pwm.phases j d).cbc = (nth m.pwm.phases j d).cbc := settle_phase Phase.cbc (fun _ _ => rfl) old m j d
@[simp] theorem settle_phase_acc (old m : Mach) (j : Nat) (d : Phase) :
    (nth (old.settle m).pwm.phases j d).acc = (nth m.pwm.phases j d).acc := settle_phase Phase.acc (fun _ _ => rfl) old m j d
@[simp] theorem settle_phase_openRun (old m : Mach) (j : Nat) (d : Phase) :
    (nth (old.settle m).pwm.phases j d).openRun = (nth m.pwm.phases j d).openRun := settle_phase Phase.openRun (fun _ _ => rfl) old m j d
@[simp] theorem settle_phase_validAt (old m : Mach) (j : Nat) (d : Phase) :
    (nth (old.settle m).pwm.phases j d).validAt = (nth m.pwm.phases j d).validAt := settle_phase Phase.validAt (fun _ _ => rfl) old m j d
@[simp] theorem settle_phase_cause (old m : Mach) (j : Nat) (d : Phase) :
    (nth (old.settle m).pwm.phases j d).cause = (nth m.pwm.phases j d).cause := settle_phase Phase.cause (fun _ _ => rfl) old m j d

theorem notePhase_out (old m : Mach) (k : Nat) (x : Out) (h : x ∈ m.out) : x ∈ (old.notePhase k m).out := by
  unfold Mach.notePhase
  dsimp only
  split
  · exact h
  · simp only [Mach.when_out, Mach.emit_out, Mach.trace_frame, Mach.updPwm_out]
    split <;> simp [h]

/-- What a command emits stays emitted. -/
theorem settle_out {old m : Mach} {x : Out} (h : x ∈ m.out) : x ∈ (old.settle m).out := by
  have : ∀ (l : List Nat) (m : Mach), x ∈ m.out → x ∈ (m.each l (fun k y => old.notePhase k y)).out := by
    intro l
    induction l with
    | nil => exact fun _ h => h
    | cons k t ih => exact fun m h => ih _ (notePhase_out old m k x h)
  simpa [Mach.settle] using this _ _ h

/-! ## Raising faults, demanding reactions, entering modes -/

/-- A raised source is pending (R362). -/
@[simp] theorem raiseAs_pending (m : Mach) (s : Src) (k : FClass) (p : List Nat) (h : m.clk.procRunning = true) :
    (m.raiseAs s k p).isPending s = true := by
  unfold Mach.raiseAs
  simp only [h, Bool.not_true, Bool.false_eq_true, ↓reduceIte]
  split
  · rename_i h1; simpa [Mach.isPending] using h1
  · simp [Mach.isPending]

/-- A source whose native class is U or F is pending once raised. -/
theorem raiseFault_pending (m : Mach) (s : Src) (p : List Nat) (h : m.clk.procRunning = true)
    (hs : s.native = some .u ∨ s.native = some .f) : (m.raiseFault s p).isPending s = true := by
  unfold Mach.raiseFault
  rcases hs with hs | hs <;> simp [hs, h]

/-- What is pending is read off the collector alone. -/
theorem isPending_congr {a b : Mach} (h : a.flt = b.flt) (s : Src) : a.isPending s = b.isPending s := by
  simp [Mach.isPending, h]

/-- A mode entered is the mode in force (R34). -/
@[simp] theorem enterMode_mode (m : Mach) (d : Mode) (c : Cause) : (m.enterMode d c).mode.mode = d := by
  unfold Mach.enterMode
  cases d <;> simp [Mach.enterMaintain, Mach.beginTask] <;> (repeat' split) <;> simp

/-- A reaction leaves the module in the mode it names or in LOCKOUT; only under the recovery loader BOOT holds it (R39, R454). -/
theorem react_mode (m : Mach) (d : Mode) (c : Cause) (h : m.clk.procRunning = true) :
    (m.react d c).mode.mode = d ∨ (m.react d c).mode.mode = .lockout ∨
      (m.mode.mode = .boot ∧ m.mode.recovery = true ∧ (m.react d c).mode.mode = .boot) := by
  unfold Mach.react
  simp only [h, Bool.not_true, Bool.false_eq_true, ↓reduceIte]
  split
  · rename_i h1; exact .inr (.inl h1)
  · rename_i h1
    by_cases hr : m.mode.recovery = true
    · exact .inr (.inr ⟨h1, hr, by simp [hr, Mach.holdReact, h1]⟩)
    · left; simp [hr]
  · rename_i h1
    split
    · rename_i h2; left; rw [h1]; simpa using (beq_iff_eq.mp h2).symm
    · left; simp
  · left; simp

end Sys2Proof.Machine
end

