-- ==== Sys2Proof/Tests/Slice0.lean ====
section
/-! SUPPORT. The model's own tests: the spec's worked examples on one operation each, the checks of WellFormed, and for every
statement with premises a concrete state and operands that meet them, clause by clause, at the bounds of their ranges. -/

namespace Sys2Proof.Tests

open Sys2Proof Sys2Proof.Machine

set_option Elab.async false

/-- A unit that runs in STANDBY, 10^15 ns after power-on. -/
def live : Mach := { now := 1000000000000000, mode := { mode := .standby }, clk := { procRunning := true } }
/-- A PodReply for the witnesses. -/
def reply : PodReply :=
  { status := 0, sampleId := 0, fine := [], coarse := [], ntc := [], bleed := 0, cmp := 0, owWire := 0, filter := 0, owLo := 0
    owHi := 0, limitOv := 0, limitUv := 0, wdt := 0, configCrc := 0 }
/-- A SweepPod for the witnesses. -/
def pod : SweepPod := { missing := false, port := 1, data := reply }
/-- A BootReport for the witnesses. -/
def bootOk : BootReport := 
  { authA := true, authB := true, tests := 0, badKeys := [], badTxns := [], badVault := [], badRing := [], badLedger := []
    badSnaps := [], gap := 0 }
/-- A GmRank for the witnesses. -/
def rank : GmRank := { source := 2, prio := 128, serial := 1, addr := 1 }
/-- A BinRun for the witnesses. -/
def binRun : BinRun :=
  { bin := 5, excId := 1, start := 100000000 - leadEpochs 5 - windowEpochs 5, amp := 400, discarded := false, clipped := false
    rejected := [], rejectedPods := [] }
/-- A BinRead for the witnesses. -/
def binRead : BinRead :=
  { run := binRun, endEpoch := 100000000, ia := (0, 0), ib := (0, 0), got := [], fails := [(1, 1)], bad := [], asked := [] }
/-- A LeadValues for the witnesses. -/
def leadVals : LeadValues :=
  { epoch := 0, sRep := [], uRep := [], str := 0, bound := 0, limits := (0, 0, 0, 0), cooling := 0 }
/-- A Summary for the witnesses. -/
def summ : Summary :=
  { epoch := 1000000000, mv := 0, founder := 0xFFFF, string := 1, mode := 3, flags := 1, soc := 0, bound := 0, cap := 0, vStr := 0
    pAct := 0, pDis := 0, pChg := 0, excRes := 0, cmdSeq := 1, digest := 7, ahash := 7, slowCrc := 0, pAlloc := 0, pseq := 0
    mcount := 1 }
/-- A SlowHead for the witnesses. -/
def headRec : SlowHead :=
  { epoch := 1, string := 1, sflags := 0, skew := 0, galv := 0, rIso := 0, restAge := 0, soc := 0, bound := 0, sohC := 0, sohR := 0
    tIntMax := none, vMax := 0, vMin := 0, iLatch := 0, efc := 0, tie := 0, section_ := 0, pods := 0, mode := 0 }
/-- A Member for the witnesses. -/
def memb : Member := { addr := 5, string := 5, serial := 50 }
/-- A PlantCmd for the witnesses. -/
def order : PlantCmd :=
  { issuer := 5, ctype := 8, cseq := 1, effect := 999999999, target := 5, arg0 := 0, arg1 := 0, role := 1 }
/-- A Takeback for the witnesses. -/
def handOver : Takeback := { start := 0, taker := true, planned := false, moving := 1, stage := 0, sigma := 0 }
/-- A Checkpoint for the witnesses. -/
def check : Checkpoint :=
  { epoch := 1000000000, ver := 0, loop := 0, nAct := 0, states := [], rCmd := 0, integ := 0, iPhRef := 0, vSet := 0, ceiling := none
    flags := 0, duty := [], acc := [] }
/-- A Profile for the witnesses. -/
def prof0 : Profile :=
  { num := 0, chem := 0, vOv := 3650, vUv := 2500, hwOv := 3750, hwUv := 2300, tOt := 600, tOtHw := 650, tChgMin := 0, iLim := 400
    iOc := 500, iBrk := 800, hallScale := 750, hallTh := 6667 }
/-- A SeedRec for the witnesses. -/
def event : SeedRec :=
  { time := 0, code := 0x0100, source := 0, mode := 3, cls := 0, seq := 1, params := [], damaged := false }
/-- A SeedClear for the witnesses. -/
def pendingClear : SeedClear := { what := 1, start := 0, iface := 0, cert := 0, cleared := event, waiting := [] }
/-- A Raise for the witnesses. -/
def raised : Raise :=
  { src := .busBound, cls := .u, seq := 1, time := 0, params := [], escalated := false, acked := false }
/-- A Injection for the witnesses. -/
def inject : Injection := { src := 0, chan := 0, dur := 1000, start := 0, response := none }
/-- A Session for the witnesses. -/
def sess : Session :=
  { sid := 1, role := .service, iface := 0, size := 4096, relay := 0, source := 0, opened := true, last := 0, unlock := some 0 }
/-- A MbxFrame for the witnesses. -/
def frame : MbxFrame := { tagOk := true, sid := 1, iface := 0, tseq := 1, seg := 0, len := 0, more := false }
/-- A Resp for the witnesses. -/
def resp : Resp := { cmd := 0x10, status := 0, body := [], streamed := none }
/-- A HostCert for the witnesses. -/
def cert : HostCert :=
  { anchored := true, selfSigned := false, digest := 1, notBefore := 0, notAfter := 2000000000000000, role := some .operator
    sigOk := true }
/-- A ReadReq for the witnesses. -/
def capReq : ReadReq := { cmd := 0x10, objs := [(0x1000, 1)], offset := 0, length := 0, at_ := 0, epoch := 0 }
/-- A RelayEntry for the witnesses. -/
def entry : RelayEntry := { id := 1, host := 2, port := 3, target := 9, last := 0 }
/-- A CanFrame for the witnesses. -/
def canFrame : CanFrame :=
  { id := 1, ide := false, fdf := false, brs := false, esi := false, rtr := false, dlc := 0, data := [], time := 0, own := false }
/-- A FabFrame for the witnesses. -/
def fabFrame : FabFrame :=
  { ver := 1, type := 1, cls := 0, local_ := false, bcast := false, dst := 7, src := 2, ttl := 9, len := 0, size := 64, seq := 1
    serial := 2, hcrcOk := true, fcsOk := true, stomped := false }
/-- A LsaRec for the witnesses. -/
def lsaRec : LsaRec := { serial := 9, addr := 9, seq := 5, links := [], at_ := 0 }
/-- A SafeConn for the witnesses. -/
def conn1 : SafeConn := { conn := 1, src := 5, last := some 1, at_ := 0, copy := [], plane := 0, both := false, state := 0, rearm := 0 }
/-- A unit whose view admits one plant command of a type. -/
def admitted (t : Nat) : State :=
  { m := { live with plant := { live.plant with
      cmds := [{ order with ctype := t }]
      views := [{ epoch := 999999995, entries := [(memb, some summ)], founder := 0, mv := 0, digest := 7, state := 1 }] } } }
/-- The object table of the live unit: the entries that it keeps, no other. -/
def keptTable : Nat := (List.range 8).foldl (fun a k => a + live.coolEntry k * 256 ^ (16 * k)) 0

/-- The machine that an outcome leaves, the reset one where it stops. -/
def mOf (o : Host.Outcome State Fault Refusal) : Mach :=
  match o with
  | .next t => t.m
  | _ => {}

/-! ## Worked examples of the spec -/

/-- The summary of string j in the worked example of chapter 11. -/
def trial (soc : Nat) : Summary :=
  { summ with mode := 6, flags := 1, soc := soc, bound := 0, cap := 5600, vStr := 13300, pDis := 10000, pChg := 10000, excRes := 400 }

/-- The worked example of chapter 11: 2,000.0 kW over strings 0, 2 and 4 with gain 100 while string 6 rests. -/
theorem test_allocation_of_the_worked_example :
    (allocate 10000008 { power := 20000 }
      { epoch := 10000004, founder := 0, mv := 1, digest := 0, state := 1, entries :=
          [({ addr := 0, string := 0, serial := 1 }, some (trial 62000)), ({ addr := 2, string := 2, serial := 2 }, some (trial 60000)),
           ({ addr := 4, string := 4, serial := 3 }, some (trial 58000)), ({ addr := 6, string := 6, serial := 4 }, some (trial 60000))] }
      [6]).entries.map (fun e => (e.string, e.p, bit e.flags 1)) = [(0, 8001, false), (2, 6666, false), (4, 5333, false), (6, 0,
          true)] := by
  decide +kernel

/-- The same example: string 0 targets 601.6 A at 1,330.0 V. -/
theorem test_power_as_current :
    ({ live with meas := { live.meas with vStr := 133000 } } : Mach).powerCurrent 800100 = 80010000000 / 133000 := by
  decide +kernel

/-- The worked example of chapter 8: phase 5 of 8 in slot 11 of 24 lags phase 0 at slot 0 by 27,291.667 ns of 40 µs, so its
carrier stands at the valley that long after a fast-epoch boundary. -/
theorem test_carrier_phase :
    ({ live with params := [(objKey 0x2600 0, 8)]
                 pwm := { live.pwm with freq := 25000, inForce := [0, 25000, 1, 11, 24, 1, 10, 0, 400, 0] } } : Mach).carrierPhase 5 0
      = 1 - (5 / 8 + 11 / 192) := by
  decide +kernel

/-- The worked example of chapter 14: at a demand of 70.68 % a fan of 20 % minimum duty runs at 76.544 %, a valve of 2 V to 10 V
stands at 7.65 V. -/
theorem test_fan_and_valve :
    let m : Mach := { live with params := [(objKey 0x2C06 3, 2000)]
                                therm := { live.therm with d := 7068 / 100, hadD := true, fallback := false } }
    m.fanDuty 0 = 76544 / 1000 ∧ m.valveMv 0 = 7650 := by
  decide +kernel

/-- The worked example of chapter 19: the default bit timing is 40 and 10 kernel clocks. -/
theorem test_default_bit_timing :
    live.canNominal 0 = [1, 31, 8, 8] ∧ bitClocks (live.canNominal 0) = 40 ∧ bitClocks (live.canDataTiming 0) = 10 := by
  decide +kernel

/-- The worked example of chapter 20: a body of 9,437,184 bytes has 144 chunks. -/
theorem test_chunks : ImgHeader.nChunks { factoryHeader with bodyLen := 9437184 } = 144 := by decide +kernel

/-- The worked example of chapter 3: SAMPLE_ID of slow epoch 5,000,000 is 19,264. -/
theorem test_sample_id :
    (mOf (exec (.sample 5000000 1 true) { m := { live with chain := { live.chain with serials := [1] } } })).out.any
      (fun o => match o with
        | .chain _ _ (.sample id _ _) => id == 19264
        | _ => false) = true := by
  decide +kernel

/-! ## One step each -/

/-- R362, R366: a second unacknowledged fault of another source is raised as F and takes the module to LOCKOUT. -/
theorem test_second_fault_locks_out :
    (mOf (exec (.faultRaise .addressConflict []) { m := { live with flt := { live.flt with pending := [raised] } } })).mode.mode
      = .lockout := by
  decide +kernel

/-- R188: a fast-trip input sets the latch, with the processor domain held too. -/
theorem test_fast_trip_without_the_processor_domain : (mOf (exec (.fastTrip 1) State.reset)).pwm.latch = true := by decide +kernel

/-- R41: a mode request waits for its boundary. -/
theorem test_mode_request_waits :
    (mOf (exec (.modeRequest 2 3) { m := live })).mode.mode = .standby := by decide +kernel

/-- The front of the queue runs first. -/
theorem test_first_in_first_out :
    (match step { pending := [.powerOnResetRelease 5 0 0 true 0 0 true true, .lsaRefresh], m := {} } with
      | .next t => (t.pending, t.m.saf.sw1)
      | _ => ([], 0)) = ([.lsaRefresh], 5) := by decide +kernel

/-- An empty queue idles. -/
theorem test_idle : (match step { pending := [], m := live } with
    | .next t => t == { pending := [], m := live }
    | _ => false) = true := by decide +kernel

/-- The table gives its rows no bits: no word spells a command. -/
theorem test_no_word_spells_a_command : decodeTableWord 0 0 = none ∧ decodeTableWord 16 0x1234 = none := by decide +kernel

/-! ## WellFormed -/

/-- One operand out of its range in each command. -/
def illFormed1 : List Instr := [
  .busTransaction 0 0 0 0 1,
  .busTransaction 6 0 0 0 1,
  .busTransaction 1 65536 0 0 1,
  .busTransaction 1 0 0 0 0,
  .memoryEccError true true 65536,
  .almondCoreLost 8,
  .mergeResult 9 0 0 0,
  .mergeResult 0 4294967296 0 0,
  .powerOnResetRelease 16 0 0 true 0 0 true true,
  .powerOnResetRelease 0 3 0 true 0 0 true true,
  .powerOnResetRelease 0 0 256 true 0 0 true true,
  .powerOnResetRelease 0 0 0 true 16 0 true true,
  .powerOnResetRelease 0 0 0 true 0 64 true true,
  .processorDomainRelease { bootOk with tests := 128 },
  .processorDomainRelease { bootOk with badSuper := 3 },
  .fastEpochBoundary 65536 0,
  .fastEpochBoundary 0 65536,
  .modeRequest 256 0,
  .modeRequest 0 4,
  .lockoutClearArm 4 true,
  .baselineDeferral 4 true,
  .commissioningAccept 4 true,
  .stepRetry 4 true,
  .dataReply 0 1 true reply,
  .dataReply 28 1 true reply,
  .dataReply 1 0 true reply,
  .dataReply 1 3 true reply,
  .readOne 0,
  .readOne 28,
  .echo 0 0 0 0,
  .echo 28 0 0 0,
  .chainReplyRelay 0 true reply,
  .chainReplyRelay 28 true reply,
  .streamFrame true true 0 (-2147483649) 0 0 0 true,
  .streamFrame true true 0 2147483648 0 0 0 true,
  .streamFrame true true 0 0 (-2147483649) 0 0 true,
  .streamFrame true true 0 0 2147483648 0 0 true,
  .streamFrame true true 0 0 0 65536 0 true,
  .streamFrame true true 0 0 0 0 65536 true,
  .chargeSample (-2147483649),
  .chargeSample 2147483648,
  .currentComparator 5 0,
  .currentComparator 0 (-2147483649),
  .currentComparator 0 2147483648,
  .tieMaskRequest 0 4,
  .corrRead 0,
  .corrRead 28,
  .correlationReply 3 1 true 0 0 0 0 [],
  .correlationReply 0 1 true 0 0 0 0 [],
  .correlationReply 1 0 true 0 0 0 0 [],
  .correlationReply 1 28 true 0 0 0 0 [],
  .correlationReply 1 1 true 256 0 0 0 [],
  .correlationReply 1 1 true 0 256 0 0 [],
  .correlationReply 1 1 true 0 0 256 0 [],
  .correlationReply 1 1 true 0 0 0 65536 [],
  .ageingUpdate 0,
  .ageingUpdate 433,
  .baselineRequest 4 true,
  .dutyCommand 12 0 0 0 true,
  .dutyCommand 0 0 0 2 true]

theorem test_wf_illFormed1 : ∀ i ∈ illFormed1, i.wf = false := by decide +kernel

/-- One operand out of its range in each command. -/
def illFormed2 : List Instr := [
  .pwmCommandStale 12,
  .carrierValley 12 0,
  .carrierValley 0 1000001,
  .interlockBlock 12 0,
  .ownershipRelease 12,
  .ownLineDeassert 12,
  .ownershipAcquire 12 true,
  .pwmGateRelease 12,
  .fastTrip 4096,
  .bitstreamFault 12,
  .bitstreamValid 12,
  .offsetZero 12 0,
  .offsetZero 0 1000001,
  .cycleByCycleLimit 12 0 0,
  .cycleByCycleLimit 0 (-2147483649) 0,
  .cycleByCycleLimit 0 2147483648 0,
  .outerPeriod 20 0 true,
  .outerPeriod 0 (-2147483649) true,
  .outerPeriod 0 2147483648 true,
  .phaseLoopUpdate 12,
  .phaseState 12 0 0,
  .phaseState 0 6 0,
  .busDip 65536 0 0,
  .busDip 0 (-2147483649) 0,
  .busDip 0 2147483648 0,
  .phaseReenable 12,
  .transceiverInserted 4,
  .transceiverCheck 4 true 0,
  .transceiverCheck 0 true 65536,
  .blockLock 4,
  .helloSend 4,
  .helloFrame 4 0 0 0 0 0,
  .helloFrame 0 0 65536 0 0 0,
  .helloFrame 0 0 0 4 0 0,
  .helloFrame 0 0 0 0 256 0,
  .portDown 4 true,
  .portHoldDownEnd 4,
  .pdelaySend 4 0,
  .pdelay 4 0 none,
  .lsa 4 0 0 0 [],
  .lsa 0 0 65536 0 [],
  .lsaAged 2 0,
  .addressClaim 16 0,
  .addressClaim 0 64,
  .claim 0 65536 0 0,
  .claim 0 0 0 3,
  .frameForward 4 fabFrame true,
  .sync 4 0 0 0 0 0 0,
  .sync 0 0 0 (-9223372036854775809) 0 0 0,
  .sync 0 0 0 9223372036854775808 0 0 0,
  .sync 0 0 0 0 65536 0 0,
  .sync 0 0 0 0 0 256 0,
  .sync 0 0 0 0 0 0 256,
  .ptpSync 256 true 0,
  .safeMessageSend 0,
  .safeMessageSend 3,
  .safeFrame 2 0 1 0 0 0 0 0 [] true,
  .safeFrame 0 2 1 0 0 0 0 0 [] true,
  .safeFrame 0 0 0 0 0 0 0 0 [] true,
  .safeFrame 0 0 3 0 0 0 0 0 [] true]

theorem test_wf_illFormed2 : ∀ i ∈ illFormed2, i.wf = false := by decide +kernel

/-- One operand out of its range in each command. -/
def illFormed3 : List Instr := [
  .safeFrame 0 0 1 65536 0 0 0 0 [] true,
  .safeFrame 0 0 1 0 65536 0 0 0 [] true,
  .safeFrame 0 0 1 0 0 65536 0 0 [] true,
  .safeCopyMissing 0 0,
  .safeCopyMissing 3 0,
  .safeCopyMissing 1 65536,
  .safeConnectionTimeout 0 0,
  .safeConnectionTimeout 3 0,
  .safeConnectionTimeout 1 65536,
  .fastSummary 65536 summ true true,
  .slowRecordHead 65536 headRec true,
  .bodyRequest 65536 0,
  .bodyPart 65536 0 0 [],
  .bodyPart 0 0 2 [],
  .bodyPart 0 0 0 [256],
  .headRequest 65536 0,
  .recordRequest 65536 0,
  .admitIssue 65536,
  .removeIssue 65536,
  .commandRequest 65536 0,
  .mode 65536 0,
  .plantPower 65536 0,
  .stringLimit 65536 0,
  .tieMask 65536 0,
  .busVoltage 65536 0,
  .plantParam 65536 0,
  .admitMember 65536 0,
  .remove 65536 0,
  .plantPowerRequest 0 4,
  .balancingGainRequest 0 4,
  .restConcurrencyRequest 0 4,
  .stringLimitRequest 0 0 4,
  .plantModeRequest 65536 0 0,
  .plantModeRequest 0 256 0,
  .plantModeRequest 0 0 4,
  .plantBusVoltageRequest 65536 0 0,
  .plantBusVoltageRequest 0 0 4,
  .takeoverAcquisition 1001 0,
  .alive 256 0 0 0 0,
  .alive 0 65536 0 0 0,
  .alive 0 0 256 0 0,
  .phaseRelease true 4 true,
  .partnerAccept 4 true,
  .request 256 0 0 0 true 0,
  .request 0 0 256 0 true 0,
  .request 0 0 0 65536 true 0,
  .pairConfig [] 256 0 0,
  .inputSample 256 0 0,
  .inputSample 0 8 0,
  .inputSample 0 0 8,
  .ptOvertemp 4 0,
  .testPulse 256,
  .safetyInputDemand 2 0,
  .safetyInputDemand 0 8,
  .ventilationDemand 2,
  .coilOpen 2,
  .holdRelease 2,
  .switchRead 16 0 0 true,
  .switchRead 0 3 0 true,
  .switchRead 0 0 256 true]

theorem test_wf_illFormed3 : ∀ i ∈ illFormed3, i.wf = false := by decide +kernel

/-- One operand out of its range in each command. -/
def illFormed4 : List Instr := [
  .coilSwitchTest 3 0 true,
  .coilSwitchTest 0 2 true,
  .contactorPickup 3,
  .contactorDropout 3,
  .weldedContact 3,
  .contactorLost 3,
  .contactorHeld 3,
  .ptConversion 8 none,
  .fanSpeed 4 0,
  .fanLost 4,
  .fanRecovered 4,
  .coolStatus 4 [],
  .coolStatus 0 [256],
  .coolantUnitLost 4,
  .faultRaise .busBound [256],
  .countingEvent .busBound [256],
  .faultAcknowledge 0 4,
  .faultClear 0 4,
  .faultInjection 65536 0 0 0,
  .faultInjection 0 256 0 0,
  .faultInjection 0 0 0 4,
  .recordCreate 65536 0 0 [],
  .recordCreate 0 65536 0 [],
  .recordCreate 0 0 256 [],
  .recordCreate 0 0 0 [256],
  .recorderClear 0 4 0 0,
  .recorderClear 0 0 2 0,
  .hello 2 0 0 0 true,
  .finish { frame with sid := 65536 } cert,
  .close { frame with sid := 65536 },
  .keepalive { frame with sid := 65536 },
  .mailboxRead { frame with sid := 65536 } 0 0 0 0,
  .mailboxRead frame 65536 0 0 0,
  .mailboxRead frame 0 256 0 0,
  .readSet { frame with sid := 65536 } [],
  .write { frame with sid := 65536 } { idx := 1, sub := 1, len := 1, value := 1 },
  .write frame { idx := 1, sub := 1, len := 1, value := 256 },
  .writeSet { frame with sid := 65536 } [],
  .writeSet frame [{ idx := 1, sub := 256, len := 1, value := 0 }],
  .ack { frame with sid := 65536 },
  .abort { frame with sid := 65536 },
  .relayFrame 4294967296 0 0,
  .relayFrame 0 65536 0,
  .expertUnlock { frame with sid := 65536 } 0,
  .expertUnlock frame 256,
  .addressConfigEffect 4294967296,
  .canFrameReceived 2 canFrame 0,
  .canFrameReceived 0 canFrame 9,
  .canQueueDrain 2,
  .canPeriodic 128,
  .canObjectDataWrite { frame with sid := 65536 } 0 0,
  .canObjectDataWrite frame 128 0,
  .canObjectTableWrite { frame with sid := 65536 } 0,
  .canTransmit 2 .lost,
  .canBusOffRecovery 2,
  .canObjectResume { frame with sid := 65536 } 0,
  .canObjectResume frame 128,
  .canChannelRestart 2,
  .canIntegration 2,
  .imageHeader { frame with sid := 65536 } 0 0]

theorem test_wf_illFormed4 : ∀ i ∈ illFormed4, i.wf = false := by decide +kernel

/-- One operand out of its range in each command. -/
def illFormed5 : List Instr := [
  .imageHeader frame 0 8,
  .imageChunk { frame with sid := 65536 } 0,
  .activate { frame with sid := 65536 },
  .confirm { frame with sid := 65536 },
  .trustAnchorsWrite { frame with sid := 65536 } 0,
  .resetRequest { frame with sid := 65536 },
  .hostPortLinkChange true 4294967296]

theorem test_wf_illFormed5 : ∀ i ∈ illFormed5, i.wf = false := by decide +kernel

/-- One command of each row, its operands in range. -/
def wellFormed1 : List Instr := [
  .busTransaction 1 0 0 0 1,
  .memoryEccError true true 0,
  .almondCoreLost 0,
  .mergeResult 0 0 0 0,
  .powerOnResetRelease 0 0 0 true 0 0 true true,
  .processorDomainRelease bootOk,
  .fastEpochBoundary 0 0,
  .modeRequest 0 0,
  .lockoutClearArm 0 true,
  .chainEnumeration [] [] [] [] [] true 0,
  .baselineDeferral 0 true,
  .commissioningAccept 0 true,
  .stepRetry 0 true,
  .sample 0 0 true,
  .dataReply 1 1 true reply,
  .readOne 1,
  .echo 1 0 0 0,
  .config 0,
  .reverseSample 0 0,
  .farEndReadout [],
  .chainReplyRelay 1 true reply,
  .lineMastershipReturn 0,
  .streamFrame true true 0 0 0 0 0 true,
  .chargeSample 0,
  .hallLost true,
  .currentComparator 0 0,
  .injectionHalfPeriod 0 0 none,
  .tieMaskRequest 0 0,
  .exciteRef none,
  .corrRead 1,
  .correlationReply 1 1 true 0 0 0 0 [],
  .ageingUpdate 1,
  .baselineRequest 0 true,
  .modelStep 0,
  .estimator none none 0,
  .masks [] 0,
  .dutyCommand 0 0 0 0 true,
  .pwmCommandStale 0,
  .carrierValley 0 0,
  .interlockBlock 0 0,
  .ownershipRelease 0,
  .ownLineDeassert 0,
  .ownershipAcquire 0 true,
  .pwmGateRelease 0,
  .fastTrip 0,
  .fastTripRearm true,
  .bitstreamFault 0,
  .bitstreamValid 0,
  .offsetZero 0 0,
  .cycleByCycleLimit 0 0 0,
  .syncInEdge 0,
  .outerPeriod 0 0 true,
  .phaseLoopUpdate 0,
  .phaseState 0 0 0,
  .busDip 0 0 0,
  .phaseLossCheck 0 [] [],
  .phaseReenable 0,
  .transceiverInserted 0,
  .transceiverCheck 0 true 0,
  .blockLock 0]

theorem test_wf_wellFormed1 : ∀ i ∈ wellFormed1, i.wf = true := by decide +kernel

/-- One command of each row, its operands in range. -/
def wellFormed2 : List Instr := [
  .helloSend 0,
  .helloFrame 0 0 0 0 0 0,
  .portDown 0 true,
  .portHoldDownEnd 0,
  .pdelaySend 0 0,
  .pdelay 0 0 none,
  .lsa 0 0 0 0 [],
  .lsaAged 0 0,
  .addressClaim 0 0,
  .claim 0 0 0 0,
  .frameForward 0 fabFrame true,
  .sync 0 0 0 0 0 0 0,
  .announce rank,
  .ptpSync 0 true 0,
  .safeMessageSend 1,
  .safeFrame 0 0 1 0 0 0 0 0 [] true,
  .safeCopyMissing 1 0,
  .safeConnectionTimeout 1 0,
  .fastSummary 0 summ true true,
  .slowRecordHead 0 headRec true,
  .bodyRequest 0 0,
  .bodyPart 0 0 0 [],
  .headRequest 0 0,
  .recordRequest 0 0,
  .allocationCompute true,
  .admitIssue 0,
  .removeIssue 0,
  .membershipViewTransfer 0 0 0 [] {},
  .plantCommandReceived order true,
  .commandRequest 0 0,
  .mode 0 0,
  .plantPower 0 0,
  .stringLimit 0 0,
  .tieMask 0 0,
  .busVoltage 0 0,
  .plantParam 0 0,
  .admitMember 0 0,
  .remove 0 0,
  .plantPowerRequest 0 0,
  .balancingGainRequest 0 0,
  .restConcurrencyRequest 0 0,
  .stringLimitRequest 0 0 0,
  .plantModeRequest 0 0 0,
  .plantBusVoltageRequest 0 0 0,
  .heartbeatToggle true,
  .partnerHeartbeatLost true,
  .takeoverAcquisition 0 0,
  .alive 0 0 0 0 0,
  .checkpoint none true 0,
  .content 0 summ 0,
  .takebackReady true,
  .takeback 0 0,
  .phaseRelease true 0 true,
  .release 0 0,
  .partnerAccept 0 true,
  .request 0 0 0 0 true 0,
  .pairConfig [] 0 0 0,
  .inputSample 0 0 0,
  .ptOvertemp 0 0,
  .testPulse 0]

theorem test_wf_wellFormed2 : ∀ i ∈ wellFormed2, i.wf = true := by decide +kernel

/-- One command of each row, its operands in range. -/
def wellFormed3 : List Instr := [
  .safetyInputDemand 0 0,
  .ventilationDemand 0,
  .coilOpen 0,
  .holdRelease 0,
  .switchRead 0 0 0 true,
  .coilSwitchTest 0 0 true,
  .contactorPickup 0,
  .contactorDropout 0,
  .weldedContact 0,
  .contactorLost 0,
  .contactorHeld 0,
  .ptConversion 0 none,
  .fanSpeed 0 0,
  .fanLost 0,
  .fanRecovered 0,
  .coolStatus 0 [],
  .coolantUnitLost 0,
  .faultRaise .busBound [],
  .countingEvent .busBound [],
  .faultAcknowledge 0 0,
  .faultClear 0 0,
  .faultInjection 0 0 0 0,
  .injectionEnd none,
  .recordCreate 0 0 0 [],
  .recorderClear 0 0 0 0,
  .hello 0 0 0 0 true,
  .finish frame cert,
  .close frame,
  .keepalive frame,
  .mailboxRead frame 0 0 0 0,
  .readSet frame [],
  .write frame { idx := 1, sub := 1, len := 1, value := 1 },
  .writeSet frame [],
  .ack frame,
  .abort frame,
  .relayFrame 0 0 0,
  .relayReply 0,
  .expertUnlock frame 0,
  .addressConfigEffect 0,
  .canFrameReceived 0 canFrame 0,
  .canQueueDrain 0,
  .canPeriodic 0,
  .canObjectDataWrite frame 0 0,
  .canObjectTableWrite frame 0,
  .canTransmit 0 .lost,
  .canBusOffRecovery 0,
  .canObjectResume frame 0,
  .canChannelRestart 0,
  .canIntegration 0,
  .imageHeader frame 0 0,
  .imageChunk frame 0,
  .imageBodyCheck true true,
  .activate frame,
  .confirm frame,
  .trustAnchorsWrite frame 0,
  .resetButton true,
  .resetN true,
  .resetInputStuck true,
  .stuckInputClear true,
  .resetRequest frame]

theorem test_wf_wellFormed3 : ∀ i ∈ wellFormed3, i.wf = true := by decide +kernel

/-- One command of each row, its operands in range. -/
def wellFormed4 : List Instr := [
  .brownOutWarning 0,
  .brownOutFlushDone 0,
  .supplyRecovery 0 0,
  .powerFail true,
  .supplyHigh true,
  .traceRecord none,
  .hostPortLinkChange true 0,
  .bootExit,
  .slowEpochBoundary,
  .prechargeTimeout,
  .shutdownOpen,
  .shutdownTimeout,
  .lockoutArmExpired,
  .maintenanceTaskComplete,
  .plantJoinTimeout,
  .commissionC4Check,
  .commissionC6Start,
  .read,
  .sweepClose,
  .lineTakeover,
  .bleed,
  .alarmLoopBroken,
  .loopSourceTakeover,
  .isolatedStreamLoss,
  .streamRecovered,
  .sectionClockHoldover,
  .sectionClockReturn,
  .sectionRestart,
  .hallRecovered,
  .injectorStart,
  .injectorStop,
  .isoBackoffEnd,
  .binStart,
  .binWindowEnd,
  .binWrite,
  .passStart,
  .qualifyingRest,
  .restCorrection,
  .referenceAged,
  .estimatorInit,
  .leadValuesMissing,
  .balancingDecision,
  .syncHoldover,
  .syncGlide,
  .syncGlideEnd,
  .softStart,
  .softStopRamp,
  .dipPulseEnd,
  .dipFloorRelease,
  .prechargeStageComplete,
  .kPreRelease,
  .fastTripRestart,
  .senseMismatchTimeout,
  .lsaRefresh,
  .claimListenEnd,
  .claimWaitEnd,
  .addressEstablished,
  .announceSend,
  .grandmasterElection,
  .timeHoldover]

theorem test_wf_wellFormed4 : ∀ i ∈ wellFormed4, i.wf = true := by decide +kernel

/-- One command of each row, its operands in range. -/
def wellFormed5 : List Instr := [
  .fastSummarySend,
  .slowRecordSend,
  .provisionalView,
  .viewClose,
  .slowViewClose,
  .hashCheck,
  .allocHoldWithdraw,
  .viewFounding,
  .membershipLeave,
  .restSlotStart,
  .restSlotEnd,
  .heartbeatLapse,
  .heartbeatPresent,
  .aliveTimeout,
  .takebackStart,
  .takebackHandover,
  .takebackEnd,
  .walnutSweepEvaluation,
  .foxgloveOcDemand,
  .siDiscrepancy,
  .si6Cancelled,
  .contactorForcedOpen,
  .uvEscalation,
  .dischargeStopRelease,
  .tripRelease,
  .thermalDemand,
  .thermalFallback,
  .coolDemand,
  .collectorSelf,
  .injectionAbort,
  .recordCommit,
  .recorderClearDone,
  .journalCommit,
  .compactionStart,
  .compactionComplete,
  .relayEntryExpiry,
  .sessionTimeout,
  .expertUnlockExpiry,
  .transferTimeout,
  .capture,
  .captureBusy,
  .writeEffect,
  .fragmentTimeout,
  .loadAbandoned,
  .trialTimeExpiry,
  .clockFail,
  .clockRecovery,
  .watchdogReset,
  .alarmLoopRestored,
  .bootstrapWindowEnd]

theorem test_wf_wellFormed5 : ∀ i ∈ wellFormed5, i.wf = true := by decide +kernel

/-! ## The premises of the statements -/

/-- The premises of ArchitectureCommandsTakeEffect can be met, clause by clause. -/
theorem witness_ArchitectureCommandsTakeEffect :
    (∃ (s : State) (cls : Nat) (master : Nat) (tReq : Nat) (tGrant : Nat) (beats : Nat) (start : _) (grant : _) (need : _),
        s.m.clk.procRunning = true ∧ 1 ≤ cls ∧ cls ≤ 5 ∧ start = max tReq (earliestGrant cls (aget s.m.arch.grants cls [])) ∧
        grant = max (max tGrant start) s.m.arch.busyTo ∧ need = aget s.m.arch.left master 0 + beats) ∧
    (∃ (s : State) (core : Nat), s.m.clk.procRunning = true ∧ core < 8 ∧ s.m.arch.lost.contains core = false) ∧
    (∃ (s : State) (part : Nat) (gen : Nat) (epoch : Nat), s.m.clk.procRunning = true ∧ s.m.arch.gen ≤ gen ∧ (∀ r,
        aget? s.m.arch.accepted part = some r → r.epoch ≤ epoch)) ∧
    (∃ (s : State) (part : Nat) (gen : Nat) (epoch : Nat), s.m.clk.procRunning = true ∧ (gen < s.m.arch.gen ∨ (∃ r,
        aget? s.m.arch.accepted part = some r ∧ epoch < r.epoch))) :=
  ⟨⟨{ m := { live with clk := { live.clk with procRunning := true } } }, 1, 3, 5, 2000, 40,
      (max 5 (earliestGrant 1 (aget live.arch.grants 1 []))),
      (max (max 2000 (max 5 (earliestGrant 1 (aget live.arch.grants 1 [])))) live.arch.busyTo), (aget live.arch.left 3 0 + 40),
      by decide +kernel, by decide +kernel, by decide +kernel, by decide +kernel, by decide +kernel, by decide +kernel⟩,
   ⟨{ m := { live with clk := { live.clk with procRunning := true } } }, 7, by decide +kernel, by decide +kernel, by decide +kernel⟩,
   ⟨{ m := { live with clk := { live.clk with procRunning := true }, arch := { live.arch with gen := 1 } } }, 0, 1, 0, by decide +kernel,
       by decide +kernel, fun _ h => absurd (h.symm.trans rfl) (Option.some_ne_none _)⟩,
   ⟨{ m := { live with clk := { live.clk with procRunning := true }, arch := { live.arch with gen := 1 } } }, 0, 0, 0, by decide +kernel,
       .inl (by decide +kernel)⟩⟩

/-- The premises of ModeCommandsTakeEffect can be met, clause by clause. -/
theorem witness_ModeCommandsTakeEffect :
    (∃ (s : State) (code : Nat) (role : Nat) (dest : _), s.m.clk.procRunning = true ∧ Mode.ofCode code = some dest ∧
        s.m.requestStatus dest role = 1 ∧ s.m.paired = true ∧ s.m.partnerMissing = false ∧
        (s.m.mode.mode = .commission → dest ≠ .standby)) ∧
    (∃ (s : State) (code : Nat) (role : Nat) (dest : _), s.m.clk.procRunning = true ∧ Mode.ofCode code = some dest ∧
        s.m.requestStatus dest role = 1 ∧ s.m.mode.mode = .safeHold ∧ dest ≠ .safeHold ∧ s.m.saf.demF = 0) ∧
    (∃ (s : State) (code : Nat), s.m.clk.procRunning = true ∧ Mode.ofCode code = none) ∧
    (∃ (s : State) (role : Nat), s.m.clk.procRunning = true ∧ 2 ≤ role ∧ s.m.stepActive 7 = true) ∧
    (∃ (s : State) (role : Nat) (unlocked : Bool), s.m.clk.procRunning = true ∧ (role < 2 ∨ unlocked = false)) ∧
    (∃ (s : State), s.m.clk.procRunning = true ∧ s.m.mode.mode = .precharge ∧ s.m.inModeFor (1000000 * s.m.par 0x2015 0) = true) ∧
    (∃ (s : State), s.m.clk.procRunning = true ∧ s.m.mode.mode = .commission ∧ s.m.mode.c6Running = true ∧ s.m.mode.c6Stopping = false ∧
        s.m.conv.loop = .precharge ∧ s.m.elapsed s.m.mode.c6At (1000000 * s.m.par 0x2015 0) = true) ∧
    (∃ (s : State), s.m.clk.procRunning = true ∧ s.m.stopping = true ∧ s.m.mode.opening = 0 ∧
        s.m.elapsed? s.m.mode.zeroSince 5000000 = true) ∧
    (∃ (s : State), s.m.clk.procRunning = true ∧ s.m.mode.mode = .shutdown ∧ s.m.mode.opening = 0 ∧
        s.m.inModeFor (1000000 * s.m.par 0x2014 0) = true) ∧
    (∃ (s : State), s.m.clk.procRunning = true ∧ s.m.mode.mode = .commission ∧ s.m.mode.c6Stopping = true ∧ s.m.mode.opening = 0 ∧
        s.m.elapsed s.m.mode.c6At (1000000 * s.m.par 0x2014 0) = true) ∧
    (∃ (s : State) (o : _), s.m.clk.procRunning = true ∧ s.m.mode.mode = .maintain ∧ (s.m.mode.dueRun = false ∨ s.m.mode.taskReq = 0) ∧
        s.m.taskOutcome = some o) ∧
    (∃ (s : State) (o : _), s.m.clk.procRunning = true ∧ s.m.mode.mode = .maintain ∧ s.m.mode.dueRun = true ∧ s.m.mode.taskReq ≠ 0 ∧
        s.m.taskOutcome = some o) ∧
    (∃ (s : State), s.m.clk.procRunning = true ∧ s.m.stepActive 6 = true ∧ s.m.mode.c6Running = false ∧ s.m.mode.c6Done = false ∧
        s.m.busLive = true) ∧
    (∃ (s : State) (role : Nat), s.m.clk.procRunning = true ∧ 2 ≤ role ∧ s.m.mode.mode = .commission ∧ s.m.mode.commStep = 6 ∧
        s.m.mode.c6Running = false ∧ s.m.mode.c6Stopping = false ∧ s.m.busLive = false) ∧
    (∃ (s : State) (role : Nat), s.m.clk.procRunning = true ∧ 2 ≤ role ∧ s.m.mode.mode = .commission ∧ s.m.mode.commStep = 6 ∧
        s.m.mode.c6Running = true ∧ s.m.mode.c6Stopping = false ∧ s.m.busLive = false) ∧
    (∃ (s : State) (role : Nat), s.m.clk.procRunning = true ∧ 2 ≤ role ∧ s.m.mode.mode = .commission ∧ s.m.mode.commStep = 6 ∧
        s.m.mode.c6Stopping = true ∧ s.m.busLive = false) ∧
    (∃ (s : State) (role : Nat), s.m.clk.procRunning = true ∧ 2 ≤ role ∧ s.m.mode.mode = .commission ∧ s.m.mode.commFailed = true ∧
        s.m.mode.commStep ∈ [2, 3, 6]) ∧
    (∃ (s : State) (role : Nat), s.m.clk.procRunning = true ∧ 2 ≤ role ∧ s.m.mode.mode = .commission ∧ s.m.mode.commFailed = true ∧
        s.m.mode.commStep = 4) ∧
    (∃ (s : State) (role : Nat), s.m.clk.procRunning = true ∧ 2 ≤ role ∧ s.m.mode.mode = .commission ∧ s.m.mode.commFailed = true ∧
        s.m.mode.commStep = 5) ∧
    (∃ (s : State) (role : Nat), s.m.clk.procRunning = true ∧ 2 ≤ role ∧ s.m.mode.mode = .commission ∧ s.m.mode.commFailed = true ∧
        s.m.mode.commStep = 1 ∧ s.m.mode.c1Written ≠ 3) :=
  ⟨⟨{ m := { live with clk := { live.clk with procRunning := true }, saf := { live.saf with sw2 := 1 } } }, 2, 1, .storage,
      by decide +kernel, by decide +kernel, by decide +kernel, by decide +kernel, by decide +kernel, by decide +kernel⟩,
   ⟨{ m := { live with clk := { live.clk with procRunning := true }, mode := { live.mode with mode := .safeHold }, saf := { live.saf with demF := 0, override := 3 } } },
       3, 1, .standby, by decide +kernel, by decide +kernel, by decide +kernel, by decide +kernel, by decide +kernel, by decide +kernel⟩,
   ⟨{ m := { live with clk := { live.clk with procRunning := true } } }, 15, by decide +kernel, by decide +kernel⟩,
   ⟨{ m := { live with clk := { live.clk with procRunning := true }, mode := { live.mode with mode := .commission, commStep := 7 } } }, 2,
       by decide +kernel, by decide +kernel, by decide +kernel⟩,
   ⟨{ m := { live with clk := { live.clk with procRunning := true } } }, 0, true, by decide +kernel, .inl (by decide +kernel)⟩,
   ⟨{ m := { live with clk := { live.clk with procRunning := true }, mode := { live.mode with mode := .precharge } } }, by decide +kernel,
       by decide +kernel, by decide +kernel⟩,
   ⟨{ m := { live with clk := { live.clk with procRunning := true }, mode := { live.mode with mode := .commission, c6Running := true, c6Stopping := false }, conv := { live.conv with loop := .precharge } } },
       by decide +kernel, by decide +kernel, by decide +kernel, by decide +kernel, by decide +kernel, by decide +kernel⟩,
   ⟨{ m := { live with clk := { live.clk with procRunning := true }, mode := { live.mode with opening := 0, zeroSince := some 0, mode := .shutdown } } },
       by decide +kernel, by decide +kernel, by decide +kernel, by decide +kernel⟩,
   ⟨{ m := { live with clk := { live.clk with procRunning := true }, mode := { live.mode with mode := .shutdown, opening := 0 } } },
       by decide +kernel, by decide +kernel, by decide +kernel, by decide +kernel⟩,
   ⟨{ m := { live with clk := { live.clk with procRunning := true }, mode := { live.mode with mode := .commission, c6Stopping := true, opening := 0 } } },
       by decide +kernel, by decide +kernel, by decide +kernel, by decide +kernel, by decide +kernel⟩,
   ⟨{ m := { live with clk := { live.clk with procRunning := true }, mode := { live.mode with mode := .maintain, task := .calibrationRest } } },
       2, by decide +kernel, by decide +kernel, .inl (by decide +kernel), by decide +kernel⟩,
   ⟨{ m := { live with clk := { live.clk with procRunning := true }, mode := { live.mode with mode := .maintain, dueRun := true, task := .calibrationRest, taskReq := 1 } } },
       2, by decide +kernel, by decide +kernel, by decide +kernel, by decide +kernel, by decide +kernel⟩,
   ⟨{ m := { live with clk := { live.clk with procRunning := true }, mode := { live.mode with mode := .commission, commStep := 6, c6Running := false, c6Done := false }, meas := { live.meas with vBus := 10000000 } } },
       by decide +kernel, by decide +kernel, by decide +kernel, by decide +kernel, by decide +kernel⟩,
   ⟨{ m := { live with clk := { live.clk with procRunning := true }, mode := { live.mode with mode := .commission, commStep := 6, c6Running := false, c6Stopping := false } } },
       2, by decide +kernel, by decide +kernel, by decide +kernel, by decide +kernel, by decide +kernel, by decide +kernel,
       by decide +kernel⟩,
   ⟨{ m := { live with clk := { live.clk with procRunning := true }, mode := { live.mode with mode := .commission, commStep := 6, c6Running := true, c6Stopping := false } } },
       2, by decide +kernel, by decide +kernel, by decide +kernel, by decide +kernel, by decide +kernel, by decide +kernel,
       by decide +kernel⟩,
   ⟨{ m := { live with clk := { live.clk with procRunning := true }, mode := { live.mode with mode := .commission, commStep := 6, c6Stopping := true } } },
       2, by decide +kernel, by decide +kernel, by decide +kernel, by decide +kernel, by decide +kernel, by decide +kernel⟩,
   ⟨{ m := { live with clk := { live.clk with procRunning := true }, mode := { live.mode with mode := .commission, commFailed := true, commStep := 2 } } },
       2, by decide +kernel, by decide +kernel, by decide +kernel, by decide +kernel, by decide +kernel⟩,
   ⟨{ m := { live with clk := { live.clk with procRunning := true }, mode := { live.mode with mode := .commission, commFailed := true, commStep := 4 } } },
       2, by decide +kernel, by decide +kernel, by decide +kernel, by decide +kernel, by decide +kernel⟩,
   ⟨{ m := { live with clk := { live.clk with procRunning := true }, mode := { live.mode with mode := .commission, commFailed := true, commStep := 5 } } },
       2, by decide +kernel, by decide +kernel, by decide +kernel, by decide +kernel, by decide +kernel⟩,
   ⟨{ m := { live with clk := { live.clk with procRunning := true }, mode := { live.mode with mode := .commission, commFailed := true, commStep := 1 } } },
       2, by decide +kernel, by decide +kernel, by decide +kernel, by decide +kernel, by decide +kernel, by decide +kernel⟩⟩

/-- The premises of PowerUpAndBoundariesTakeEffect can be met, clause by clause. -/
theorem witness_PowerUpAndBoundariesTakeEffect :
    (∃ (s : State), s.m.saf.switchesRead = false) ∧
    (∃ (s : State), s.m.canRelease = true) ∧
    (∃ (s : State), s.m.clk.procRunning = true ∧ s.m.mode.recovery = false ∧ s.m.mode.ladder = 8) ∧
    (∃ (s : State) (p : _), s.m.clk.procRunning = true ∧ s.m.mode.recovery = false ∧ s.m.mode.mode ≠ .boot ∧ s.m.clk.deferred = [] ∧
        s.m.plant.cmds = [] ∧ s.m.plant.transfer = none ∧ s.m.mode.pendingModes = [p] ∧ p.effect ≤ s.m.nextMilli.fastEpoch ∧ p.rank = 0 ∧
        autoRow s.m.mode.mode p.dest = true) ∧
    (∃ (s : State) (p : _), s.m.clk.procRunning = true ∧ s.m.mode.recovery = false ∧ s.m.mode.mode ≠ .boot ∧ s.m.clk.deferred = [] ∧
        s.m.plant.cmds = [] ∧ s.m.plant.transfer = none ∧ s.m.mode.pendingModes = [p] ∧ p.effect ≤ s.m.nextMilli.fastEpoch ∧
        p.cause = .hostRequest ∧ (hostRow s.m.mode.mode p.dest).isSome = true ∧ p.dest ∈ [.storage, .shutdown, .connected]) ∧
    (∃ (s : State) (p : _), s.m.clk.procRunning = true ∧ s.m.mode.recovery = false ∧ s.m.mode.mode ≠ .boot ∧ s.m.clk.deferred = [] ∧
        s.m.plant.cmds = [] ∧ s.m.plant.transfer = none ∧ s.m.mode.pendingModes = [p] ∧ p.effect ≤ s.m.nextMilli.fastEpoch ∧
        p.cause = .plantCommand ∧ plantRow s.m.mode.mode p.dest = true ∧ p.dest ∈ [.shutdown, .connected]) ∧
    (∃ (s : State) (p : _), s.m.clk.procRunning = true ∧ s.m.mode.recovery = false ∧ s.m.mode.mode ≠ .boot ∧ s.m.clk.deferred = [] ∧
        s.m.plant.cmds = [] ∧ s.m.plant.transfer = none ∧ s.m.mode.pendingModes = [p] ∧ p.effect ≤ s.m.nextMilli.fastEpoch ∧
        p.cause = .hostRequest ∧ hostRow s.m.mode.mode p.dest = none) ∧
    (∃ (s : State) (p : _), s.m.clk.procRunning = true ∧ s.m.mode.recovery = false ∧ s.m.mode.mode ≠ .boot ∧ s.m.clk.deferred = [] ∧
        s.m.plant.cmds = [] ∧ s.m.plant.transfer = none ∧ s.m.mode.pendingModes = [p] ∧ s.m.nextMilli.fastEpoch < p.effect) ∧
    (∃ (s : State) (p : _) (q : _), s.m.clk.procRunning = true ∧ s.m.mode.recovery = false ∧ s.m.mode.mode ≠ .boot ∧ s.m.clk.deferred = [] ∧
        s.m.plant.cmds = [] ∧ s.m.plant.transfer = none ∧ s.m.mode.pendingModes = [p, q] ∧ p.effect ≤ s.m.nextMilli.fastEpoch ∧
        q.effect ≤ s.m.nextMilli.fastEpoch ∧ p.cause = .hostRequest ∧ q.rank = 0 ∧ autoRow s.m.mode.mode q.dest = true ∧
        hostRow q.dest p.dest = none) ∧
    (∃ (s : State) (al : _), s.m.clk.procRunning = true ∧ s.m.mode.recovery = false ∧ s.m.clk.deferred = [] ∧ s.m.plant.cmds = [] ∧
        s.m.plant.transfer = none ∧ s.m.plant.isMember = true ∧ aget? s.m.plant.outcomes s.m.nextMilli.fastEpoch = some 0 ∧
        s.m.allocOf s.m.nextMilli.fastEpoch = some al) ∧
    (∃ (s : State), s.m.clk.procRunning = true ∧ s.m.mode.recovery = false ∧ s.m.clk.deferred = [] ∧ s.m.plant.cmds = [] ∧
        s.m.plant.transfer = none ∧ s.m.plant.isMember = false) ∧
    (∃ (s : State), s.m.elapsed? s.m.clk.arm 300000000000 = true) :=
  ⟨⟨{ m := { live with saf := { live.saf with switchesRead := false } } }, by decide +kernel⟩,
   ⟨{ m := { live with clk := { live.clk with procRunning := false, powered := true, buttonHeld := false, resetNHeld := false, clockFail := false }, saf := { live.saf with switchesRead := true } } },
       by decide +kernel⟩,
   ⟨{ m := { live with clk := { live.clk with procRunning := true }, mode := { live.mode with recovery := false, ladder := 8 } } },
       by decide +kernel, by decide +kernel, by decide +kernel⟩,
   ⟨{ m := { live with clk := { live.clk with procRunning := true, deferred := [] }, mode := { live.mode with recovery := false, mode := .shutdown, pendingModes := [{ dest := .standby, cause := .completion, effect := 0, fromPartner := false }] }, plant := { live.plant with transfer := none, cmds := [] } } },
       { dest := .standby, cause := .completion, effect := 0, fromPartner := false }, by decide +kernel, by decide +kernel,
       by decide +kernel, by decide +kernel, by decide +kernel, by decide +kernel, by decide +kernel, by decide +kernel, by decide +kernel,
       by decide +kernel⟩,
   ⟨{ m := { live with clk := { live.clk with procRunning := true, deferred := [] }, mode := { live.mode with recovery := false, mode := .standby, pendingModes := [{ dest := .storage, cause := .hostRequest, effect := 0, fromPartner := false }] }, plant := { live.plant with transfer := none, cmds := [] } } },
       { dest := .storage, cause := .hostRequest, effect := 0, fromPartner := false }, by decide +kernel, by decide +kernel,
       by decide +kernel, by decide +kernel, by decide +kernel, by decide +kernel, by decide +kernel, by decide +kernel, by decide +kernel,
       by decide +kernel, by decide +kernel⟩,
   ⟨{ m := { live with clk := { live.clk with procRunning := true, deferred := [] }, mode := { live.mode with recovery := false, mode := .dispatch, pendingModes := [{ dest := .shutdown, cause := .plantCommand, effect := 0, fromPartner := false }] }, plant := { live.plant with transfer := none, cmds := [] } } },
       { dest := .shutdown, cause := .plantCommand, effect := 0, fromPartner := false }, by decide +kernel, by decide +kernel,
       by decide +kernel, by decide +kernel, by decide +kernel, by decide +kernel, by decide +kernel, by decide +kernel, by decide +kernel,
       by decide +kernel, by decide +kernel⟩,
   ⟨{ m := { live with clk := { live.clk with procRunning := true, deferred := [] }, mode := { live.mode with recovery := false, mode := .standby, pendingModes := [{ dest := .dispatch, cause := .hostRequest, effect := 0, fromPartner := false }] }, plant := { live.plant with transfer := none, cmds := [] } } },
       { dest := .dispatch, cause := .hostRequest, effect := 0, fromPartner := false }, by decide +kernel, by decide +kernel,
       by decide +kernel, by decide +kernel, by decide +kernel, by decide +kernel, by decide +kernel, by decide +kernel, by decide +kernel,
       by decide +kernel⟩,
   ⟨{ m := { live with clk := { live.clk with procRunning := true, deferred := [] }, mode := { live.mode with recovery := false, mode := .standby, pendingModes := [{ dest := .storage, cause := .hostRequest, effect := 10 ^ 30, fromPartner := false }] }, plant := { live.plant with transfer := none, cmds := [] } } },
       { dest := .storage, cause := .hostRequest, effect := 10 ^ 30, fromPartner := false }, by decide +kernel, by decide +kernel,
       by decide +kernel, by decide +kernel, by decide +kernel, by decide +kernel, by decide +kernel, by decide +kernel⟩,
   ⟨{ m := { live with clk := { live.clk with procRunning := true, deferred := [] }, mode := { live.mode with recovery := false, mode := .dispatch, pendingModes := [{ dest := .busForm, cause := .hostRequest, effect := 0, fromPartner := false }, { dest := .shutdown, cause := .completion, effect := 0, fromPartner := false }] }, plant := { live.plant with transfer := none, cmds := [] } } },
       { dest := .busForm, cause := .hostRequest, effect := 0, fromPartner := false },
       { dest := .shutdown, cause := .completion, effect := 0, fromPartner := false }, by decide +kernel, by decide +kernel,
       by decide +kernel, by decide +kernel, by decide +kernel, by decide +kernel, by decide +kernel, by decide +kernel, by decide +kernel,
       by decide +kernel, by decide +kernel, by decide +kernel, by decide +kernel⟩,
   ⟨{ m := { live with clk := { live.clk with procRunning := true, deferred := [] }, mode := { live.mode with recovery := false }, plant := { live.plant with transfer := none, isMember := true, cmds := [], outcomes := [(live.nextMilli.fastEpoch, 0)], allocs := [{ epoch := live.nextMilli.fastEpoch, entries := [], hash := 1, short := 0 }] } } },
       { epoch := live.nextMilli.fastEpoch, entries := [], hash := 1, short := 0 }, by decide +kernel, by decide +kernel, by decide +kernel,
       by decide +kernel, by decide +kernel, by decide +kernel, by decide +kernel, by decide +kernel⟩,
   ⟨{ m := { live with clk := { live.clk with procRunning := true }, mode := { live.mode with recovery := false }, plant := { live.plant with transfer := none, isMember := false } } },
       by decide +kernel, by decide +kernel, by decide +kernel, by decide +kernel, by decide +kernel, by decide +kernel⟩,
   ⟨{ m := { live with clk := { live.clk with arm := some 0 } } }, by decide +kernel⟩⟩

/-- The premises of SweepCommandsTakeEffect can be met, clause by clause. -/
theorem witness_SweepCommandsTakeEffect :
    (∃ (s : State) (a : Nat) (r : PodReply) (old : _), s.m.clk.procRunning = true ∧ s.m.replyFits a r = true ∧
        aget? s.m.chain.cur a = some old ∧ old.data ≠ r) ∧
    (∃ (s : State) (a : Nat) (r : PodReply), s.m.clk.procRunning = true ∧ s.m.paired = true ∧ s.m.replyFits a r = true ∧
        aget? s.m.chain.cur a = none) ∧
    (∃ (s : State) (a : Nat), s.m.clk.procRunning = true ∧ s.m.chain.inSweep = true ∧ s.m.chainWindow = true ∧ s.m.isMaster = true ∧
        a ∈ s.m.podAddrs ∧ aget? s.m.chain.cur a = none ∧ aget s.m.chain.tries a 0 < 2) ∧
    (∃ (s : State) (a : Nat), s.m.clk.procRunning = true ∧ 2 ≤ aget s.m.chain.tries a 0) ∧
    (∃ (s : State) (epoch : Nat) (skew : Nat), s.m.clk.procRunning = true ∧ s.m.sweeps epoch = true ∧
        (s.m.chain.inSweep && s.m.chain.epoch == epoch && s.m.chain.closed) = false ∧ skew ≤ 2000 ∧ s.m.chain.reverseEpoch ≠ some epoch ∧
        s.m.chain.serials ≠ []) ∧
    (∃ (s : State) (epoch : Nat), s.m.clk.procRunning = true ∧ s.m.chain.reverseEpoch = some epoch) ∧
    (∃ (s : State), s.m.clk.procRunning = true ∧ s.m.chain.inSweep = true ∧ s.m.chainWindow = true ∧
        (s.m.paired = false ∨ s.m.isMaster = false)) :=
  ⟨⟨{ m := { live with clk := { live.clk with procRunning := true }, chain := { live.chain with serials := [1, 2], epoch := 0, inSweep := true, cur := [(1, { missing := false, port := 2, data := { reply with status := 1 } })] } } },
      1, reply, { missing := false, port := 2, data := { reply with status := 1 } }, by decide +kernel, by decide +kernel,
      by decide +kernel, by decide +kernel⟩,
   ⟨{ m := { live with clk := { live.clk with procRunning := true }, saf := { live.saf with sw2 := 1 }, chain := { live.chain with serials := [1], epoch := 0, inSweep := true, cur := [] } } },
       1, reply, by decide +kernel, by decide +kernel, by decide +kernel, by decide +kernel⟩,
   ⟨{ m := { live with now := 1000000005000000, fabBase := 0, clk := { live.clk with procRunning := true }, chain := { live.chain with inSweep := true, lastEpoch := 0, epoch := 0, serials := [1], cur := [], tries := [] } } },
       1, by decide +kernel, by decide +kernel, by decide +kernel, by decide +kernel, by decide +kernel, by decide +kernel,
       by decide +kernel⟩,
   ⟨{ m := { live with clk := { live.clk with procRunning := true }, chain := { live.chain with tries := [(1, 2)] } } }, 1,
       by decide +kernel, by decide +kernel⟩,
   ⟨{ m := { live with clk := { live.clk with procRunning := true }, chain := { live.chain with serials := [1], inSweep := false, reverseEpoch := none } } },
       100000000, 20, by decide +kernel, by decide +kernel, by decide +kernel, by decide +kernel, by decide +kernel, by decide +kernel⟩,
   ⟨{ m := { live with clk := { live.clk with procRunning := true }, chain := { live.chain with reverseEpoch := some 5 } } }, 5,
       by decide +kernel, by decide +kernel⟩,
   ⟨{ m := { live with now := 1000000005000000, fabBase := 0, clk := { live.clk with procRunning := true }, chain := { live.chain with inSweep := true, lastEpoch := 0, epoch := 0, serials := [1, 2], cur := [] }, saf := { live.saf with sw2 := 0 } } },
       by decide +kernel, by decide +kernel, by decide +kernel, .inl (by decide +kernel)⟩⟩

/-- The premises of ChainUpkeepTakesEffect can be met, clause by clause. -/
theorem witness_ChainUpkeepTakesEffect :
    (∃ (s : State), s.m.clk.procRunning = true ∧ (s.m.mode.ladder = 7 ∨ s.m.stepActive 2 = true)) ∧
    (∃ (s : State), s.m.clk.procRunning = true ∧ s.m.mode.ladder = 7 ∧ s.m.mode.commRec.isSome = true) ∧
    (∃ (s : State), s.m.clk.procRunning = true ∧ s.m.mode.ladder ≠ 7 ∧ s.m.stepActive 2 = true) ∧
    (∃ (s : State) (a : Nat), s.m.clk.procRunning = true ∧ s.m.chainWindow = true ∧ a ∈ s.m.podAddrs ∧ a = s.m.chain.delayNext ∧
        s.m.elapsed (s.m.chain.echoAt.getD 0) second = true) ∧
    (∃ (s : State), s.m.clk.procRunning = true ∧ s.m.chainWindow = true ∧ s.m.chain.configDue = true) ∧
    (∃ (s : State), s.m.clk.procRunning = true ∧ s.m.chainWindow = true ∧ s.m.chain.configDue = false ∧ s.m.isMaster = true ∧
        s.m.chain.brk = none) ∧
    (∃ (s : State), s.m.clk.procRunning = true ∧ s.m.stepActive 4 = true ∧ s.m.c4Bad = true) ∧
    (∃ (s : State), s.m.clk.procRunning = true ∧ s.m.stepActive 4 = true ∧ s.m.c4Bad = false ∧ s.m.rotationDone = true ∧
        s.m.iso.c4Reading = true) ∧
    (∃ (s : State), s.m.clk.procRunning = true ∧ s.m.isB = true ∧ s.m.partnerMissing = true ∧ 2 ≤ s.m.chain.noSample) ∧
    (∃ (s : State), s.m.clk.procRunning = true ∧ s.m.paired = true ∧ s.m.chain.takenOver = true ∧ s.m.chain.brk = none ∧
        (if s.m.isA = true then s.m.mode.mode ≠ .boot else s.m.partnerMissing = false)) :=
  ⟨⟨{ m := { live with clk := { live.clk with procRunning := true }, mode := { live.mode with ladder := 7 } } }, by decide +kernel,
      .inl rfl⟩,
   ⟨{ m := { live with clk := { live.clk with procRunning := true }, mode := { live.mode with ladder := 7, commRec := some { pods := [5], switches := (0, 0, 0), profile := 0, role := 0, partner := 0 } } } },
       by decide +kernel, by decide +kernel, by decide +kernel⟩,
   ⟨{ m := { live with clk := { live.clk with procRunning := true }, mode := { live.mode with mode := .commission, commStep := 2, ladder := 9 } } },
       by decide +kernel, by decide +kernel, by decide +kernel⟩,
   ⟨{ m := { live with now := 1000000005000000, fabBase := 0, clk := { live.clk with procRunning := true }, chain := { live.chain with lastEpoch := 0, epoch := 0, serials := [1], delayNext := 1, echoAt := none } } },
       1, by decide +kernel, by decide +kernel, by decide +kernel, by decide +kernel, by decide +kernel⟩,
   ⟨{ m := { live with now := 1000000005000000, fabBase := 0, clk := { live.clk with procRunning := true }, chain := { live.chain with configDue := true, lastEpoch := 0, epoch := 0, serials := [1, 2] } } },
       by decide +kernel, by decide +kernel, by decide +kernel⟩,
   ⟨{ m := { live with now := 1000000005000000, fabBase := 0, clk := { live.clk with procRunning := true }, chain := { live.chain with configDue := false, brk := none, lastEpoch := 0, epoch := 0, serials := [1], reconfig := [1] } } },
       by decide +kernel, by decide +kernel, by decide +kernel, by decide +kernel, by decide +kernel⟩,
   ⟨{ m := { live with clk := { live.clk with procRunning := true }, mode := { live.mode with mode := .commission, commStep := 4 }, chain := { live.chain with ow := [(1, { opened := [3] })], serials := [1] } } },
       by decide +kernel, by decide +kernel, by decide +kernel⟩,
   ⟨{ m := { live with clk := { live.clk with procRunning := true }, mode := { live.mode with mode := .commission, commStep := 4 }, iso := { live.iso with c4Reading := true }, chain := { live.chain with serials := [1], ow := [(1, { tested := List.range 17 })], plausA := [] } } },
       by decide +kernel, by decide +kernel, by decide +kernel, by decide +kernel, by decide +kernel⟩,
   ⟨{ m := { live with clk := { live.clk with procRunning := true }, saf := { live.saf with sw2 := 2 }, pair := { live.pair with lost := true }, chain := { live.chain with noSample := 2 } } },
       by decide +kernel, by decide +kernel, by decide +kernel, by decide +kernel⟩,
   ⟨{ m := { live with clk := { live.clk with procRunning := true }, saf := { live.saf with sw2 := 1 }, chain := { live.chain with takenOver := true, brk := none } } },
       by decide +kernel, by decide +kernel, by decide +kernel, by decide +kernel, by decide +kernel⟩⟩

/-- The premises of StringMeasurementTakesEffect can be met, clause by clause. -/
theorem witness_StringMeasurementTakesEffect :
    (∃ (s : State), s.m.clk.procRunning = true ∧ 3 ≤ s.m.meas.lostRun ∧ s.m.meas.streamLost = false) ∧
    (∃ (s : State), s.m.clk.procRunning = true ∧ s.m.meas.streamLost = true ∧ 1000 ≤ s.m.meas.goodRun) ∧
    (∃ (s : State), s.m.clk.procRunning = true ∧ s.m.meas.goodRun < 1000) ∧
    (∃ (s : State) (i : Int), 0 < i ∧ s.m.clk.powered = true) ∧
    (∃ (s : State) (i : Int), i ≤ 0 ∧ s.m.clk.powered = true) ∧
    (∃ (s : State), s.m.clk.powered = true ∧ s.m.meas.ownOsc = false) ∧
    (∃ (s : State), s.m.clk.powered = true ∧ s.m.meas.ownOsc = true) ∧
    (∃ (s : State) (t : _), s.m.clk.procRunning = true ∧ s.m.meas.hallIn = some t ∧ t + second ≤ s.m.meas.hallT) ∧
    (∃ (s : State) (t : _), s.m.clk.procRunning = true ∧ s.m.meas.hallIn = some t ∧ s.m.meas.hallT < t + second) ∧
    (∃ (s : State) (line : Nat) (p : _), s.m.clk.powered = true ∧ s.m.prof = some p ∧ line < 5) :=
  ⟨⟨{ m := { live with clk := { live.clk with procRunning := true }, meas := { live.meas with lostRun := 3, streamLost := false } } },
      by decide +kernel, by decide +kernel, by decide +kernel⟩,
   ⟨{ m := { live with clk := { live.clk with procRunning := true }, meas := { live.meas with streamLost := true, goodRun := 1000 } } },
       by decide +kernel, by decide +kernel, by decide +kernel⟩,
   ⟨{ m := { live with clk := { live.clk with procRunning := true }, meas := { live.meas with goodRun := 999 } } }, by decide +kernel,
       by decide +kernel⟩,
   ⟨{ m := { live with clk := { live.clk with powered := true } } }, 1, by decide +kernel, by decide +kernel⟩,
   ⟨{ m := { live with clk := { live.clk with powered := true } } }, 0, by decide +kernel, by decide +kernel⟩,
   ⟨{ m := { live with clk := { live.clk with powered := true }, meas := { live.meas with ownOsc := false } } }, by decide +kernel,
       by decide +kernel⟩,
   ⟨{ m := { live with clk := { live.clk with powered := true, procRunning := true }, meas := { live.meas with ownOsc := true, qd := 700, oscQ := 300 } } },
       by decide +kernel, by decide +kernel⟩,
   ⟨{ m := { live with clk := { live.clk with procRunning := true }, meas := { live.meas with hallIn := some 5, hallT := 2000000000 } } },
       5, by decide +kernel, by decide +kernel, by decide +kernel⟩,
   ⟨{ m := { live with clk := { live.clk with procRunning := true }, meas := { live.meas with hallIn := some 5, hallT := 500 } } }, 5,
       by decide +kernel, by decide +kernel, by decide +kernel⟩,
   ⟨{ m := { live with clk := { live.clk with powered := true }, saf := { live.saf with profileOk := true, profile := 0 } } }, 4,
       ((live.prof).getD prof0), by decide +kernel, by decide +kernel, by decide +kernel⟩⟩

/-- The premises of InjectorCommandsTakeEffect can be met, clause by clause. -/
theorem witness_InjectorCommandsTakeEffect :
    (∃ (s : State), s.m.clk.procRunning = true ∧ s.m.iso.state = .idle ∧ s.m.eligible = true ∧ 5 ≤ s.m.slowEpoch ∧
        s.m.electedIn (s.m.slowEpoch - 5) = true ∧ s.m.electedIn (s.m.slowEpoch - 4) = true) ∧
    (∃ (s : State), s.m.clk.procRunning = true ∧ (s.m.iso.state = .injecting ∨ s.m.iso.state = .paused) ∧
        (s.m.slowEpoch < 4 ∨ s.m.electedIn (s.m.slowEpoch - 4) = false)) ∧
    (∃ (s : State), s.m.clk.procRunning = true ∧ 4 ≤ s.m.slowEpoch ∧ s.m.electedIn (s.m.slowEpoch - 4) = true) ∧
    (∃ (s : State) (corr : Nat) (uncorr : Nat), s.m.clk.procRunning = true ∧ s.m.iso.state = .injecting ∧
        s.m.elapsed? s.m.iso.halfAt second = true ∧ 10 * uncorr ≤ 3 * corr) ∧
    (∃ (s : State) (corr : Nat) (uncorr : Nat), s.m.clk.procRunning = true ∧ s.m.iso.state = .injecting ∧
        s.m.elapsed? s.m.iso.halfAt second = true ∧ 3 * corr < 10 * uncorr ∧ s.m.iso.foreign = 0) ∧
    (∃ (s : State) (corr : Nat) (uncorr : Nat), s.m.clk.procRunning = true ∧ s.m.iso.state = .injecting ∧
        s.m.elapsed? s.m.iso.halfAt second = true ∧ 3 * corr < 10 * uncorr ∧ 1 ≤ s.m.iso.foreign) ∧
    (∃ (s : State), s.m.clk.procRunning = true ∧ s.m.elapsed? s.m.iso.backoff (60000000000 + s.m.fab.addr * 100000000) = true) :=
  ⟨⟨{ m := { live with now := 1000000000000000, fabBase := 0, clk := { live.clk with procRunning := true }, iso := { live.iso with state := .idle, views := [(99999995, true), (99999996, true)], selfTest := true, backoff := none }, plant := { live.plant with isMember := true }, saf := { live.saf with coils := live.saf.coils } } },
      by decide +kernel, by decide +kernel, by decide +kernel, by decide +kernel, by decide +kernel, by decide +kernel⟩,
   ⟨{ m := { live with clk := { live.clk with procRunning := true }, iso := { live.iso with state := .injecting, views := [] } } },
       by decide +kernel, by decide +kernel, by decide +kernel⟩,
   ⟨{ m := { live with now := 1000000000000000, fabBase := 0, clk := { live.clk with procRunning := true }, iso := { live.iso with views := [(99999996, true)] } } },
       by decide +kernel, by decide +kernel, by decide +kernel⟩,
   ⟨{ m := { live with clk := { live.clk with procRunning := true }, iso := { live.iso with state := .injecting, halfAt := some 0 } } }, 10,
       3, by decide +kernel, by decide +kernel, by decide +kernel, by decide +kernel⟩,
   ⟨{ m := { live with clk := { live.clk with procRunning := true }, iso := { live.iso with state := .injecting, halfAt := some 0, foreign := 0 } } },
       1, 1, by decide +kernel, by decide +kernel, by decide +kernel, by decide +kernel, by decide +kernel⟩,
   ⟨{ m := { live with clk := { live.clk with procRunning := true }, iso := { live.iso with state := .injecting, halfAt := some 0, foreign := 1 } } },
       1, 1, by decide +kernel, by decide +kernel, by decide +kernel, by decide +kernel, by decide +kernel⟩,
   ⟨{ m := { live with clk := { live.clk with procRunning := true }, iso := { live.iso with backoff := some 0 } } }, by decide +kernel,
       by decide +kernel⟩⟩

/-- The premises of ImpedanceCommandsTakeEffect can be met, clause by clause. -/
theorem witness_ImpedanceCommandsTakeEffect :
    (∃ (s : State), s.m.clk.procRunning = true ∧ s.m.imp.kind = .normal ∧ s.m.inMode [.connected, .dispatch, .busForm] = true ∧
        s.m.imp.queue = none ∧ s.m.imp.run = none ∧ s.m.imp.read = none ∧ (∀ t,
        s.m.imp.passEnd = some t → t + 1000 * s.m.par 0x2302 0 * 1000000 ≤ s.m.now)) ∧
    (∃ (s : State) (k : Nat) (rest : List Nat), s.m.clk.procRunning = true ∧ s.m.schedules = true ∧ s.m.excites = true ∧
        s.m.excEnabled = true ∧ s.m.imp.run = none ∧ s.m.chainWindow = true ∧ s.m.imp.announced = none ∧ s.m.binsLeft = k :: rest ∧
        k < 16) ∧
    (∃ (s : State) (k : Nat), s.m.clk.procRunning = true ∧ s.m.schedules = false ∧ k ≠ 0xFF) ∧
    (∃ (s : State) (r : _), s.m.clk.procRunning = true ∧ s.m.schedules = false ∧ s.m.imp.run = some r) ∧
    (∃ (s : State) (k : _) (id : _), s.m.clk.procRunning = true ∧ s.m.imp.announced = some (k, id) ∧ s.m.imp.run = none ∧
        s.m.excites = true ∧ s.m.excEnabled = true ∧ (s.m.schedules = true → s.m.headroom (s.m.ampCap s.m.mode.mode) = true ∧
        s.m.restClear k s.m.slowEpoch = true ∧ s.m.pair.acquiring = false ∧ s.m.pair.tb = none)) ∧
    (∃ (s : State) (k : _) (id : _), s.m.clk.procRunning = true ∧ s.m.imp.announced = some (k, id) ∧ s.m.imp.run = none ∧
        s.m.excites = true ∧ s.m.excEnabled = true ∧ s.m.schedules = true ∧
        (s.m.headroom (s.m.ampCap s.m.mode.mode) = false ∨ s.m.restClear k s.m.slowEpoch = false)) ∧
    (∃ (s : State) (r : _), s.m.clk.procRunning = true ∧ s.m.imp.run = some r ∧
        s.m.slowEpoch = r.start + leadEpochs r.bin + windowEpochs r.bin ∧ r.discarded = false) ∧
    (∃ (s : State) (r : _), s.m.clk.procRunning = true ∧ s.m.imp.run = some r ∧
        s.m.slowEpoch = r.start + leadEpochs r.bin + windowEpochs r.bin ∧ r.discarded = true) ∧
    (∃ (s : State) (a : Nat) (r : _), s.m.clk.procRunning = true ∧ s.m.imp.read = some r ∧ s.m.corrDue r a = true ∧ s.m.chainWindow = true ∧
        (s.m.paired = false ∨ (s.m.isMaster = true ∧ s.m.chain.brk = none))) ∧
    (∃ (s : State) (a : Nat) (r : _), s.m.clk.procRunning = true ∧ s.m.imp.read = some r ∧ a ∉ r.bad ∧ (∀ c ∈ r.got, c.pod ≠ a) ∧
        aget r.fails a 0 = 0) ∧
    (∃ (s : State) (a : Nat) (r : _), s.m.clk.procRunning = true ∧ s.m.imp.read = some r ∧ a ∉ r.bad ∧ (∀ c ∈ r.got, c.pod ≠ a) ∧
        1 ≤ aget r.fails a 0) ∧
    (∃ (s : State) (a : Nat) (bin : Nat) (status : Nat) (excId : Nat) (r : _), s.m.clk.procRunning = true ∧ s.m.imp.read = some r ∧
        a ∉ r.bad ∧ (∀ c ∈ r.got, c.pod ≠ a) ∧ (status ≠ 0 ∨ bin ≠ r.run.bin ∨ excId ≠ r.run.excId)) ∧
    (∃ (s : State) (role : Nat), s.m.clk.procRunning = true ∧ 2 ≤ role) ∧
    (∃ (s : State) (role : Nat) (unlocked : Bool), s.m.clk.procRunning = true ∧ (role < 2 ∨ unlocked = false)) ∧
    (∃ (s : State) (r : _), s.m.clk.procRunning = true ∧ s.m.imp.read = some r ∧ r.run.bin < 16 ∧ s.m.binStale r = false ∧
        (r.got.map (fun c => c.pod)).Nodup ∧ (∀ c ∈ r.got, 1 ≤ c.pod)) ∧
    (∃ (s : State) (r : _), s.m.clk.procRunning = true ∧ s.m.imp.read = some r ∧ s.m.binStale r = true) ∧
    (∃ (s : State) (g : Nat) (r : _) (t : _), s.m.clk.procRunning = true ∧ aget? s.m.imp.ref (zKey g 15) = some r ∧
        aget? s.m.imp.equil (podOf g) = some t ∧ t + 7200000000000 ≤ s.m.now ∧ (∀ u,
        aget? s.m.imp.ageingAt g = some u → u + 86400000000000 ≤ s.m.fabTime) ∧ 64 ≤ (aget s.m.imp.map (zKey g 15) {}).q ∧
        s.m.fresh (aget s.m.imp.map (zKey g 15) {}) 120000000000 = true) :=
  ⟨⟨{ m := { live with clk := { live.clk with procRunning := true }, imp := { live.imp with kind := .normal, queue := none, run := none, read := none, passEnd := some 0 }, mode := { live.mode with mode := .connected } } },
      by decide +kernel, by decide +kernel, by decide +kernel, by decide +kernel, by decide +kernel, by decide +kernel,
      fun t h => by obtain rfl : 0 = t := Option.some.inj h; decide +kernel⟩,
   ⟨{ m := { live with now := 1000000005000000, fabBase := 0, params := [], clk := { live.clk with procRunning := true }, mode := { live.mode with mode := .connected }, imp := { live.imp with run := none, announced := none, kind := .normal, queue := some [5, 6] }, chain := { live.chain with lastEpoch := 0, inSweep := false }, saf := { live.saf with sw2 := 0 } } },
       5, [6], by decide +kernel, by decide +kernel, by decide +kernel, by decide +kernel, by decide +kernel, by decide +kernel,
       by decide +kernel, by decide +kernel, by decide +kernel⟩,
   ⟨{ m := { live with now := 1000000005000000, fabBase := 0, clk := { live.clk with procRunning := true }, saf := { live.saf with sw2 := 2 }, chain := { live.chain with lastEpoch := 0, inSweep := false, takenOver := false, brk := some 1 } } },
       5, by decide +kernel, by decide +kernel, by decide +kernel⟩,
   ⟨{ m := { live with clk := { live.clk with procRunning := true }, saf := { live.saf with sw2 := 2 }, imp := { live.imp with run := some binRun } } },
       binRun, by decide +kernel, by decide +kernel, by decide +kernel⟩,
   ⟨{ m := { live with params := [], clk := { live.clk with procRunning := true }, imp := { live.imp with run := none, kind := .normal, announced := some (5, 1) }, mode := { live.mode with mode := .connected }, saf := { live.saf with sw2 := 0, profileOk := true, profile := 0, dischargeStop := none }, pair := { live.pair with acquiring := false, tb := none }, plant := { live.plant with nextRest := none, inRest := false }, conv := { live.conv with rCmd := 0 }, est := { live.est with iChg := 1000000, iDis := 1000000 } } },
       5, 1, by decide +kernel, by decide +kernel, by decide +kernel, by decide +kernel, by decide +kernel, by decide +kernel⟩,
   ⟨{ m := { live with params := [], clk := { live.clk with procRunning := true }, imp := { live.imp with run := none, kind := .normal, announced := some (5, 1) }, mode := { live.mode with mode := .connected }, saf := { live.saf with sw2 := 0 }, est := { live.est with iDis := 0 }, conv := { live.conv with rCmd := 0 } } },
       5, 1, by decide +kernel, by decide +kernel, by decide +kernel, by decide +kernel, by decide +kernel, by decide +kernel,
       .inl (by decide +kernel)⟩,
   ⟨{ m := { live with now := 1000000000000000, fabBase := 0, clk := { live.clk with procRunning := true }, imp := { live.imp with run := some binRun } } },
       binRun, by decide +kernel, by decide +kernel, by decide +kernel, by decide +kernel⟩,
   ⟨{ m := { live with now := 1000000000000000, fabBase := 0, clk := { live.clk with procRunning := true }, imp := { live.imp with run := some { binRun with discarded := true } } } },
       { binRun with discarded := true }, by decide +kernel, by decide +kernel, by decide +kernel, by decide +kernel⟩,
   ⟨{ m := { live with now := 1000000005000000, fabBase := 0, clk := { live.clk with procRunning := true }, chain := { live.chain with lastEpoch := 0, inSweep := false, serials := [1] }, saf := { live.saf with sw2 := 0 }, imp := { live.imp with read := some binRead } } },
       1, binRead, by decide +kernel, by decide +kernel, by decide +kernel, by decide +kernel, .inl (by decide +kernel)⟩,
   ⟨{ m := { live with clk := { live.clk with procRunning := true }, imp := { live.imp with read := some { binRead with fails := [] } } } },
       1, { binRead with fails := [] }, by decide +kernel, by decide +kernel, by decide +kernel, by decide +kernel, by decide +kernel⟩,
   ⟨{ m := { live with clk := { live.clk with procRunning := true }, imp := { live.imp with read := some binRead }, chain := { live.chain with serials := [1] } } },
       1, binRead, by decide +kernel, by decide +kernel, by decide +kernel, by decide +kernel, by decide +kernel⟩,
   ⟨{ m := { live with clk := { live.clk with procRunning := true }, imp := { live.imp with read := some binRead }, chain := { live.chain with serials := [1] } } },
       1, 0, 1, 0, binRead, by decide +kernel, by decide +kernel, by decide +kernel, by decide +kernel, .inl (by decide +kernel)⟩,
   ⟨{ m := { live with clk := { live.clk with procRunning := true } } }, 2, by decide +kernel, by decide +kernel⟩,
   ⟨{ m := { live with clk := { live.clk with procRunning := true } } }, 0, true, by decide +kernel, .inl (by decide +kernel)⟩,
   ⟨{ m := { live with clk := { live.clk with procRunning := true }, imp := { live.imp with read := some binRead, binTags := [] }, chain := { live.chain with serials := [1] } } },
       binRead, by decide +kernel, by decide +kernel, by decide +kernel, by decide +kernel, by decide +kernel, by decide +kernel⟩,
   ⟨{ m := { live with clk := { live.clk with procRunning := true }, imp := { live.imp with read := some binRead, binTags := [(5, (1, 10 ^ 12))] } } },
       binRead, by decide +kernel, by decide +kernel, by decide +kernel⟩,
   ⟨{ m := { live with now := 1000000000000000, fabBase := 0, clk := { live.clk with procRunning := true }, imp := { live.imp with ageingAt := [], ref := [(zKey 432 15, {})], equil := [(podOf 432, 0)], map := [(zKey 432 15, { q := 64, time := some 1000000000000000 })] } } },
       432, {}, 0, by decide +kernel, by decide +kernel, by decide +kernel, by decide +kernel,
       fun _ h => absurd (h.symm.trans rfl) (Option.some_ne_none _), by decide +kernel, by decide +kernel⟩⟩

/-- The premises of EstimationAndBalancingCommandsTakeEffect can be met, clause by clause. -/
theorem witness_EstimationAndBalancingCommandsTakeEffect :
    (∃ (s : State), s.m.clk.procRunning = true ∧ s.m.est.leadState = none ∧ s.m.est.running = true ∧ s.m.modelRate ≠ 0 ∧
        (s.m.modelRate = 100 ∨ s.m.slowEpoch % 2 = 0)) ∧
    (∃ (s : State) (l : _), s.m.clk.procRunning = true ∧ s.m.est.leadState = some l ∧ s.m.modelRate = 0) ∧
    (∃ (s : State), s.m.clk.procRunning = true ∧ s.m.est.running = true ∧ s.m.modelRate ≠ 0 ∧ s.m.est.restActive = false ∧
        (s.m.est.groups.map (fun p => p.1)).Nodup ∧ s.m.elapsed? s.m.est.restFrom 15000000000 = true) ∧
    (∃ (s : State), s.m.clk.procRunning = true ∧ s.m.est.running = true ∧ s.m.modelRate ≠ 0 ∧ s.m.est.restActive = true ∧
        (s.m.est.groups.map (fun p => p.1)).Nodup ∧ s.m.chain.lastEpoch % 6000 = 0 ∧ s.m.est.lastRest < s.m.chain.lastEpoch * 10000000) ∧
    (∃ (s : State), s.m.clk.procRunning = true ∧ s.m.est.running = true ∧ s.m.est.lastRest + 172800000000000 ≤ s.m.fabTime) ∧
    (∃ (s : State), s.m.clk.procRunning = true ∧ s.m.est.initDue = true ∧ s.m.est.running = false ∧ s.m.chain.shared ≠ []) ∧
    (∃ (s : State) (ogen : _), s.m.clk.procRunning = true ∧ s.m.estLead = false ∧ s.m.pair.ogen ≤ ogen) ∧
    (∃ (s : State) (ogen : _), s.m.clk.procRunning = true ∧ ogen < s.m.pair.ogen) ∧
    (∃ (s : State) (v : _), s.m.clk.procRunning = true ∧ s.m.est.lead = some v ∧ s.m.est.follower = true ∧ v.epoch + 3 ≤ s.m.slowEpoch) ∧
    (∃ (s : State) (v : _), s.m.clk.procRunning = true ∧ s.m.est.lead = some v ∧ s.m.slowEpoch < v.epoch + 3) ∧
    (∃ (s : State), s.m.clk.procRunning = true ∧ s.m.estLead = true ∧ s.m.est.running = true ∧ s.m.chain.walnutEpoch % 100 = 0) ∧
    (∃ (s : State), s.m.clk.procRunning = true ∧ s.m.bleedDue = true) ∧
    (∃ (s : State), s.m.clk.procRunning = true ∧ s.m.bleedDue = false) ∧
    (∃ (s : State) (ogen : Nat), s.m.clk.procRunning = true ∧ s.m.estLead = false ∧ s.m.pair.ogen ≤ ogen) ∧
    (∃ (s : State) (ogen : Nat), s.m.clk.procRunning = true ∧ ogen < s.m.pair.ogen) :=
  ⟨⟨{ m := { live with now := 1000000000000000, fabBase := 0, clk := { live.clk with procRunning := true }, est := { live.est with leadState := none, running := true }, arch := { live.arch with lost := [] } } },
      by decide +kernel, by decide +kernel, by decide +kernel, by decide +kernel, .inl (by decide +kernel)⟩,
   ⟨{ m := { live with clk := { live.clk with procRunning := true }, est := { live.est with leadState := some [] }, arch := { live.arch with lost := [0, 1, 2, 3, 4, 5, 6] } } },
       [], by decide +kernel, by decide +kernel, by decide +kernel⟩,
   ⟨{ m := { live with clk := { live.clk with procRunning := true }, est := { live.est with running := true, restActive := false, restFrom := some 0, groups := [(1, {}), (2, { v1 := 1 })] }, arch := { live.arch with lost := [] } } },
       by decide +kernel, by decide +kernel, by decide +kernel, by decide +kernel, by decide +kernel, by decide +kernel⟩,
   ⟨{ m := { live with clk := { live.clk with procRunning := true }, est := { live.est with running := true, restActive := true, lastRest := 0, groups := [(1, {}), (2, { v1 := 1 })] }, arch := { live.arch with lost := [] }, chain := { live.chain with lastEpoch := 6000 } } },
       by decide +kernel, by decide +kernel, by decide +kernel, by decide +kernel, by decide +kernel, by decide +kernel, by decide +kernel⟩,
   ⟨{ m := { live with now := 1000000000000000, fabBase := 0, clk := { live.clk with procRunning := true }, est := { live.est with running := true, lastRest := 0 } } },
       by decide +kernel, by decide +kernel, by decide +kernel⟩,
   ⟨{ m := { live with clk := { live.clk with procRunning := true }, est := { live.est with initDue := true, running := false }, chain := { live.chain with shared := [(1, pod)], serials := [1] } } },
       by decide +kernel, by decide +kernel, by decide +kernel, by decide +kernel⟩,
   ⟨{ m := { live with clk := { live.clk with procRunning := true }, saf := { live.saf with sw2 := 2 }, chain := { live.chain with takenOver := false }, pair := { live.pair with lost := false, ogen := 1 } } },
       1, by decide +kernel, by decide +kernel, by decide +kernel⟩,
   ⟨{ m := { live with clk := { live.clk with procRunning := true }, pair := { live.pair with ogen := 2 } } }, 1, by decide +kernel,
       by decide +kernel⟩,
   ⟨{ m := { live with now := 1000000000000000, fabBase := 0, clk := { live.clk with procRunning := true }, est := { live.est with follower := true, lead := some leadVals } } },
       leadVals, by decide +kernel, by decide +kernel, by decide +kernel, by decide +kernel⟩,
   ⟨{ m := { live with now := 0, fabBase := 0, clk := { live.clk with procRunning := true }, est := { live.est with lead := some leadVals } } },
       leadVals, by decide +kernel, by decide +kernel, by decide +kernel⟩,
   ⟨{ m := { live with clk := { live.clk with procRunning := true }, est := { live.est with running := true, groups := [(1, {})] }, saf := { live.saf with sw2 := 0 }, chain := { live.chain with walnutEpoch := 100 } } },
       by decide +kernel, by decide +kernel, by decide +kernel, by decide +kernel⟩,
   ⟨{ m := { live with now := 1000000005000000, fabBase := 0, clk := { live.clk with procRunning := true }, chain := { live.chain with lastEpoch := 0, inSweep := false, serials := [1, 2] }, bal := { live.bal with zeroDue := true }, mode := { live.mode with mode := .connected }, est := { live.est with groups := [(1, {})] } } },
       by decide +kernel, by decide +kernel⟩,
   ⟨{ m := { live with now := 1000000000000000, fabBase := 0, clk := { live.clk with procRunning := true } } }, by decide +kernel,
       by decide +kernel⟩,
   ⟨{ m := { live with clk := { live.clk with procRunning := true }, saf := { live.saf with sw2 := 2 }, chain := { live.chain with takenOver := false }, pair := { live.pair with lost := false, ogen := 1 } } },
       1, by decide +kernel, by decide +kernel, by decide +kernel⟩,
   ⟨{ m := { live with clk := { live.clk with procRunning := true }, pair := { live.pair with ogen := 2 } } }, 1, by decide +kernel,
       by decide +kernel⟩⟩

/-- The premises of PhaseCommandsTakeEffect can be met, clause by clause. -/
theorem witness_PhaseCommandsTakeEffect :
    (∃ (s : State) (k : Nat) (ogen : Nat), s.m.Shaped ∧ k < s.m.nPhases ∧ k < 12 ∧ s.m.clk.procRunning = true ∧ s.m.pair.ogen ≤ ogen) ∧
    (∃ (s : State) (k : Nat) (ogen : Nat), s.m.Shaped ∧ k < s.m.nPhases ∧ k < 12 ∧ ogen < s.m.pair.ogen) ∧
    (∃ (s : State) (k : Nat), s.m.Shaped ∧ k < s.m.nPhases ∧ k < 12 ∧ s.m.phaseState k ≠ 2) ∧
    (∃ (s : State) (k : Nat) (density : Nat), s.m.Shaped ∧ k < s.m.nPhases ∧ k < 12 ∧ s.m.clk.procRunning = true ∧
        densityBad density = false) ∧
    (∃ (s : State) (k : Nat) (density : Nat), s.m.Shaped ∧ k < s.m.nPhases ∧ k < 12 ∧ s.m.clk.procRunning = true ∧
        densityBad density = true ∧ s.m.phaseState k ∈ [1, 2, 5]) ∧
    (∃ (s : State) (k : Nat), s.m.Shaped ∧ k < s.m.nPhases ∧ k < 12 ∧ s.m.clk.powered = true) ∧
    (∃ (s : State) (k : Nat), s.m.Shaped ∧ k < s.m.nPhases ∧ k < 12 ∧ s.m.clk.procRunning = true ∧ s.m.pair.roleConflict = false ∧
        (s.m.phase k).own = false) ∧
    (∃ (s : State) (k : Nat), s.m.Shaped ∧ k < s.m.nPhases ∧ k < 12 ∧ s.m.clk.procRunning = true ∧ s.m.pair.roleConflict = false ∧
        (s.m.phase k).own = true ∧ (s.m.phase k).releasing = true) ∧
    (∃ (s : State) (k : Nat), s.m.Shaped ∧ k < s.m.nPhases ∧ k < 12 ∧ (s.m.phase k).acquiring = true) ∧
    (∃ (s : State) (k : Nat), s.m.Shaped ∧ k < s.m.nPhases ∧ k < 12 ∧ s.m.clk.procRunning = true ∧ (s.m.phase k).fault = false ∧
        10 ≤ (s.m.phase k).goodRun) ∧
    (∃ (s : State) (k : Nat), s.m.Shaped ∧ k < s.m.nPhases ∧ k < 12 ∧ ((s.m.phase k).fault = true ∨ (s.m.phase k).goodRun < 10)) ∧
    (∃ (s : State) (k : Nat), s.m.Shaped ∧ k < s.m.nPhases ∧ k < 12 ∧ s.m.clk.procRunning = true ∧
        (s.m.phaseState k = 1 ∨ s.m.phaseState k = 3) ∧ s.m.elapsed (s.m.phase k).offAt 10000000 = true) ∧
    (∃ (s : State) (k : Nat) (current : Int), s.m.Shaped ∧ k < s.m.nPhases ∧ k < 12 ∧ s.m.clk.procRunning = true ∧ s.m.phaseState k = 2 ∧
        (s.m.phase k).fault = false ∧ 100 * s.m.par 0x260A 0 < current.natAbs) :=
  ⟨⟨{ m := { live with params := [(objKey 0x2600 0, 12)], clk := { live.clk with procRunning := true }, pwm := { live.pwm with phases := live.pwm.phases.set 11 {  } } } },
      11, 0, by unfold Machine.Mach.Shaped; decide +kernel, by decide +kernel, by decide +kernel, by decide +kernel, by decide +kernel⟩,
   ⟨{ m := { live with params := [(objKey 0x2600 0, 12)], pwm := { live.pwm with phases := live.pwm.phases.set 11 {  } }, pair := { live.pair with ogen := 1 } } },
       11, 0, by unfold Machine.Mach.Shaped; decide +kernel, by decide +kernel, by decide +kernel, by decide +kernel⟩,
   ⟨{ m := { live with params := [(objKey 0x2600 0, 12)], pwm := { live.pwm with phases := live.pwm.phases.set 11 {  } } } }, 11,
       by unfold Machine.Mach.Shaped; decide +kernel, by decide +kernel, by decide +kernel, by decide +kernel⟩,
   ⟨{ m := { live with params := [(objKey 0x2600 0, 12)], clk := { live.clk with procRunning := true }, pwm := { live.pwm with phases := live.pwm.phases.set 11 { waiting := some (1 / 3), badNow := true } } } },
       11, 600000, by unfold Machine.Mach.Shaped; decide +kernel, by decide +kernel, by decide +kernel, by decide +kernel,
       by decide +kernel⟩,
   ⟨{ m := { live with params := [(objKey 0x2600 0, 12)], clk := { live.clk with procRunning := true }, pwm := { live.pwm with phases := live.pwm.phases.set 11 { own := true } } } },
       11, 980001, by unfold Machine.Mach.Shaped; decide +kernel, by decide +kernel, by decide +kernel, by decide +kernel,
       by decide +kernel, by decide +kernel⟩,
   ⟨{ m := { live with params := [(objKey 0x2600 0, 12)], clk := { live.clk with powered := true }, pwm := { live.pwm with phases := live.pwm.phases.set 11 { own := true, gate := true, commanded := true } }, mode := { live.mode with mode := .connected } } },
       11, by unfold Machine.Mach.Shaped; decide +kernel, by decide +kernel, by decide +kernel, by decide +kernel⟩,
   ⟨{ m := { live with params := [(objKey 0x2600 0, 12)], clk := { live.clk with procRunning := true }, pair := { live.pair with roleConflict := false }, pwm := { live.pwm with phases := live.pwm.phases.set 11 {  } } } },
       11, by unfold Machine.Mach.Shaped; decide +kernel, by decide +kernel, by decide +kernel, by decide +kernel, by decide +kernel,
       by decide +kernel⟩,
   ⟨{ m := { live with params := [(objKey 0x2600 0, 12)], clk := { live.clk with procRunning := true }, pair := { live.pair with roleConflict := false }, pwm := { live.pwm with phases := live.pwm.phases.set 11 { own := true, releasing := true } } } },
       11, by unfold Machine.Mach.Shaped; decide +kernel, by decide +kernel, by decide +kernel, by decide +kernel, by decide +kernel,
       by decide +kernel, by decide +kernel⟩,
   ⟨{ m := { live with params := [(objKey 0x2600 0, 12)], pwm := { live.pwm with phases := live.pwm.phases.set 11 { acquiring := true } } } },
       11, by unfold Machine.Mach.Shaped; decide +kernel, by decide +kernel, by decide +kernel, by decide +kernel⟩,
   ⟨{ m := { live with params := [(objKey 0x2600 0, 12)], clk := { live.clk with procRunning := true }, pwm := { live.pwm with phases := live.pwm.phases.set 11 { heldOff := true, goodRun := 10 } } } },
       11, by unfold Machine.Mach.Shaped; decide +kernel, by decide +kernel, by decide +kernel, by decide +kernel, by decide +kernel,
       by decide +kernel⟩,
   ⟨{ m := { live with params := [(objKey 0x2600 0, 12)], pwm := { live.pwm with phases := live.pwm.phases.set 11 { heldOff := true, goodRun := 9 } } } },
       11, by unfold Machine.Mach.Shaped; decide +kernel, by decide +kernel, by decide +kernel, .inr (by decide +kernel)⟩,
   ⟨{ m := { live with params := [(objKey 0x2600 0, 12)], clk := { live.clk with procRunning := true }, pwm := { live.pwm with phases := live.pwm.phases.set 11 { own := true } } } },
       11, by unfold Machine.Mach.Shaped; decide +kernel, by decide +kernel, by decide +kernel, by decide +kernel, .inl (by decide +kernel),
       by decide +kernel⟩,
   ⟨{ m := { live with params := [(objKey 0x2600 0, 12)], clk := { live.clk with procRunning := true }, pwm := { live.pwm with phases := live.pwm.phases.set 11 { own := true, commanded := true, duty := 1 / 2 } }, mode := { live.mode with mode := .connected } } },
       11, 1000000000, by unfold Machine.Mach.Shaped; decide +kernel, by decide +kernel, by decide +kernel, by decide +kernel,
       by decide +kernel, by decide +kernel, by decide +kernel⟩⟩

/-- The premises of TripAndSyncCommandsTakeEffect can be met, clause by clause. -/
theorem witness_TripAndSyncCommandsTakeEffect :
    (∃ (s : State) (mask : Nat), s.m.clk.powered = true ∧ mask % 4096 ≠ 0 ∧ s.m.pwm.latch = false) ∧
    (∃ (s : State) (quiet : Bool), s.m.clk.procRunning = true ∧ s.m.pwm.latch = true ∧ s.m.pwm.ft = 0 ∧
        (quiet = true ∨ s.m.pwm.ftOff + 50000 ≤ s.m.now) ∧ s.m.conv.rearmOrdered = true ∧
        (s.m.pwm.refused = false ∨ s.m.pwm.clearPass = true) ∧ s.m.recentRearms.length < 3) ∧
    (∃ (s : State) (quiet : Bool), s.m.clk.procRunning = true ∧ s.m.pwm.latch = true ∧ s.m.pwm.ft = 0 ∧
        (quiet = true ∨ s.m.pwm.ftOff + 50000 ≤ s.m.now) ∧ s.m.conv.rearmOrdered = true ∧
        (s.m.pwm.refused = false ∨ s.m.pwm.clearPass = true) ∧ 3 ≤ s.m.recentRearms.length) ∧
    (∃ (s : State) (quiet : Bool), (s.m.pwm.ft ≠ 0 ∨ (quiet = false ∧ s.m.now < s.m.pwm.ftOff + 50000) ∨ s.m.conv.rearmOrdered = false)) ∧
    (∃ (s : State) (t : Nat), s.m.clk.procRunning = true ∧ s.m.carrierSource = 2 ∧ s.m.edgeValid t = true) ∧
    (∃ (s : State) (t : Nat), s.m.clk.procRunning = true ∧ s.m.carrierSource = 2 ∧ s.m.edgeValid t = false) ∧
    (∃ (s : State), s.m.clk.procRunning = true ∧ s.m.carrierSource = 2 ∧ (s.m.pwm.sync = .acquire ∨ (s.m.pwm.sync = .locked ∧ ∀ t,
        s.m.pwm.lastEdge = some t → (t : Rat) + 3 * s.m.edgeSpacing ≤ (s.m.fabTime : Rat)))) ∧
    (∃ (s : State), s.m.clk.procRunning = true ∧ s.m.pwm.sync = .holdover ∧
        s.m.pwm.holdAt + 1000000 * nth s.m.pwm.inForce 6 0 ≤ s.m.fabTime) ∧
    (∃ (s : State), s.m.clk.procRunning = true ∧ s.m.carrierSource = 2 ∧ s.m.pwm.sync = .glide ∧
        secondsOf s.m.pwm.glideAt + s.m.glideSeconds ≤ secondsOf s.m.fabTime) :=
  ⟨⟨{ m := { live with clk := { live.clk with powered := true }, pwm := { live.pwm with latch := false } } }, 2048, by decide +kernel,
      by decide +kernel, by decide +kernel⟩,
   ⟨{ m := { live with clk := { live.clk with procRunning := true }, pwm := { live.pwm with latch := true, ft := 0, rearms := [] }, conv := { live.conv with rearmOrdered := true } } },
       true, by decide +kernel, by decide +kernel, by decide +kernel, .inl rfl, by decide +kernel, .inl rfl, by decide +kernel⟩,
   ⟨{ m := { live with now := 1000000000000000, clk := { live.clk with procRunning := true }, pwm := { live.pwm with latch := true, ft := 0, rearms := [1000000000000000, 1000000000000000, 1000000000000000] }, conv := { live.conv with rearmOrdered := true }, mode := { live.mode with mode := .connected } } },
       true, by decide +kernel, by decide +kernel, by decide +kernel, .inl rfl, by decide +kernel, .inl rfl, by decide +kernel⟩,
   ⟨{ m := { live with pwm := { live.pwm with ft := 1 } } }, true, .inl (by decide +kernel)⟩,
   ⟨{ m := { live with now := 1000000000000000, fabBase := 0, clk := { live.clk with procRunning := true }, pwm := { live.pwm with inForce := [0, 20000, 2, 0, 1, 1, 10, 0, 400, 0], sync := .acquire, lastEdge := some 999999999950000, origin := 0, freq := 20000 } } },
       1000000000000010, by decide +kernel, by decide +kernel, by decide +kernel⟩,
   ⟨{ m := { live with now := 1000000000000000, fabBase := 0, clk := { live.clk with procRunning := true }, pwm := { live.pwm with inForce := [0, 20000, 2, 0, 1, 1, 10, 0, 400, 0], sync := .acquire, lastEdge := some 999999999950000 } } },
       1000000000020010, by decide +kernel, by decide +kernel, by decide +kernel⟩,
   ⟨{ m := { live with now := 1000000000000000, fabBase := 0, clk := { live.clk with procRunning := true }, pwm := { live.pwm with inForce := [0, 20000, 2, 0, 1, 1, 10, 0, 400, 0], sync := .acquire } } },
       by decide +kernel, by decide +kernel, .inl rfl⟩,
   ⟨{ m := { live with now := 1000000000000000, fabBase := 0, clk := { live.clk with procRunning := true }, pwm := { live.pwm with sync := .holdover, inForce := [0, 20000, 2, 0, 1, 1, 10, 0, 400, 0], holdAt := 0 } } },
       by decide +kernel, by decide +kernel, by decide +kernel⟩,
   ⟨{ m := { live with now := 1000000000000000, fabBase := 0, clk := { live.clk with procRunning := true }, pwm := { live.pwm with sync := .glide, inForce := [0, 20000, 2, 0, 1, 1, 10, 0, 400, 0], glideAt := 5, freq := 20100 } } },
       by decide +kernel, by decide +kernel, by decide +kernel, by decide +kernel⟩⟩

/-- The premises of LoopCommandsTakeEffect can be met, clause by clause. -/
theorem witness_LoopCommandsTakeEffect :
    (∃ (s : State), s.m.Shaped ∧ s.m.clk.procRunning = true ∧
        (s.m.conv.loop = .current ∨ s.m.conv.loop = .power ∨ s.m.conv.loop = .voltage) ∧ (s.m.conv.dipHold && !s.m.dipEnabled) = false) ∧
    (∃ (s : State), s.m.Shaped ∧ s.m.clk.procRunning = true ∧ s.m.conv.loop = .precharge) ∧
    (∃ (s : State), s.m.Shaped ∧ s.m.conv.loop = .none) ∧
    (∃ (s : State) (k : Nat) (avg : _), s.m.Shaped ∧ s.m.clk.procRunning = true ∧ k < 12 ∧ s.m.phaseState k = 2 ∧
        (s.m.phase k).avg = some avg) ∧
    (∃ (s : State) (k : Nat) (ogen : Nat), s.m.Shaped ∧ s.m.clk.procRunning = true ∧ s.m.paired = true ∧ k < 12 ∧ s.m.pair.ogen ≤ ogen) ∧
    (∃ (s : State) (ogen : Nat), s.m.Shaped ∧ s.m.clk.procRunning = true ∧ s.m.paired = true ∧ ogen < s.m.pair.ogen) ∧
    (∃ (s : State) (t : _), s.m.Shaped ∧ s.m.clk.procRunning = true ∧ s.m.conv.startAt = some t ∧ t ≤ s.m.now ∧ s.m.pwm.latch = false ∧
        (s.m.conv.loop = .current ∨ s.m.conv.loop = .power ∨ s.m.conv.loop = .voltage)) ∧
    (∃ (s : State), s.m.Shaped ∧ s.m.clk.procRunning = true ∧ s.m.mode.mode = .shutdown ∧ s.m.conv.softStop = true ∧
        s.m.elapsed s.m.conv.stopAt (1000000 * s.m.par 0x2705 3) = true) ∧
    (∃ (s : State) (v : Nat) (fall : Int) (t : Nat), s.m.Shaped ∧ s.m.clk.powered = true ∧ s.m.clk.procRunning = true ∧
        s.m.dipSeen v fall = true ∧ s.m.meas.dipLine = false ∧ s.m.dipEnabled = true ∧
        (s.m.par 0x2706 2 = 0 ∨ since? s.m.conv.burstAt 100000 t = false ∨ since? s.m.conv.dipFell 10000 t = false)) ∧
    (∃ (s : State) (v : Nat) (fall : Int), s.m.Shaped ∧ s.m.clk.powered = true ∧ s.m.clk.procRunning = true ∧ s.m.dipSeen v fall = false ∧
        s.m.meas.dipLine = true ∧ s.m.conv.dipHold = true) ∧
    (∃ (s : State) (v : Nat) (fall : Int), s.m.Shaped ∧ s.m.clk.powered = true ∧
        (s.m.clk.procRunning = false ∨ s.m.dipSeen v fall = s.m.meas.dipLine)) ∧
    (∃ (s : State), s.m.Shaped ∧ s.m.clk.procRunning = true ∧ s.m.conv.dipHold = true ∧ s.m.meas.dipLine = false ∧
        since? s.m.conv.dipOff (100000 * s.m.par 0x2706 4) s.m.fabTime = true ∧ s.m.conv.dipEdge = false) ∧
    (∃ (s : State), s.m.Shaped ∧
        (s.m.conv.dipHold = false ∨ s.m.meas.dipLine = true ∨ since? s.m.conv.dipOff (100000 * s.m.par 0x2706 4) s.m.fabTime = false)) ∧
    (∃ (s : State), s.m.Shaped ∧ s.m.clk.procRunning = true ∧ s.m.pwm.latch = true ∧ s.m.pwm.ft = 0 ∧
        s.m.elapsed s.m.pwm.ftOff 50000 = true ∧ s.m.conv.loop ≠ .none ∧ s.m.elapsed s.m.pwm.latchAt (1000000 * s.m.par 0x2708 0) = true) ∧
    (∃ (s : State), s.m.Shaped ∧
        (s.m.pwm.ft ≠ 0 ∨ s.m.conv.loop = .none ∨ s.m.elapsed s.m.pwm.latchAt (1000000 * s.m.par 0x2708 0) = false)) :=
  ⟨⟨{ m := { live with clk := { live.clk with procRunning := true }, conv := { live.conv with loop := .current, dipHold := false } } },
      by unfold Machine.Mach.Shaped; decide +kernel, by decide +kernel, .inl rfl, by decide +kernel⟩,
   ⟨{ m := { live with clk := { live.clk with procRunning := true }, conv := { live.conv with loop := .precharge } } },
       by unfold Machine.Mach.Shaped; decide +kernel, by decide +kernel, by decide +kernel⟩,
   ⟨{ m := { live with conv := { live.conv with loop := .none } } }, by unfold Machine.Mach.Shaped; decide +kernel, by decide +kernel⟩,
   ⟨{ m := { live with params := [(objKey 0x2600 0, 12)], clk := { live.clk with procRunning := true }, pwm := { live.pwm with phases := live.pwm.phases.set 11 { own := true, commanded := true, avg := some 5 } }, mode := { live.mode with mode := .connected } } },
       11, 5, by unfold Machine.Mach.Shaped; decide +kernel, by decide +kernel, by decide +kernel, by decide +kernel, by decide +kernel⟩,
   ⟨{ m := { live with clk := { live.clk with procRunning := true }, saf := { live.saf with sw2 := 2 }, chain := { live.chain with takenOver := false }, pair := { live.pair with lost := false, ogen := 1 } } },
       11, 2, by unfold Machine.Mach.Shaped; decide +kernel, by decide +kernel, by decide +kernel, by decide +kernel, by decide +kernel⟩,
   ⟨{ m := { live with clk := { live.clk with procRunning := true }, saf := { live.saf with sw2 := 2 }, chain := { live.chain with takenOver := false }, pair := { live.pair with lost := false, ogen := 1 } } },
       0, by unfold Machine.Mach.Shaped; decide +kernel, by decide +kernel, by decide +kernel, by decide +kernel⟩,
   ⟨{ m := { live with clk := { live.clk with procRunning := true }, pwm := { live.pwm with latch := false }, conv := { live.conv with startAt := some 0, loop := .voltage } } },
       0, by unfold Machine.Mach.Shaped; decide +kernel, by decide +kernel, by decide +kernel, by decide +kernel, by decide +kernel,
       .inr (.inr rfl)⟩,
   ⟨{ m := { live with clk := { live.clk with procRunning := true }, mode := { live.mode with mode := .shutdown }, conv := { live.conv with softStop := true, stopAt := 0 } } },
       by unfold Machine.Mach.Shaped; decide +kernel, by decide +kernel, by decide +kernel, by decide +kernel, by decide +kernel⟩,
   ⟨{ m := { live with params := [(objKey 0x2706 5, 1)], clk := { live.clk with powered := true, procRunning := true }, meas := { live.meas with dipLine := false }, mode := { live.mode with mode := .connected }, conv := { live.conv with burstAt := some 5 } } },
       0, 1000001, 5, by unfold Machine.Mach.Shaped; decide +kernel, by decide +kernel, by decide +kernel, by decide +kernel,
       by decide +kernel, by decide +kernel, .inr (.inl (by decide +kernel))⟩,
   ⟨{ m := { live with clk := { live.clk with powered := true, procRunning := true }, meas := { live.meas with dipLine := true }, conv := { live.conv with dipHold := true, dipRef := 0 } } },
       0, 0, by unfold Machine.Mach.Shaped; decide +kernel, by decide +kernel, by decide +kernel, by decide +kernel, by decide +kernel,
       by decide +kernel⟩,
   ⟨{ m := { live with clk := { live.clk with powered := true }, meas := { live.meas with dipLine := false }, conv := { live.conv with dipRef := 0 } } },
       0, 0, by unfold Machine.Mach.Shaped; decide +kernel, by decide +kernel, .inr (by decide +kernel)⟩,
   ⟨{ m := { live with now := 1000000000000000, fabBase := 0, clk := { live.clk with procRunning := true }, conv := { live.conv with dipHold := true, dipEdge := false, dipOff := some 0 }, meas := { live.meas with dipLine := false } } },
       by unfold Machine.Mach.Shaped; decide +kernel, by decide +kernel, by decide +kernel, by decide +kernel, by decide +kernel,
       by decide +kernel⟩,
   ⟨{ m := { live with conv := { live.conv with dipHold := false } } }, by unfold Machine.Mach.Shaped; decide +kernel,
       .inl (by decide +kernel)⟩,
   ⟨{ m := { live with now := 1000000000000000, clk := { live.clk with procRunning := true }, pwm := { live.pwm with latch := true, ft := 0, ftOff := 0, latchAt := 0 }, conv := { live.conv with loop := .power } } },
       by unfold Machine.Mach.Shaped; decide +kernel, by decide +kernel, by decide +kernel, by decide +kernel, by decide +kernel,
       by decide +kernel, by decide +kernel⟩,
   ⟨{ m := { live with pwm := { live.pwm with ft := 1 } } }, by unfold Machine.Mach.Shaped; decide +kernel, .inl (by decide +kernel)⟩⟩

/-- The premises of PrechargeAndPhaseLossTakeEffect can be met, clause by clause. -/
theorem witness_PrechargeAndPhaseLossTakeEffect :
    (∃ (s : State), s.m.Shaped ∧ s.m.clk.procRunning = true ∧ s.m.conv.stage = .p1 ∧ 95 * (s.m.meas.sStr : Rat) ≤ 100 * s.m.conv.link) ∧
    (∃ (s : State), s.m.Shaped ∧ s.m.clk.procRunning = true ∧ s.m.conv.stage = .p2 ∧ s.m.meas.sShunt.natAbs ≤ 10 * s.m.par 0x2707 2 ∧
        s.m.elapsed? s.m.conv.doneSince 5000000 = true) ∧
    (∃ (s : State), s.m.Shaped ∧ s.m.clk.procRunning = true ∧ ((s.m.conv.stage = .p1 ∧
        100 * s.m.conv.link < 95 * (s.m.meas.sStr : Rat)) ∨ (s.m.conv.stage = .p2 ∧
        (10 * s.m.par 0x2707 2 < s.m.meas.sShunt.natAbs ∨ s.m.elapsed? s.m.conv.doneSince 5000000 = false)))) ∧
    (∃ (s : State), s.m.Shaped ∧ s.m.clk.procRunning = true ∧ s.m.conv.stage = .kPosHold ∧ s.m.elapsed s.m.conv.stepAt 20000000 = true) ∧
    (∃ (s : State), s.m.Shaped ∧ s.m.clk.procRunning = true ∧ (s.m.conv.stage ≠ .kPosHold ∨ s.m.elapsed s.m.conv.stepAt 20000000 = false)) ∧
    (∃ (s : State) (iShunt : Int) (iPh : List Int) (ripple : List Int), s.m.Shaped ∧ s.m.clk.procRunning = true ∧ s.m.conv.loop ≠ .none ∧
        s.m.conv.unresolved = false ∧ max 10000 ((iShunt.natAbs : Rat) / 20) < absQ (s.m.residual iShunt iPh) ∧ (∀ k ∈ s.m.activePhases,
        s.m.rippleOff k (nth ripple k 0) = false) ∧ (∀ k ∈ s.m.checked, (s.m.phase k).fault = false ∧
        s.m.looksOpen k ((s.m.phase k).avg.getD 0) (nth ripple k 0) = false)) ∧
    (∃ (s : State), s.m.Shaped ∧ s.m.clk.procRunning = true ∧ s.m.conv.loop = .none) ∧
    (∃ (s : State) (ripple : List Int) (k : _), s.m.Shaped ∧ s.m.clk.procRunning = true ∧ k < 12 ∧ s.m.conv.loop ≠ .none ∧
        s.m.checked = [k] ∧ (s.m.phase k).disabled = false ∧
        ((s.m.phase k).fault = true ∨ s.m.looksOpen k ((s.m.phase k).avg.getD 0) (nth ripple k 0) = true) ∧
        ((s.m.phase k).fault = true ∨ 1 ≤ (s.m.phase k).openRun)) ∧
    (∃ (s : State) (iShunt : Int) (iPh : List Int) (ripple : List Int) (k : _), s.m.Shaped ∧ s.m.clk.procRunning = true ∧ k < 12 ∧
        s.m.conv.loop ≠ .none ∧ s.m.checked = [k] ∧ (s.m.phase k).disabled = false ∧ (s.m.phase k).fault = false ∧
        s.m.looksOpen k ((s.m.phase k).avg.getD 0) (nth ripple k 0) = true ∧ (s.m.phase k).openRun = 0 ∧
        absQ (s.m.residual iShunt iPh) ≤ max 10000 ((iShunt.natAbs : Rat) / 20)) ∧
    (∃ (s : State) (iShunt : Int) (iPh : List Int) (ripple : List Int) (k : _), s.m.Shaped ∧ s.m.clk.procRunning = true ∧ k < 12 ∧
        s.m.conv.loop ≠ .none ∧ s.m.checked = [k] ∧ (s.m.phase k).disabled = false ∧ (s.m.phase k).fault = false ∧
        s.m.looksOpen k ((s.m.phase k).avg.getD 0) (nth ripple k 0) = false ∧ s.m.rippleOff k (nth ripple k 0) = true ∧
        max 10000 ((iShunt.natAbs : Rat) / 20) < absQ (s.m.residual iShunt iPh)) ∧
    (∃ (s : State), s.m.Shaped ∧ s.m.clk.procRunning = true ∧ s.m.conv.unresolved = true ∧ s.m.elapsed s.m.conv.unresAt 1000000000 = true) ∧
    (∃ (s : State), s.m.Shaped ∧ s.m.clk.procRunning = true ∧
        (s.m.conv.unresolved = false ∨ s.m.elapsed s.m.conv.unresAt 1000000000 = false)) ∧
    (∃ (s : State) (k : Nat), s.m.Shaped ∧ s.m.clk.procRunning = true ∧ k < 12 ∧ s.m.mode.mode = .standby ∧
        s.m.elapsed s.m.conv.standbyAt 10000000 = true ∧ (s.m.phase k).disabled = true ∧ (s.m.phase k).fault = false ∧
        (s.m.phase k).offsetBad = false ∧ s.m.elapsed (s.m.phase k).validAt 10000000 = true) ∧
    (∃ (s : State) (k : Nat), s.m.Shaped ∧ s.m.clk.procRunning = true ∧ k < 12 ∧
        (s.m.mode.mode ≠ .standby ∨ (s.m.phase k).fault = true ∨ (s.m.phase k).offsetBad = true ∨ s.m.elapsed s.m.conv.standbyAt 10000000 = false ∨ s.m.elapsed (s.m.phase k).validAt 10000000 = false)) :=
  ⟨⟨{ m := { live with clk := { live.clk with procRunning := true }, conv := { live.conv with stage := .p1, link := 95 }, meas := { live.meas with sStr := 100 } } },
      by unfold Machine.Mach.Shaped; decide +kernel, by decide +kernel, by decide +kernel, by decide +kernel⟩,
   ⟨{ m := { live with now := 1000000000000000, clk := { live.clk with procRunning := true }, conv := { live.conv with stage := .p2, doneSince := some 0 }, meas := { live.meas with sShunt := 0 } } },
       by unfold Machine.Mach.Shaped; decide +kernel, by decide +kernel, by decide +kernel, by decide +kernel, by decide +kernel⟩,
   ⟨{ m := { live with clk := { live.clk with procRunning := true }, conv := { live.conv with stage := .p1, link := 94 }, meas := { live.meas with sStr := 100 } } },
       by unfold Machine.Mach.Shaped; decide +kernel, by decide +kernel, .inl (by decide +kernel)⟩,
   ⟨{ m := { live with now := 1000000000000000, clk := { live.clk with procRunning := true }, conv := { live.conv with stage := .kPosHold, stepAt := 0 } } },
       by unfold Machine.Mach.Shaped; decide +kernel, by decide +kernel, by decide +kernel, by decide +kernel⟩,
   ⟨{ m := { live with clk := { live.clk with procRunning := true }, conv := { live.conv with stage := .p1 } } },
       by unfold Machine.Mach.Shaped; decide +kernel, by decide +kernel, .inl (by decide +kernel)⟩,
   ⟨{ m := { live with clk := { live.clk with procRunning := true }, conv := { live.conv with unresolved := false, loop := .current } } },
       10001, [], [], by unfold Machine.Mach.Shaped; decide +kernel, by decide +kernel, by decide +kernel, by decide +kernel,
       by decide +kernel, by decide +kernel, by decide +kernel⟩,
   ⟨{ m := { live with clk := { live.clk with procRunning := true }, conv := { live.conv with loop := .none } } },
       by unfold Machine.Mach.Shaped; decide +kernel, by decide +kernel, by decide +kernel⟩,
   ⟨{ m := { live with params := [(objKey 0x2600 0, 12), (objKey 0x2701 2, 100)], clk := { live.clk with procRunning := true }, pwm := { live.pwm with phases := live.pwm.phases.set 11 { own := true, commanded := true, openRun := 1, avg := some 0, duty := 1 } }, mode := { live.mode with mode := .connected }, conv := { live.conv with loop := .current, iPhRef := 1000000 }, meas := { live.meas with sBus := 100000, sStr := 50000 } } },
       [], 11, by unfold Machine.Mach.Shaped; decide +kernel, by decide +kernel, by decide +kernel, by decide +kernel, by decide +kernel,
       by decide +kernel, .inr (by decide +kernel), .inr (by decide +kernel)⟩,
   ⟨{ m := { live with params := [(objKey 0x2600 0, 12), (objKey 0x2701 2, 100)], clk := { live.clk with procRunning := true }, pwm := { live.pwm with phases := live.pwm.phases.set 11 { own := true, commanded := true, openRun := 0, avg := some 0, duty := 1 } }, mode := { live.mode with mode := .connected }, conv := { live.conv with loop := .current, iPhRef := 1000000 }, meas := { live.meas with sBus := 100000, sStr := 50000 } } },
       10000, [], [], 11, by unfold Machine.Mach.Shaped; decide +kernel, by decide +kernel, by decide +kernel, by decide +kernel,
       by decide +kernel, by decide +kernel, by decide +kernel, by decide +kernel, by decide +kernel, by decide +kernel⟩,
   ⟨{ m := { live with params := [(objKey 0x2600 0, 12), (objKey 0x2701 2, 100)], clk := { live.clk with procRunning := true }, pwm := { live.pwm with phases := live.pwm.phases.set 11 { own := true, commanded := true, openRun := 0, avg := some 1000000, duty := 1 } }, mode := { live.mode with mode := .connected }, conv := { live.conv with loop := .current, iPhRef := 1000000 }, meas := { live.meas with sBus := 100000, sStr := 50000 } } },
       10001, [], [], 11, by unfold Machine.Mach.Shaped; decide +kernel, by decide +kernel, by decide +kernel, by decide +kernel,
       by decide +kernel, by decide +kernel, by decide +kernel, by decide +kernel, by decide +kernel, by decide +kernel⟩,
   ⟨{ m := { live with now := 1000000000000000, clk := { live.clk with procRunning := true }, conv := { live.conv with unresolved := true, unresAt := 0 } } },
       by unfold Machine.Mach.Shaped; decide +kernel, by decide +kernel, by decide +kernel, by decide +kernel⟩,
   ⟨{ m := { live with clk := { live.clk with procRunning := true }, conv := { live.conv with unresolved := false } } },
       by unfold Machine.Mach.Shaped; decide +kernel, by decide +kernel, .inl (by decide +kernel)⟩,
   ⟨{ m := { live with params := [(objKey 0x2600 0, 12)], clk := { live.clk with procRunning := true }, mode := { live.mode with mode := .standby }, pwm := { live.pwm with phases := live.pwm.phases.set 11 { disabled := true } } } },
       11, by unfold Machine.Mach.Shaped; decide +kernel, by decide +kernel, by decide +kernel, by decide +kernel, by decide +kernel,
       by decide +kernel, by decide +kernel, by decide +kernel, by decide +kernel⟩,
   ⟨{ m := { live with clk := { live.clk with procRunning := true }, mode := { live.mode with mode := .boot } } }, 11,
       by unfold Machine.Mach.Shaped; decide +kernel, by decide +kernel, by decide +kernel, .inl (by decide +kernel)⟩⟩

/-- The premises of PortCommandsTakeEffect can be met, clause by clause. -/
theorem witness_PortCommandsTakeEffect :
    (∃ (s : State) (p : Nat), s.m.Shaped ∧ s.m.clk.procRunning = true ∧ p < 4 ∧ (s.m.port p).state = .empty) ∧
    (∃ (s : State) (p : Nat), s.m.Shaped ∧ s.m.clk.procRunning = true ∧ p < 4 ∧ (s.m.port p).state ≠ .empty) ∧
    (∃ (s : State) (p : Nat), s.m.Shaped ∧ s.m.clk.procRunning = true ∧ p < 4 ∧ (s.m.port p).state = .noLock) ∧
    (∃ (s : State) (p : Nat), s.m.Shaped ∧ s.m.clk.procRunning = true ∧ p < 4 ∧ (s.m.port p).state ≠ .noLock) ∧
    (∃ (s : State) (p : Nat), s.m.Shaped ∧ s.m.clk.procRunning = true ∧ p < 4 ∧ (s.m.port p).state ∈ [.hello, .delay, .up, .miswired]) ∧
    (∃ (s : State) (p : Nat), s.m.Shaped ∧ s.m.clk.procRunning = true ∧ p < 4 ∧ (s.m.port p).state ∉ [.hello, .delay, .up, .miswired]) ∧
    (∃ (s : State) (p : Nat), s.m.Shaped ∧ s.m.clk.procRunning = true ∧ p < 4 ∧ (s.m.port p).state = .up) ∧
    (∃ (s : State) (p : Nat), s.m.Shaped ∧ s.m.clk.procRunning = true ∧ p < 4 ∧ (s.m.port p).state ∈ [.hello, .delay, .miswired, .noLock]) ∧
    (∃ (s : State) (p : Nat), s.m.Shaped ∧ s.m.clk.procRunning = true ∧ p < 4 ∧ (s.m.port p).state = .heldDown ∧
        s.m.elapsed (s.m.port p).heldAt 10000000000 = true) ∧
    (∃ (s : State) (p : Nat), s.m.Shaped ∧ s.m.clk.procRunning = true ∧ p < 4 ∧
        ((s.m.port p).state ≠ .heldDown ∨ s.m.elapsed (s.m.port p).heldAt 10000000000 = false)) ∧
    (∃ (s : State) (p : Nat), s.m.Shaped ∧ s.m.clk.procRunning = true ∧ p < 4 ∧ ((s.m.port p).state = .delay ∨ (s.m.port p).state = .up)) ∧
    (∃ (s : State) (p : Nat), s.m.Shaped ∧ s.m.clk.procRunning = true ∧ p < 4 ∧ (s.m.port p).state ≠ .delay ∧ (s.m.port p).state ≠ .up) ∧
    (∃ (s : State) (p : Nat) (pseq : Nat) (t1 : _), s.m.Shaped ∧ s.m.clk.procRunning = true ∧ p < 4 ∧ (s.m.port p).t1 = some (pseq, t1)) ∧
    (∃ (s : State) (p : Nat) (pseq : Nat), s.m.Shaped ∧ s.m.clk.procRunning = true ∧ p < 4 ∧
        (s.m.port p).t1.all (fun x => x.1 != pseq) = true) :=
  ⟨⟨{ m := { live with clk := { live.clk with procRunning := true }, fab := { live.fab with ports := live.fab.ports.set 3 {  } } } }, 3,
      by unfold Machine.Mach.Shaped; decide +kernel, by decide +kernel, by decide +kernel, by decide +kernel⟩,
   ⟨{ m := { live with clk := { live.clk with procRunning := true }, fab := { live.fab with ports := live.fab.ports.set 3 { state := .up } } } },
       3, by unfold Machine.Mach.Shaped; decide +kernel, by decide +kernel, by decide +kernel, by decide +kernel⟩,
   ⟨{ m := { live with clk := { live.clk with procRunning := true }, fab := { live.fab with ports := live.fab.ports.set 3 { state := .noLock } } } },
       3, by unfold Machine.Mach.Shaped; decide +kernel, by decide +kernel, by decide +kernel, by decide +kernel⟩,
   ⟨{ m := { live with clk := { live.clk with procRunning := true }, fab := { live.fab with ports := live.fab.ports.set 3 {  } } } }, 3,
       by unfold Machine.Mach.Shaped; decide +kernel, by decide +kernel, by decide +kernel, by decide +kernel⟩,
   ⟨{ m := { live with clk := { live.clk with procRunning := true }, fab := { live.fab with ports := live.fab.ports.set 3 { state := .miswired } } } },
       3, by unfold Machine.Mach.Shaped; decide +kernel, by decide +kernel, by decide +kernel, by decide +kernel⟩,
   ⟨{ m := { live with clk := { live.clk with procRunning := true }, fab := { live.fab with ports := live.fab.ports.set 3 { state := .noLock } } } },
       3, by unfold Machine.Mach.Shaped; decide +kernel, by decide +kernel, by decide +kernel, by decide +kernel⟩,
   ⟨{ m := { live with clk := { live.clk with procRunning := true }, fab := { live.fab with ports := live.fab.ports.set 3 { state := .up, downs := [1000000000000000, 1000000000000000] } } } },
       3, by unfold Machine.Mach.Shaped; decide +kernel, by decide +kernel, by decide +kernel, by decide +kernel⟩,
   ⟨{ m := { live with clk := { live.clk with procRunning := true }, fab := { live.fab with ports := live.fab.ports.set 3 { state := .delay } } } },
       3, by unfold Machine.Mach.Shaped; decide +kernel, by decide +kernel, by decide +kernel, by decide +kernel⟩,
   ⟨{ m := { live with now := 1000000000000000, clk := { live.clk with procRunning := true }, fab := { live.fab with ports := live.fab.ports.set 3 { state := .heldDown } } } },
       3, by unfold Machine.Mach.Shaped; decide +kernel, by decide +kernel, by decide +kernel, by decide +kernel, by decide +kernel⟩,
   ⟨{ m := { live with clk := { live.clk with procRunning := true }, fab := { live.fab with ports := live.fab.ports.set 3 { state := .up } } } },
       3, by unfold Machine.Mach.Shaped; decide +kernel, by decide +kernel, by decide +kernel, .inl (by decide +kernel)⟩,
   ⟨{ m := { live with clk := { live.clk with procRunning := true }, fab := { live.fab with ports := live.fab.ports.set 3 { state := .up } } } },
       3, by unfold Machine.Mach.Shaped; decide +kernel, by decide +kernel, by decide +kernel, .inr (by decide +kernel)⟩,
   ⟨{ m := { live with clk := { live.clk with procRunning := true }, fab := { live.fab with ports := live.fab.ports.set 3 {  } } } }, 3,
       by unfold Machine.Mach.Shaped; decide +kernel, by decide +kernel, by decide +kernel, by decide +kernel, by decide +kernel⟩,
   ⟨{ m := { live with clk := { live.clk with procRunning := true }, fab := { live.fab with ports := live.fab.ports.set 3 { state := .delay, t1 := some (4, 6), delays := List.replicate 15 5 } } } },
       3, 4, 6, by unfold Machine.Mach.Shaped; decide +kernel, by decide +kernel, by decide +kernel, by decide +kernel⟩,
   ⟨{ m := { live with clk := { live.clk with procRunning := true }, fab := { live.fab with ports := live.fab.ports.set 3 { state := .delay, t1 := none } } } },
       3, 0, by unfold Machine.Mach.Shaped; decide +kernel, by decide +kernel, by decide +kernel, by decide +kernel⟩⟩

/-- The premises of AddressAndRouteCommandsTakeEffect can be met, clause by clause. -/
theorem witness_AddressAndRouteCommandsTakeEffect :
    (∃ (s : State) (p : Nat) (serial : Nat) (seq : Nat), s.m.Shaped ∧ s.m.clk.procRunning = true ∧ p < 4 ∧ (s.m.port p).state = .up ∧
        serial ≠ s.m.fab.serial ∧ ((s.m.lsaDb (planeOf p)).find? (fun r => r.serial == serial)).all (fun r => newer32 seq r.seq) = true) ∧
    (∃ (s : State) (p : Nat) (serial : Nat) (seq : Nat), s.m.Shaped ∧ s.m.clk.procRunning = true ∧ p < 4 ∧ (s.m.port p).state = .up ∧
        (serial = s.m.fab.serial ∨ ((s.m.lsaDb (planeOf p)).find? (fun r => r.serial == serial)).any (fun r => !newer32 seq r.seq) = true)) ∧
    (∃ (s : State) (p : Nat), s.m.Shaped ∧ s.m.clk.procRunning = true ∧ (s.m.port p).state ≠ .up) ∧
    (∃ (s : State) (plane : Nat), s.m.Shaped ∧ s.m.clk.procRunning = true ∧ plane < 2) ∧
    (∃ (s : State), s.m.Shaped ∧ s.m.clk.procRunning = true ∧ s.m.fab.claim = .idle ∧ s.m.fab.addr = 0xFFFF ∧ s.m.anyUp = true) ∧
    (∃ (s : State), s.m.Shaped ∧ s.m.clk.procRunning = true ∧ (s.m.fab.claim ≠ .idle ∨ s.m.fab.addr ≠ 0xFFFF ∨ s.m.anyUp = false)) ∧
    (∃ (s : State), s.m.Shaped ∧ s.m.clk.procRunning = true ∧ s.m.fab.claim = .listen ∧ s.m.elapsed s.m.fab.claimAt 200000000 = true) ∧
    (∃ (s : State), s.m.Shaped ∧ s.m.clk.procRunning = true ∧ (s.m.fab.claim ≠ .listen ∨ s.m.elapsed s.m.fab.claimAt 200000000 = false)) ∧
    (∃ (s : State), s.m.Shaped ∧ s.m.clk.procRunning = true ∧ s.m.fab.claim = .wait ∧ s.m.elapsed s.m.fab.claimAt 100000000 = true ∧
        s.m.fab.lost = false) ∧
    (∃ (s : State), s.m.Shaped ∧ s.m.clk.procRunning = true ∧ s.m.fab.claim = .wait ∧ s.m.elapsed s.m.fab.claimAt 100000000 = true ∧
        s.m.fab.lost = true) ∧
    (∃ (s : State), s.m.Shaped ∧ s.m.clk.procRunning = true ∧ (s.m.fab.claim ≠ .wait ∨ s.m.elapsed s.m.fab.claimAt 100000000 = false)) ∧
    (∃ (s : State), s.m.Shaped ∧ s.m.clk.procRunning = true ∧ s.m.fab.addr ≠ 0xFFFF ∧ s.m.fab.tier ≠ .established ∧ s.m.fab.claim = .idle ∧
        s.m.elapsed s.m.fab.claimAt 10000000000 = true) ∧
    (∃ (s : State), s.m.Shaped ∧ s.m.clk.procRunning = true ∧
        (s.m.fab.addr = 0xFFFF ∨ s.m.fab.tier = .established ∨ s.m.fab.claim ≠ .idle ∨ s.m.elapsed s.m.fab.claimAt 10000000000 = false)) ∧
    (∃ (s : State) (serial : Nat) (tier : Nat) (kind : Nat), s.m.Shaped ∧ s.m.clk.procRunning = true ∧ serial ≠ s.m.fab.serial ∧ kind ≠ 2 ∧
        s.m.fab.addr ≠ 0xFFFF ∧ s.m.rivalWins serial tier s.m.fab.tier.code = false) ∧
    (∃ (s : State) (serial : Nat) (tier : Nat) (kind : Nat), s.m.Shaped ∧ s.m.clk.procRunning = true ∧ serial ≠ s.m.fab.serial ∧ kind ≠ 2 ∧
        s.m.fab.addr ≠ 0xFFFF ∧ s.m.rivalWins serial tier s.m.fab.tier.code = true) ∧
    (∃ (s : State) (serial : Nat) (addr : Nat) (kind : Nat), s.m.Shaped ∧ s.m.clk.procRunning = true ∧ serial ≠ s.m.fab.serial ∧ kind ≠ 2 ∧
        (s.m.fab.addr ≠ addr ∨ addr = 0xFFFF)) ∧
    (∃ (s : State) (p : Nat) (f : FabFrame), s.m.Shaped ∧ s.m.clk.procRunning = true ∧ s.m.takesIn p f = false) ∧
    (∃ (s : State) (p : Nat) (f : FabFrame), s.m.Shaped ∧ s.m.clk.procRunning = true ∧ s.m.takesIn p f = true ∧ s.m.discards p f = true) ∧
    (∃ (s : State) (p : Nat) (f : FabFrame), s.m.Shaped ∧ s.m.clk.procRunning = true ∧ p < 4 ∧ s.m.takesIn p f = true ∧ f.fcsOk = false) ∧
    (∃ (s : State) (p : Nat) (f : FabFrame) (q : _), s.m.Shaped ∧ s.m.clk.procRunning = true ∧ s.m.takesIn p f = true ∧
        s.m.discards p f = false ∧ s.m.egress p f = [q]) :=
  ⟨⟨{ m := { live with clk := { live.clk with procRunning := true }, fab := { live.fab with ports := live.fab.ports.set 3 { state := .up }, dbB := [lsaRec] } } },
      3, 9, 6, by unfold Machine.Mach.Shaped; decide +kernel, by decide +kernel, by decide +kernel, by decide +kernel, by decide +kernel,
      by decide +kernel⟩,
   ⟨{ m := { live with clk := { live.clk with procRunning := true }, fab := { live.fab with ports := live.fab.ports.set 3 { state := .up }, dbB := [lsaRec] } } },
       3, 9, 5, by unfold Machine.Mach.Shaped; decide +kernel, by decide +kernel, by decide +kernel, by decide +kernel,
       .inr (by decide +kernel)⟩,
   ⟨{ m := { live with clk := { live.clk with procRunning := true }, fab := { live.fab with ports := live.fab.ports.set 3 { state := .delay } } } },
       3, by unfold Machine.Mach.Shaped; decide +kernel, by decide +kernel, by decide +kernel⟩,
   ⟨{ m := { live with clk := { live.clk with procRunning := true }, fab := { live.fab with dbB := [lsaRec] } } }, 1,
       by unfold Machine.Mach.Shaped; decide +kernel, by decide +kernel, by decide +kernel⟩,
   ⟨{ m := { live with clk := { live.clk with procRunning := true }, fab := { live.fab with claim := .idle, addr := 0xFFFF, ports := live.fab.ports.set 3 { state := .up } } } },
       by unfold Machine.Mach.Shaped; decide +kernel, by decide +kernel, by decide +kernel, by decide +kernel, by decide +kernel⟩,
   ⟨{ m := { live with clk := { live.clk with procRunning := true }, fab := { live.fab with claim := .wait } } },
       by unfold Machine.Mach.Shaped; decide +kernel, by decide +kernel, .inl (by decide +kernel)⟩,
   ⟨{ m := { live with now := 1000000000000000, clk := { live.clk with procRunning := true }, fab := { live.fab with claim := .listen, claimAt := 0 } } },
       by unfold Machine.Mach.Shaped; decide +kernel, by decide +kernel, by decide +kernel, by decide +kernel⟩,
   ⟨{ m := { live with clk := { live.clk with procRunning := true }, fab := { live.fab with claim := .wait } } },
       by unfold Machine.Mach.Shaped; decide +kernel, by decide +kernel, .inl (by decide +kernel)⟩,
   ⟨{ m := { live with now := 1000000000000000, clk := { live.clk with procRunning := true }, fab := { live.fab with claim := .wait, lost := false, claimAt := 0, cand := (7, .hint) } } },
       by unfold Machine.Mach.Shaped; decide +kernel, by decide +kernel, by decide +kernel, by decide +kernel, by decide +kernel⟩,
   ⟨{ m := { live with now := 1000000000000000, clk := { live.clk with procRunning := true }, fab := { live.fab with claim := .wait, lost := true, claimAt := 0, cand := (1023, .auto) } } },
       by unfold Machine.Mach.Shaped; decide +kernel, by decide +kernel, by decide +kernel, by decide +kernel, by decide +kernel⟩,
   ⟨{ m := { live with clk := { live.clk with procRunning := true }, fab := { live.fab with claim := .idle } } },
       by unfold Machine.Mach.Shaped; decide +kernel, by decide +kernel, .inl (by decide +kernel)⟩,
   ⟨{ m := { live with now := 1000000000000000, clk := { live.clk with procRunning := true }, fab := { live.fab with claim := .idle, addr := 1, tier := .hint, claimAt := 0 } } },
       by unfold Machine.Mach.Shaped; decide +kernel, by decide +kernel, by decide +kernel, by decide +kernel, by decide +kernel,
       by decide +kernel⟩,
   ⟨{ m := { live with clk := { live.clk with procRunning := true }, fab := { live.fab with addr := 0xFFFF } } },
       by unfold Machine.Mach.Shaped; decide +kernel, by decide +kernel, .inl (by decide +kernel)⟩,
   ⟨{ m := { live with clk := { live.clk with procRunning := true }, fab := { live.fab with addr := 1 } } }, 5, 0, 1,
       by unfold Machine.Mach.Shaped; decide +kernel, by decide +kernel, by decide +kernel, by decide +kernel, by decide +kernel,
       by decide +kernel⟩,
   ⟨{ m := { live with clk := { live.clk with procRunning := true }, fab := { live.fab with serial := 3, addr := 1, tier := .established }, plant := { live.plant with isMember := true } } },
       0, 3, 0, by unfold Machine.Mach.Shaped; decide +kernel, by decide +kernel, by decide +kernel, by decide +kernel, by decide +kernel,
       by decide +kernel⟩,
   ⟨{ m := { live with clk := { live.clk with procRunning := true }, fab := { live.fab with addr := 1, claim := .wait, cand := (7, .hint) } } },
       9, 7, 0, by unfold Machine.Mach.Shaped; decide +kernel, by decide +kernel, by decide +kernel, by decide +kernel,
       .inl (by decide +kernel)⟩,
   ⟨{ m := { live with clk := { live.clk with procRunning := true }, fab := { live.fab with ports := live.fab.ports.set 3 { state := .noLock } } } },
       3, fabFrame, by unfold Machine.Mach.Shaped; decide +kernel, by decide +kernel, by decide +kernel⟩,
   ⟨{ m := { live with clk := { live.clk with procRunning := true }, fab := { live.fab with ports := live.fab.ports.set 3 { state := .up } } } },
       3, { fabFrame with hcrcOk := false }, by unfold Machine.Mach.Shaped; decide +kernel, by decide +kernel, by decide +kernel,
       by decide +kernel⟩,
   ⟨{ m := { live with clk := { live.clk with procRunning := true }, fab := { live.fab with ports := live.fab.ports.set 3 { state := .up } } } },
       3, { fabFrame with fcsOk := false }, by unfold Machine.Mach.Shaped; decide +kernel, by decide +kernel, by decide +kernel,
       by decide +kernel, by decide +kernel⟩,
   ⟨{ m := { live with clk := { live.clk with procRunning := true }, fab := { live.fab with ports := live.fab.ports.set 3 { state := .up }, routesB := [(7, 1, 1)] } } },
       3, fabFrame, 1, by unfold Machine.Mach.Shaped; decide +kernel, by decide +kernel, by decide +kernel, by decide +kernel,
       by decide +kernel⟩⟩

/-- The premises of TimeAndSafeMessageCommandsTakeEffect can be met, clause by clause. -/
theorem witness_TimeAndSafeMessageCommandsTakeEffect :
    (∃ (s : State), s.m.Shaped ∧ s.m.clk.procRunning = true ∧ s.m.gmCandidate = true) ∧
    (∃ (s : State), s.m.Shaped ∧ s.m.clk.procRunning = true ∧ s.m.gmCandidate = false) ∧
    (∃ (s : State), s.m.Shaped ∧ s.m.clk.procRunning = true ∧ s.m.fab.time ≠ .grandmaster ∧
        s.m.fab.betterAt.all (fun t => s.m.elapsed t 300000000) = true ∧ ((s.m.fab.gmRank = none ∧
        (s.m.elapsed? s.m.fab.firstUp 1000000000 = true ∨ (s.m.anyUp = false ∧ s.m.mode.mode ≠ .boot ∧
        s.m.mode.since + 10000000000 ≤ s.m.fabTime))) ∨ s.m.fab.gmRank.any (fun g => !s.m.gmAlive || (s.m.ownRank.beats g && s.m.fab.time == .synced)) = true)) ∧
    (∃ (s : State), s.m.Shaped ∧ s.m.clk.procRunning = true ∧
        (s.m.fab.time = .grandmaster ∨ s.m.fab.betterAt.any (fun t => !s.m.elapsed t 300000000) = true ∨ s.m.fab.gmRank.any (fun g => s.m.gmAlive && !(s.m.ownRank.beats g && s.m.fab.time == .synced)) = true)) ∧
    (∃ (s : State) (p : Nat) (rx : Nat) (origin : Nat) (corr : Int) (gm : Nat), s.m.Shaped ∧ s.m.clk.procRunning = true ∧ p < 4 ∧
        (s.m.port p).state = .up ∧ s.m.fab.time = .unsync ∧ s.m.fab.acquired = false ∧
        10000 < ((s.m.port p).syncOffset rx origin corr).natAbs ∧ s.m.mayStep = true ∧ s.m.timePlaneFor gm (planeOf p) = planeOf p) ∧
    (∃ (s : State) (p : Nat) (rx : Nat) (origin : Nat) (corr : Int) (gm : Nat), s.m.Shaped ∧ s.m.clk.procRunning = true ∧ p < 4 ∧
        (s.m.port p).state = .up ∧ s.m.fab.time ≠ .grandmaster ∧
        (s.m.fab.acquired = true ∨ s.m.mayStep = false ∨ ((s.m.port p).syncOffset rx origin corr).natAbs ≤ 10000) ∧
        planeOf p = (if s.m.fab.time = .unsync then s.m.timePlaneFor gm (planeOf p) else s.m.fab.timePlane)) ∧
    (∃ (s : State) (p : Nat) (gm : Nat), s.m.Shaped ∧ s.m.clk.procRunning = true ∧ (s.m.port p).state = .up ∧ s.m.fab.time = .grandmaster ∧
        gm ≠ s.m.fab.addr ∧ s.m.fab.better.any (fun g => g.addr == gm) = true) ∧
    (∃ (s : State) (p : Nat) (gm : Nat), s.m.Shaped ∧ s.m.clk.procRunning = true ∧ ((s.m.port p).state ≠ .up ∨ (s.m.fab.time = .grandmaster ∧
        (gm = s.m.fab.addr ∨ s.m.fab.better.all (fun g => g.addr != gm) = true)))) ∧
    (∃ (s : State), s.m.Shaped ∧ s.m.clk.procRunning = true ∧ (s.m.fab.time = .acquiring ∨ s.m.fab.time = .synced) ∧ 10 < s.m.fab.missA ∧
        10 < s.m.fab.missB) ∧
    (∃ (s : State), s.m.Shaped ∧ s.m.clk.procRunning = true ∧ ((s.m.fab.time ≠ .acquiring ∧
        s.m.fab.time ≠ .synced) ∨ s.m.fab.missA ≤ 10 ∨ s.m.fab.missB ≤ 10)) ∧
    (∃ (s : State) (domain : Nat), s.m.Shaped ∧ s.m.clk.procRunning = true ∧ s.m.parB 0x2807 1 = true ∧ domain = s.m.par 0x2807 2 ∧
        s.m.fab.ptp = 0) ∧
    (∃ (s : State) (domain : Nat), s.m.Shaped ∧ s.m.clk.procRunning = true ∧ (s.m.parB 0x2807 1 = false ∨ domain ≠ s.m.par 0x2807 2)) ∧
    (∃ (s : State) (conn : Nat), s.m.clk.procRunning = true ∧ s.m.saf.walnutLive = true ∧ ((conn = 1 ∧ s.m.paired = true) ∨ (conn = 2 ∧
        s.m.sw3On 6 = true))) ∧
    (∃ (s : State) (conn : Nat), s.m.clk.procRunning = true ∧ (s.m.saf.walnutLive = false ∨ (conn = 1 ∧ s.m.paired = false) ∨ (conn = 2 ∧
        s.m.sw3On 6 = false))) ∧
    (∃ (s : State) (plane : Nat) (flag : Nat) (conn : Nat) (src : Nat) (hdrSrc : Nat) (dst : Nat), s.m.clk.procRunning = true ∧
        s.m.safeMatch plane flag conn src hdrSrc dst = false) ∧
    (∃ (s : State) (plane : Nat) (flag : Nat) (conn : Nat) (src : Nat) (hdrSrc : Nat) (dst : Nat) (time : Nat), s.m.clk.procRunning = true ∧
        s.m.safeMatch plane flag conn src hdrSrc dst = true ∧ (s.m.fabTime + 1000 < time ∨ time + connTimeout conn < s.m.fabTime)) ∧
    (∃ (s : State) (plane : Nat) (flag : Nat) (conn : Nat) (src : Nat) (hdrSrc : Nat) (dst : Nat) (sseq : Nat) (time : Nat) (last : _),
        s.m.clk.procRunning = true ∧ s.m.safeMatch plane flag conn src hdrSrc dst = true ∧ time ≤ s.m.fabTime + 1000 ∧
        s.m.fabTime ≤ time + connTimeout conn ∧ (s.m.connOf conn src).last = some last ∧ 1 ≤ (sseq + 2 ^ 32 - last) % 2 ^ 32 ∧
        (sseq + 2 ^ 32 - last) % 2 ^ 32 ≤ 16) ∧
    (∃ (s : State) (plane : Nat) (flag : Nat) (conn : Nat) (src : Nat) (hdrSrc : Nat) (dst : Nat) (sseq : Nat) (time : Nat),
        s.m.clk.procRunning = true ∧ s.m.safeMatch plane flag conn src hdrSrc dst = true ∧ time ≤ s.m.fabTime + 1000 ∧
        s.m.fabTime ≤ time + connTimeout conn ∧ (s.m.connOf conn src).last = some sseq ∧ (s.m.connOf conn src).both = false ∧
        s.m.now ≤ (s.m.connOf conn src).at_ + 2000000 ∧ plane ≠ (s.m.connOf conn src).plane) ∧
    (∃ (s : State) (plane : Nat) (flag : Nat) (conn : Nat) (src : Nat) (hdrSrc : Nat) (dst : Nat) (sseq : Nat) (time : Nat) (last : _),
        s.m.clk.procRunning = true ∧ s.m.safeMatch plane flag conn src hdrSrc dst = true ∧ time ≤ s.m.fabTime + 1000 ∧
        s.m.fabTime ≤ time + connTimeout conn ∧ (s.m.connOf conn src).last = some last ∧ 16 < (sseq + 2 ^ 32 - last) % 2 ^ 32) ∧
    (∃ (s : State) (plane : Nat) (flag : Nat) (conn : Nat) (src : Nat) (hdrSrc : Nat) (dst : Nat) (time : Nat), s.m.clk.procRunning = true ∧
        s.m.safeMatch plane flag conn src hdrSrc dst = true ∧ time ≤ s.m.fabTime + 1000 ∧ s.m.fabTime ≤ time + connTimeout conn ∧
        (s.m.connOf conn src).last = none ∧ ((s.m.connOf conn src).state = 1 ∨ ((s.m.connOf conn src).state = 2 ∧
        s.m.isPending .safeCopyMismatch = false))) ∧
    (∃ (s : State) (conn : Nat) (src : Nat), s.m.clk.procRunning = true ∧ (s.m.connOf conn src).both = false ∧
        (s.m.connOf conn src).last ≠ none ∧ s.m.elapsed (s.m.connOf conn src).at_ 2000000 = true) ∧
    (∃ (s : State) (conn : Nat) (src : Nat), s.m.clk.procRunning = true ∧
        ((s.m.connOf conn src).both = true ∨ (s.m.connOf conn src).last = none ∨ s.m.elapsed (s.m.connOf conn src).at_ 2000000 = false)) ∧
    (∃ (s : State) (conn : Nat) (src : Nat), s.m.clk.procRunning = true ∧ s.m.connKnown conn src = true ∧ (s.m.connOf conn src).state = 0 ∧
        s.m.elapsed (s.m.connOf conn src).at_ (connTimeout conn) = true) ∧
    (∃ (s : State) (conn : Nat) (src : Nat), s.m.clk.procRunning = true ∧
        (s.m.connKnown conn src = false ∨ (s.m.connOf conn src).state ≠ 0 ∨ s.m.elapsed (s.m.connOf conn src).at_ (connTimeout conn) = false)) :=
  ⟨⟨{ m := { live with clk := { live.clk with procRunning := true }, fab := { live.fab with time := .grandmaster } } },
      by unfold Machine.Mach.Shaped; decide +kernel, by decide +kernel, by decide +kernel⟩,
   ⟨{ m := { live with now := 1000000000000000, clk := { live.clk with procRunning := true }, fab := { live.fab with time := .synced, gmAt := some 1000000000000000, gmRank := some { source := 0, prio := 0, serial := 1, addr := 0xFFFF } } } },
       by unfold Machine.Mach.Shaped; decide +kernel, by decide +kernel, by decide +kernel⟩,
   ⟨{ m := { live with now := 1000000000000000, clk := { live.clk with procRunning := true }, fab := { live.fab with gmRank := none, time := .unsync, betterAt := none, firstUp := some 0 } } },
       by unfold Machine.Mach.Shaped; decide +kernel, by decide +kernel, by decide +kernel, by decide +kernel, .inl (by decide +kernel)⟩,
   ⟨{ m := { live with clk := { live.clk with procRunning := true }, fab := { live.fab with time := .grandmaster } } },
       by unfold Machine.Mach.Shaped; decide +kernel, by decide +kernel, .inl rfl⟩,
   ⟨{ m := { live with clk := { live.clk with procRunning := true }, fab := { live.fab with time := .unsync, acquired := false, ports := live.fab.ports.set 3 { state := .up }, routesA := [], routesB := [] } } },
       3, 65536000000, 5, 0, 0, by unfold Machine.Mach.Shaped; decide +kernel, by decide +kernel, by decide +kernel, by decide +kernel,
       by decide +kernel, by decide +kernel, by decide +kernel, by decide +kernel, by decide +kernel⟩,
   ⟨{ m := { live with clk := { live.clk with procRunning := true }, fab := { live.fab with ports := live.fab.ports.set 3 { state := .up }, time := .unsync, acquired := true, routesA := [], routesB := [] } } },
       3, 0, 0, 0, 0, by unfold Machine.Mach.Shaped; decide +kernel, by decide +kernel, by decide +kernel, by decide +kernel,
       by decide +kernel, .inl rfl, by decide +kernel⟩,
   ⟨{ m := { live with clk := { live.clk with procRunning := true }, fab := { live.fab with time := .grandmaster, ports := live.fab.ports.set 3 { state := .up }, addr := 6, better := some { source := 0, prio := 0, serial := 1, addr := 0xFFFF } } } },
       3, 0xFFFF, by unfold Machine.Mach.Shaped; decide +kernel, by decide +kernel, by decide +kernel, by decide +kernel, by decide +kernel,
       by decide +kernel⟩,
   ⟨{ m := { live with clk := { live.clk with procRunning := true }, fab := { live.fab with time := .grandmaster, better := none } } }, 0,
       0, by unfold Machine.Mach.Shaped; decide +kernel, by decide +kernel, .inr (by decide +kernel)⟩,
   ⟨{ m := { live with clk := { live.clk with procRunning := true }, fab := { live.fab with missA := 11, missB := 11, time := .synced } } },
       by unfold Machine.Mach.Shaped; decide +kernel, by decide +kernel, .inr rfl, by decide +kernel, by decide +kernel⟩,
   ⟨{ m := { live with clk := { live.clk with procRunning := true }, fab := { live.fab with missA := 10 } } },
       by unfold Machine.Mach.Shaped; decide +kernel, by decide +kernel, .inr (.inl (by decide +kernel))⟩,
   ⟨{ m := { live with params := [(objKey 0x2807 1, 1), (objKey 0x2807 2, 3)], clk := { live.clk with procRunning := true }, fab := { live.fab with ptp := 0 } } },
       3, by unfold Machine.Mach.Shaped; decide +kernel, by decide +kernel, by decide +kernel, by decide +kernel, by decide +kernel⟩,
   ⟨{ m := { live with params := [(objKey 0x2807 1, 0)], clk := { live.clk with procRunning := true } } }, 0,
       by unfold Machine.Mach.Shaped; decide +kernel, by decide +kernel, .inl (by decide +kernel)⟩,
   ⟨{ m := { live with clk := { live.clk with procRunning := true }, saf := { live.saf with walnutLive := true, sw2 := 1 } } }, 1,
       by decide +kernel, by decide +kernel, .inl (by decide +kernel)⟩,
   ⟨{ m := { live with clk := { live.clk with procRunning := true }, saf := { live.saf with walnutLive := false } } }, 0, by decide +kernel,
       .inl (by decide +kernel)⟩,
   ⟨{ m := { live with clk := { live.clk with procRunning := true } } }, 0, 0, 3, 0, 0, 0, by decide +kernel, by decide +kernel⟩,
   ⟨{ m := { live with clk := { live.clk with procRunning := true }, saf := { live.saf with sw2 := 1 }, pair := { live.pair with pAddr := 5 }, fab := { live.fab with addr := 6 }, safe := { live.safe with conns := [] } } },
       1, 1, 1, 5, 5, 6, 10 ^ 30, by decide +kernel, by decide +kernel, .inl (by decide +kernel)⟩,
   ⟨{ m := { live with clk := { live.clk with procRunning := true }, saf := { live.saf with sw2 := 1 }, pair := { live.pair with pAddr := 5 }, fab := { live.fab with addr := 6 }, safe := { live.safe with conns := [conn1] }, flt := { live.flt with inj := none } } },
       1, 1, 1, 5, 5, 6, 17, live.fabTime, 1, by decide +kernel, by decide +kernel, by decide +kernel, by decide +kernel, by decide +kernel,
       by decide +kernel, by decide +kernel⟩,
   ⟨{ m := { live with clk := { live.clk with procRunning := true }, saf := { live.saf with sw2 := 1 }, pair := { live.pair with pAddr := 5 }, fab := { live.fab with addr := 6 }, safe := { live.safe with conns := [{ conn1 with at_ := live.now }] } } },
       1, 1, 1, 5, 5, 6, 1, live.fabTime, by decide +kernel, by decide +kernel, by decide +kernel, by decide +kernel, by decide +kernel,
       by decide +kernel, by decide +kernel, by decide +kernel⟩,
   ⟨{ m := { live with clk := { live.clk with procRunning := true }, saf := { live.saf with sw2 := 1 }, pair := { live.pair with pAddr := 5 }, fab := { live.fab with addr := 6 }, safe := { live.safe with conns := [conn1] } } },
       1, 1, 1, 5, 5, 6, 18, live.fabTime, 1, by decide +kernel, by decide +kernel, by decide +kernel, by decide +kernel, by decide +kernel,
       by decide +kernel⟩,
   ⟨{ m := { live with clk := { live.clk with procRunning := true }, saf := { live.saf with sw2 := 1 }, pair := { live.pair with pAddr := 5 }, fab := { live.fab with addr := 6 }, safe := { live.safe with conns := [{ conn1 with last := none, state := 1 }] } } },
       1, 1, 1, 5, 5, 6, live.fabTime, by decide +kernel, by decide +kernel, by decide +kernel, by decide +kernel, by decide +kernel,
       .inl (by decide +kernel)⟩,
   ⟨{ m := { live with now := 1000000000000000, clk := { live.clk with procRunning := true }, safe := { live.safe with conns := [conn1] } } },
       1, 5, by decide +kernel, by decide +kernel, by decide +kernel, by decide +kernel⟩,
   ⟨{ m := { live with clk := { live.clk with procRunning := true }, safe := { live.safe with conns := [{ conn1 with both := true }] } } },
       1, 5, by decide +kernel, .inl (by decide +kernel)⟩,
   ⟨{ m := { live with now := 1000000000000000, clk := { live.clk with procRunning := true }, saf := { live.saf with sw2 := 1 }, pair := { live.pair with pAddr := 5 }, fab := { live.fab with addr := 6 }, safe := { live.safe with conns := [conn1] } } },
       1, 5, by decide +kernel, by decide +kernel, by decide +kernel, by decide +kernel⟩,
   ⟨{ m := { live with clk := { live.clk with procRunning := true } } }, 3, 0, by decide +kernel, .inl (by decide +kernel)⟩⟩

/-- The premises of PlantRequestsIssueCommands can be met, clause by clause. -/
theorem witness_PlantRequestsIssueCommands :
    (∃ (s : State), s.m.clk.procRunning = true) ∧
    (∃ (s : State) (role : Nat), s.m.clk.procRunning = true ∧ 1 ≤ role ∧ s.m.plant.issuedNow < 16) ∧
    (∃ (s : State) (role : Nat), s.m.clk.procRunning = true ∧ 1 ≤ role ∧ 16 ≤ s.m.plant.issuedNow) ∧
    (∀ t ∈ [1, 4, 5, 6], plantArgsOk t (if t = 6 then 1 else 1000) 0 = decide (t ≠ 1) ∧ plantArgsOk t (-1) (-1) = false) :=
  ⟨⟨{ m := { live with clk := { live.clk with procRunning := true } } }, by decide +kernel⟩,
   ⟨{ m := { live with plant := { live.plant with issuedNow := 15 } } }, 1, by decide +kernel, by decide +kernel, by decide +kernel⟩,
   ⟨{ m := { live with plant := { live.plant with issuedNow := 16 } } }, 1, by decide +kernel, by decide +kernel, by decide +kernel⟩,
   by decide⟩

/-- The premises of PlantCommandsTakeEffect can be met, clause by clause. -/
theorem witness_PlantCommandsTakeEffect :
    (∃ (s : State) (c : PlantCmd), s.m.clk.procRunning = true ∧ 1 ≤ c.ctype ∧ c.ctype ≤ 8 ∧ (∀ d ∈ s.m.plant.cmds, ¬ (d.issuer = c.issuer ∧
        d.cseq = c.cseq)) ∧ (c.issuer, c.cseq) ∉ s.m.plant.doneCmds) ∧
    (∃ (s : State) (c : PlantCmd) (crc : Bool), s.m.clk.procRunning = true ∧ (crc = false ∨ c.ctype = 0 ∨ 8 < c.ctype ∨ (c.issuer,
        c.cseq) ∈ s.m.plant.doneCmds ∨ (∃ d ∈ s.m.plant.cmds, d.issuer = c.issuer ∧ d.cseq = c.cseq))) ∧
    (∃ (s : State) (cseq : Nat) (c : _), s.m.clk.procRunning = true ∧ s.m.plant.issued.find? (fun d => d.cseq == cseq) = some c) ∧
    (∃ (s : State) (cseq : Nat), s.m.clk.procRunning = true ∧ s.m.plant.issued.find? (fun d => d.cseq == cseq) = none) ∧
    (∀ t ∈ [1, 2, 3, 4, 5, 6, 7, 8], ∃ (s : State) (q : PlantCmd), s.m.clk.procRunning = true ∧ q ∈ s.m.plant.cmds ∧
      s.m.plant.cmds.find? (fun d => d.ctype == t && d.issuer == q.issuer && d.cseq == q.cseq) = some q ∧
      s.m.admission q = some true ∧ (t = 1 ∨ q.effect ≤ s.m.fastEpoch)) ∧
    (∀ t ∈ [1, 2, 3, 4, 5, 6, 7, 8], ∃ (s : State) (issuer cseq : Nat), s.m.clk.procRunning = true ∧
      (s.m.plant.cmds.find? (fun d => d.ctype == t && d.issuer == issuer && d.cseq == cseq)).all (fun q =>
        s.m.admission q != some true || (t != 1 && decide (s.m.fastEpoch < q.effect))) = true) :=
  ⟨⟨{ m := { live with clk := { live.clk with procRunning := true } } }, order, by decide +kernel, by decide +kernel, by decide +kernel,
      by decide +kernel, by decide +kernel⟩,
   ⟨{ m := { live with clk := { live.clk with procRunning := true } } }, order, false, by decide +kernel, .inl rfl⟩,
   ⟨{ m := { live with clk := { live.clk with procRunning := true }, plant := { live.plant with issued := [order] } } }, 1, order,
       by decide +kernel, by decide +kernel⟩,
   ⟨{ m := { live with clk := { live.clk with procRunning := true }, plant := { live.plant with issued := [] } } }, 0, by decide +kernel,
       by decide +kernel⟩,
   fun t ht => ⟨admitted t, { order with ctype := t }, by revert t; decide +kernel⟩,
   fun t ht => ⟨{ m := live }, 7, 1, by revert t; decide +kernel⟩⟩

/-- The premises of MembershipCommandsTakeEffect can be met, clause by clause. -/
theorem witness_MembershipCommandsTakeEffect :
    (∃ (s : State), s.m.clk.procRunning = true ∧ s.m.fab.time = .grandmaster ∧ s.m.plant.isMember = false ∧ s.m.fab.addr ≠ 0xFFFF ∧
        (s.m.anyUp = false ∨ s.m.elapsed (max s.m.plant.gmSince (s.m.plant.lastMember.getD 0)) 1000000000 = true)) ∧
    (∃ (s : State), s.m.clk.procRunning = true ∧
        (s.m.fab.time ≠ .grandmaster ∨ s.m.plant.isMember = true ∨ s.m.fab.addr = 0xFFFF ∨ (s.m.anyUp = true ∧
        s.m.elapsed (max s.m.plant.gmSince (s.m.plant.lastMember.getD 0)) 1000000000 = false))) ∧
    (∃ (s : State), s.m.clk.procRunning = true ∧ s.m.stepActive 3 = true ∧ s.m.anyUp = false ∧
        s.m.elapsed s.m.mode.stepSince 10000000000 = true ∧ s.m.plant.isMember = false) ∧
    (∃ (s : State), s.m.clk.procRunning = true ∧ s.m.stepActive 3 = true ∧ s.m.anyUp = false ∧
        s.m.elapsed s.m.mode.stepSince 10000000000 = true ∧ s.m.plant.isMember = true) ∧
    (∃ (s : State), s.m.clk.procRunning = true ∧
        (s.m.stepActive 3 = false ∨ s.m.anyUp = true ∨ s.m.elapsed s.m.mode.stepSince 10000000000 = false)) ∧
    (∃ (s : State) (a : Nat) (x : _) (ser : _), s.m.clk.procRunning = true ∧ s.m.plant.isMember = true ∧ s.m.plant.latest a = some x ∧
        bit x.flags 0 = true ∧ x.mode % 16 ≠ 0 ∧ x.founder = 0xFFFF ∧ 100 ≤ aget s.m.plant.candRuns a 0 ∧
        successor s.m.plant.addrs a = some s.m.fab.addr ∧ s.m.plant.waits 7 a = false ∧ s.m.plant.members.length < 1024 ∧
        s.m.serialOf a = some ser ∧ s.m.plant.issuedNow < 16) ∧
    (∃ (s : State) (a : Nat), s.m.clk.procRunning = true ∧
        (s.m.plant.isMember = false ∨ aget s.m.plant.candRuns a 0 < 100 ∨ successor s.m.plant.addrs a ≠ some s.m.fab.addr ∨ s.m.plant.waits 7 a = true ∨ s.m.serialOf a = none ∨ s.m.plant.latest a = none ∨ 16 ≤ s.m.plant.issuedNow)) ∧
    (∃ (s : State) (a : Nat), s.m.clk.procRunning = true ∧ s.m.plant.isMember = true ∧ 10 ≤ aget s.m.plant.absent a 0 ∧
        successor s.m.plant.present a = some s.m.fab.addr ∧ s.m.plant.waits 8 a = false ∧ s.m.plant.issuedNow < 16) ∧
    (∃ (s : State) (a : Nat), s.m.clk.procRunning = true ∧
        (s.m.plant.isMember = false ∨ aget s.m.plant.absent a 0 < 10 ∨ successor s.m.plant.present a ≠ some s.m.fab.addr ∨ s.m.plant.waits 8 a = true ∨ 16 ≤ s.m.plant.issuedNow)) ∧
    (∃ (s : State) (effect : Nat), s.m.clk.procRunning = true ∧ s.m.plant.isMember = false ∧ s.m.fastEpoch < effect) ∧
    (∃ (s : State) (effect : Nat), s.m.clk.procRunning = true ∧ (s.m.plant.isMember = true ∨ effect ≤ s.m.fastEpoch)) ∧
    (∃ (s : State), s.m.clk.procRunning = true ∧ s.m.plant.isMember = true ∧ s.m.plant.leaving = true ∧ s.m.fastEpoch % 100 = 0) ∧
    (∃ (s : State), s.m.clk.procRunning = true ∧ (s.m.plant.isMember = false ∨ s.m.plant.leaving = false ∨ s.m.fastEpoch % 100 ≠ 0)) :=
  ⟨⟨{ m := { live with clk := { live.clk with procRunning := true }, fab := { live.fab with time := .grandmaster, addr := 1, ports := List.replicate 4 {} }, plant := { live.plant with isMember := false } } },
      by decide +kernel, by decide +kernel, by decide +kernel, by decide +kernel, .inl (by decide +kernel)⟩,
   ⟨{ m := { live with clk := { live.clk with procRunning := true }, plant := { live.plant with isMember := true } } }, by decide +kernel,
       .inr (.inl (by decide +kernel))⟩,
   ⟨{ m := { live with now := 1000000000000000, fabBase := 0, clk := { live.clk with procRunning := true }, mode := { live.mode with mode := .commission, commStep := 3, commFailed := false, stepSince := 0 }, plant := { live.plant with isMember := false }, fab := { live.fab with ports := List.replicate 4 {}, addr := 0xFFFF } } },
       by decide +kernel, by decide +kernel, by decide +kernel, by decide +kernel, by decide +kernel⟩,
   ⟨{ m := { live with now := 1000000000000000, fabBase := 0, clk := { live.clk with procRunning := true }, mode := { live.mode with mode := .commission, commStep := 3, commFailed := false, stepSince := 0 }, plant := { live.plant with isMember := true }, fab := { live.fab with ports := List.replicate 4 {} } } },
       by decide +kernel, by decide +kernel, by decide +kernel, by decide +kernel, by decide +kernel⟩,
   ⟨{ m := { live with clk := { live.clk with procRunning := true }, mode := { live.mode with mode := .boot } } }, by decide +kernel,
       .inl (by decide +kernel)⟩,
   ⟨{ m := { live with now := 1000000000000000, fabBase := 0, clk := { live.clk with procRunning := true }, plant := { live.plant with isMember := true, accepted := [(1000000000, 9, summ)], candRuns := [(9, 100)], members := [memb], issuedNow := 15, cmds := [] }, fab := { live.fab with addr := 5, dbA := [lsaRec] } } },
       9, summ, 9, by decide +kernel, by decide +kernel, by decide +kernel, by decide +kernel, by decide +kernel, by decide +kernel,
       by decide +kernel, by decide +kernel, by decide +kernel, by decide +kernel, by decide +kernel, by decide +kernel⟩,
   ⟨{ m := { live with clk := { live.clk with procRunning := true }, plant := { live.plant with isMember := false } } }, 0,
       by decide +kernel, .inl (by decide +kernel)⟩,
   ⟨{ m := { live with now := 1000000000000000, fabBase := 0, clk := { live.clk with procRunning := true }, plant := { live.plant with isMember := true, absent := [(9, 10)], views := [{ epoch := 0, entries := [(memb, some summ)], founder := 0, mv := 0, digest := 0, state := 1 }], lastFast := 0, cmds := [], issuedNow := 15 }, fab := { live.fab with addr := 5 } } },
       9, by decide +kernel, by decide +kernel, by decide +kernel, by decide +kernel, by decide +kernel, by decide +kernel⟩,
   ⟨{ m := { live with clk := { live.clk with procRunning := true }, plant := { live.plant with isMember := false } } }, 0,
       by decide +kernel, .inl (by decide +kernel)⟩,
   ⟨{ m := { live with now := 1000000000000000, fabBase := 0, clk := { live.clk with procRunning := true }, plant := { live.plant with isMember := false } } },
       1000000001, by decide +kernel, by decide +kernel, by decide +kernel⟩,
   ⟨{ m := { live with clk := { live.clk with procRunning := true }, plant := { live.plant with isMember := true } } }, 0,
       by decide +kernel, .inl (by decide +kernel)⟩,
   ⟨{ m := { live with now := 1000000000000000, fabBase := 0, clk := { live.clk with procRunning := true }, plant := { live.plant with isMember := true, leaving := true }, mode := { live.mode with mode := .dispatch } } },
       by decide +kernel, by decide +kernel, by decide +kernel, by decide +kernel⟩,
   ⟨{ m := { live with clk := { live.clk with procRunning := true }, plant := { live.plant with isMember := false } } }, by decide +kernel,
       .inl (by decide +kernel)⟩⟩

/-- The premises of PlantRecordsAreExchanged can be met, clause by clause. -/
theorem witness_PlantRecordsAreExchanged :
    (∃ (s : State) (src : Nat) (r : Summary), s.m.clk.procRunning = true ∧ src ≠ s.m.fab.addr ∧ r.epoch = s.m.fastEpoch % 2 ^ 32 ∧
        (s.m.fastEpoch, src) ∉ s.m.plant.differing ∧ s.m.plant.summaryAt s.m.fastEpoch src = none) ∧
    (∃ (s : State) (src : Nat) (r : Summary) (old : _), s.m.clk.procRunning = true ∧ src ≠ s.m.fab.addr ∧ r.epoch = s.m.fastEpoch % 2 ^ 32 ∧
        (s.m.fastEpoch, src) ∉ s.m.plant.differing ∧ s.m.plant.summaryAt s.m.fastEpoch src = some old ∧ old ≠ r) ∧
    (∃ (s : State) (src : Nat) (r : Summary) (inTime : Bool), s.m.clk.procRunning = true ∧ (src = s.m.fab.addr ∨ (inTime = false ∧
        s.m.plant.view (nearEpoch s.m.fastEpoch r.epoch) = none))) ∧
    (∃ (s : State) (src : Nat) (r : Summary) (v : _), s.m.clk.procRunning = true ∧ src ≠ s.m.fab.addr ∧
        s.m.plant.view (nearEpoch s.m.fastEpoch r.epoch) = some v ∧ v.state = 2 ∧ v.entries.any (fun e => e.1.addr == src) = true ∧
        v.major = some (viewDigest v.founder v.mv (v.entries.map (fun e => if e.1.addr == src then (e.1, some r) else e))) ∧
        v.epoch = nearEpoch s.m.fastEpoch r.epoch) ∧
    (∃ (s : State) (epoch : Nat) (b : _), s.m.clk.procRunning = true ∧ aget? s.m.plant.bodies (nearEpoch s.m.slowEpoch epoch) = some b ∧
        s.m.slowEpoch < nearEpoch s.m.slowEpoch epoch + 4) ∧
    (∃ (s : State) (epoch : Nat), s.m.clk.procRunning = true ∧
        (aget? s.m.plant.bodies (nearEpoch s.m.slowEpoch epoch) = none ∨ nearEpoch s.m.slowEpoch epoch + 4 ≤ s.m.slowEpoch)) ∧
    (∃ (s : State) (epoch : Nat) (h : _), s.m.clk.procRunning = true ∧ s.m.plant.ownHeads.find? (fun x => x.epoch == epoch) = some h) ∧
    (∃ (s : State) (epoch : Nat), s.m.clk.procRunning = true ∧ s.m.plant.ownHeads.find? (fun x => x.epoch == epoch) = none) ∧
    (∃ (s : State) (epoch : Nat) (x : _), s.m.clk.procRunning = true ∧ s.m.plant.ownSums.find? (fun x => x.epoch == epoch) = some x) ∧
    (∃ (s : State) (epoch : Nat), s.m.clk.procRunning = true ∧ s.m.plant.ownSums.find? (fun x => x.epoch == epoch) = none) ∧
    (∃ (s : State) (c : _), s.m.clk.procRunning = true ∧ s.m.plant.cap = some c ∧ s.m.mode.mode ≠ .boot ∧ s.m.fab.addr ≠ 0xFFFF ∧
        c.epoch = s.m.fastEpoch % 2 ^ 32) ∧
    (∃ (s : State), s.m.clk.procRunning = true ∧ (s.m.plant.cap = none ∨ s.m.mode.mode = .boot ∨ s.m.fab.addr = 0xFFFF)) ∧
    (∃ (s : State), s.m.clk.procRunning = true ∧ s.m.mode.mode ≠ .boot ∧ s.m.fab.addr ≠ 0xFFFF ∧ s.m.plant.isMember = true ∧
        (∀ h ∈ s.m.plant.ownHeads, h.epoch ≠ s.m.slowEpoch % 2 ^ 32)) ∧
    (∃ (s : State), s.m.clk.procRunning = true ∧
        (s.m.mode.mode = .boot ∨ s.m.fab.addr = 0xFFFF ∨ s.m.plant.isMember = false ∨ (∃ h ∈ s.m.plant.ownHeads,
        h.epoch = s.m.slowEpoch % 2 ^ 32))) :=
  ⟨⟨{ m := { live with now := 1000000000000000, fabBase := 0, clk := { live.clk with procRunning := true }, plant := { live.plant with accepted := [] }, fab := { live.fab with addr := 1 } } },
      5, summ, by decide +kernel, by decide +kernel, by decide +kernel, by decide +kernel, by decide +kernel⟩,
   ⟨{ m := { live with now := 1000000000000000, fabBase := 0, clk := { live.clk with procRunning := true }, fab := { live.fab with addr := 1 }, plant := { live.plant with accepted := [(1000000000, 5, { summ with soc := 1 })] } } },
       5, summ, { summ with soc := 1 }, by decide +kernel, by decide +kernel, by decide +kernel, by decide +kernel, by decide +kernel,
       by decide +kernel⟩,
   ⟨{ m := { live with clk := { live.clk with procRunning := true }, fab := { live.fab with addr := 5 } } }, 5, summ, true,
       by decide +kernel, .inl rfl⟩,
   ⟨{ m := { live with now := 1000000000000000, fabBase := 0, clk := { live.clk with procRunning := true }, fab := { live.fab with addr := 1 }, plant := { live.plant with views := [{ epoch := 999999990, entries := [(memb, none)], founder := 0, mv := 0, digest := 7, state := 2, major := some (viewDigest 0 0 [(memb, some { summ with epoch := 999999990 })]) }] } } },
       5, { summ with epoch := 999999990 },
       { epoch := 999999990, entries := [(memb, none)], founder := 0, mv := 0, digest := 7, state := 2, major := some (viewDigest 0 0 [(memb, some { summ with epoch := 999999990 })]) },
       by decide +kernel, by decide +kernel, by decide +kernel, by decide +kernel, by decide +kernel, by decide +kernel, by decide +kernel⟩,
   ⟨{ m := { live with now := 1000000000000000, fabBase := 0, clk := { live.clk with procRunning := true }, plant := { live.plant with bodies := [(100000000, [])] } } },
       100000000, [], by decide +kernel, by decide +kernel, by decide +kernel⟩,
   ⟨{ m := { live with now := 1000000000000000, fabBase := 0, clk := { live.clk with procRunning := true }, plant := { live.plant with bodies := [] } } },
       0, by decide +kernel, .inl (by decide +kernel)⟩,
   ⟨{ m := { live with clk := { live.clk with procRunning := true }, plant := { live.plant with ownHeads := [headRec] } } }, 1, headRec,
       by decide +kernel, by decide +kernel⟩,
   ⟨{ m := { live with clk := { live.clk with procRunning := true }, plant := { live.plant with ownHeads := [] } } }, 0, by decide +kernel,
       by decide +kernel⟩,
   ⟨{ m := { live with clk := { live.clk with procRunning := true }, plant := { live.plant with ownSums := [summ] } } }, 1000000000, summ,
       by decide +kernel, by decide +kernel⟩,
   ⟨{ m := { live with clk := { live.clk with procRunning := true }, plant := { live.plant with ownSums := [] } } }, 0, by decide +kernel,
       by decide +kernel⟩,
   ⟨{ m := { live with now := 1000000000000000, fabBase := 0, clk := { live.clk with procRunning := true }, mode := { live.mode with mode := .standby }, plant := { live.plant with cap := some summ }, fab := { live.fab with addr := 1 } } },
       summ, by decide +kernel, by decide +kernel, by decide +kernel, by decide +kernel, by decide +kernel⟩,
   ⟨{ m := { live with clk := { live.clk with procRunning := true }, plant := { live.plant with cap := none } } }, by decide +kernel,
       .inl (by decide +kernel)⟩,
   ⟨{ m := { live with clk := { live.clk with procRunning := true }, plant := { live.plant with isMember := true, ownHeads := [] }, mode := { live.mode with mode := .standby }, fab := { live.fab with addr := 1 } } },
       by decide +kernel, by decide +kernel, by decide +kernel, by decide +kernel, by decide +kernel⟩,
   ⟨{ m := { live with clk := { live.clk with procRunning := true }, mode := { live.mode with mode := .boot } } }, by decide +kernel,
       .inl (by decide +kernel)⟩⟩

/-- The premises of ViewAndAllocationCommandsTakeEffect can be met, clause by clause. -/
theorem witness_ViewAndAllocationCommandsTakeEffect :
    (∃ (s : State), s.m.clk.procRunning = true ∧ s.m.plant.isMember = true ∧ s.m.plant.view s.m.fastEpoch = none) ∧
    (∃ (s : State), s.m.clk.procRunning = true ∧ (s.m.plant.isMember = false ∨ s.m.plant.view s.m.fastEpoch ≠ none)) ∧
    (∃ (s : State) (n : _) (v : _), s.m.clk.procRunning = true ∧ s.m.fastEpoch = n + 1 ∧ s.m.plant.view n = some v ∧ v.state = 0 ∧
        majority (v.entries.filterMap (fun e => (s.m.plant.summaryAt (n + 1) e.1.addr).map (fun x => x.digest))) v.entries.length = some v.digest) ∧
    (∃ (s : State) (n : _) (v : _), s.m.clk.procRunning = true ∧ s.m.fastEpoch = n + 1 ∧ s.m.plant.view n = some v ∧ v.state = 0 ∧
        majority (v.entries.filterMap (fun e => (s.m.plant.summaryAt (n + 1) e.1.addr).map (fun x => x.digest))) v.entries.length ≠ some v.digest) ∧
    (∃ (s : State), s.m.clk.procRunning = true ∧ (s.m.plant.view (s.m.fastEpoch - 1)).all (fun v => v.state != 0) = true) ∧
    (∃ (s : State) (k : _) (v : _), s.m.clk.procRunning = true ∧ s.m.plant.isMember = true ∧ s.m.fastEpoch = 10 * k + 12 ∧
        s.m.plant.view (10 * k + 11) = some v) ∧
    (∃ (s : State), s.m.clk.procRunning = true ∧ (s.m.plant.isMember = false ∨ s.m.fastEpoch % 10 ≠ 2 ∨ s.m.fastEpoch < 12)) ∧
    (∃ (s : State) (v : _) (r : _), s.m.clk.procRunning = true ∧ s.m.plant.views.find? (fun v => v.state != 0) = some v ∧ v.state = 1 ∧
        s.m.allocOf (v.epoch + 4) = none ∧ s.m.unresolved (v.epoch + 4) = false ∧ s.m.plant.isMember = true ∧
        s.m.plant.restOf (v.epoch + 4) = some r) ∧
    (∃ (s : State) (missed : Bool), s.m.clk.procRunning = true ∧
        (missed = true ∨ s.m.plant.isMember = false ∨ (s.m.plant.views.find? (fun v => v.state != 0)).all (fun v => v.state != 1 || (s.m.allocOf (v.epoch + 4)).isSome || s.m.unresolved (v.epoch + 4) || (s.m.plant.restOf (v.epoch + 4)).isNone) = true)) ∧
    (∃ (s : State) (maj : _), s.m.clk.procRunning = true ∧ s.m.plant.isMember = true ∧ aget? s.m.plant.outcomes (s.m.fastEpoch + 2) = none ∧
        majority (s.m.plant.members.filterMap (fun x => (s.m.plant.summaryAt s.m.fastEpoch x.addr).map (fun r => r.ahash))) s.m.plant.members.length = some maj ∧
        s.m.ahashOf (s.m.fastEpoch + 2) ≠ 0) ∧
    (∃ (s : State), s.m.clk.procRunning = true ∧ s.m.plant.isMember = true ∧ aget? s.m.plant.outcomes (s.m.fastEpoch + 2) = none ∧
        (majority (s.m.plant.members.filterMap (fun x => (s.m.plant.summaryAt s.m.fastEpoch x.addr).map (fun r => r.ahash))) s.m.plant.members.length = none ∨ s.m.ahashOf (s.m.fastEpoch + 2) = 0)) ∧
    (∃ (s : State), s.m.clk.procRunning = true ∧ (s.m.plant.isMember = false ∨ aget? s.m.plant.outcomes (s.m.fastEpoch + 2) ≠ none)) ∧
    (∃ (s : State), s.m.clk.procRunning = true ∧ 100 ≤ s.m.plant.holdRun ∧ s.m.mode.mode = .dispatch) ∧
    (∃ (s : State), s.m.clk.procRunning = true ∧ (s.m.plant.holdRun < 100 ∨ s.m.mode.mode ≠ .dispatch)) ∧
    (∃ (s : State) (l : _), s.m.clk.procRunning = true ∧ aget? s.m.plant.restPlan (s.m.fastEpoch - s.m.fastEpoch % 20000) = some l ∧
        s.m.plant.resting ≠ some (s.m.fastEpoch - s.m.fastEpoch % 20000, l)) ∧
    (∃ (s : State), s.m.clk.procRunning = true ∧
        (aget? s.m.plant.restPlan (s.m.fastEpoch - s.m.fastEpoch % 20000)).all (fun l => s.m.plant.resting == some (s.m.fastEpoch - s.m.fastEpoch % 20000,
        l)) = true) ∧
    (∃ (s : State) (b : _) (l : _), s.m.clk.procRunning = true ∧ s.m.plant.resting = some (b, l) ∧ b + 20000 ≤ s.m.fastEpoch) ∧
    (∃ (s : State), s.m.clk.procRunning = true ∧ s.m.plant.resting.all (fun x => decide (s.m.fastEpoch < x.1 + 20000)) = true) :=
  ⟨⟨{ m := { live with now := 1000000000000000, fabBase := 0, clk := { live.clk with procRunning := true }, plant := { live.plant with isMember := true, views := [] } } },
      by decide +kernel, by decide +kernel, by decide +kernel⟩,
   ⟨{ m := { live with clk := { live.clk with procRunning := true }, plant := { live.plant with isMember := false } } }, by decide +kernel,
       .inl (by decide +kernel)⟩,
   ⟨{ m := { live with now := 1000000000000000, fabBase := 0, clk := { live.clk with procRunning := true }, plant := { live.plant with views := [{ epoch := 999999999, entries := [(memb, some summ)], founder := 0, mv := 0, digest := 7, state := 0 }], accepted := [(1000000000, 5, summ)] } } },
       999999999, { epoch := 999999999, entries := [(memb, some summ)], founder := 0, mv := 0, digest := 7, state := 0 }, by decide +kernel,
       by decide +kernel, by decide +kernel, by decide +kernel, by decide +kernel⟩,
   ⟨{ m := { live with now := 1000000000000000, fabBase := 0, clk := { live.clk with procRunning := true }, plant := { live.plant with accepted := [], views := [{ epoch := 999999999, entries := [(memb, some summ)], founder := 0, mv := 0, digest := 7, state := 0 }] } } },
       999999999, { epoch := 999999999, entries := [(memb, some summ)], founder := 0, mv := 0, digest := 7, state := 0 }, by decide +kernel,
       by decide +kernel, by decide +kernel, by decide +kernel, by decide +kernel⟩,
   ⟨{ m := { live with clk := { live.clk with procRunning := true }, plant := { live.plant with views := [] } } }, by decide +kernel,
       by decide +kernel⟩,
   ⟨{ m := { live with now := 1000000002000000, fabBase := 0, clk := { live.clk with procRunning := true }, plant := { live.plant with isMember := true, views := [{ epoch := 1000000001, entries := [], founder := 0, mv := 0, digest := 7, state := 1 }] } } },
       99999999, { epoch := 1000000001, entries := [], founder := 0, mv := 0, digest := 7, state := 1 }, by decide +kernel,
       by decide +kernel, by decide +kernel, by decide +kernel⟩,
   ⟨{ m := { live with clk := { live.clk with procRunning := true }, plant := { live.plant with isMember := false } } }, by decide +kernel,
       .inl (by decide +kernel)⟩,
   ⟨{ m := { live with clk := { live.clk with procRunning := true }, plant := { live.plant with isMember := true, allocs := [], lacking := [], cmds := [], views := [{ epoch := 1, entries := [], founder := 0, mv := 0, digest := 7, state := 1 }], restPlan := [(0, [1])] } } },
       { epoch := 1, entries := [], founder := 0, mv := 0, digest := 7, state := 1 }, [1], by decide +kernel, by decide +kernel,
       by decide +kernel, by decide +kernel, by decide +kernel, by decide +kernel, by decide +kernel⟩,
   ⟨{ m := { live with clk := { live.clk with procRunning := true } } }, true, by decide +kernel, .inl rfl⟩,
   ⟨{ m := { live with now := 1000000000000000, fabBase := 0, clk := { live.clk with procRunning := true }, plant := { live.plant with isMember := true, outcomes := [], members := [memb], accepted := [(1000000000, 5, summ)], allocs := [{ epoch := 1000000002, entries := [], hash := 7, short := 0 }] } } },
       7, by decide +kernel, by decide +kernel, by decide +kernel, by decide +kernel, by decide +kernel⟩,
   ⟨{ m := { live with now := 1000000000000000, fabBase := 0, clk := { live.clk with procRunning := true }, plant := { live.plant with isMember := true, outcomes := [], members := [memb], accepted := [], allocs := [] } } },
       by decide +kernel, by decide +kernel, by decide +kernel, .inl (by decide +kernel)⟩,
   ⟨{ m := { live with clk := { live.clk with procRunning := true }, plant := { live.plant with isMember := false } } }, by decide +kernel,
       .inl (by decide +kernel)⟩,
   ⟨{ m := { live with clk := { live.clk with procRunning := true }, plant := { live.plant with holdRun := 100 }, mode := { live.mode with mode := .dispatch } } },
       by decide +kernel, by decide +kernel, by decide +kernel⟩,
   ⟨{ m := { live with clk := { live.clk with procRunning := true }, mode := { live.mode with mode := .standby } } }, by decide +kernel,
       .inr (by decide +kernel)⟩,
   ⟨{ m := { live with now := 1000000000000000, fabBase := 0, clk := { live.clk with procRunning := true }, plant := { live.plant with restPlan := [(1000000000, [1])], resting := none } } },
       [1], by decide +kernel, by decide +kernel, by decide +kernel⟩,
   ⟨{ m := { live with now := 1000000000000000, fabBase := 0, clk := { live.clk with procRunning := true }, plant := { live.plant with restPlan := [] } } },
       by decide +kernel, by decide +kernel⟩,
   ⟨{ m := { live with now := 1000000000000000, fabBase := 0, clk := { live.clk with procRunning := true }, plant := { live.plant with resting := some (999980000, [1]) } } },
       999980000, [1], by decide +kernel, by decide +kernel, by decide +kernel⟩,
   ⟨{ m := { live with clk := { live.clk with procRunning := true }, plant := { live.plant with resting := none } } }, by decide +kernel,
       by decide +kernel⟩⟩

/-- The premises of HeartbeatAndTakeoverCommandsTakeEffect can be met, clause by clause. -/
theorem witness_HeartbeatAndTakeoverCommandsTakeEffect :
    (∃ (s : State), s.m.Shaped ∧ s.m.clk.powered = true ∧ s.m.clk.procRunning = true ∧ s.m.hbAllowed true = true) ∧
    (∃ (s : State) (k0 : Bool), s.m.Shaped ∧ s.m.clk.powered = true ∧ (k0 = false ∨ s.m.saf.walnutLive = false ∨ s.m.inMode [.boot,
        .safeHold, .lockout] = true)) ∧
    (∃ (s : State), s.m.Shaped ∧ s.m.clk.powered = true ∧ s.m.paired = true ∧ s.m.clk.procRunning = false) ∧
    (∃ (s : State), s.m.Shaped ∧ s.m.clk.powered = true ∧ s.m.paired = false) ∧
    (∃ (s : State), s.m.Shaped ∧ s.m.clk.powered = true ∧ s.m.paired = true ∧ s.m.clk.procRunning = true ∧ s.m.pairLinkUp = true ∧
        s.m.pair.lineFault = false ∧ s.m.pair.aliveAt ≠ none) ∧
    (∃ (s : State) (recent : Bool), s.m.Shaped ∧ s.m.clk.powered = true ∧ s.m.paired = true ∧ s.m.clk.procRunning = true ∧
        (s.m.pairLinkUp = false ∨ (s.m.pair.lineFault = false ∧ (recent = false ∨ s.m.pair.aliveAt = none))) ∧ s.m.pair.lost = false ∧
        s.m.inMode [.boot, .safeHold, .lockout] = false) ∧
    (∃ (s : State), s.m.Shaped ∧ s.m.clk.powered = true ∧ s.m.paired = true ∧ s.m.clk.procRunning = true ∧ s.m.pairLinkUp = false ∧
        s.m.pair.lost = false ∧ s.m.inMode [.boot, .safeHold, .lockout] = true) ∧
    (∃ (s : State), s.m.Shaped ∧ s.m.clk.powered = true ∧ s.m.paired = true ∧ s.m.clk.procRunning = true ∧ s.m.pairLinkUp = true ∧
        s.m.pair.lineFault = true ∧ s.m.pair.lost = false ∧ s.m.inMode [.boot, .safeHold, .lockout] = false) ∧
    (∃ (s : State), s.m.Shaped ∧ s.m.clk.powered = true ∧ (s.m.pairLinkUp = false ∨ s.m.pair.lineFault = false ∨ s.m.pair.lost = true)) ∧
    (∃ (s : State), s.m.Shaped ∧ s.m.clk.powered = true ∧ s.m.clk.procRunning = true ∧ s.m.pair.acquiring = true ∧
        s.m.pair.roleConflict = false ∧ s.m.inMode [.boot, .safeHold, .lockout] = false) ∧
    (∃ (s : State), s.m.Shaped ∧ s.m.clk.powered = true ∧ s.m.clk.procRunning = true ∧ s.m.inMode [.boot, .safeHold, .lockout] = true ∧
        s.m.pair.acquiring = true) ∧
    (∃ (s : State), s.m.Shaped ∧ s.m.clk.powered = true ∧ s.m.pair.acquiring = false) :=
  ⟨⟨{ m := { live with clk := { live.clk with powered := true, procRunning := true }, saf := { live.saf with sw2 := 1, walnutLive := true }, mode := { live.mode with mode := .standby }, pair := { live.pair with hbPhase := 1 } } },
      by unfold Machine.Mach.Shaped; decide +kernel, by decide +kernel, by decide +kernel, by decide +kernel⟩,
   ⟨{ m := { live with clk := { live.clk with powered := true }, saf := { live.saf with sw2 := 1 } } }, false,
       by unfold Machine.Mach.Shaped; decide +kernel, by decide +kernel, .inl rfl⟩,
   ⟨{ m := { live with clk := { live.clk with powered := true, procRunning := false }, saf := { live.saf with sw2 := 1 } } },
       by unfold Machine.Mach.Shaped; decide +kernel, by decide +kernel, by decide +kernel, by decide +kernel⟩,
   ⟨{ m := { live with clk := { live.clk with powered := true }, saf := { live.saf with sw2 := 0 } } },
       by unfold Machine.Mach.Shaped; decide +kernel, by decide +kernel, by decide +kernel⟩,
   ⟨{ m := { live with clk := { live.clk with powered := true, procRunning := true }, saf := { live.saf with sw2 := 1 }, pair := { live.pair with lineFault := false, aliveAt := some 0 }, fab := { live.fab with ports := live.fab.ports.set 1 { state := .up, peerPort := 1 } } } },
       by unfold Machine.Mach.Shaped; decide +kernel, by decide +kernel, by decide +kernel, by decide +kernel, by decide +kernel,
       by decide +kernel, by decide +kernel⟩,
   ⟨{ m := { live with clk := { live.clk with powered := true, procRunning := true }, saf := { live.saf with sw2 := 1 }, pair := { live.pair with lost := false }, mode := { live.mode with mode := .standby }, fab := { live.fab with ports := live.fab.ports.set 1 { state := .hello, peerPort := 1 } }, imp := { live.imp with run := some binRun } } },
       true, by unfold Machine.Mach.Shaped; decide +kernel, by decide +kernel, by decide +kernel, by decide +kernel,
       .inl (by decide +kernel), by decide +kernel, by decide +kernel⟩,
   ⟨{ m := { live with clk := { live.clk with powered := true, procRunning := true }, saf := { live.saf with sw2 := 1 }, pair := { live.pair with lost := false }, mode := { live.mode with mode := .lockout }, fab := { live.fab with ports := live.fab.ports.set 1 { state := .hello, peerPort := 1 } } } },
       by unfold Machine.Mach.Shaped; decide +kernel, by decide +kernel, by decide +kernel, by decide +kernel, by decide +kernel,
       by decide +kernel, by decide +kernel⟩,
   ⟨{ m := { live with clk := { live.clk with powered := true, procRunning := true }, saf := { live.saf with sw2 := 1 }, pair := { live.pair with lineFault := true, lost := false }, fab := { live.fab with ports := live.fab.ports.set 1 { state := .up, peerPort := 1 } }, mode := { live.mode with mode := .standby } } },
       by unfold Machine.Mach.Shaped; decide +kernel, by decide +kernel, by decide +kernel, by decide +kernel, by decide +kernel,
       by decide +kernel, by decide +kernel, by decide +kernel⟩,
   ⟨{ m := { live with clk := { live.clk with powered := true }, saf := { live.saf with sw2 := 1 }, fab := { live.fab with ports := live.fab.ports.set 1 { state := .hello, peerPort := 1 } } } },
       by unfold Machine.Mach.Shaped; decide +kernel, by decide +kernel, .inl (by decide +kernel)⟩,
   ⟨{ m := { live with params := [(objKey 0x2600 0, 4)], clk := { live.clk with powered := true, procRunning := true }, pair := { live.pair with acquiring := true, roleConflict := false, toAcquire := 5 }, saf := { live.saf with sw2 := 1 }, mode := { live.mode with mode := .connected }, pwm := { live.pwm with phases := List.replicate 12 {} } } },
       by unfold Machine.Mach.Shaped; decide +kernel, by decide +kernel, by decide +kernel, by decide +kernel, by decide +kernel,
       by decide +kernel⟩,
   ⟨{ m := { live with clk := { live.clk with powered := true, procRunning := true }, pair := { live.pair with acquiring := true, toAcquire := 5 }, saf := { live.saf with sw2 := 1 }, mode := { live.mode with mode := .lockout } } },
       by unfold Machine.Mach.Shaped; decide +kernel, by decide +kernel, by decide +kernel, by decide +kernel, by decide +kernel⟩,
   ⟨{ m := { live with clk := { live.clk with powered := true }, pair := { live.pair with acquiring := false }, saf := { live.saf with sw2 := 1 } } },
       by unfold Machine.Mach.Shaped; decide +kernel, by decide +kernel, by decide +kernel⟩⟩

/-- The premises of PartnerFramesTakeEffect can be met, clause by clause. -/
theorem witness_PartnerFramesTakeEffect :
    (∃ (s : State) (ogen : Nat) (own : Nat), s.m.Shaped ∧ s.m.paired = true ∧ s.m.clk.procRunning = true ∧ s.m.pair.ogen ≤ ogen ∧
        (s.m.pair.lost = false ∨ own % 4096 = 0) ∧ own % 4096 &&& s.m.pair.acquired = 0) ∧
    (∃ (s : State) (ogen : Nat) (own : Nat), s.m.Shaped ∧ s.m.paired = true ∧ s.m.clk.procRunning = true ∧ s.m.pair.ogen ≤ ogen ∧
        ((s.m.pair.lost = true ∧ own % 4096 ≠ 0) ∨ own % 4096 &&& s.m.pair.acquired ≠ 0)) ∧
    (∃ (s : State) (ogen : Nat) (c : Checkpoint), s.m.Shaped ∧ s.m.paired = true ∧ s.m.clk.procRunning = true ∧ s.m.pair.ogen ≤ ogen ∧
        c.ver = s.m.pair.ver ∧ s.m.fastEpoch ≤ nearEpoch s.m.fastEpoch c.epoch + 5) ∧
    (∃ (s : State) (ogen : Nat) (c : Checkpoint) (crc : Bool), s.m.Shaped ∧ s.m.paired = true ∧ s.m.clk.procRunning = true ∧
        s.m.pair.ogen ≤ ogen ∧ (crc = false ∨ c.ver ≠ s.m.pair.ver ∨ nearEpoch s.m.fastEpoch c.epoch + 5 < s.m.fastEpoch)) ∧
    (∃ (s : State) (ogen : Nat) (code : Nat) (d : _), s.m.Shaped ∧ s.m.paired = true ∧ s.m.clk.procRunning = true ∧ s.m.pair.ogen ≤ ogen ∧
        Mode.ofCode code = some d) ∧
    (∃ (s : State) (ogen : Nat) (code : Nat), s.m.Shaped ∧ s.m.paired = true ∧ s.m.clk.procRunning = true ∧ s.m.pair.ogen ≤ ogen ∧
        Mode.ofCode code = none) ∧
    (∃ (s : State) (ogen : _) (c : _), s.m.Shaped ∧ s.m.paired = true ∧ s.m.clk.procRunning = true ∧ ogen < s.m.pair.ogen ∧
        c ∈ [Instr.alive 3 1 0 0 ogen, .checkpoint none true ogen, .request 3 0 0 0 false ogen, .pairConfig [] 0 0 ogen]) ∧
    (∃ (s : State) (role : Nat), s.m.Shaped ∧ s.m.paired = true ∧ s.m.clk.procRunning = true ∧ 2 ≤ role) ∧
    (∃ (s : State) (role : Nat) (unlocked : Bool), s.m.Shaped ∧ s.m.paired = true ∧ s.m.clk.procRunning = true ∧
        (role < 2 ∨ unlocked = false)) :=
  ⟨⟨{ m := { live with saf := { live.saf with sw2 := 1 }, clk := { live.clk with procRunning := true } } }, 0, 0,
      by unfold Machine.Mach.Shaped; decide +kernel, by decide +kernel, by decide +kernel, by decide +kernel, .inl (by decide +kernel),
      by decide +kernel⟩,
   ⟨{ m := { live with saf := { live.saf with sw2 := 1 }, clk := { live.clk with procRunning := true }, pair := { live.pair with lost := true } } },
       0, 1, by unfold Machine.Mach.Shaped; decide +kernel, by decide +kernel, by decide +kernel, by decide +kernel,
       .inl (by decide +kernel)⟩,
   ⟨{ m := { live with saf := { live.saf with sw2 := 1 }, clk := { live.clk with procRunning := true } } }, 0, check,
       by unfold Machine.Mach.Shaped; decide +kernel, by decide +kernel, by decide +kernel, by decide +kernel, by decide +kernel,
       by decide +kernel⟩,
   ⟨{ m := { live with saf := { live.saf with sw2 := 1 }, clk := { live.clk with procRunning := true } } }, 0, check, false,
       by unfold Machine.Mach.Shaped; decide +kernel, by decide +kernel, by decide +kernel, by decide +kernel, .inl rfl⟩,
   ⟨{ m := { live with saf := { live.saf with sw2 := 1 }, clk := { live.clk with procRunning := true } } }, 0, 11, .lockout,
       by unfold Machine.Mach.Shaped; decide +kernel, by decide +kernel, by decide +kernel, by decide +kernel, by decide +kernel⟩,
   ⟨{ m := { live with saf := { live.saf with sw2 := 1 }, clk := { live.clk with procRunning := true } } }, 0, 12,
       by unfold Machine.Mach.Shaped; decide +kernel, by decide +kernel, by decide +kernel, by decide +kernel, by decide +kernel⟩,
   ⟨{ m := { live with saf := { live.saf with sw2 := 1 }, clk := { live.clk with procRunning := true }, pair := { live.pair with ogen := 1 } } },
       0, .checkpoint none true 0, by unfold Machine.Mach.Shaped; decide +kernel, by decide +kernel, by decide +kernel, by decide +kernel,
       by decide +kernel⟩,
   ⟨{ m := { live with saf := { live.saf with sw2 := 1 }, clk := { live.clk with procRunning := true } } }, 2,
       by unfold Machine.Mach.Shaped; decide +kernel, by decide +kernel, by decide +kernel, by decide +kernel⟩,
   ⟨{ m := { live with saf := { live.saf with sw2 := 1 }, clk := { live.clk with procRunning := true } } }, 1, true,
       by unfold Machine.Mach.Shaped; decide +kernel, by decide +kernel, by decide +kernel, .inl (by decide)⟩⟩

/-- The premises of TakebackCommandsTakeEffect can be met, clause by clause. -/
theorem witness_TakebackCommandsTakeEffect :
    (∃ (s : State), s.m.Shaped ∧ s.m.clk.procRunning = true ∧ s.m.paired = true ∧ s.m.pair.hbPresent = true ∧ s.m.pair.hbOn = true ∧
        s.m.pairLinkUp = true ∧ s.m.partnerMode = some s.m.mode.mode ∧ s.m.noFault = true ∧ s.m.fab.time = .synced ∧
        s.m.pwm.mismatch = false ∧ s.m.pair.gotState = true ∧ s.m.pair.changed = false ∧ s.m.pair.released = false ∧
        s.m.verMismatch = false ∧ s.m.homeLacking = true ∧ s.m.elapsed? s.m.pair.stableSince (1000000000 * s.m.par 0x2A01 0) = true) ∧
    (∃ (s : State) (clear : Bool), s.m.Shaped ∧ s.m.clk.procRunning = true ∧
        (clear = false ∨ s.m.takebackCond = false ∨ s.m.elapsed? s.m.pair.stableSince (1000000000 * s.m.par 0x2A01 0) = false)) ∧
    (∃ (s : State) (ogen : Nat), s.m.Shaped ∧ s.m.clk.procRunning = true ∧ s.m.paired = true ∧ s.m.pair.changed = false ∧
        s.m.pair.ogen ≤ ogen) ∧
    (∃ (s : State) (ogen : Nat), s.m.Shaped ∧ s.m.clk.procRunning = true ∧
        (s.m.paired = false ∨ s.m.pair.changed = true ∨ ogen < s.m.pair.ogen)) ∧
    (∃ (s : State) (ogen : Nat), s.m.Shaped ∧ s.m.clk.procRunning = true ∧ s.m.paired = true ∧ ogen < s.m.pair.ogen) ∧
    (∃ (s : State) (role : Nat), s.m.Shaped ∧ s.m.clk.procRunning = true ∧ 2 ≤ role ∧ s.m.paired = true ∧
        s.m.partnerMode = some s.m.mode.mode ∧ s.m.partnerMissing = false ∧ s.m.pair.hbPresent = true ∧ s.m.pair.changed = false ∧
        s.m.pair.tb = none) ∧
    (∃ (s : State) (role : Nat) (t : _), s.m.Shaped ∧ s.m.clk.procRunning = true ∧ 2 ≤ role ∧ s.m.paired = true ∧
        s.m.partnerMode = some s.m.mode.mode ∧ s.m.partnerMissing = false ∧ s.m.pair.hbPresent = true ∧ s.m.pair.changed = false ∧
        s.m.pair.tb = some t ∧ t.taker = true ∧ t.planned = false ∧ t.stage ≤ 1) ∧
    (∃ (s : State) (role : Nat) (t : _), s.m.Shaped ∧ s.m.clk.procRunning = true ∧ 2 ≤ role ∧ s.m.paired = true ∧
        s.m.partnerMode = some s.m.mode.mode ∧ s.m.partnerMissing = false ∧ s.m.pair.hbPresent = true ∧ s.m.pair.changed = false ∧
        s.m.pair.tb = some t ∧ t.taker = false ∧ t.planned = true) ∧
    (∃ (s : State) (role : Nat), s.m.Shaped ∧ s.m.clk.procRunning = true ∧ 2 ≤ role ∧
        (s.m.paired = false ∨ s.m.partnerMode ≠ some s.m.mode.mode ∨ s.m.partnerMissing = true ∨ s.m.pair.hbPresent = false ∨ s.m.pair.changed = true)) ∧
    (∃ (s : State) (role : Nat) (unlocked : Bool), s.m.Shaped ∧ s.m.clk.procRunning = true ∧ (role < 2 ∨ unlocked = false)) ∧
    (∃ (s : State) (t : _), s.m.Shaped ∧ s.m.clk.procRunning = true ∧ s.m.pair.tb = some t ∧ t.stage = 0 ∧ t.start ≤ s.m.fastEpoch ∧
        s.m.switching = true) ∧
    (∃ (s : State) (t : _), s.m.Shaped ∧ s.m.clk.procRunning = true ∧ s.m.pair.tb = some t ∧ (t.stage ≠ 0 ∨ s.m.fastEpoch < t.start)) ∧
    (∃ (s : State) (t : _) (c : Instr), s.m.Shaped ∧ s.m.clk.procRunning = true ∧ s.m.pair.tb = some t ∧ s.m.pair.roleConflict = false ∧
        ((c = .takebackStart ∧ t.stage = 0 ∧ t.start ≤ s.m.fastEpoch ∧ s.m.switching = false) ∨ (c = .takebackHandover ∧ t.stage = 1 ∧
        t.sigma = 0))) ∧
    (∃ (s : State) (t : _), s.m.Shaped ∧ s.m.clk.procRunning = true ∧ s.m.pair.tb = some t ∧ (t.stage ≠ 1 ∨ t.sigma ≠ 0)) ∧
    (∃ (s : State) (t : _), s.m.Shaped ∧ s.m.clk.procRunning = true ∧ s.m.pair.tb = some t ∧ t.stage = 2 ∧ t.sigma = 1) ∧
    (∃ (s : State) (t : _), s.m.Shaped ∧ s.m.clk.procRunning = true ∧ s.m.pair.tb = some t ∧ (t.stage ≠ 2 ∨ t.sigma ≠ 1)) :=
  ⟨⟨{ m := { live with params := [(objKey 0x2600 0, 2)], clk := { live.clk with procRunning := true }, saf := { live.saf with sw2 := 1 }, pair := { live.pair with hbPresent := true, hbOn := true, gotState := true, changed := false, released := false, stableSince := some 0, pMode := some 3 }, fab := { live.fab with time := .synced, ports := live.fab.ports.set 1 { state := .up, peerPort := 1 } }, pwm := { live.pwm with mismatch := false }, mode := { live.mode with mode := .standby } } },
      by unfold Machine.Mach.Shaped; decide +kernel, by decide +kernel, by decide +kernel, by decide +kernel, by decide +kernel,
      by decide +kernel, by decide +kernel, by decide +kernel, by decide +kernel, by decide +kernel, by decide +kernel, by decide +kernel,
      by decide +kernel, by decide +kernel, by decide +kernel, by decide +kernel⟩,
   ⟨{ m := { live with clk := { live.clk with procRunning := true } } }, false, by unfold Machine.Mach.Shaped; decide +kernel,
       by decide +kernel, .inl rfl⟩,
   ⟨{ m := { live with clk := { live.clk with procRunning := true }, saf := { live.saf with sw2 := 1 }, pair := { live.pair with changed := false } } },
       0, by unfold Machine.Mach.Shaped; decide +kernel, by decide +kernel, by decide +kernel, by decide +kernel, by decide +kernel⟩,
   ⟨{ m := { live with clk := { live.clk with procRunning := true }, saf := { live.saf with sw2 := 0 } } }, 0,
       by unfold Machine.Mach.Shaped; decide +kernel, by decide +kernel, .inl (by decide +kernel)⟩,
   ⟨{ m := { live with clk := { live.clk with procRunning := true }, saf := { live.saf with sw2 := 1 }, pair := { live.pair with ogen := 1 } } },
       0, by unfold Machine.Mach.Shaped; decide +kernel, by decide +kernel, by decide +kernel, by decide +kernel⟩,
   ⟨{ m := { live with clk := { live.clk with procRunning := true }, saf := { live.saf with sw2 := 1 }, pair := { live.pair with hbPresent := true, changed := false, tb := none, pMode := some 3 }, mode := { live.mode with mode := .standby } } },
       2, by unfold Machine.Mach.Shaped; decide +kernel, by decide +kernel, by decide +kernel, by decide +kernel, by decide +kernel,
       by decide +kernel, by decide +kernel, by decide +kernel, by decide +kernel⟩,
   ⟨{ m := { live with clk := { live.clk with procRunning := true }, saf := { live.saf with sw2 := 1 }, pair := { live.pair with hbPresent := true, changed := false, pMode := some 3, tb := some { handOver with stage := 1 } }, mode := { live.mode with mode := .standby } } },
       2, { handOver with stage := 1 }, by unfold Machine.Mach.Shaped; decide +kernel, by decide +kernel, by decide +kernel,
       by decide +kernel, by decide +kernel, by decide +kernel, by decide +kernel, by decide +kernel, by decide +kernel, by decide +kernel,
       by decide +kernel, by decide +kernel⟩,
   ⟨{ m := { live with clk := { live.clk with procRunning := true }, saf := { live.saf with sw2 := 1 }, pair := { live.pair with hbPresent := true, changed := false, pMode := some 3, tb := some { handOver with taker := false, planned := true } }, mode := { live.mode with mode := .standby } } },
       2, { handOver with taker := false, planned := true }, by unfold Machine.Mach.Shaped; decide +kernel, by decide +kernel,
       by decide +kernel, by decide +kernel, by decide +kernel, by decide +kernel, by decide +kernel, by decide +kernel, by decide +kernel,
       by decide +kernel, by decide +kernel⟩,
   ⟨{ m := { live with clk := { live.clk with procRunning := true }, saf := { live.saf with sw2 := 0 } } }, 2,
       by unfold Machine.Mach.Shaped; decide +kernel, by decide +kernel, by decide +kernel, .inl (by decide +kernel)⟩,
   ⟨{ m := { live with clk := { live.clk with procRunning := true } } }, 1, true, by unfold Machine.Mach.Shaped; decide +kernel,
       by decide +kernel, .inl (by decide)⟩,
   ⟨{ m := { live with clk := { live.clk with procRunning := true }, mode := { live.mode with mode := .dispatch }, pair := { live.pair with tb := some handOver } } },
       handOver, by unfold Machine.Mach.Shaped; decide +kernel, by decide +kernel, by decide +kernel, by decide +kernel, by decide +kernel,
       by decide +kernel⟩,
   ⟨{ m := { live with clk := { live.clk with procRunning := true }, pair := { live.pair with tb := some { handOver with stage := 1 } } } },
       { handOver with stage := 1 }, by unfold Machine.Mach.Shaped; decide +kernel, by decide +kernel, by decide +kernel, .inl (by decide)⟩,
   ⟨{ m := { live with clk := { live.clk with procRunning := true }, pair := { live.pair with roleConflict := false, tb := some handOver }, mode := { live.mode with mode := .standby } } },
       handOver, .takebackStart, by unfold Machine.Mach.Shaped; decide +kernel, by decide +kernel, by decide +kernel, by decide +kernel,
       .inl (by decide +kernel)⟩,
   ⟨{ m := { live with clk := { live.clk with procRunning := true }, pair := { live.pair with tb := some handOver } } }, handOver,
       by unfold Machine.Mach.Shaped; decide +kernel, by decide +kernel, by decide +kernel, .inl (by decide)⟩,
   ⟨{ m := { live with clk := { live.clk with procRunning := true }, pair := { live.pair with tb := some { handOver with stage := 2, sigma := 1 } } } },
       { handOver with stage := 2, sigma := 1 }, by unfold Machine.Mach.Shaped; decide +kernel, by decide +kernel, by decide +kernel,
       by decide +kernel, by decide +kernel⟩,
   ⟨{ m := { live with clk := { live.clk with procRunning := true }, pair := { live.pair with tb := some handOver } } }, handOver,
       by unfold Machine.Mach.Shaped; decide +kernel, by decide +kernel, by decide +kernel, .inl (by decide)⟩⟩

/-- The premises of SafetyInputCommandsTakeEffect can be met, clause by clause. -/
theorem witness_SafetyInputCommandsTakeEffect :
    (∃ (s : State) (chan : Nat) (k : Nat), s.m.Shaped ∧ s.m.clk.powered = true ∧ chan < 2 ∧ k < 8 ∧ s.m.chanLive chan = true ∧ ¬ (k = 6 ∧
        s.m.sw3On 4 = false) ∧ s.m.elapsed? (s.m.lowFor chan k) (s.m.qualify k) = true) ∧
    (∃ (s : State) (chan : Nat) (k : Nat), s.m.Shaped ∧ s.m.clk.powered = true ∧ (s.m.chanLive chan = false ∨ (k = 6 ∧
        s.m.sw3On 4 = false) ∨ s.m.elapsed? (s.m.lowFor chan k) (s.m.qualify k) = false)) ∧
    (∃ (s : State) (chan : Nat), s.m.Shaped ∧ s.m.clk.powered = true ∧ chan < 2 ∧ s.m.chanLive chan = true ∧
        s.m.elapsed? (s.m.lowFor chan 6) 60000000000 = true) ∧
    (∃ (s : State) (chan : Nat), s.m.Shaped ∧ s.m.clk.powered = true ∧
        (s.m.chanLive chan = false ∨ s.m.elapsed? (s.m.lowFor chan 6) 60000000000 = false)) ∧
    (∃ (s : State), s.m.Shaped ∧ s.m.clk.powered = true ∧ s.m.meas.lines ≠ 0) ∧
    (∃ (s : State), s.m.Shaped ∧ s.m.clk.powered = true ∧ s.m.meas.lines = 0) ∧
    (∃ (s : State) (pt : Nat) (temp : Int) (p : _), s.m.Shaped ∧ s.m.clk.powered = true ∧ s.m.prof = some p ∧ s.m.sw3On 3 = true ∧ pt < 4 ∧
        10 * p.tOtHw < temp) ∧
    (∃ (s : State) (temp : Int) (p : _), s.m.Shaped ∧ s.m.clk.powered = true ∧ s.m.prof = some p ∧
        (s.m.sw3On 3 = false ∨ temp ≤ 10 * p.tOtHw)) ∧
    (∃ (s : State), s.m.Shaped ∧ s.m.clk.powered = true ∧ s.m.chain.loopBroken = false) ∧
    (∃ (s : State), s.m.Shaped ∧ s.m.clk.powered = true ∧ s.m.isB = true ∧
        (if s.m.pair.hbSeen = true then s.m.pair.hbPresent = false else 10000000000 ≤ s.m.now)) ∧
    (∃ (s : State), s.m.Shaped ∧ s.m.clk.powered = true ∧
        (s.m.isB = false ∨ (if s.m.pair.hbSeen = true then s.m.pair.hbPresent = true else s.m.now < 10000000000))) ∧
    (∃ (s : State), s.m.Shaped ∧ s.m.clk.powered = true ∧ s.m.clk.procRunning = true ∧ s.m.elapsed? s.m.saf.disagree 50000000 = true ∧
        s.m.saf.discrepancy = false) ∧
    (∃ (s : State), s.m.Shaped ∧ s.m.clk.powered = true ∧ (s.m.elapsed? s.m.saf.disagree 50000000 = false ∨ s.m.saf.discrepancy = true)) ∧
    (∃ (s : State) (d : _), s.m.Shaped ∧ s.m.clk.powered = true ∧ s.m.clk.procRunning = true ∧ s.m.saf.si6Low = some d ∧ d < 60000000000 ∧
        s.m.sw3On 4 = false ∧ bit s.m.saf.demW 10 = false ∧ bit s.m.saf.demF 10 = false) ∧
    (∃ (s : State), s.m.Shaped ∧ s.m.clk.powered = true ∧ (s.m.sw3On 4 = true ∨ bit s.m.saf.demW 10 = true ∨ bit s.m.saf.demF 10 = true)) :=
  ⟨⟨{ m := { live with clk := { live.clk with powered := true }, saf := { live.saf with si := live.saf.si.set 7 { lowSince := some 0 } } } },
      1, 7, by unfold Machine.Mach.Shaped; decide +kernel, by decide +kernel, by decide +kernel, by decide +kernel, by decide +kernel,
      by decide +kernel, by decide +kernel⟩,
   ⟨{ m := { live with clk := { live.clk with powered := true }, saf := { live.saf with si := List.replicate 8 {} } } }, 0, 0,
       by unfold Machine.Mach.Shaped; decide +kernel, by decide +kernel, .inr (.inr (by decide +kernel))⟩,
   ⟨{ m := { live with clk := { live.clk with powered := true }, saf := { live.saf with si := live.saf.si.set 6 { lowSince := some 0 } } } },
       1, by unfold Machine.Mach.Shaped; decide +kernel, by decide +kernel, by decide +kernel, by decide +kernel, by decide +kernel⟩,
   ⟨{ m := { live with clk := { live.clk with powered := true }, saf := { live.saf with si := List.replicate 8 {} } } }, 0,
       by unfold Machine.Mach.Shaped; decide +kernel, by decide +kernel, .inr (by decide +kernel)⟩,
   ⟨{ m := { live with clk := { live.clk with powered := true }, meas := { live.meas with lines := 1 } } },
       by unfold Machine.Mach.Shaped; decide +kernel, by decide +kernel, by decide +kernel⟩,
   ⟨{ m := { live with clk := { live.clk with powered := true }, meas := { live.meas with lines := 0 } } },
       by unfold Machine.Mach.Shaped; decide +kernel, by decide +kernel, by decide +kernel⟩,
   ⟨{ m := { live with clk := { live.clk with powered := true }, saf := { live.saf with profileOk := true, sw3 := 4 } } }, 3, 6501, prof0,
       by unfold Machine.Mach.Shaped; decide +kernel, by decide +kernel, by decide +kernel, by decide +kernel, by decide +kernel,
       by decide +kernel⟩,
   ⟨{ m := { live with clk := { live.clk with powered := true }, saf := { live.saf with profileOk := true, sw3 := 0 } } }, 6501, prof0,
       by unfold Machine.Mach.Shaped; decide +kernel, by decide +kernel, by decide +kernel, .inl (by decide +kernel)⟩,
   ⟨{ m := { live with clk := { live.clk with powered := true }, chain := { live.chain with loopBroken := false } } },
       by unfold Machine.Mach.Shaped; decide +kernel, by decide +kernel, by decide +kernel⟩,
   ⟨{ m := { live with clk := { live.clk with powered := true }, saf := { live.saf with sw2 := 2 } } },
       by unfold Machine.Mach.Shaped; decide +kernel, by decide +kernel, by decide +kernel, by decide +kernel⟩,
   ⟨{ m := { live with clk := { live.clk with powered := true }, saf := { live.saf with sw2 := 0 } } },
       by unfold Machine.Mach.Shaped; decide +kernel, by decide +kernel, .inl (by decide +kernel)⟩,
   ⟨{ m := { live with clk := { live.clk with powered := true, procRunning := true }, saf := { live.saf with disagree := some 0, discrepancy := false } } },
       by unfold Machine.Mach.Shaped; decide +kernel, by decide +kernel, by decide +kernel, by decide +kernel, by decide +kernel⟩,
   ⟨{ m := { live with clk := { live.clk with powered := true }, saf := { live.saf with disagree := none } } },
       by unfold Machine.Mach.Shaped; decide +kernel, by decide +kernel, .inl (by decide +kernel)⟩,
   ⟨{ m := { live with clk := { live.clk with powered := true, procRunning := true }, saf := { live.saf with si6Low := some 59999999999, sw3 := 0 } } },
       59999999999, by unfold Machine.Mach.Shaped; decide +kernel, by decide +kernel, by decide +kernel, by decide +kernel,
       by decide +kernel, by decide +kernel, by decide +kernel, by decide +kernel⟩,
   ⟨{ m := { live with clk := { live.clk with powered := true }, saf := { live.saf with sw3 := 8 } } },
       by unfold Machine.Mach.Shaped; decide +kernel, by decide +kernel, .inl (by decide +kernel)⟩⟩

/-- The premises of CoilAndSwitchCommandsTakeEffect can be met, clause by clause. -/
theorem witness_CoilAndSwitchCommandsTakeEffect :
    (∃ (s : State) (chan : Nat), s.m.Shaped ∧ chan < 2 ∧ (if chan = 1 then s.m.saf.openF else s.m.saf.openW) = true ∧
        (s.m.evidence chan = false ∨ s.m.chanClosed chan = false)) ∧
    (∃ (s : State) (chan : Nat), s.m.Shaped ∧ chan < 2 ∧ (if chan = 1 then s.m.saf.openF else s.m.saf.openW) = true ∧
        s.m.evidence chan = true ∧ s.m.chanClosed chan = true ∧ s.m.holdOf chan = none) ∧
    (∃ (s : State) (chan : Nat), s.m.Shaped ∧ chan < 2 ∧
        ((if chan = 1 then s.m.saf.openF else s.m.saf.openW) = false ∨ (s.m.evidence chan = true ∧ s.m.chanClosed chan = true ∧
        s.m.holdOf chan ≠ none))) ∧
    (∃ (s : State) (chan : Nat), s.m.Shaped ∧ chan < 2 ∧ s.m.holdOf chan ≠ none ∧ s.m.evidence chan = false) ∧
    (∃ (s : State) (chan : Nat), s.m.Shaped ∧ chan < 2 ∧ (s.m.holdOf chan = none ∨ s.m.evidence chan = true)) ∧
    (∃ (s : State), s.m.Shaped ∧ (s.m.elapsed? s.m.saf.holdW 500000000 = true ∨ s.m.elapsed? s.m.saf.holdF 500000000 = true)) ∧
    (∃ (s : State), s.m.Shaped ∧ s.m.elapsed? s.m.saf.holdW 500000000 = false ∧ s.m.elapsed? s.m.saf.holdF 500000000 = false) ∧
    (∃ (s : State) (k : Nat) (sw : Nat), s.m.Shaped ∧ s.m.clk.procRunning = true ∧ k < 3 ∧ sw < 2) ∧
    (∃ (s : State) (k : Nat), s.m.Shaped ∧ s.m.clk.procRunning = true ∧ (s.m.coil k).node = true ∧ (s.m.coil k).fb = false ∧
        (s.m.coil k).picked = false ∧ s.m.elapsed (s.m.coil k).nodeAt 50000000 = true) ∧
    (∃ (s : State) (k : Nat), s.m.Shaped ∧
        ((s.m.coil k).node = false ∨ (s.m.coil k).fb = true ∨ (s.m.coil k).picked = true ∨ s.m.elapsed (s.m.coil k).nodeAt 50000000 = false)) ∧
    (∃ (s : State) (k : Nat), s.m.Shaped ∧ s.m.clk.procRunning = true ∧ (s.m.coil k).node = false ∧ (s.m.coil k).fb = true ∧
        s.m.elapsed (s.m.coil k).nodeAt 30000000 = true ∧ s.m.now ≤ (s.m.coil k).nodeAt + 100000000) ∧
    (∃ (s : State) (k : Nat), s.m.Shaped ∧
        ((s.m.coil k).node = true ∨ (s.m.coil k).fb = false ∨ s.m.elapsed (s.m.coil k).nodeAt 30000000 = false)) ∧
    (∃ (s : State) (k : Nat), s.m.Shaped ∧ k < 3 ∧ s.m.clk.powered = true ∧ (s.m.coil k).node = false ∧ (s.m.coil k).fb = true ∧
        s.m.elapsed (s.m.coil k).nodeAt 100000000 = true ∧ (s.m.coil k).welded = false) ∧
    (∃ (s : State) (k : Nat), s.m.Shaped ∧
        ((s.m.coil k).node = true ∨ (s.m.coil k).fb = false ∨ (s.m.coil k).welded = true ∨ s.m.elapsed (s.m.coil k).nodeAt 100000000 = false)) ∧
    (∃ (s : State) (k : Nat), s.m.Shaped ∧ s.m.clk.procRunning = true ∧ (s.m.coil k).picked = true ∧ (((s.m.coil k).node = true ∧
        (s.m.coil k).fb = false ∧ s.m.elapsed (s.m.coil k).fbAt 20000000 = true) ∨ ((s.m.coil k).node = false ∧ (s.m.coil k).wSw = true ∧
        (s.m.coil k).fSw = true ∧ s.m.elapsed (s.m.coil k).nodeAt 20000000 = true))) ∧
    (∃ (s : State) (k : Nat), s.m.Shaped ∧ ((s.m.coil k).picked = false ∨ ((s.m.coil k).node = true ∧ (s.m.coil k).fb = true))) ∧
    (∃ (s : State) (k : Nat), s.m.Shaped ∧ s.m.clk.procRunning = true ∧ (s.m.coil k).node = true ∧
        s.m.elapsed? (s.m.coil k).openedAt 100000000 = true ∧ s.m.holdActive = false ∧ s.m.stringLevel = true) ∧
    (∃ (s : State) (k : Nat), s.m.Shaped ∧
        ((s.m.coil k).node = false ∨ s.m.elapsed? (s.m.coil k).openedAt 100000000 = false ∨ s.m.holdActive = true ∨ s.m.stringLevel = false)) ∧
    (∃ (s : State), s.m.Shaped ∧ s.m.saf.trip = true ∧ s.m.saf.tripDem = 0 ∧ s.m.elapsed s.m.saf.tripAt 500000000 = true ∧
        s.m.elapsed s.m.saf.tripLast 1000000000 = true) ∧
    (∃ (s : State), s.m.Shaped ∧
        (s.m.saf.tripDem ≠ 0 ∨ s.m.elapsed s.m.saf.tripAt 500000000 = false ∨ s.m.elapsed s.m.saf.tripLast 1000000000 = false)) :=
  ⟨⟨{ m := { live with saf := { live.saf with openF := true } } }, 1, by unfold Machine.Mach.Shaped; decide +kernel, by decide +kernel,
      by decide +kernel, .inl (by decide +kernel)⟩,
   ⟨{ m := { live with saf := { live.saf with openF := true, coils := live.saf.coils.set 0 { fSw := true } }, meas := { live.meas with lines := 1 } } },
       1, by unfold Machine.Mach.Shaped; decide +kernel, by decide +kernel, by decide +kernel, by decide +kernel, by decide +kernel,
       by decide +kernel⟩,
   ⟨{ m := { live with saf := { live.saf with openF := false } } }, 1, by unfold Machine.Mach.Shaped; decide +kernel, by decide +kernel,
       .inl (by decide +kernel)⟩,
   ⟨{ m := { live with saf := { live.saf with holdF := some 0 } } }, 1, by unfold Machine.Mach.Shaped; decide +kernel, by decide +kernel,
       by decide +kernel, by decide +kernel⟩,
   ⟨{ m := { live with saf := { live.saf with holdF := none } } }, 1, by unfold Machine.Mach.Shaped; decide +kernel, by decide +kernel,
       .inl (by decide +kernel)⟩,
   ⟨{ m := { live with saf := { live.saf with holdW := some 0 } } }, by unfold Machine.Mach.Shaped; decide +kernel,
       .inl (by decide +kernel)⟩,
   ⟨{ m := { live with saf := { live.saf with holdW := none, holdF := none } } }, by unfold Machine.Mach.Shaped; decide +kernel,
       by decide +kernel, by decide +kernel⟩,
   ⟨{ m := { live with clk := { live.clk with procRunning := true } } }, 2, 1, by unfold Machine.Mach.Shaped; decide +kernel,
       by decide +kernel, by decide +kernel, by decide +kernel⟩,
   ⟨{ m := { live with clk := { live.clk with procRunning := true }, saf := { live.saf with coils := live.saf.coils.set 2 { node := true } } } },
       2, by unfold Machine.Mach.Shaped; decide +kernel, by decide +kernel, by decide +kernel, by decide +kernel, by decide +kernel,
       by decide +kernel⟩,
   ⟨{ m := { live with saf := { live.saf with coils := live.saf.coils.set 2 { node := false } } } }, 2,
       by unfold Machine.Mach.Shaped; decide +kernel, .inl (by decide +kernel)⟩,
   ⟨{ m := { live with clk := { live.clk with procRunning := true }, saf := { live.saf with coils := live.saf.coils.set 2 { fb := true, nodeAt := 999999950000000 } } } },
       2, by unfold Machine.Mach.Shaped; decide +kernel, by decide +kernel, by decide +kernel, by decide +kernel, by decide +kernel,
       by decide +kernel⟩,
   ⟨{ m := { live with saf := { live.saf with coils := live.saf.coils.set 2 { fb := false } } } }, 2,
       by unfold Machine.Mach.Shaped; decide +kernel, .inr (.inl (by decide +kernel))⟩,
   ⟨{ m := { live with clk := { live.clk with powered := true }, saf := { live.saf with coils := live.saf.coils.set 2 { fb := true } } } },
       2, by unfold Machine.Mach.Shaped; decide +kernel, by decide +kernel, by decide +kernel, by decide +kernel, by decide +kernel,
       by decide +kernel, by decide +kernel⟩,
   ⟨{ m := { live with saf := { live.saf with coils := live.saf.coils.set 2 { fb := false } } } }, 2,
       by unfold Machine.Mach.Shaped; decide +kernel, .inr (.inl (by decide +kernel))⟩,
   ⟨{ m := { live with clk := { live.clk with procRunning := true }, saf := { live.saf with coils := live.saf.coils.set 2 { node := true, picked := true } } } },
       2, by unfold Machine.Mach.Shaped; decide +kernel, by decide +kernel, by decide +kernel, .inl (by decide +kernel)⟩,
   ⟨{ m := { live with saf := { live.saf with coils := live.saf.coils.set 2 { picked := false } } } }, 2,
       by unfold Machine.Mach.Shaped; decide +kernel, .inl (by decide +kernel)⟩,
   ⟨{ m := { live with clk := { live.clk with procRunning := true }, saf := { live.saf with coils := live.saf.coils.set 2 { node := true, openedAt := some 0 }, demW := 1 } } },
       2, by unfold Machine.Mach.Shaped; decide +kernel, by decide +kernel, by decide +kernel, by decide +kernel, by decide +kernel,
       by decide +kernel⟩,
   ⟨{ m := { live with saf := { live.saf with coils := live.saf.coils.set 2 { node := false } } } }, 2,
       by unfold Machine.Mach.Shaped; decide +kernel, .inl (by decide +kernel)⟩,
   ⟨{ m := { live with saf := { live.saf with trip := true, tripDem := 0 } } }, by unfold Machine.Mach.Shaped; decide +kernel,
       by decide +kernel, by decide +kernel, by decide +kernel, by decide +kernel⟩,
   ⟨{ m := { live with saf := { live.saf with tripDem := 1 } } }, by unfold Machine.Mach.Shaped; decide +kernel, .inl (by decide +kernel)⟩⟩

/-- The premises of SweepFunctionsTakeEffect can be met, clause by clause. -/
theorem witness_SweepFunctionsTakeEffect :
    (∃ (s : State) (p : _), s.m.clk.procRunning = true ∧ s.m.prof = some p ∧ s.m.saf.walnutLive = true ∧ s.m.chain.walnut ≠ [] ∧
        s.m.chain.evaluated ≠ some s.m.chain.walnutEpoch) ∧
    (∃ (s : State), s.m.clk.procRunning = true ∧
        (s.m.prof = none ∨ s.m.saf.walnutLive = false ∨ s.m.chain.walnut = [] ∨ s.m.chain.evaluated = some s.m.chain.walnutEpoch)) ∧
    (∃ (s : State), s.m.clk.procRunning = true ∧ s.m.elapsed? s.m.saf.dischargeStop 2000000000 = true ∧ 2000 < s.m.meas.sShunt ∧
        s.m.saf.uvEsc = false) ∧
    (∃ (s : State), s.m.clk.procRunning = true ∧
        (s.m.elapsed? s.m.saf.dischargeStop 2000000000 = false ∨ s.m.meas.sShunt ≤ 2000 ∨ s.m.saf.uvEsc = true)) ∧
    (∃ (s : State), s.m.clk.procRunning = true ∧ s.m.saf.dischargeStop ≠ none ∧ s.m.elapsed? s.m.saf.uvOkSince 10000000000 = true ∧
        bit s.m.saf.demP 1 = false) ∧
    (∃ (s : State), s.m.clk.procRunning = true ∧
        (s.m.saf.dischargeStop = none ∨ s.m.elapsed? s.m.saf.uvOkSince 10000000000 = false ∨ bit s.m.saf.demP 1 = true)) :=
  ⟨⟨{ m := { live with clk := { live.clk with procRunning := true }, saf := { live.saf with walnutLive := true, profileOk := true }, chain := { live.chain with walnut := [(1, pod)] } } },
      prof0, by decide +kernel, by decide +kernel, by decide +kernel, by decide +kernel, by decide +kernel⟩,
   ⟨{ m := { live with clk := { live.clk with procRunning := true }, saf := { live.saf with profileOk := false } } }, by decide +kernel,
       .inl (by decide +kernel)⟩,
   ⟨{ m := { live with clk := { live.clk with procRunning := true }, saf := { live.saf with dischargeStop := some 0, uvEsc := false }, meas := { live.meas with sShunt := 2001 } } },
       by decide +kernel, by decide +kernel, by decide +kernel, by decide +kernel⟩,
   ⟨{ m := { live with clk := { live.clk with procRunning := true }, saf := { live.saf with dischargeStop := none } } }, by decide +kernel,
       .inl (by decide +kernel)⟩,
   ⟨{ m := { live with clk := { live.clk with procRunning := true }, saf := { live.saf with uvOkSince := some 0, dischargeStop := some 0 } } },
       by decide +kernel, by decide +kernel, by decide +kernel, by decide +kernel⟩,
   ⟨{ m := { live with clk := { live.clk with procRunning := true }, saf := { live.saf with dischargeStop := none } } }, by decide +kernel,
       .inl (by decide +kernel)⟩⟩

/-- The premises of ThermalLawCommandsTakeEffect can be met, clause by clause. -/
theorem witness_ThermalLawCommandsTakeEffect :
    (∃ (s : State) (pt : Nat), s.m.Shaped ∧ s.m.clk.powered = true ∧ s.m.clk.procRunning = true ∧ s.m.mode.mode ≠ .boot ∧ pt < 8) ∧
    (∃ (s : State), s.m.Shaped ∧ s.m.clk.powered = true ∧ (s.m.clk.procRunning = false ∨ s.m.mode.mode = .boot)) ∧
    (∃ (s : State), s.m.Shaped ∧ s.m.clk.procRunning = true ∧ s.m.mode.mode = .storage ∧ s.m.storageCools = false) ∧
    (∃ (s : State) (d : _), s.m.Shaped ∧ s.m.clk.procRunning = true ∧ s.m.mode.mode ≠ .boot ∧
        (s.m.mode.mode = .storage → s.m.storageCools = true) ∧ s.m.leadDemand = some d) ∧
    (∃ (s : State) (integ : Rat) (lo : Rat) (e : Rat), s.m.Shaped ∧ s.m.clk.procRunning = true ∧ s.m.mode.mode ≠ .boot ∧
        (s.m.mode.mode = .storage → s.m.storageCools = true) ∧ s.m.leadDemand = none ∧
        integ = (if s.m.therm.fromLead then s.m.therm.d else s.m.therm.integ) ∧ lo = ((s.m.par 0x2C01 4 : Nat) : Rat) ∧
        e = (match s.m.controlTemp with | some t => ((t - s.m.parS 0x2C01 0 2 : Int) : Rat) / 100 | none => s.m.coolError)) ∧
    (∃ (s : State), s.m.Shaped ∧ s.m.mode.mode = .boot) ∧
    (∃ (s : State), s.m.Shaped ∧ s.m.clk.procRunning = true ∧ s.m.mode.mode ≠ .boot ∧ s.m.therm.hadD = true ∧ s.m.therm.fallback = false ∧
        5 ≤ s.m.therm.noD) ∧
    (∃ (s : State), s.m.Shaped ∧ (s.m.mode.mode = .boot ∨ s.m.therm.hadD = false ∨ s.m.therm.fallback = true ∨ s.m.therm.noD < 5)) :=
  ⟨⟨{ m := { live with clk := { live.clk with powered := true, procRunning := true } } }, 7, by unfold Machine.Mach.Shaped; decide +kernel,
      by decide +kernel, by decide +kernel, by decide +kernel, by decide +kernel⟩,
   ⟨{ m := { live with clk := { live.clk with powered := true }, mode := { live.mode with mode := .boot } } },
       by unfold Machine.Mach.Shaped; decide +kernel, by decide +kernel, .inr (by decide +kernel)⟩,
   ⟨{ m := { live with clk := { live.clk with procRunning := true }, mode := { live.mode with mode := .storage } } },
       by unfold Machine.Mach.Shaped; decide +kernel, by decide +kernel, by decide +kernel, by decide +kernel⟩,
   ⟨{ m := { live with clk := { live.clk with procRunning := true }, saf := { live.saf with sw2 := 2 }, therm := { live.therm with leadD := some (100000000, 5) } } },
       5, by unfold Machine.Mach.Shaped; decide +kernel, by decide +kernel, by decide +kernel, fun h => absurd h (by decide +kernel),
       by decide +kernel⟩,
   ⟨{ m := { live with params := [(objKey 0x2C02 1, 1)], clk := { live.clk with procRunning := true }, therm := { live.therm with pt := live.therm.pt.set 0 (some 3500), integ := 0, fromLead := false }, est := { live.est with groups := [] }, imp := { live.imp with map := [] } } },
       0, 0, 5, by unfold Machine.Mach.Shaped; decide +kernel, by decide +kernel, by decide +kernel, fun h => absurd h (by decide +kernel),
       by decide +kernel, by decide +kernel, by decide +kernel, by decide +kernel⟩,
   ⟨{ m := { live with mode := { live.mode with mode := .boot } } }, by unfold Machine.Mach.Shaped; decide +kernel, by decide +kernel⟩,
   ⟨{ m := { live with clk := { live.clk with procRunning := true }, therm := { live.therm with hadD := true, fallback := false, noD := 5 } } },
       by unfold Machine.Mach.Shaped; decide +kernel, by decide +kernel, by decide +kernel, by decide +kernel, by decide +kernel,
       by decide +kernel⟩,
   ⟨{ m := { live with mode := { live.mode with mode := .boot } } }, by unfold Machine.Mach.Shaped; decide +kernel,
       .inl (by decide +kernel)⟩⟩

/-- The premises of FanAndCoolantCommandsTakeEffect can be met, clause by clause. -/
theorem witness_FanAndCoolantCommandsTakeEffect :
    (∃ (s : State) (f : Nat), s.m.Shaped ∧ s.m.clk.procRunning = true ∧ s.m.mode.mode ≠ .boot ∧ f < 4) ∧
    (∃ (s : State) (f : Nat), s.m.Shaped ∧ s.m.clk.procRunning = true ∧ f < 4 ∧ 0 < s.m.fanMin f ∧ nth s.m.therm.fanLost f false = false ∧
        s.m.elapsed? (nth s.m.therm.slowAt f none) 5000000000 = true) ∧
    (∃ (s : State) (f : Nat), s.m.Shaped ∧ s.m.clk.procRunning = true ∧
        (s.m.fanMin f = 0 ∨ nth s.m.therm.fanLost f false = true ∨ s.m.elapsed? (nth s.m.therm.slowAt f none) 5000000000 = false)) ∧
    (∃ (s : State) (f : Nat), s.m.Shaped ∧ s.m.clk.procRunning = true ∧ f < 4 ∧ nth s.m.therm.fanLost f false = true ∧
        s.m.elapsed? (nth s.m.therm.okAt f none) 10000000000 = true) ∧
    (∃ (s : State) (f : Nat), s.m.Shaped ∧ s.m.clk.procRunning = true ∧ s.m.elapsed? (nth s.m.therm.okAt f none) 10000000000 = false) ∧
    (∃ (s : State) (u : Nat) (data : List Nat), s.m.Shaped ∧ s.m.clk.procRunning = true ∧ s.m.mode.mode ≠ .boot ∧ u < 4 ∧ u < s.m.coolUnits ∧
        data.length = 8) ∧
    (∃ (s : State) (u : Nat) (data : List Nat), s.m.Shaped ∧ s.m.clk.procRunning = true ∧
        (s.m.mode.mode = .boot ∨ s.m.coolUnits ≤ u ∨ data.length ≠ 8)) ∧
    (∃ (s : State) (u : Nat), s.m.Shaped ∧ s.m.clk.procRunning = true ∧ s.m.mode.mode ≠ .boot ∧ u < 4 ∧ u < s.m.coolUnits ∧
        (nth s.m.therm.unitAt u none).all (fun t => decide (t + 500000000 ≤ s.m.now)) = true ∧ nth s.m.therm.unitLost u false = false) ∧
    (∃ (s : State) (u : Nat), s.m.Shaped ∧ s.m.clk.procRunning = true ∧
        (s.m.mode.mode = .boot ∨ s.m.coolUnits ≤ u ∨ nth s.m.therm.unitLost u false = true ∨ (nth s.m.therm.unitAt u none).any (fun t => decide (s.m.now < t + 500000000)) = true)) ∧
    (∃ (s : State), s.m.Shaped ∧ s.m.clk.procRunning = true ∧ s.m.mode.mode ≠ .boot ∧ s.m.txDemand = true) ∧
    (∃ (s : State), s.m.Shaped ∧ s.m.clk.procRunning = true ∧
        (s.m.mode.mode = .boot ∨ s.m.coolSender = false ∨ s.m.therm.hadD = false ∨ s.m.coolUnits = 0)) :=
  ⟨⟨{ m := { live with params := [(objKey 0x2C05 8, 1000)], clk := { live.clk with procRunning := true } } }, 3,
      by unfold Machine.Mach.Shaped; decide +kernel, by decide +kernel, by decide +kernel, by decide +kernel⟩,
   ⟨{ m := { live with params := [(objKey 0x2C05 8, 1000)], clk := { live.clk with procRunning := true }, therm := { live.therm with slowAt := [none, none, none, some 0] } } },
       3, by unfold Machine.Mach.Shaped; decide +kernel, by decide +kernel, by decide +kernel, by decide +kernel, by decide +kernel,
       by decide +kernel⟩,
   ⟨{ m := { live with clk := { live.clk with procRunning := true } } }, 0, by unfold Machine.Mach.Shaped; decide +kernel,
       by decide +kernel, .inl (by decide +kernel)⟩,
   ⟨{ m := { live with clk := { live.clk with procRunning := true }, therm := { live.therm with fanLost := [false, false, false, true], okAt := [none, none, none, some 0] } } },
       3, by unfold Machine.Mach.Shaped; decide +kernel, by decide +kernel, by decide +kernel, by decide +kernel, by decide +kernel⟩,
   ⟨{ m := { live with clk := { live.clk with procRunning := true } } }, 0, by unfold Machine.Mach.Shaped; decide +kernel,
       by decide +kernel, by decide +kernel⟩,
   ⟨{ m := { live with params := [(objKey 0x2C07 0, 4)], clk := { live.clk with procRunning := true } } }, 3, [0, 0, 0, 0, 0, 0, 0, 0],
       by unfold Machine.Mach.Shaped; decide +kernel, by decide +kernel, by decide +kernel, by decide +kernel, by decide +kernel,
       by decide +kernel⟩,
   ⟨{ m := { live with clk := { live.clk with procRunning := true }, mode := { live.mode with mode := .boot } } }, 0, [],
       by unfold Machine.Mach.Shaped; decide +kernel, by decide +kernel, .inl (by decide +kernel)⟩,
   ⟨{ m := { live with params := [(objKey 0x2C07 0, 4)], clk := { live.clk with procRunning := true }, therm := { live.therm with unitAt := [none, none, none, some 999999500000000] } } },
       3, by unfold Machine.Mach.Shaped; decide +kernel, by decide +kernel, by decide +kernel, by decide +kernel, by decide +kernel,
       by decide +kernel, by decide +kernel⟩,
   ⟨{ m := { live with clk := { live.clk with procRunning := true }, mode := { live.mode with mode := .boot } } }, 0,
       by unfold Machine.Mach.Shaped; decide +kernel, by decide +kernel, .inl (by decide +kernel)⟩,
   ⟨{ m := { live with params := [(objKey 0x2C07 0, 1)], clk := { live.clk with procRunning := true }, therm := { live.therm with hadD := true } } },
       by unfold Machine.Mach.Shaped; decide +kernel, by decide +kernel, by decide +kernel, by decide +kernel⟩,
   ⟨{ m := { live with clk := { live.clk with procRunning := true }, mode := { live.mode with mode := .boot } } },
       by unfold Machine.Mach.Shaped; decide +kernel, by decide +kernel, .inl (by decide +kernel)⟩⟩

/-- The premises of FaultEventCommandsTakeEffect can be met, clause by clause. -/
theorem witness_FaultEventCommandsTakeEffect :
    (∃ (s : State) (src : Src) (k : _), s.m.clk.procRunning = true ∧ src.native = some k ∧ k ≠ .c ∧ s.m.isPending src = false) ∧
    (∃ (s : State) (src : Src) (k : _), s.m.clk.procRunning = true ∧ src.native = some k ∧ k ≠ .c ∧ s.m.isPending src = true) ∧
    (∃ (s : State) (src : Src), s.m.clk.procRunning = true ∧ src.native = some .c) ∧
    (∃ (s : State) (c : Instr) (src : _) (params : _) (h : _), s.m.clk.procRunning = true ∧
        (c = .countingEvent src params ∨ c = .faultRaise src params) ∧ src.counting = true ∧ s.m.isPending src = false ∧
        h = s.m.now :: (aget s.m.flt.hist src.id []).filter (fun t => decide (s.m.now ≤ t + s.m.countW src))) ∧
    (∃ (s : State) (c : Instr) (src : _) (params : _), s.m.clk.procRunning = true ∧
        (c = .countingEvent src params ∨ c = .faultRaise src params) ∧ src.counting = true ∧ s.m.isPending src = true) ∧
    (∃ (s : State) (src : Src), s.m.clk.procRunning = true ∧ src.counting = false) :=
  ⟨⟨{ m := { live with clk := { live.clk with procRunning := true } } }, .busBound, .u, by decide +kernel, by decide +kernel,
      by decide +kernel, by decide +kernel⟩,
   ⟨{ m := { live with clk := { live.clk with procRunning := true }, flt := { live.flt with pending := [raised] } } }, .busBound, .u,
       by decide +kernel, by decide +kernel, by decide +kernel, by decide +kernel⟩,
   ⟨{ m := { live with clk := { live.clk with procRunning := true } } }, .eccCorrected, by decide +kernel, by decide +kernel⟩,
   ⟨{ m := { live with clk := { live.clk with procRunning := true }, flt := { live.flt with hist := [], pending := [] } } },
       .countingEvent .chainPlausibility [], .chainPlausibility, [], [live.now], by decide +kernel, .inl (by decide +kernel),
       by decide +kernel, by decide +kernel, by decide +kernel⟩,
   ⟨{ m := { live with clk := { live.clk with procRunning := true }, flt := { live.flt with pending := [{ raised with src := .chainPlausibility }] } } },
       .faultRaise .chainPlausibility [], .chainPlausibility, [], by decide +kernel, .inr (by decide +kernel), by decide +kernel,
       by decide +kernel⟩,
   ⟨{ m := { live with clk := { live.clk with procRunning := true } } }, .busBound, by decide +kernel, by decide +kernel⟩⟩

/-- The premises of FaultRequestsTakeEffect can be met, clause by clause. -/
theorem witness_FaultRequestsTakeEffect :
    (∃ (s : State) (c : Instr) (seq : _), s.m.clk.procRunning = true ∧ (c = .faultAcknowledge seq 0 ∨ c = .faultClear seq 0)) ∧
    (∃ (s : State) (role : Nat), s.m.clk.procRunning = true ∧ 1 ≤ role ∧ s.m.flt.selfFault = false) ∧
    (∃ (s : State) (role : Nat), s.m.clk.procRunning = true ∧ 1 ≤ role ∧ s.m.flt.selfFault = true) :=
  ⟨⟨{ m := { live with clk := { live.clk with procRunning := true } } }, .faultClear 1 0, 1, by decide +kernel, .inr (by decide +kernel)⟩,
   ⟨{ m := { live with clk := { live.clk with procRunning := true }, flt := { live.flt with selfFault := false, pending := [raised, { raised with src := .siTestFail, seq := 2 }] } } },
       1, by decide +kernel, by decide +kernel, by decide +kernel⟩,
   ⟨{ m := { live with clk := { live.clk with procRunning := true }, flt := { live.flt with selfFault := true } } }, 1, by decide +kernel,
       by decide +kernel, by decide +kernel⟩⟩

/-- The premises of InjectionCommandsTakeEffect can be met, clause by clause. -/
theorem witness_InjectionCommandsTakeEffect :
    (∃ (s : State) (src : Nat) (chan : Nat) (dur : Nat) (role : Nat), s.m.clk.procRunning = true ∧ 3 ≤ role ∧ chan ≤ 1 ∧ 0 < dur ∧
        dur ≤ 1000 ∧ s.m.mode.mode ≠ .boot ∧ s.m.mode.mode ≠ .lockout ∧ s.m.saf.walnutLive = true ∧
        bit s.m.mode.bootResult (if chan = 0 then 3 else 2) = false ∧ s.m.saf.demW = 0 ∧ s.m.saf.demF = 0 ∧ s.m.holdActive = false ∧
        ¬ (src = 0x090 ∧ s.m.isLive .alarmLoopBroken = true) ∧ s.m.flt.inj = none ∧
        s.m.flt.injEnd.all (fun t => decide (t + 1000000000 ≤ s.m.now)) = true ∧ (if chan = 0 then src ∈ [0, 1, 2, 4, 5, 6, 7, 8, 9, 10,
        11] else (src = 2 ∧ s.m.sw3On 3 = true) ∨ src ∈ [4, 5, 6, 7, 8, 9, 10, 11, 0x090])) ∧
    (∃ (s : State) (src : Nat) (chan : Nat) (dur : Nat) (role : Nat), s.m.clk.procRunning = true ∧ 3 ≤ role ∧ chan ≤ 1 ∧ 0 < dur ∧
        dur ≤ 1000 ∧ s.m.injectOk src chan = false) ∧
    (∃ (s : State) (role : Nat), s.m.clk.procRunning = true ∧ role < 3) ∧
    (∃ (s : State) (chan : Nat) (dur : Nat) (role : Nat), s.m.clk.procRunning = true ∧ 3 ≤ role ∧ (1 < chan ∨ dur = 0 ∨ 1000 < dur)) ∧
    (∃ (s : State) (i : _) (r : Nat), s.m.clk.procRunning = true ∧ s.m.flt.inj = some i ∧ r ≤ i.dur ∧ shortestPass i.src i.chan ≤ i.dur) ∧
    (∃ (s : State) (i : _) (r : Option Nat), s.m.clk.procRunning = true ∧ s.m.flt.inj = some i ∧
        (r.all (fun x => decide (i.dur < x ∨ i.dur < shortestPass i.src i.chan)) = true)) ∧
    (∃ (s : State), s.m.clk.procRunning = true ∧ s.m.flt.inj ≠ none) ∧
    (∃ (s : State) (c : Instr) (r : _), s.m.clk.procRunning = true ∧ (c = .injectionEnd r ∨ c = .injectionAbort) ∧ s.m.flt.inj = none) :=
  ⟨⟨{ m := { live with clk := { live.clk with procRunning := true }, saf := { live.saf with walnutLive := true, demW := 0, demF := 0, holdW := none, holdF := none }, flt := { live.flt with inj := none, injEnd := none }, mode := { live.mode with bootResult := 0 } } },
      0, 0, 1000, 3, by decide +kernel, by decide +kernel, by decide +kernel, by decide +kernel, by decide +kernel, by decide +kernel,
      by decide +kernel, by decide +kernel, by decide +kernel, by decide +kernel, by decide +kernel, by decide +kernel, by decide +kernel,
      by decide +kernel, by decide +kernel, by decide +kernel⟩,
   ⟨{ m := { live with clk := { live.clk with procRunning := true } } }, 0, 0, 1, 3, by decide +kernel, by decide +kernel,
       by decide +kernel, by decide +kernel, by decide +kernel, by decide +kernel⟩,
   ⟨{ m := { live with clk := { live.clk with procRunning := true } } }, 2, by decide +kernel, by decide +kernel⟩,
   ⟨{ m := { live with clk := { live.clk with procRunning := true } } }, 0, 1001, 3, by decide +kernel, by decide +kernel,
       .inr (.inr (by decide))⟩,
   ⟨{ m := { live with clk := { live.clk with procRunning := true }, flt := { live.flt with inj := some inject } } }, inject, 1000,
       by decide +kernel, by decide +kernel, by decide +kernel, by decide +kernel⟩,
   ⟨{ m := { live with clk := { live.clk with procRunning := true }, flt := { live.flt with inj := some inject } } }, inject, none,
       by decide +kernel, by decide +kernel, by decide +kernel⟩,
   ⟨{ m := { live with clk := { live.clk with procRunning := true }, flt := { live.flt with inj := some inject } } }, by decide +kernel,
       by decide +kernel⟩,
   ⟨{ m := { live with clk := { live.clk with procRunning := true }, flt := { live.flt with inj := none } } }, .injectionAbort, none,
       by decide +kernel, .inr (by decide +kernel), by decide +kernel⟩⟩

/-- The premises of RecorderCommandsTakeEffect can be met, clause by clause. -/
theorem witness_RecorderCommandsTakeEffect :
    (∃ (s : State) (code : Nat) (cls : Nat), s.m.clk.procRunning = true ∧ codeClassOk code cls = true ∧ code ≠ 0x0202 ∧
        s.m.seed.staging.length < 1024) ∧
    (∃ (s : State) (code : Nat) (cls : Nat), s.m.clk.procRunning = true ∧ codeClassOk code cls = true ∧ code ≠ 0x0202 ∧
        1024 ≤ s.m.seed.staging.length) ∧
    (∃ (s : State) (src : Nat) (x : _), s.m.clk.procRunning = true ∧ s.m.seed.suppress.find? (fun y => y.src == src) = some x ∧
        s.m.now < x.last + 100000000) ∧
    (∃ (s : State) (src : Nat), s.m.clk.procRunning = true ∧
        (s.m.seed.suppress.find? (fun y => y.src == src)).all (fun x => decide (x.last + 100000000 ≤ s.m.now)) = true ∧
        s.m.seed.staging.length < 1024) ∧
    (∃ (s : State) (code : Nat) (cls : Nat), s.m.clk.procRunning = true ∧ codeClassOk code cls = false) ∧
    (∃ (s : State) (r : _) (rest : _), s.m.clk.procRunning = true ∧ s.m.seed.clear = none ∧ s.m.seed.staging = r :: rest ∧
        s.m.seed.dropped = 0) ∧
    (∃ (s : State) (r : _) (rest : _), s.m.clk.procRunning = true ∧ s.m.seed.clear = none ∧ s.m.seed.staging = r :: rest ∧
        0 < s.m.seed.dropped ∧ rest.length < 512) ∧
    (∃ (s : State), s.m.clk.procRunning = true ∧ s.m.seed.clear ≠ none) ∧
    (∃ (s : State) (what : Nat) (role : Nat), s.m.clk.procRunning = true ∧ 3 ≤ role ∧ what < 4 ∧ s.m.mode.mode ≠ .lockout ∧
        s.m.anyPending .f = false ∧ s.m.seed.clear = none) ∧
    (∃ (s : State) (what : Nat) (role : Nat), s.m.clk.procRunning = true ∧ 3 ≤ role ∧ what < 4 ∧
        (s.m.mode.mode = .lockout ∨ s.m.anyPending .f = true ∨ s.m.seed.clear ≠ none)) ∧
    (∃ (s : State) (what : Nat) (role : Nat), s.m.clk.procRunning = true ∧ (role < 3 ∨ 4 ≤ what)) ∧
    (∃ (s : State) (c : _), s.m.clk.procRunning = true ∧ s.m.seed.clear = some c) :=
  ⟨⟨{ m := { live with clk := { live.clk with procRunning := true }, seed := { live.seed with staging := List.replicate 1023 event, clear := none } } },
      0x0100, 0, by decide +kernel, by decide +kernel, by decide +kernel, by decide +kernel⟩,
   ⟨{ m := { live with clk := { live.clk with procRunning := true }, seed := { live.seed with staging := List.replicate 1024 event, clear := none } } },
       0x0100, 0, by decide +kernel, by decide +kernel, by decide +kernel, by decide +kernel⟩,
   ⟨{ m := { live with clk := { live.clk with procRunning := true }, seed := { live.seed with suppress := [{ src := 1, last := 999999900000001, held := 0 }] } } },
       1, { src := 1, last := 999999900000001, held := 0 }, by decide +kernel, by decide +kernel, by decide +kernel⟩,
   ⟨{ m := { live with clk := { live.clk with procRunning := true }, seed := { live.seed with suppress := [] } } }, 0, by decide +kernel,
       by decide +kernel, by decide +kernel⟩,
   ⟨{ m := { live with clk := { live.clk with procRunning := true } } }, 0, 0, by decide +kernel, by decide +kernel⟩,
   ⟨{ m := { live with clk := { live.clk with procRunning := true }, seed := { live.seed with clear := none, dropped := 0, staging := [event] } } },
       event, [], by decide +kernel, by decide +kernel, by decide +kernel, by decide +kernel⟩,
   ⟨{ m := { live with clk := { live.clk with procRunning := true }, seed := { live.seed with clear := none, dropped := 3, staging := List.replicate 512 event } } },
       event, List.replicate 511 event, by decide +kernel, by decide +kernel, by decide +kernel, by decide +kernel, by decide +kernel⟩,
   ⟨{ m := { live with clk := { live.clk with procRunning := true }, seed := { live.seed with clear := some pendingClear } } },
       by decide +kernel, by decide +kernel⟩,
   ⟨{ m := { live with clk := { live.clk with procRunning := true }, seed := { live.seed with clear := none } } }, 3, 3, by decide +kernel,
       by decide +kernel, by decide +kernel, by decide +kernel, by decide +kernel, by decide +kernel⟩,
   ⟨{ m := { live with clk := { live.clk with procRunning := true }, mode := { live.mode with mode := .lockout } } }, 3, 3,
       by decide +kernel, by decide +kernel, by decide +kernel, .inl (by decide +kernel)⟩,
   ⟨{ m := { live with clk := { live.clk with procRunning := true } } }, 0, 2, by decide +kernel, .inl (by decide)⟩,
   ⟨{ m := { live with clk := { live.clk with procRunning := true }, seed := { live.seed with clear := some pendingClear } } },
       pendingClear, by decide +kernel, by decide +kernel⟩⟩

/-- The premises of StoreCommandsTakeEffect can be met, clause by clause. -/
theorem witness_StoreCommandsTakeEffect :
    (∃ (s : State) (p : _) (rest : _), s.m.clk.procRunning = true ∧ s.m.nv.pending = p :: rest ∧ s.m.nv.flushed = false ∧
        (s.m.nv.flushing = true ∨ s.m.nv.fillBytes + txnBytes p.items ≤ 589824)) ∧
    (∃ (s : State) (p : _) (rest : _), s.m.clk.procRunning = true ∧ s.m.nv.pending = p :: rest ∧ s.m.nv.flushed = false ∧
        s.m.nv.flushing = false ∧ 589824 < s.m.nv.fillBytes + txnBytes p.items) ∧
    (∃ (s : State), s.m.clk.procRunning = true ∧ (s.m.nv.pending = [] ∨ s.m.nv.flushed = true)) ∧
    (∃ (s : State), s.m.clk.procRunning = true ∧ (491520 ≤ s.m.nv.fillBytes ∨ s.m.nv.compAt + 3600000000000 ≤ s.m.fabTime) ∧
        s.m.nv.compact = none ∧ s.m.nv.flushed = false ∧ s.m.clk.warning = false) ∧
    (∃ (s : State), s.m.clk.procRunning = true ∧ ((s.m.nv.fillBytes < 491520 ∧
        s.m.fabTime < s.m.nv.compAt + 3600000000000) ∨ s.m.nv.compact ≠ none ∨ s.m.nv.flushed = true ∨ s.m.clk.warning = true)) ∧
    (∃ (s : State) (rc : _) (t : _), s.m.clk.procRunning = true ∧ s.m.nv.compact = some (rc, t)) :=
  ⟨⟨{ m := { live with clk := { live.clk with procRunning := true }, nv := { live.nv with flushed := false, pending := [{ items := [], after := [] }], journal := [{ rseq := 1, items := [], crcOk := true, marked := true, bytes := 589824 }] } } },
      { items := [], after := [] }, [], by decide +kernel, by decide +kernel, by decide +kernel, .inr (by decide +kernel)⟩,
   ⟨{ m := { live with clk := { live.clk with procRunning := true }, nv := { live.nv with flushed := false, flushing := false, pending := [{ items := [], after := [] }], journal := [{ rseq := 1, items := [], crcOk := true, marked := true, bytes := 589825 }] } } },
       { items := [], after := [] }, [], by decide +kernel, by decide +kernel, by decide +kernel, by decide +kernel, by decide +kernel⟩,
   ⟨{ m := { live with clk := { live.clk with procRunning := true }, nv := { live.nv with pending := [] } } }, by decide +kernel,
       .inl (by decide +kernel)⟩,
   ⟨{ m := { live with clk := { live.clk with procRunning := true, warning := false }, nv := { live.nv with compact := none, flushed := false, journal := [{ rseq := 1, items := [], crcOk := true, marked := true, bytes := 491520 }] } } },
       by decide +kernel, .inl (by decide +kernel), by decide +kernel, by decide +kernel, by decide +kernel⟩,
   ⟨{ m := { live with clk := { live.clk with procRunning := true }, nv := { live.nv with compact := some (1, 0) } } }, by decide +kernel,
       .inr (.inl (by decide +kernel))⟩,
   ⟨{ m := { live with clk := { live.clk with procRunning := true }, nv := { live.nv with compact := some (1, 0) } } }, 1, 0,
       by decide +kernel, by decide +kernel⟩⟩

/-- The premises of SessionCommandsTakeEffect can be met, clause by clause. -/
theorem witness_SessionCommandsTakeEffect :
    (∃ (s : State) (iface : Nat) (size : Nat), s.m.clk.procRunning = true ∧ (s.m.mode.mode ≠ .boot ∨ s.m.mode.recovery = true) ∧
        (s.m.mode.recovery = false ∨ iface = 0) ∧ s.m.mbx.sessions.length < (if s.m.mode.recovery = true then 1 else 16) ∧
        sizeOk iface size = true) ∧
    (∃ (s : State) (iface : Nat), s.m.clk.procRunning = true ∧ (s.m.mode.mode ≠ .boot ∨ s.m.mode.recovery = true) ∧
        (s.m.mode.recovery = false ∨ iface = 0) ∧ (if s.m.mode.recovery = true then 1 else 16) ≤ s.m.mbx.sessions.length) ∧
    (∃ (s : State) (iface : Nat) (size : Nat) (ok : Bool), s.m.clk.procRunning = true ∧ (s.m.mode.mode ≠ .boot ∨ s.m.mode.recovery = true) ∧
        (s.m.mode.recovery = false ∨ iface = 0) ∧ s.m.mbx.sessions.length < (if s.m.mode.recovery = true then 1 else 16) ∧
        (sizeOk iface size = false ∨ ok = false)) ∧
    (∃ (s : State) (iface : Nat), s.m.clk.procRunning = true ∧ ((s.m.mode.mode = .boot ∧
        s.m.mode.recovery = false) ∨ (s.m.mode.recovery = true ∧ iface ≠ 0))) ∧
    (∃ (s : State) (f : MbxFrame) (c : HostCert) (x : _) (r : _), s.m.clk.procRunning = true ∧ s.m.session f.sid = some x ∧
        x.opened = false ∧ x.accepts f = true ∧ c.sigOk = true ∧ s.m.notRevoked c = true ∧ s.m.certValid c = true ∧ c.anchored = true ∧
        c.role = some r ∧ (s.m.mode.recovery = true → r = .service)) ∧
    (∃ (s : State) (f : MbxFrame) (c : HostCert) (x : _) (t : _), s.m.clk.procRunning = true ∧ s.m.session f.sid = some x ∧
        x.opened = false ∧ x.accepts f = true ∧ c.sigOk = true ∧ s.m.notRevoked c = true ∧ s.m.certValid c = true ∧ c.anchored = false ∧
        s.m.anchorsEmpty = true ∧ x.iface = 0 ∧ c.selfSigned = true ∧ s.m.clk.bootstrap = some t ∧ s.m.now < t + 300000000000) ∧
    (∃ (s : State) (f : MbxFrame) (c : HostCert) (x : _), s.m.clk.procRunning = true ∧ s.m.session f.sid = some x ∧ x.opened = false ∧
        x.accepts f = true ∧ (c.sigOk = false ∨ s.m.notRevoked c = false ∨ s.m.certValid c = false ∨ (c.anchored = true ∧
        c.role = none) ∨ (s.m.mode.recovery = true ∧ c.anchored = true ∧ c.role ≠ some .service) ∨ (c.anchored = false ∧
        s.m.bootstrapOk x c = false))) ∧
    (∃ (s : State) (f : MbxFrame) (x : _), s.m.clk.procRunning = true ∧ Opens s f x) ∧
    (∃ (s : State) (f : MbxFrame), s.m.clk.procRunning = true ∧ s.m.session f.sid = none) ∧
    (∃ (s : State) (f : _) (c : _) (k : Instr) (x : _), s.m.clk.procRunning = true ∧ (k = .close f ∨ k = .keepalive f ∨ k = .finish f c) ∧
        s.m.session f.sid = some x ∧ (x.accepts f = false ∨ x.opened = decide (k = .finish f c))) :=
  ⟨⟨{ m := { live with clk := { live.clk with procRunning := true }, mode := { live.mode with mode := .standby, recovery := false }, mbx := { live.mbx with sessions := List.replicate 15 sess } } },
      0, 4096, by decide +kernel, .inl (by decide +kernel), .inl (by decide +kernel), by decide +kernel, by decide +kernel⟩,
   ⟨{ m := { live with clk := { live.clk with procRunning := true }, mode := { live.mode with mode := .standby, recovery := false }, mbx := { live.mbx with sessions := List.replicate 16 sess } } },
       0, by decide +kernel, .inl (by decide +kernel), .inl (by decide +kernel), by decide +kernel⟩,
   ⟨{ m := { live with clk := { live.clk with procRunning := true }, mode := { live.mode with mode := .standby, recovery := false }, mbx := { live.mbx with sessions := List.replicate 15 sess } } },
       1, 4096, false, by decide +kernel, .inl (by decide +kernel), .inl (by decide +kernel), by decide +kernel, .inl (by decide +kernel)⟩,
   ⟨{ m := { live with clk := { live.clk with procRunning := true }, mode := { live.mode with mode := .boot, recovery := false } } }, 0,
       by decide +kernel, .inl (by decide +kernel)⟩,
   ⟨{ m := { live with clk := { live.clk with procRunning := true }, mode := { live.mode with mode := .standby, recovery := false }, mbx := { live.mbx with sessions := [{ sess with opened := false }] } } },
       frame, cert, { sess with opened := false }, .operator, by decide +kernel, by decide +kernel, by decide +kernel, by decide +kernel,
       by decide +kernel, by decide +kernel, by decide +kernel, by decide +kernel, by decide +kernel,
       fun h => absurd h (by decide +kernel)⟩,
   ⟨{ m := { live with now := 1000000000000000, params := [], clk := { live.clk with procRunning := true, bootstrap := some 999700000000001 }, mode := { live.mode with mode := .standby, recovery := false }, mbx := { live.mbx with sessions := [{ sess with opened := false }] } } },
       frame, { cert with anchored := false, selfSigned := true }, { sess with opened := false }, 999700000000001, by decide +kernel,
       by decide +kernel, by decide +kernel, by decide +kernel, by decide +kernel, by decide +kernel, by decide +kernel, by decide +kernel,
       by decide +kernel, by decide +kernel, by decide +kernel, by decide +kernel, by decide +kernel⟩,
   ⟨{ m := { live with clk := { live.clk with procRunning := true }, mbx := { live.mbx with sessions := [{ sess with opened := false }] } } },
       frame, { cert with sigOk := false }, { sess with opened := false }, by decide +kernel, by decide +kernel, by decide +kernel,
       by decide +kernel, .inl rfl⟩,
   ⟨{ m := { live with clk := { live.clk with procRunning := true }, mbx := { live.mbx with sessions := [sess] } } }, frame, sess,
       by decide +kernel, by unfold Opens; decide +kernel⟩,
   ⟨{ m := { live with clk := { live.clk with procRunning := true } } }, frame, by decide +kernel, by decide +kernel⟩,
   ⟨{ m := { live with clk := { live.clk with procRunning := true }, mbx := { live.mbx with sessions := [sess] } } },
       { frame with tagOk := false }, cert, .close { frame with tagOk := false }, sess, by decide +kernel, .inl (by decide +kernel),
       by decide +kernel, .inl (by decide +kernel)⟩⟩

/-- The premises of TransferCommandsTakeEffect can be met, clause by clause. -/
theorem witness_TransferCommandsTakeEffect :
    (∃ (s : State) (f : MbxFrame) (x : _) (idx : Nat) (sub : Nat), s.m.clk.procRunning = true ∧ HandsOn s f x ∧ s.m.served idx sub = none) ∧
    (∃ (s : State) (f : MbxFrame) (x : _) (idx : Nat) (sub : Nat) (o : Nat) (l : Nat) (r : _), s.m.clk.procRunning = true ∧ HandsOn s f x ∧
        s.m.served idx sub = some r ∧ ((isOctets idx sub r.len = false ∧ (o ≠ 0 ∨ l ≠ 0)) ∨ r.len < o)) ∧
    (∃ (s : State) (f : MbxFrame) (x : _) (idx : Nat) (sub : Nat) (o : Nat) (l : Nat) (r : _), s.m.clk.procRunning = true ∧ HandsOn s f x ∧
        s.m.served idx sub = some r ∧ (isOctets idx sub r.len = true ∨ (o = 0 ∧ l = 0)) ∧ o ≤ r.len ∧ isStreamed idx sub = false) ∧
    (∃ (s : State) (f : MbxFrame) (x : _) (idx : Nat) (o : Nat) (r : _), s.m.clk.procRunning = true ∧ HandsOn s f x ∧
        s.m.served idx 0 = some r ∧ (idx = 0x2E01 ∨ idx = 0x2E02) ∧ o ≤ r.len) ∧
    (∃ (s : State) (f : MbxFrame) (x : _) (objs : List (Nat × Nat)), s.m.clk.procRunning = true ∧ HandsOn s f x ∧ objs ≠ [] ∧
        objs.length ≤ 256 ∧ s.m.setBytes objs ≤ 196608) ∧
    (∃ (s : State) (f : MbxFrame) (x : _) (objs : List (Nat × Nat)), s.m.clk.procRunning = true ∧ HandsOn s f x ∧
        (objs = [] ∨ 256 < objs.length)) ∧
    (∃ (s : State) (f : MbxFrame) (x : _) (objs : List (Nat × Nat)), s.m.clk.procRunning = true ∧ HandsOn s f x ∧ objs ≠ [] ∧
        objs.length ≤ 256 ∧ 196608 < s.m.setBytes objs) ∧
    (∃ (s : State) (f : _) (x : _) (c : Instr), s.m.clk.procRunning = true ∧ (c = .mailboxRead f 0x1000 0 0 0 ∨ c = .readSet f [(0x1000,
        0)]) ∧ Opens s f x ∧ f.seg = x.rxSegs ∧ (x.sending = true ∨ f.more = true)) ∧
    (∃ (s : State) (f : _) (x : _) (c : Instr), s.m.clk.procRunning = true ∧ (c = .mailboxRead f 0x1000 0 0 0 ∨ c = .readSet f [(0x1000,
        0)]) ∧ Opens s f x ∧ f.seg < x.rxSegs) ∧
    (∃ (s : State) (f : MbxFrame) (x : _) (r : _), s.m.clk.procRunning = true ∧ Opens s f x ∧ x.unacked = true ∧ x.resp = some r ∧
        f.seg = (x.txSeg - 1) % 65536 ∧ x.sending = true) ∧
    (∃ (s : State) (f : MbxFrame) (x : _) (r : _), s.m.clk.procRunning = true ∧ Opens s f x ∧ x.unacked = true ∧ x.resp = some r ∧
        f.seg ≠ (x.txSeg - 1) % 65536 ∧ f.seg = (x.txSeg + 65534) % 65536 ∧ 0 < x.txSeg) ∧
    (∃ (s : State) (f : MbxFrame) (x : _), s.m.clk.procRunning = true ∧ Opens s f x ∧ x.unacked = true ∧ f.seg = (x.txSeg - 1) % 65536 ∧
        x.sending = false) ∧
    (∃ (s : State) (f : MbxFrame) (x : _), s.m.clk.procRunning = true ∧ Opens s f x ∧ x.unacked = false) ∧
    (∃ (s : State) (f : MbxFrame) (x : _), s.m.clk.procRunning = true ∧ Opens s f x ∧ x.inTransfer = true) ∧
    (∃ (s : State) (f : MbxFrame) (x : _), s.m.clk.procRunning = true ∧ Opens s f x ∧ x.inTransfer = false) ∧
    (∃ (s : State) (f : _) (c : _) (code : _), s.m.clk.procRunning = true ∧ (c, code) ∈ [(Instr.mailboxRead f 0x1000 0 0 0, 0x10),
        (.readSet f [(0x1000, 0)], 0x11), (.ack f, 0x14), (.abort f, 0x15)] ∧ s.m.session f.sid = none) ∧
    (∃ (s : State) (f : _) (c : _) (x : _), s.m.clk.procRunning = true ∧ c ∈ [Instr.mailboxRead f 0x1000 0 0 0, .readSet f [(0x1000, 0)],
        .ack f, .abort f] ∧ s.m.session f.sid = some x ∧ (x.opened = false ∨ x.accepts f = false)) ∧
    (∃ (s : State) (x : _) (rest : _) (q : _), s.m.clk.procRunning = true ∧ s.m.mbx.sessions = x :: rest ∧ x.wait = some q ∧
        q.epoch < s.m.fastEpoch ∧ s.m.poolUsed + s.m.setBytes q.objs ≤ 524288) ∧
    (∃ (s : State), s.m.clk.procRunning = true ∧ (∀ x ∈ s.m.mbx.sessions,
        x.wait.all (fun q => decide (s.m.fastEpoch ≤ q.epoch ∨ 524288 < s.m.poolUsed + s.m.setBytes q.objs)) = true)) ∧
    (∃ (s : State), s.m.clk.procRunning = true ∧ (∀ x ∈ s.m.mbx.sessions, x.wait.all (fun q => !s.m.elapsed q.at_ 100000000) = true)) :=
  ⟨⟨{ m := { live with clk := { live.clk with procRunning := true }, mbx := { live.mbx with sessions := [sess] } } }, frame, sess, 0, 0,
      by decide +kernel, by unfold HandsOn Opens; decide +kernel, by decide +kernel⟩,
   ⟨{ m := { live with clk := { live.clk with procRunning := true }, mbx := { live.mbx with sessions := [sess] } } }, frame, sess, 0x3101,
       0, 513, 0, ⟨0x3101, 0, 0, 512, .rwe, false, 0, false, 0, 0⟩, by decide +kernel, by unfold HandsOn Opens; decide +kernel,
       by decide +kernel, .inr (by decide)⟩,
   ⟨{ m := { live with clk := { live.clk with procRunning := true }, mbx := { live.mbx with sessions := [sess] } } }, frame, sess, 0x3101,
       0, 512, 0, ⟨0x3101, 0, 0, 512, .rwe, false, 0, false, 0, 0⟩, by decide +kernel, by unfold HandsOn Opens; decide +kernel,
       by decide +kernel, .inl (by decide +kernel), by decide +kernel, by decide +kernel⟩,
   ⟨{ m := { live with clk := { live.clk with procRunning := true }, mbx := { live.mbx with sessions := [sess] }, mode := { live.mode with recovery := false } } },
       frame, sess, 0x2E02, 0, ((objFind 0x2E02 0).getD ⟨0x3101, 0, 0, 512, .rwe, false, 0, false, 0, 0⟩), by decide +kernel,
       by unfold HandsOn Opens; decide +kernel, by decide +kernel, .inr rfl, by decide +kernel⟩,
   ⟨{ m := { live with clk := { live.clk with procRunning := true }, mbx := { live.mbx with sessions := [sess] } } }, frame, sess, [(0x1000,
       1)], by decide +kernel, by unfold HandsOn Opens; decide +kernel, by decide +kernel, by decide +kernel, by decide +kernel⟩,
   ⟨{ m := { live with clk := { live.clk with procRunning := true }, mbx := { live.mbx with sessions := [sess] } } }, frame, sess,
       List.replicate 257 (0x1000, 1), by decide +kernel, by unfold HandsOn Opens; decide +kernel, .inr (by decide +kernel)⟩,
   ⟨{ m := { live with clk := { live.clk with procRunning := true }, mbx := { live.mbx with sessions := [sess] }, mode := { live.mode with recovery := false } } },
       frame, sess, List.replicate 4 (0x3101, 1), by decide +kernel, by unfold HandsOn Opens; decide +kernel, by decide +kernel,
       by decide +kernel, by decide +kernel⟩,
   ⟨{ m := { live with clk := { live.clk with procRunning := true }, mbx := { live.mbx with sessions := [{ sess with unacked := true, resp := some resp, txSeg := 1, sending := true }] } } },
       frame, { sess with unacked := true, resp := some resp, txSeg := 1, sending := true }, .mailboxRead frame 0x1000 0 0 0,
       by decide +kernel, .inl (by decide +kernel), by unfold Opens; decide +kernel, by decide +kernel, .inl rfl⟩,
   ⟨{ m := { live with clk := { live.clk with procRunning := true }, mbx := { live.mbx with sessions := [{ sess with rxSegs := 1 }] } } },
       frame, { sess with rxSegs := 1 }, .mailboxRead frame 0x1000 0 0 0, by decide +kernel, .inl (by decide +kernel),
       by unfold Opens; decide +kernel, by decide +kernel⟩,
   ⟨{ m := { live with clk := { live.clk with procRunning := true }, mbx := { live.mbx with sessions := [{ sess with unacked := true, resp := some resp, txSeg := 1, sending := true }] } } },
       frame, { sess with unacked := true, resp := some resp, txSeg := 1, sending := true }, resp, by decide +kernel,
       by unfold Opens; decide +kernel, by decide +kernel, by decide +kernel, by decide +kernel, by decide +kernel⟩,
   ⟨{ m := { live with clk := { live.clk with procRunning := true }, mbx := { live.mbx with sessions := [{ sess with unacked := true, resp := some resp, txSeg := 2 }] } } },
       frame, { sess with unacked := true, resp := some resp, txSeg := 2 }, resp, by decide +kernel, by unfold Opens; decide +kernel,
       by decide +kernel, by decide +kernel, by decide +kernel, by decide +kernel, by decide +kernel⟩,
   ⟨{ m := { live with clk := { live.clk with procRunning := true }, mbx := { live.mbx with sessions := [{ sess with unacked := true, txSeg := 1 }] } } },
       frame, { sess with unacked := true, txSeg := 1 }, by decide +kernel, by unfold Opens; decide +kernel, by decide +kernel,
       by decide +kernel, by decide +kernel⟩,
   ⟨{ m := { live with clk := { live.clk with procRunning := true }, mbx := { live.mbx with sessions := [sess] } } }, frame, sess,
       by decide +kernel, by unfold Opens; decide +kernel, by decide +kernel⟩,
   ⟨{ m := { live with clk := { live.clk with procRunning := true }, mbx := { live.mbx with sessions := [{ sess with rxSegs := 1 }] } } },
       frame, { sess with rxSegs := 1 }, by decide +kernel, by unfold Opens; decide +kernel, by decide +kernel⟩,
   ⟨{ m := { live with clk := { live.clk with procRunning := true }, mbx := { live.mbx with sessions := [sess] } } }, frame, sess,
       by decide +kernel, by unfold Opens; decide +kernel, by decide +kernel⟩,
   ⟨{ m := { live with clk := { live.clk with procRunning := true }, mbx := { live.mbx with sessions := [] } } }, frame,
       .mailboxRead frame 0x1000 0 0 0, 0x10, by decide +kernel, by decide +kernel, by decide +kernel⟩,
   ⟨{ m := { live with clk := { live.clk with procRunning := true }, mbx := { live.mbx with sessions := [{ sess with opened := false }] } } },
       frame, .mailboxRead frame 0x1000 0 0 0, { sess with opened := false }, by decide +kernel, by decide +kernel, by decide +kernel,
       .inl rfl⟩,
   ⟨{ m := { live with clk := { live.clk with procRunning := true }, mbx := { live.mbx with sessions := [{ sess with wait := some capReq }] } } },
       { sess with wait := some capReq }, [], capReq, by decide +kernel, by decide +kernel, by decide +kernel, by decide +kernel,
       by decide +kernel⟩,
   ⟨{ m := { live with clk := { live.clk with procRunning := true }, mbx := { live.mbx with sessions := [] } } }, by decide +kernel,
       by decide +kernel⟩,
   ⟨{ m := { live with clk := { live.clk with procRunning := true }, mbx := { live.mbx with sessions := [] } } }, by decide +kernel,
       by decide +kernel⟩⟩

/-- The premises of HostWritesTakeEffect can be met, clause by clause. -/
theorem witness_HostWritesTakeEffect :
    (∃ (s : State) (f : MbxFrame) (x : _) (w : WriteVal), s.m.clk.procRunning = true ∧ HandsOn s f x ∧ s.m.writeCheck x [] w ≠ 0) ∧
    (∃ (s : State) (f : MbxFrame) (w : WriteVal) (x : Session), s.m.clk.procRunning = true ∧ (∀ x,
        s.m.session f.sid = some x → (requestOf x w).isNone = true) ∧ w.nv = false ∧ w.idx < 65536 ∧ w.sub < 256 ∧ WriteOk s f x w) ∧
    (∃ (s : State) (f : MbxFrame) (w : WriteVal) (x : Session), s.m.clk.procRunning = true ∧ (∀ x,
        s.m.session f.sid = some x → (requestOf x w).isNone = true) ∧ w.nv = true ∧ WriteOk s f x w) ∧
    (∃ (s : State) (f : MbxFrame) (x : _) (w : WriteVal), s.m.clk.procRunning = true ∧ WriteOk s f x w ∧ (requestOf x w).isSome = true) ∧
    (∃ (s : State) (f : MbxFrame) (x : _) (ws : List WriteVal), s.m.clk.procRunning = true ∧ HandsOn s f x ∧ (ws = [] ∨ 64 < ws.length)) ∧
    (∃ (s : State) (f : MbxFrame) (x : _) (ws : List WriteVal), s.m.clk.procRunning = true ∧ HandsOn s f x ∧ ws ≠ [] ∧ ws.length ≤ 64 ∧
        (∀ w ∈ ws, (requestOf x w).isNone = true ∧ w.nv = false) ∧ s.m.firstFail x ws 0 ws = none) ∧
    (∃ (s : State) (f : MbxFrame) (x : _) (ws : List WriteVal), s.m.clk.procRunning = true ∧ HandsOn s f x ∧ ws ≠ [] ∧ ws.length ≤ 64 ∧
        (∀ w ∈ ws, (requestOf x w).isNone = true ∧ w.nv = true) ∧ s.m.firstFail x ws 0 ws = none) ∧
    (∃ (s : State) (f : MbxFrame) (x : _) (ws : List WriteVal) (i : _) (st : _), s.m.clk.procRunning = true ∧ HandsOn s f x ∧ ws ≠ [] ∧
        ws.length ≤ 64 ∧ (∀ w ∈ ws, (requestOf x w).isNone = true) ∧ s.m.firstFail x ws 0 ws = some (i, st)) ∧
    (∃ (s : State) (k : Nat), s.m.clk.procRunning = true ∧ k < 128) ∧
    (∃ (s : State) (c : _) (f : _) (x : _) (w : _), s.m.clk.procRunning = true ∧ (c, w) ∈ [(Instr.expertUnlock f 1,
        ({ idx := 0x1200, sub := 1, len := 1, value := 1 } : WriteVal)), (.canObjectDataWrite f 5 7,
        { idx := 0x3011, sub := 6, len := 64, value := 7 }), (.canObjectResume f 5, { idx := 0x3013, sub := 0, len := 1, value := 5 }),
        (.canObjectTableWrite f 0, { idx := 0x3010, sub := 0, len := 2048, value := 0 }), (.trustAnchorsWrite f 0,
        { idx := 0x3110, sub := 0, len := 388, value := 0 })] ∧ HandsOn s f x ∧ s.m.writeCheck x [] w ≠ 0) ∧
    (∃ (s : State) (w : _), s.m.clk.procRunning = true ∧ s.m.mbx.writes = [w] ∧ w.effect ≤ s.m.fastEpoch ∧ w.sub < 256) ∧
    (∃ (s : State) (w : _), s.m.clk.procRunning = true ∧ s.m.mbx.writes = [w] ∧ s.m.fastEpoch < w.effect) ∧
    (∃ (s : State) (f : MbxFrame) (x : Session) (v : Nat), s.m.clk.procRunning = true ∧
        WriteOk s f x { idx := 0x1200, sub := 1, len := 1, value := v }) ∧
    (∃ (s : State) (f : MbxFrame) (x : Session) (v : Nat), s.m.clk.procRunning = true ∧
        WriteOk s f x { idx := 0x3011, sub := 128, len := 64, value := v }) ∧
    (∃ (s : State) (f : MbxFrame) (x : Session) (v : Nat), s.m.clk.procRunning = true ∧
        WriteOk s f x { idx := 0x3013, sub := 0, len := 1, value := v }) ∧
    (∃ (s : State) (f : MbxFrame) (x : Session) (v : Nat), s.m.clk.procRunning = true ∧
        WriteOk s f x { idx := 0x3010, sub := 0, len := 2048, value := v }) ∧
    (∃ (s : State) (f : MbxFrame) (x : Session) (v : Nat), s.m.clk.procRunning = true ∧
        WriteOk s f x { idx := 0x3110, sub := 0, len := 388, value := v }) :=
  ⟨⟨{ m := { live with clk := { live.clk with procRunning := true }, mbx := { live.mbx with sessions := [sess] } } }, frame, sess,
      { idx := 0, sub := 0, len := 1, value := 0 }, by decide +kernel, by unfold HandsOn Opens; decide +kernel, by decide +kernel⟩,
   ⟨{ m := { live with clk := { live.clk with procRunning := true }, mbx := { live.mbx with sessions := [sess] } } }, frame,
       { idx := 0x1200, sub := 1, len := 1, value := 1 }, sess, by decide +kernel,
       fun x h => by obtain rfl : sess = x := Option.some.inj h; rfl, by decide +kernel, by decide +kernel, by decide +kernel,
       by unfold WriteOk HandsOn Opens; decide +kernel⟩,
   ⟨{ m := { live with clk := { live.clk with procRunning := true }, mbx := { live.mbx with sessions := [sess] } } }, frame,
       { idx := 0x2302, sub := 1, len := 1, value := 0 }, sess, by decide +kernel,
       fun x h => by obtain rfl : sess = x := Option.some.inj h; rfl, by decide +kernel, by unfold WriteOk HandsOn Opens; decide +kernel⟩,
   ⟨{ m := { live with clk := { live.clk with procRunning := true }, mbx := { live.mbx with sessions := [sess] }, mode := { live.mode with recovery := false } } },
       frame, sess, { idx := 0x2D01, sub := 0, len := 4, value := 1 }, by decide +kernel, by unfold WriteOk HandsOn Opens; decide +kernel,
       by decide +kernel⟩,
   ⟨{ m := { live with clk := { live.clk with procRunning := true }, mbx := { live.mbx with sessions := [sess] } } }, frame, sess,
       List.replicate 65 { idx := 0x1200, sub := 1, len := 1, value := 1 }, by decide +kernel, by unfold HandsOn Opens; decide +kernel,
       .inr (by decide)⟩,
   ⟨{ m := { live with clk := { live.clk with procRunning := true }, mbx := { live.mbx with sessions := [sess] } } }, frame, sess,
       [{ idx := 0x1200, sub := 1, len := 1, value := 1 }], by decide +kernel, by unfold HandsOn Opens; decide +kernel, by decide +kernel,
       by decide +kernel, by decide +kernel, by decide +kernel⟩,
   ⟨{ m := { live with clk := { live.clk with procRunning := true }, mbx := { live.mbx with sessions := [sess] }, mode := { live.mode with recovery := false } } },
       frame, sess, [{ idx := 0x2302, sub := 1, len := 1, value := 0 }], by decide +kernel, by unfold HandsOn Opens; decide +kernel,
       by decide +kernel, by decide +kernel, by decide +kernel, by decide +kernel⟩,
   ⟨{ m := { live with clk := { live.clk with procRunning := true }, mbx := { live.mbx with sessions := [sess] } } }, frame, sess,
       [{ idx := 0, sub := 0, len := 1, value := 0 }], 0, 0x10, by decide +kernel, by unfold HandsOn Opens; decide +kernel,
       by decide +kernel, by decide +kernel, by decide +kernel, by decide +kernel⟩,
   ⟨{ m := { live with clk := { live.clk with procRunning := true } } }, 127, by decide +kernel, by decide +kernel⟩,
   ⟨{ m := { live with clk := { live.clk with procRunning := true }, mbx := { live.mbx with sessions := [{ sess with role := .observer }] } } },
       .expertUnlock frame 1, frame, { sess with role := .observer }, { idx := 0x1200, sub := 1, len := 1, value := 1 }, by decide +kernel,
       by decide +kernel, by unfold HandsOn Opens; decide +kernel, by decide +kernel⟩,
   ⟨{ m := { live with clk := { live.clk with procRunning := true }, mbx := { live.mbx with writes := [{ sid := 1, idx := 0x1200, sub := 1, value := 1, effect := 0 }], sessions := [sess] } } },
       { sid := 1, idx := 0x1200, sub := 1, value := 1, effect := 0 }, by decide +kernel, by decide +kernel, by decide +kernel,
       by decide +kernel⟩,
   ⟨{ m := { live with now := 1000000000000000, fabBase := 0, clk := { live.clk with procRunning := true }, mbx := { live.mbx with writes := [{ sid := 1, idx := 0x2302, sub := 1, value := 1, effect := 1000000001 }] } } },
       { sid := 1, idx := 0x2302, sub := 1, value := 1, effect := 1000000001 }, by decide +kernel, by decide +kernel, by decide +kernel⟩,
   ⟨{ m := { live with mbx := { live.mbx with sessions := [sess] } } }, frame, sess, 1, by decide +kernel,
       by unfold WriteOk HandsOn Opens; decide +kernel⟩,
   ⟨{ m := { live with mbx := { live.mbx with sessions := [sess] }, params := [(objKey 0x3010 0, 281474976710663 * 256 ^ (16 * 127))] } },
       frame, sess, 2 ^ 512 - 1, by decide +kernel, by unfold WriteOk HandsOn Opens; decide +kernel⟩,
   ⟨{ m := { live with mbx := { live.mbx with sessions := [sess] } } }, frame, sess, 127, by decide +kernel,
       by unfold WriteOk HandsOn Opens; decide +kernel⟩,
   ⟨{ m := { live with mbx := { live.mbx with sessions := [sess] } } }, frame, sess, keptTable, by decide +kernel,
       by unfold WriteOk HandsOn Opens; decide +kernel⟩,
   ⟨{ m := { live with mbx := { live.mbx with sessions := [sess] } } }, frame, sess, 0, by decide +kernel,
       by unfold WriteOk HandsOn Opens; decide +kernel⟩⟩

/-- The premises of RelayAndHostPortTakeEffect can be met, clause by clause. -/
theorem witness_RelayAndHostPortTakeEffect :
    (∃ (s : State) (host : Nat) (port : Nat) (target : Nat) (plane : _) (e : _), s.m.clk.procRunning = true ∧ s.m.mode.mode ≠ .boot ∧
        s.m.parB 0x1400 8 = true ∧ s.m.planeTo target = some plane ∧
        s.m.mbx.relay.find? (fun x => x.host == host && x.port == port && x.target == target) = some e) ∧
    (∃ (s : State) (host : Nat) (port : Nat) (target : Nat) (plane : _), s.m.clk.procRunning = true ∧ s.m.mode.mode ≠ .boot ∧
        s.m.parB 0x1400 8 = true ∧ s.m.planeTo target = some plane ∧
        s.m.mbx.relay.find? (fun x => x.host == host && x.port == port && x.target == target) = none ∧ s.m.mbx.relay.length < 32) ∧
    (∃ (s : State) (host : Nat) (port : Nat) (target : Nat), s.m.clk.procRunning = true ∧ s.m.mode.mode ≠ .boot ∧ s.m.parB 0x1400 8 = true ∧
        (s.m.planeTo target = none ∨ (32 ≤ s.m.mbx.relay.length ∧
        s.m.mbx.relay.find? (fun x => x.host == host && x.port == port && x.target == target) = none))) ∧
    (∃ (s : State), (s.m.mode.mode = .boot ∨ s.m.parB 0x1400 8 = false)) ∧
    (∃ (s : State) (id : Nat) (e : _), s.m.clk.procRunning = true ∧ s.m.mbx.relay.find? (fun x => x.id == id) = some e) ∧
    (∃ (s : State) (id : Nat), s.m.mbx.relay.find? (fun x => x.id == id) = none) ∧
    (∃ (s : State), s.m.clk.procRunning = true ∧ s.m.elapsed? s.m.mbx.addrAt 1000000000 = true) ∧
    (∃ (s : State), s.m.elapsed? s.m.mbx.addrAt 1000000000 = false) ∧
    (∃ (s : State), s.m.clk.powered = true) :=
  ⟨⟨{ m := { live with params := [(objKey 0x1400 8, 1)], clk := { live.clk with procRunning := true }, fab := { live.fab with routesA := [(9, 0, 1)] }, mode := { live.mode with mode := .standby }, mbx := { live.mbx with relay := [entry] } } },
      2, 3, 9, 0, entry, by decide +kernel, by decide +kernel, by decide +kernel, by decide +kernel, by decide +kernel⟩,
   ⟨{ m := { live with params := [(objKey 0x1400 8, 1)], clk := { live.clk with procRunning := true }, fab := { live.fab with routesA := [(9, 0, 1)] }, mode := { live.mode with mode := .standby }, mbx := { live.mbx with relay := List.replicate 31 entry } } },
       7, 3, 9, 0, by decide +kernel, by decide +kernel, by decide +kernel, by decide +kernel, by decide +kernel, by decide +kernel⟩,
   ⟨{ m := { live with params := [(objKey 0x1400 8, 1)], clk := { live.clk with procRunning := true }, mode := { live.mode with mode := .standby }, fab := { live.fab with routesA := [], routesB := [] } } },
       0, 0, 9, by decide +kernel, by decide +kernel, by decide +kernel, .inl (by decide +kernel)⟩,
   ⟨{ m := { live with mode := { live.mode with mode := .boot } } }, .inl (by decide +kernel)⟩,
   ⟨{ m := { live with clk := { live.clk with procRunning := true }, mbx := { live.mbx with relay := [entry] } } }, 1, entry,
       by decide +kernel, by decide +kernel⟩,
   ⟨{ m := { live with mbx := { live.mbx with relay := [] } } }, 0, by decide +kernel⟩,
   ⟨{ m := { live with clk := { live.clk with procRunning := true }, mbx := { live.mbx with addrAt := some 0 } } }, by decide +kernel,
       by decide +kernel⟩,
   ⟨{ m := live }, by decide +kernel⟩,
   ⟨{ m := { live with clk := { live.clk with powered := true } } }, by decide +kernel⟩⟩

/-- The premises of CanReceptionTakesEffect can be met, clause by clause. -/
theorem witness_CanReceptionTakesEffect :
    (∃ (s : State) (ch : Nat) (err : Nat), s.m.Shaped ∧ s.m.clk.procRunning = true ∧ ch < 2 ∧ (s.m.chan ch).running = true ∧
        (s.m.chan ch).busOff = false ∧ 0 < err) ∧
    (∃ (s : State) (ch : Nat), s.m.Shaped ∧ s.m.clk.procRunning = true ∧ ((s.m.chan ch).running = false ∨ (s.m.chan ch).busOff = true)) ∧
    (∃ (s : State) (ch : Nat) (g : _) (k : _), s.m.Shaped ∧ s.m.clk.procRunning = true ∧ ch < 2 ∧ (s.m.chan ch).queue = [g] ∧ g.own = false ∧
        k < 128 ∧ (s.m.canCfg k).enabled = true ∧ (s.m.canCfg k).tx = false ∧ (s.m.canCfg k).chan = ch ∧ (s.m.canCfg k).ide = g.ide ∧
        (s.m.canCfg k).id = g.id ∧ (∀ j < k, ¬ ((s.m.canCfg j).enabled = true ∧ (s.m.canCfg j).tx = false ∧ (s.m.canCfg j).chan = ch ∧
        (s.m.canCfg j).ide = g.ide ∧ (s.m.canCfg j).id = g.id))) ∧
    (∃ (s : State) (ch : Nat) (g : _), s.m.Shaped ∧ s.m.clk.procRunning = true ∧ ch < 2 ∧ (s.m.chan ch).queue = [g] ∧
        (g.own = true ∨ s.m.canMatch ch g = none)) ∧
    (∃ (s : State) (ch : Nat), s.m.Shaped ∧ s.m.clk.procRunning = true ∧ ch < 2 ∧ s.m.mode.mode ≠ .boot ∧
        nth s.m.can.restart ch false = false ∧ s.m.par 0x3001 (ch + 1) ≠ 0) ∧
    (∃ (s : State) (ch : Nat), s.m.Shaped ∧ s.m.clk.procRunning = true ∧
        (s.m.mode.mode = .boot ∨ nth s.m.can.restart ch false = true ∨ s.m.par 0x3001 (ch + 1) = 0)) ∧
    (∃ (s : State) (ch : Nat), s.m.Shaped ∧ s.m.clk.procRunning = true ∧ ch < 2 ∧ nth s.m.can.restart ch false = true) :=
  ⟨⟨{ m := { live with clk := { live.clk with procRunning := true }, can := { live.can with chans := [{}, { mode := 1, integrated := true, tec := 0 }] } } },
      1, 1, by unfold Machine.Mach.Shaped; decide +kernel, by decide +kernel, by decide +kernel, by decide +kernel, by decide +kernel,
      by decide +kernel⟩,
   ⟨{ m := { live with clk := { live.clk with procRunning := true }, can := { live.can with chans := [{}, { mode := 1, integrated := true, busOff := true }] } } },
       1, by unfold Machine.Mach.Shaped; decide +kernel, by decide +kernel, .inr (by decide +kernel)⟩,
   ⟨{ m := { live with params := [(objKey 0x3010 0, 65539 * 256 ^ (16 * 127))], clk := { live.clk with procRunning := true }, can := { live.can with chans := [{}, { mode := 1, integrated := true, queue := [canFrame] }] } } },
       1, canFrame, 127, by unfold Machine.Mach.Shaped; decide +kernel, by decide +kernel, by decide +kernel, by decide +kernel,
       by decide +kernel, by decide +kernel, by decide +kernel, by decide +kernel, by decide +kernel, by decide +kernel, by decide +kernel,
       by decide +kernel⟩,
   ⟨{ m := { live with clk := { live.clk with procRunning := true }, can := { live.can with chans := [{}, { mode := 1, integrated := true, queue := [{ canFrame with own := true }] }] } } },
       1, { canFrame with own := true }, by unfold Machine.Mach.Shaped; decide +kernel, by decide +kernel, by decide +kernel,
       by decide +kernel, .inl rfl⟩,
   ⟨{ m := { live with params := [(objKey 0x3001 2, 1)], clk := { live.clk with procRunning := true }, mode := { live.mode with mode := .standby }, can := { live.can with restart := [false, false] } } },
       1, by unfold Machine.Mach.Shaped; decide +kernel, by decide +kernel, by decide +kernel, by decide +kernel, by decide +kernel,
       by decide +kernel⟩,
   ⟨{ m := { live with clk := { live.clk with procRunning := true }, mode := { live.mode with mode := .boot } } }, 1,
       by unfold Machine.Mach.Shaped; decide +kernel, by decide +kernel, .inl (by decide +kernel)⟩,
   ⟨{ m := { live with clk := { live.clk with procRunning := true }, can := { live.can with restart := [false, true] } } }, 1,
       by unfold Machine.Mach.Shaped; decide +kernel, by decide +kernel, by decide +kernel, by decide +kernel⟩⟩

/-- The premises of CanTransmissionTakesEffect can be met, clause by clause. -/
theorem witness_CanTransmissionTakesEffect :
    (∃ (s : State) (k : Nat), s.m.Shaped ∧ s.m.clk.procRunning = true ∧ k < 128 ∧ (s.m.canCfg k).enabled = true ∧ (s.m.canCfg k).tx = true ∧
        (s.m.canObj k).suspended = false ∧ 0 < (s.m.canCfg k).period ∧ s.m.fabTime / 1000000 % (s.m.canCfg k).period = 0) ∧
    (∃ (s : State) (k : Nat), s.m.Shaped ∧ s.m.clk.procRunning = true ∧
        ((s.m.canCfg k).enabled = false ∨ (s.m.canCfg k).tx = false ∨ (s.m.canObj k).suspended = true ∨ (s.m.canCfg k).period = 0 ∨ s.m.fabTime / 1000000 % (s.m.canCfg k).period ≠ 0)) ∧
    (∃ (s : State) (ch : Nat) (k : _) (r : TxOutcome), s.m.Shaped ∧ s.m.clk.procRunning = true ∧ (r = .lost ∨ r = .error) ∧ ch < 2 ∧
        (s.m.chan ch).mode = 1 ∧ (s.m.chan ch).running = true ∧ (s.m.chan ch).busOff = false ∧ s.m.canNext ch = some k) ∧
    (∃ (s : State) (ch : Nat), s.m.Shaped ∧ s.m.clk.procRunning = true ∧
        ((s.m.chan ch).mode ≠ 1 ∨ (s.m.chan ch).running = false ∨ (s.m.chan ch).busOff = true ∨ s.m.canNext ch = none)) ∧
    (∃ (s : State) (ch : _) (k : _) (j : _), s.m.Shaped ∧ s.m.clk.procRunning = true ∧ s.m.canNext ch = some k ∧ j < 128 ∧
        (s.m.canCfg j).enabled = true ∧ (s.m.canCfg j).tx = true ∧ (s.m.canCfg j).chan = ch ∧ (s.m.canObj j).pending = true ∧
        (s.m.canObj j).suspended = false ∧ (∀ i < 128, (s.m.canObj i).pending = true → (s.m.canCfg i).ide = (s.m.canCfg k).ide)) ∧
    (∃ (s : State) (ch : Nat), s.m.Shaped ∧ s.m.clk.procRunning = true ∧ ch < 2 ∧ (s.m.chan ch).busOff = true ∧
        s.m.elapsed (s.m.chan ch).busOffAt (s.m.par 0x3005 0 * 1000000) = true) ∧
    (∃ (s : State) (ch : Nat), s.m.Shaped ∧ s.m.clk.procRunning = true ∧
        ((s.m.chan ch).busOff = false ∨ s.m.elapsed (s.m.chan ch).busOffAt (s.m.par 0x3005 0 * 1000000) = false)) :=
  ⟨⟨{ m := { live with params := [(objKey 0x3010 0, 281474976710663 * 256 ^ (16 * 127))], clk := { live.clk with procRunning := true }, can := { live.can with objs := [] } } },
      127, by unfold Machine.Mach.Shaped; decide +kernel, by decide +kernel, by decide +kernel, by decide +kernel, by decide +kernel,
      by decide +kernel, by decide +kernel, by decide +kernel⟩,
   ⟨{ m := { live with params := [(objKey 0x3010 0, 0)], clk := { live.clk with procRunning := true } } }, 127,
       by unfold Machine.Mach.Shaped; decide +kernel, by decide +kernel, .inl (by decide +kernel)⟩,
   ⟨{ m := { live with params := [(objKey 0x3010 0, 281474976710663 * 256 ^ (16 * 127))], clk := { live.clk with procRunning := true }, can := { live.can with chans := [{}, { mode := 1, integrated := true, tec := 0 }], objs := [(127, { pending := true })] } } },
       1, 127, .lost, by unfold Machine.Mach.Shaped; decide +kernel, by decide +kernel, .inl rfl, by decide +kernel, by decide +kernel,
       by decide +kernel, by decide +kernel, by decide +kernel⟩,
   ⟨{ m := { live with clk := { live.clk with procRunning := true }, can := { live.can with chans := [{}, { mode := 1, integrated := true, busOff := true }] } } },
       1, by unfold Machine.Mach.Shaped; decide +kernel, by decide +kernel, .inr (.inr (.inl (by decide +kernel)))⟩,
   ⟨{ m := { live with params := [(objKey 0x3010 0, 281474976710663 * 256 ^ (16 * 127))], clk := { live.clk with procRunning := true }, can := { live.can with chans := [{}, { mode := 1, integrated := true, tec := 0 }], objs := [(127, { pending := true })] } } },
       1, 127, 127, by unfold Machine.Mach.Shaped; decide +kernel, by decide +kernel, by decide +kernel, by decide +kernel,
       by decide +kernel, by decide +kernel, by decide +kernel, by decide +kernel, by decide +kernel, by decide +kernel⟩,
   ⟨{ m := { live with clk := { live.clk with procRunning := true }, can := { live.can with chans := [{}, { mode := 1, integrated := true, busOff := true }] } } },
       1, by unfold Machine.Mach.Shaped; decide +kernel, by decide +kernel, by decide +kernel, by decide +kernel, by decide +kernel⟩,
   ⟨{ m := { live with clk := { live.clk with procRunning := true }, can := { live.can with chans := [{}, { mode := 1, integrated := true, tec := 0 }] } } },
       1, by unfold Machine.Mach.Shaped; decide +kernel, by decide +kernel, .inl (by decide +kernel)⟩⟩

/-- The premises of UpdateCommandsTakeEffect can be met, clause by clause. -/
theorem witness_UpdateCommandsTakeEffect :
    (∃ (s : State) (f : MbxFrame) (x : _) (v : Nat) (cr : Nat) (h : _), s.m.Shaped ∧ s.m.clk.procRunning = true ∧
        WriteOk s f x { idx := 0x3101, sub := 0, len := 512, value := v, crypto := cr } ∧ h = imgDecode v ∧
        (s.m.mode.recovery = true ∨ (s.m.mode.mode ≠ .boot ∧ s.m.upd.trial = false ∧
        (s.m.upd.loader = none ∨ s.m.upd.loader = some f.sid))) ∧ h.magic = 0x55345843 ∧ h.hdrVer = 1 ∧ h.keySlot ≤ 3 ∧
        bit s.m.upd.revoked h.keySlot = false ∧ h.hwMin ≤ s.m.upd.hwRev ∧ s.m.upd.hwRev ≤ h.hwMax ∧ 0 < h.bodyLen ∧ h.bodyLen ≤ 12582912 ∧
        h.entry < h.bodyLen ∧ s.m.upd.fused ≤ h.secVer ∧ bit cr 0 = true ∧ bit cr 1 = true ∧ bit cr 2 = true) ∧
    (∃ (s : State) (f : MbxFrame) (x : _) (v : Nat) (cr : Nat) (r : _), s.m.Shaped ∧ s.m.clk.procRunning = true ∧
        WriteOk s f x { idx := 0x3101, sub := 0, len := 512, value := v, crypto := cr } ∧
        s.m.headerFail f.sid (imgDecode v) (bit cr 0) (bit cr 1) (bit cr 2) = some r) ∧
    (∃ (s : State) (f : MbxFrame) (x : _) (k : _) (d : _), s.m.Shaped ∧ s.m.clk.procRunning = true ∧
        WriteOk s f x { idx := 0x3101, sub := 1, len := 65540, value := k + 2 ^ 32 * d } ∧ k < 2 ^ 32 ∧ s.m.clk.warning = false ∧
        s.m.upd.loader = some f.sid ∧ k = s.m.upd.chunks ∧ k < s.m.chunkCount) ∧
    (∃ (s : State) (f : MbxFrame) (x : _) (k : _) (d : _), s.m.Shaped ∧ s.m.clk.procRunning = true ∧
        WriteOk s f x { idx := 0x3101, sub := 1, len := 65540, value := k + 2 ^ 32 * d } ∧ k < 2 ^ 32 ∧ s.m.clk.warning = false ∧
        s.m.upd.loader = some f.sid ∧ k + 1 = s.m.upd.chunks ∧ s.m.upd.lastChunk = some d) ∧
    (∃ (s : State) (f : MbxFrame) (x : _) (k : _) (d : _), s.m.Shaped ∧ s.m.clk.procRunning = true ∧
        WriteOk s f x { idx := 0x3101, sub := 1, len := 65540, value := k + 2 ^ 32 * d } ∧ k < 2 ^ 32 ∧
        (s.m.clk.warning = true ∨ s.m.upd.loader ≠ some f.sid ∨ s.m.upd.chunks < k ∨ k + 1 < s.m.upd.chunks)) ∧
    (∃ (s : State), s.m.Shaped ∧ s.m.clk.procRunning = true ∧ s.m.upd.checking = true ∧ s.m.upd.designated < 2) ∧
    (∃ (s : State), s.m.Shaped ∧ s.m.clk.procRunning = true ∧ s.m.upd.loader ≠ none ∧ s.m.upd.checking = false ∧
        s.m.elapsed s.m.upd.loadAt 600000000000 = true) ∧
    (∃ (s : State), s.m.Shaped ∧ s.m.clk.procRunning = true ∧
        (s.m.upd.loader = none ∨ s.m.upd.checking = true ∨ s.m.elapsed s.m.upd.loadAt 600000000000 = false)) ∧
    (∃ (s : State) (f : MbxFrame) (x : _), s.m.Shaped ∧ s.m.clk.procRunning = true ∧
        WriteOk s f x { idx := 0x3101, sub := 3, len := 1, value := 1 } ∧ (s.m.slot s.m.loadSlot).state = .valid ∧
        (s.m.mode.recovery = true ∨ (s.m.mode.mode = .standby ∧
        (s.m.paired = false ∨ s.m.pair.pVer.any (fun v => (s.m.slot s.m.loadSlot).header.any (fun h => v != h.pairVer)) = true)) ∨ (s.m.paired = true ∧
        s.m.mode.mode ≠ .boot ∧ s.m.ownMask = 0 ∧ s.m.pair.hbPresent = true ∧
        s.m.pair.pVer.any (fun v => (s.m.slot s.m.loadSlot).header.any (fun h => v != h.pairVer)) = false ∧
        (List.range 12).all (fun k => !decide (k < s.m.nPhases) || bit s.m.pair.pOwn k) = true))) ∧
    (∃ (s : State) (f : MbxFrame) (x : _), s.m.Shaped ∧ s.m.clk.procRunning = true ∧
        WriteOk s f x { idx := 0x3101, sub := 3, len := 1, value := 1 } ∧ s.m.activateOk = false) ∧
    (∃ (s : State) (c : Instr) (f : MbxFrame) (x : _) (h : _), s.m.Shaped ∧ s.m.clk.procRunning = true ∧ s.m.upd.trial = true ∧
        s.m.mode.mode ≠ .boot ∧ s.m.upd.designated < 2 ∧ (s.m.slot s.m.upd.designated).header = some h ∧ ((c = .confirm f ∧
        WriteOk s f x { idx := 0x3101, sub := 4, len := 1, value := 1 }) ∨ (c = .trialTimeExpiry ∧ s.m.anyPending .f = false ∧
        s.m.elapsed s.m.upd.trialAt (1000000000 * s.m.par 0x3101 5) = true))) ∧
    (∃ (s : State) (f : MbxFrame) (x : _), s.m.Shaped ∧ s.m.clk.procRunning = true ∧
        WriteOk s f x { idx := 0x3101, sub := 4, len := 1, value := 1 } ∧ (s.m.upd.trial = false ∨ s.m.mode.mode = .boot)) ∧
    (∃ (s : State), s.m.Shaped ∧ s.m.clk.procRunning = true ∧
        (s.m.upd.trial = false ∨ s.m.mode.mode = .boot ∨ s.m.anyPending .f = true ∨ s.m.elapsed s.m.upd.trialAt (1000000000 * s.m.par 0x3101 5) = false)) ∧
    (∃ (s : State), s.m.Shaped ∧ s.m.clk.procRunning = true ∧ s.m.elapsed? s.m.clk.bootstrap 300000000000 = true) ∧
    (∃ (s : State), s.m.Shaped ∧ s.m.clk.procRunning = true ∧ s.m.elapsed? s.m.clk.bootstrap 300000000000 = false) :=
  ⟨⟨{ m := { live with clk := { live.clk with procRunning := true }, mbx := { live.mbx with sessions := [sess] }, mode := { live.mode with mode := .standby, recovery := false }, upd := { live.upd with trial := false, loader := none, revoked := 0, hwRev := 0, fused := 0 } } },
      frame, sess, 340282366920938463463446383556553889859, 7, imgDecode 340282366920938463463446383556553889859,
      by unfold Machine.Mach.Shaped; decide +kernel, by decide +kernel, by unfold WriteOk HandsOn Opens; decide +kernel, by decide +kernel,
      .inr (by decide +kernel), by decide +kernel, by decide +kernel, by decide +kernel, by decide +kernel, by decide +kernel,
      by decide +kernel, by decide +kernel, by decide +kernel, by decide +kernel, by decide +kernel, by decide +kernel, by decide +kernel,
      by decide +kernel⟩,
   ⟨{ m := { live with clk := { live.clk with procRunning := true }, mbx := { live.mbx with sessions := [sess] } } }, frame, sess, 0, 0, 3,
       by unfold Machine.Mach.Shaped; decide +kernel, by decide +kernel, by unfold WriteOk HandsOn Opens; decide +kernel,
       by decide +kernel⟩,
   ⟨{ m := { live with clk := { live.clk with procRunning := true, warning := false }, mbx := { live.mbx with sessions := [sess] }, upd := { live.upd with loader := some 1, chunks := 0, slots := [{ state := .active, header := some factoryHeader }, { state := .loading, header := some factoryHeader }] } } },
       frame, sess, 0, 0, by unfold Machine.Mach.Shaped; decide +kernel, by decide +kernel, by unfold WriteOk HandsOn Opens; decide +kernel,
       by decide +kernel, by decide +kernel, by decide +kernel, by decide +kernel, by decide +kernel⟩,
   ⟨{ m := { live with clk := { live.clk with procRunning := true, warning := false }, mbx := { live.mbx with sessions := [sess] }, upd := { live.upd with loader := some 1, chunks := 1, slots := [{ state := .active, header := some factoryHeader }, { state := .loading, header := some factoryHeader }], lastChunk := some 0 } } },
       frame, sess, 0, 0, by unfold Machine.Mach.Shaped; decide +kernel, by decide +kernel, by unfold WriteOk HandsOn Opens; decide +kernel,
       by decide +kernel, by decide +kernel, by decide +kernel, by decide +kernel, by decide +kernel⟩,
   ⟨{ m := { live with clk := { live.clk with procRunning := true, warning := false }, mbx := { live.mbx with sessions := [sess] }, upd := { live.upd with loader := some 1, chunks := 0, slots := [{ state := .active, header := some factoryHeader }, { state := .loading, header := some factoryHeader }] } } },
       frame, sess, 1, 0, by unfold Machine.Mach.Shaped; decide +kernel, by decide +kernel, by unfold WriteOk HandsOn Opens; decide +kernel,
       by decide +kernel, .inr (.inr (.inl (by decide +kernel)))⟩,
   ⟨{ m := { live with clk := { live.clk with procRunning := true }, upd := { live.upd with checking := true } } },
       by unfold Machine.Mach.Shaped; decide +kernel, by decide +kernel, by decide +kernel, by decide +kernel⟩,
   ⟨{ m := { live with clk := { live.clk with procRunning := true }, upd := { live.upd with checking := false, loader := some 1 } } },
       by unfold Machine.Mach.Shaped; decide +kernel, by decide +kernel, by decide +kernel, by decide +kernel, by decide +kernel⟩,
   ⟨{ m := { live with clk := { live.clk with procRunning := true }, upd := { live.upd with loader := none } } },
       by unfold Machine.Mach.Shaped; decide +kernel, by decide +kernel, .inl (by decide +kernel)⟩,
   ⟨{ m := { live with clk := { live.clk with procRunning := true }, mbx := { live.mbx with sessions := [sess] }, saf := { live.saf with sw2 := 0 }, mode := { live.mode with mode := .standby }, upd := { live.upd with designated := 0, slots := [{ state := .active, header := some factoryHeader }, { state := .valid, header := some factoryHeader }] } } },
       frame, sess, by unfold Machine.Mach.Shaped; decide +kernel, by decide +kernel, by unfold WriteOk HandsOn Opens; decide +kernel,
       by decide +kernel, .inr (.inl (by decide +kernel))⟩,
   ⟨{ m := { live with clk := { live.clk with procRunning := true }, mbx := { live.mbx with sessions := [sess] }, mode := { live.mode with mode := .standby }, upd := { live.upd with slots := [{ state := .active, header := some factoryHeader }, { state := .loading, header := some factoryHeader }] } } },
       frame, sess, by unfold Machine.Mach.Shaped; decide +kernel, by decide +kernel, by unfold WriteOk HandsOn Opens; decide +kernel,
       by decide +kernel⟩,
   ⟨{ m := { live with clk := { live.clk with procRunning := true }, upd := { live.upd with trial := true, designated := 0, slots := [{ state := .trial, header := some factoryHeader }, { state := .active, header := some factoryHeader }] }, mode := { live.mode with mode := .standby }, mbx := { live.mbx with sessions := [sess] } } },
       .confirm frame, frame, sess, factoryHeader, by unfold Machine.Mach.Shaped; decide +kernel, by decide +kernel, by decide +kernel,
       by decide +kernel, by decide +kernel, by decide +kernel, .inl ⟨by decide +kernel, by unfold WriteOk HandsOn Opens; decide +kernel⟩⟩,
   ⟨{ m := { live with clk := { live.clk with procRunning := true }, mbx := { live.mbx with sessions := [sess] }, upd := { live.upd with trial := false } } },
       frame, sess, by unfold Machine.Mach.Shaped; decide +kernel, by decide +kernel, by unfold WriteOk HandsOn Opens; decide +kernel,
       .inl (by decide +kernel)⟩,
   ⟨{ m := { live with clk := { live.clk with procRunning := true }, upd := { live.upd with trial := false } } },
       by unfold Machine.Mach.Shaped; decide +kernel, by decide +kernel, .inl (by decide +kernel)⟩,
   ⟨{ m := { live with clk := { live.clk with procRunning := true, bootstrap := some 0 } } }, by unfold Machine.Mach.Shaped; decide +kernel,
       by decide +kernel, by decide +kernel⟩,
   ⟨{ m := { live with clk := { live.clk with procRunning := true } } }, by unfold Machine.Mach.Shaped; decide +kernel, by decide +kernel,
       by decide +kernel⟩⟩

/-- The premises of ResetCommandsTakeEffect can be met, clause by clause. -/
theorem witness_ResetCommandsTakeEffect :
    (∃ (s : State), s.m.Shaped ∧ s.m.clk.powered = true ∧ s.m.clk.buttonStuck = false ∧ s.m.clk.button = none ∧
        (s.m.clk.warning = false ∨ s.m.nv.flushed = true ∨ s.m.clk.procRunning = false)) ∧
    (∃ (s : State), s.m.Shaped ∧ s.m.clk.powered = true ∧ s.m.clk.buttonStuck = false ∧ s.m.clk.button = none ∧ s.m.clk.warning = true ∧
        s.m.nv.flushed = false ∧ s.m.clk.procRunning = true) ∧
    (∃ (s : State) (t : _), s.m.Shaped ∧ s.m.clk.powered = true ∧ s.m.clk.buttonStuck = false ∧ s.m.clk.button = some t) ∧
    (∃ (s : State), s.m.Shaped ∧ s.m.clk.powered = true ∧ s.m.clk.buttonStuck = true) ∧
    (∃ (s : State), s.m.Shaped ∧ s.m.clk.powered = true ∧ s.m.clk.resetNStuck = false ∧ s.m.clk.resetN = none ∧
        (s.m.clk.warning = false ∨ s.m.nv.flushed = true ∨ s.m.clk.procRunning = false)) ∧
    (∃ (s : State), s.m.Shaped ∧ s.m.clk.powered = true ∧ s.m.clk.resetNStuck = false ∧ s.m.clk.resetN = none ∧ s.m.clk.warning = true ∧
        s.m.nv.flushed = false ∧ s.m.clk.procRunning = true) ∧
    (∃ (s : State) (t : _), s.m.Shaped ∧ s.m.clk.powered = true ∧ s.m.clk.resetNStuck = false ∧ s.m.clk.resetN = some t) ∧
    (∃ (s : State), s.m.Shaped ∧ s.m.clk.powered = true ∧ s.m.clk.resetNStuck = true) ∧
    (∃ (s : State) (t : _), s.m.Shaped ∧ s.m.clk.powered = true ∧ s.m.clk.button = some t ∧ s.m.elapsed t 10000000000 = true) ∧
    (∃ (s : State) (t : _), s.m.Shaped ∧ s.m.clk.powered = true ∧ s.m.clk.resetN = some t ∧ s.m.elapsed t 10000000000 = true) ∧
    (∃ (s : State) (b : Bool), s.m.Shaped ∧ s.m.clk.powered = true ∧
        s.m.elapsed? (if b = true then s.m.clk.button else s.m.clk.resetN) 10000000000 = false) ∧
    (∃ (s : State) (b : Bool), s.m.Shaped ∧ s.m.clk.powered = true ∧
        s.m.elapsed? (if b = true then s.m.clk.buttonOpen else s.m.clk.resetNOpen) 1000000000 = true) ∧
    (∃ (s : State) (b : Bool), s.m.Shaped ∧ s.m.clk.powered = true ∧
        s.m.elapsed? (if b = true then s.m.clk.buttonOpen else s.m.clk.resetNOpen) 1000000000 = false) ∧
    (∃ (s : State) (f : MbxFrame) (x : _), s.m.Shaped ∧ s.m.clk.powered = true ∧ s.m.clk.procRunning = true ∧
        WriteOk s f x { idx := 0x3201, sub := 2, len := 1, value := 1 }) ∧
    (∃ (s : State), s.m.Shaped ∧ s.m.clk.powered = true ∧ s.m.clk.clockFail = false) ∧
    (∃ (s : State), s.m.Shaped ∧ s.m.clk.powered = true ∧ s.m.clk.clockFail = true) ∧
    (∃ (s : State), s.m.Shaped ∧ s.m.clk.powered = true ∧ s.m.clk.procRunning = false) :=
  ⟨⟨{ m := { live with clk := { live.clk with powered := true, buttonStuck := false, button := none } } },
      by unfold Machine.Mach.Shaped; decide +kernel, by decide +kernel, by decide +kernel, by decide +kernel, .inl (by decide +kernel)⟩,
   ⟨{ m := { live with clk := { live.clk with powered := true, buttonStuck := false, button := none, warning := true, procRunning := true }, nv := { live.nv with flushed := false } } },
       by unfold Machine.Mach.Shaped; decide +kernel, by decide +kernel, by decide +kernel, by decide +kernel, by decide +kernel,
       by decide +kernel, by decide +kernel⟩,
   ⟨{ m := { live with clk := { live.clk with powered := true, buttonStuck := false, button := some 999990000000001 } } }, 999990000000001,
       by unfold Machine.Mach.Shaped; decide +kernel, by decide +kernel, by decide +kernel, by decide +kernel⟩,
   ⟨{ m := { live with clk := { live.clk with powered := true, buttonStuck := true } } }, by unfold Machine.Mach.Shaped; decide +kernel,
       by decide +kernel, by decide +kernel⟩,
   ⟨{ m := { live with clk := { live.clk with powered := true, resetNStuck := false, resetN := none } } },
       by unfold Machine.Mach.Shaped; decide +kernel, by decide +kernel, by decide +kernel, by decide +kernel, .inl (by decide +kernel)⟩,
   ⟨{ m := { live with clk := { live.clk with powered := true, resetNStuck := false, resetN := none, warning := true, procRunning := true }, nv := { live.nv with flushed := false } } },
       by unfold Machine.Mach.Shaped; decide +kernel, by decide +kernel, by decide +kernel, by decide +kernel, by decide +kernel,
       by decide +kernel, by decide +kernel⟩,
   ⟨{ m := { live with clk := { live.clk with powered := true, resetNStuck := false, resetN := some 0 } } }, 0,
       by unfold Machine.Mach.Shaped; decide +kernel, by decide +kernel, by decide +kernel, by decide +kernel⟩,
   ⟨{ m := { live with clk := { live.clk with powered := true, resetNStuck := true } } }, by unfold Machine.Mach.Shaped; decide +kernel,
       by decide +kernel, by decide +kernel⟩,
   ⟨{ m := { live with clk := { live.clk with powered := true, button := some 0 } } }, 0, by unfold Machine.Mach.Shaped; decide +kernel,
       by decide +kernel, by decide +kernel, by decide +kernel⟩,
   ⟨{ m := { live with clk := { live.clk with powered := true, resetN := some 0 } } }, 0, by unfold Machine.Mach.Shaped; decide +kernel,
       by decide +kernel, by decide +kernel, by decide +kernel⟩,
   ⟨{ m := { live with clk := { live.clk with powered := true } } }, true, by unfold Machine.Mach.Shaped; decide +kernel, by decide +kernel,
       by decide +kernel⟩,
   ⟨{ m := { live with clk := { live.clk with powered := true, buttonOpen := some 0 } } }, true,
       by unfold Machine.Mach.Shaped; decide +kernel, by decide +kernel, by decide +kernel⟩,
   ⟨{ m := { live with clk := { live.clk with powered := true } } }, true, by unfold Machine.Mach.Shaped; decide +kernel, by decide +kernel,
       by decide +kernel⟩,
   ⟨{ m := { live with clk := { live.clk with powered := true, procRunning := true }, mbx := { live.mbx with sessions := [sess] } } },
       frame, sess, by unfold Machine.Mach.Shaped; decide +kernel, by decide +kernel, by decide +kernel,
       by unfold WriteOk HandsOn Opens; decide +kernel⟩,
   ⟨{ m := { live with clk := { live.clk with powered := true, clockFail := false } } }, by unfold Machine.Mach.Shaped; decide +kernel,
       by decide +kernel, by decide +kernel⟩,
   ⟨{ m := { live with clk := { live.clk with powered := true, clockFail := true } } }, by unfold Machine.Mach.Shaped; decide +kernel,
       by decide +kernel, by decide +kernel⟩,
   ⟨{ m := { live with clk := { live.clk with powered := true, procRunning := false } } }, by unfold Machine.Mach.Shaped; decide +kernel,
       by decide +kernel, by decide +kernel⟩⟩

/-- The premises of SupplyAndTraceCommandsTakeEffect can be met, clause by clause. -/
theorem witness_SupplyAndTraceCommandsTakeEffect :
    (∃ (s : State), s.m.clk.powered = true ∧ s.m.clk.procRunning = true ∧ s.m.clk.warning = false) ∧
    (∃ (s : State), s.m.clk.powered = true ∧ s.m.clk.procRunning = false ∧ s.m.clk.warning = false) ∧
    (∃ (s : State), (s.m.clk.warning = true ∨ s.m.clk.powered = false)) ∧
    (∃ (s : State), s.m.clk.procRunning = true ∧ s.m.nv.flushing = true ∧ s.m.clk.deferred = []) ∧
    (∃ (s : State) (p : Nat × Nat) (rest : List (Nat × Nat)), s.m.clk.procRunning = true ∧ s.m.nv.flushing = true ∧
        s.m.clk.deferred = p :: rest) ∧
    (∃ (s : State), (s.m.clk.procRunning = false ∨ s.m.nv.flushing = false)) ∧
    (∃ (s : State), s.m.clk.procRunning = true ∧ s.m.clk.warning = true ∧ s.m.seed.staging.length < 1024) ∧
    (∃ (s : State), s.m.clk.procRunning = false ∧ s.m.clk.warning = true) ∧
    (∃ (s : State) (torn : Bool), (torn = false ∨ s.m.clk.procRunning = false ∨ s.m.nv.flushed = true ∨ s.m.nv.pending = [])) ∧
    (∃ (s : State) (p : _) (rest : _), s.m.clk.procRunning = true ∧ s.m.nv.flushed = false ∧ s.m.nv.pending = p :: rest) ∧
    (∃ (s : State), s.m.clk.procRunning = true ∧ s.m.obs.enabled = true ∧ s.m.clk.warning = false ∧ s.m.obs.queue = [] ∧
        s.m.obs.dropped = 0) ∧
    (∃ (s : State) (t : _) (rest : _), s.m.clk.procRunning = true ∧ s.m.obs.enabled = true ∧ s.m.clk.warning = false ∧
        s.m.obs.queue = t :: rest ∧ s.m.obs.queue.length < 256 ∧ s.m.obs.dropped = 0) ∧
    (∃ (s : State), s.m.clk.procRunning = true ∧ s.m.obs.enabled = true ∧ s.m.clk.warning = false ∧ 256 ≤ s.m.obs.queue.length) ∧
    (∃ (s : State), (s.m.clk.procRunning = false ∨ s.m.obs.enabled = false ∨ s.m.clk.warning = true)) :=
  ⟨⟨{ m := { live with clk := { live.clk with powered := true, procRunning := true, warning := false } } }, by decide +kernel,
      by decide +kernel, by decide +kernel⟩,
   ⟨{ m := { live with clk := { live.clk with powered := true, procRunning := false, warning := false } } }, by decide +kernel,
       by decide +kernel, by decide +kernel⟩,
   ⟨{ m := { live with clk := { live.clk with warning := true } } }, .inl (by decide +kernel)⟩,
   ⟨{ m := { live with clk := { live.clk with procRunning := true }, nv := { live.nv with flushing := true } } }, by decide +kernel,
       by decide +kernel, by decide +kernel⟩,
   ⟨{ m := { live with clk := { live.clk with procRunning := true, deferred := [(0, 5)] }, nv := { live.nv with flushing := true } } }, (0,
       5), [], by decide +kernel, by decide +kernel, by decide +kernel⟩,
   ⟨{ m := live }, .inr (by decide +kernel)⟩,
   ⟨{ m := { live with clk := { live.clk with procRunning := true, warning := true } } }, by decide +kernel, by decide +kernel,
       by decide +kernel⟩,
   ⟨{ m := { live with clk := { live.clk with procRunning := false, warning := true } } }, by decide +kernel, by decide +kernel⟩,
   ⟨{ m := live }, false, .inl (by decide +kernel)⟩,
   ⟨{ m := { live with clk := { live.clk with procRunning := true }, nv := { live.nv with flushed := false, pending := [{ items := [], after := [] }] } } },
       { items := [], after := [] }, [], by decide +kernel, by decide +kernel, by decide +kernel⟩,
   ⟨{ m := { live with clk := { live.clk with procRunning := true, warning := false }, obs := { live.obs with enabled := true, dropped := 0 } } },
       by decide +kernel, by decide +kernel, by decide +kernel, by decide +kernel, by decide +kernel⟩,
   ⟨{ m := { live with clk := { live.clk with procRunning := true, warning := false }, obs := { live.obs with enabled := true, dropped := 0, queue := [{ type := 0, src := 0, tseq := 0, time := 0, data := [] }] } } },
       { type := 0, src := 0, tseq := 0, time := 0, data := [] }, [], by decide +kernel, by decide +kernel, by decide +kernel,
       by decide +kernel, by decide +kernel, by decide +kernel⟩,
   ⟨{ m := { live with clk := { live.clk with procRunning := true, warning := false }, obs := { live.obs with enabled := true, queue := List.replicate 256 { type := 0, src := 0, tseq := 0, time := 0, data := [] } } } },
       by decide +kernel, by decide +kernel, by decide +kernel, by decide +kernel⟩,
   ⟨{ m := { live with obs := { live.obs with enabled := false } } }, .inr (.inl (by decide +kernel))⟩⟩

/-- The premises of ResetState can be met. -/
theorem witness_ResetState : (∃ k : Nat, k < 3) ∧ (∃ ch : Nat, ch < 2) := ⟨⟨2, by decide⟩, ⟨1, by decide⟩⟩

/-- The premises of HeldDomainTakesNoCommand can be met. -/
theorem witness_HeldDomainTakesNoCommand : ∃ (c : Instr) (s : State), c.foxglove = false ∧ s.m.clk.procRunning = false :=
  ⟨.watchdogReset, State.reset, by decide +kernel, by decide +kernel⟩

/-- The premises of MeasurementAndConverterCommandsKeepTheRest can be met. -/
theorem witness_MeasurementAndConverterCommandsKeepTheRest : ∃ (c : Instr) (s t : State),
    c.chapter ∈ [.architecture, .modes, .chain, .measurement, .impedance, .estimation, .balancing, .powerStage, .converter] ∧
      exec c s = .next t :=
  ⟨.fastTrip 1, { m := live }, _, by decide +kernel, rfl⟩

/-- The premises of PlantPairAndProtectionCommandsKeepTheRest can be met. -/
theorem witness_PlantPairAndProtectionCommandsKeepTheRest : ∃ (c : Instr) (s t : State),
    c.chapter ∈ [.fabric, .plant, .pair, .protection, .thermal] ∧ exec c s = .next t :=
  ⟨.addressClaim 0 0, { m := live }, _, by decide +kernel, rfl⟩

/-- The premises of FaultStoreHostAndClockCommandsKeepTheRest can be met. -/
theorem witness_FaultStoreHostAndClockCommandsKeepTheRest : ∃ (c : Instr) (s t : State),
    c.chapter ∈ [.faults, .seedbank, .store, .observation, .mailbox, .can, .update, .clocks] ∧ exec c s = .next t :=
  ⟨.collectorSelf, { m := live }, _, by decide +kernel, rfl⟩

/-- The premises of ObjectsStayCanonical can be met, with an object off its default. -/
theorem witness_ObjectsStayCanonical : ∃ s t : State, paramsWf s.m.params = true ∧ step s = .next t :=
  ⟨{ pending := [.writeEffect], m := { live with params := [(objKey 0x2600 0, 12)] } }, _, by decide +kernel, rfl⟩

/-- The premises of ShapeStays can be met. -/
theorem witness_ShapeStays : ∃ s t : State, s.m.Shaped ∧ step s = .next t :=
  ⟨{ pending := [.fastTrip 1], m := live }, _, by unfold Machine.Mach.Shaped; decide +kernel, rfl⟩

/-- The premises of QueuesStayBounded can be met, the recorder's staging at its size. -/
theorem witness_QueuesStayBounded : ∃ s t : State, s.m.Bounded ∧ step s = .next t :=
  ⟨{ pending := [.collectorSelf], m := { live with seed := { live.seed with staging := List.replicate 1024 event } } }, _,
   by unfold Machine.Mach.Bounded; decide +kernel, rfl⟩

/-- The premises of LockoutIsLeftOnlyByReset can be met. -/
theorem witness_LockoutIsLeftOnlyByReset : ∃ s t : State, s.m.mode.mode = .lockout ∧ step s = .next t :=
  ⟨{ pending := [.watchdogReset], m := { live with mode := { live.mode with mode := .lockout } } }, _, by decide +kernel, rfl⟩

/-- The premises of FusesOnlyGrow can be met. -/
theorem witness_FusesOnlyGrow : ∃ (s t : State) (k : Nat), step s = .next t ∧ bit s.m.upd.revoked k = true :=
  ⟨{ pending := [.trialTimeExpiry], m := { live with upd := { live.upd with revoked := 8 } } }, _, 3, rfl, by decide +kernel⟩

/-- The premises of LatchFallsOnlyByRearm can be met: a rearm that is accepted. -/
theorem witness_LatchFallsOnlyByRearm : ∃ s t : State, s.m.pwm.latch = true ∧ step s = .next t ∧ t.m.pwm.latch = false :=
  ⟨{ pending := [.fastTripRearm true]
     m := { live with pwm := { live.pwm with latch := true }, conv := { live.conv with rearmOrdered := true } } }, _,
   by decide +kernel, rfl, by decide +kernel⟩

/-- The premises of ModeCodesAndLeds can be met, clause by clause. -/
theorem witness_ModeCodesAndLeds :
    (∃ i : Nat, i < 4) ∧ (∃ m : Mach, m.mode.mode = .lockout ∧ m.siteArmed = true) ∧
    (∃ m : Mach, ¬ (m.mode.mode = .lockout ∧ m.siteArmed = true) ∧ (m.noFault = false ∨ m.mode.mode = .boot)) ∧
    (∃ m : Mach, ¬ (m.mode.mode = .lockout ∧ m.siteArmed = true) ∧ m.noFault = true ∧ m.mode.mode ≠ .boot ∧ m.isDegraded = true) ∧
    (∃ m : Mach, ¬ (m.mode.mode = .lockout ∧ m.siteArmed = true) ∧ m.noFault = true ∧ m.mode.mode ≠ .boot ∧ m.isDegraded = false) :=
  ⟨⟨3, by decide⟩,
   ⟨{ live with mode := { live.mode with mode := .lockout }, clk := { live.clk with arm := some 1000000000000000 } },
    by decide +kernel, by decide +kernel⟩,
   ⟨{ live with flt := { live.flt with pending := [raised] } }, by decide +kernel, .inl (by decide +kernel)⟩,
   ⟨live, by decide +kernel, by decide +kernel, by decide +kernel, by decide +kernel⟩,
   ⟨{ live with plant := { live.plant with isMember := true }, therm := { live.therm with fallback := false } }, by decide +kernel,
       by decide +kernel, by decide +kernel, by decide +kernel⟩⟩

/-- The premises of SecondUnacknowledgedFaultEscalates can be met, clause by clause. -/
theorem witness_SecondUnacknowledgedFaultEscalates :
    (∃ (m : Mach) (src : Src), m.clk.procRunning = true ∧ m.isPending src = false ∧
      ∃ q ∈ m.flt.pending, q.src ≠ src ∧ q.cls = .u ∧ q.acked = false) ∧
    (∃ (m : Mach) (src : Src), m.clk.procRunning = true ∧ m.isPending src = false ∧
      ∀ q ∈ m.flt.pending, q.src ≠ src → q.cls = .u → q.acked = true) :=
  ⟨⟨{ live with flt := { live.flt with pending := [raised] } }, .linkDown, by decide +kernel, by decide +kernel,
    raised, by decide +kernel, by decide +kernel, by decide +kernel, by decide +kernel⟩,
   ⟨{ live with flt := { live.flt with pending := [{ raised with acked := true }] } }, .linkDown, by decide +kernel,
    by decide +kernel, by decide +kernel⟩⟩

/-- The premises of VaultKeepsTheFirstRecords can be met, clause by clause. -/
theorem witness_VaultKeepsTheFirstRecords :
    (∃ d : Seed, d.vault.length < 1024) ∧ (∃ d : Seed, 1024 ≤ d.vault.length) ∧
    (∃ s t : State, step s = .next t ∧ 1024 ≤ s.m.seed.vault.length) :=
  ⟨⟨{ vault := List.replicate 1023 event }, by decide +kernel⟩, ⟨{ vault := List.replicate 1024 event }, by decide +kernel⟩,
   ⟨{ pending := [.recordCommit]
      m := { live with seed := { live.seed with vault := List.replicate 1024 event, staging := [event] } } }, _, rfl,
    by decide +kernel⟩⟩

/-- The premises of FirstLedgerEntriesArePermanent can be met, clause by clause. -/
theorem witness_FirstLedgerEntriesArePermanent :
    (∃ n : Nat, 1 ≤ n ∧ n ≤ 32) ∧ (∃ n k : Nat, 33 ≤ n ∧ n < k ∧ k < n + 32) ∧
    (∃ (s t : State) (k : Nat) (e : LedgerEntry), step s = .next t ∧ k < 32 ∧ k + 1 < s.m.seed.nextLseq ∧
      aget? s.m.seed.ledger k = some e) :=
  ⟨⟨32, by decide, by decide⟩, ⟨33, 64, by decide, by decide, by decide⟩,
   ⟨{ pending := [.recorderClearDone]
      m := { live with seed := { live.seed with
        nextLseq := 33, clear := some pendingClear
        ledger := [(31, { time := 0, lseq := 32, what := 1, iface := 0, cert := 0, firstSeq := 1, lastSeq := 2 })] } } }, _, 31,
    { time := 0, lseq := 32, what := 1, iface := 0, cert := 0, firstSeq := 1, lastSeq := 2 }, rfl, by decide +kernel,
    by decide +kernel, by decide +kernel⟩⟩

/-- The premises of EpochsFollowFabricTime can be met. -/
theorem witness_EpochsFollowFabricTime : ∃ n e : Nat, 2 ^ 31 ≤ n ∧ e < 2 ^ 32 := ⟨2 ^ 31, 2 ^ 32 - 1, by decide, by decide⟩

/-- The further premises of FirstLedgerEntriesArePermanent can be met: a clear of the ring, one that keeps it, a whole entry. -/
theorem witness_FirstLedgerEntriesArePermanent_clear :
    (∃ (d : Seed) (c : SeedClear) (first last : SeedRec),
      bit c.what 0 = true ∧ d.ring.head? = some first ∧ d.ring.getLast? = some last) ∧
    (∃ c : SeedClear, bit c.what 0 = false) ∧ ∃ e : LedgerEntry, e.damaged = false :=
  ⟨⟨{ live.seed with ring := [event] }, { pendingClear with what := 1 }, event, event, by decide +kernel, by decide +kernel,
    by decide +kernel⟩, ⟨{ pendingClear with what := 2 }, by decide +kernel⟩,
   ⟨{ time := 0, lseq := 1, what := 1, iface := 0, cert := 0, firstSeq := 1, lastSeq := 2 }, rfl⟩⟩

end Sys2Proof.Tests
end

section
/-! PROOFS. What the LEDs show: the mode code bit by bit, and one lemma per row of the STS table (R35, R53). -/

namespace Sys2Proof.Machine

variable {m : Mach}

theorem mdLed_eq_testBit (m : Mach) (i : Nat) : m.mdLed i = m.mode.mode.code.testBit i := rfl

theorem stsLed_of_siteArmed (hmode : m.mode.mode = .lockout) (harm : m.siteArmed = true) : m.stsLed = .redFast := by
  simp [Mach.stsLed, hmode, harm]

/-- The rows of STS below the highest one, which an armed clear in LOCKOUT alone reaches. -/
theorem stsLed_of_not_siteArmed (harm : ¬ (m.mode.mode = .lockout ∧ m.siteArmed = true)) :
    m.stsLed = if m.noFault = false ∨ m.mode.mode = .boot then .redSteady
      else if m.isDegraded = true then .greenSlow else .greenSteady := by
  have hrow : (m.mode.mode == .lockout && m.siteArmed) = false := by simpa using harm
  simp [Mach.stsLed, hrow]

theorem stsLed_of_fault_or_boot (harm : ¬ (m.mode.mode = .lockout ∧ m.siteArmed = true))
    (h : m.noFault = false ∨ m.mode.mode = .boot) : m.stsLed = .redSteady := by
  rw [stsLed_of_not_siteArmed harm, if_pos h]

theorem stsLed_of_noFault (harm : ¬ (m.mode.mode = .lockout ∧ m.siteArmed = true)) (hfault : m.noFault = true)
    (hboot : m.mode.mode ≠ .boot) : m.stsLed = if m.isDegraded = true then .greenSlow else .greenSteady := by
  have hrow : ¬ (m.noFault = false ∨ m.mode.mode = .boot) := by simp [hfault, hboot]
  rw [stsLed_of_not_siteArmed harm, if_neg hrow]

/-- Settles O56: the codes and the MD LEDs are read off their definitions, and STS goes row by row down its table. -/
theorem modeCodesAndLeds : Obligations.ModeCodesAndLeds := by
  unfold Obligations.ModeCodesAndLeds
  refine ⟨?codes, fun m i _ => mdLed_eq_testBit m i, fun m => ⟨?armed, ?faultOrBoot, ?degraded, ?normal⟩⟩
  case codes => exact ⟨rfl, rfl, rfl, rfl, rfl, rfl, rfl, rfl, rfl, rfl, rfl, rfl⟩
  case armed => exact stsLed_of_siteArmed
  case faultOrBoot => exact stsLed_of_fault_or_boot
  case degraded =>
    intro harm hfault hboot hdeg
    rw [stsLed_of_noFault harm hfault hboot, if_pos hdeg]
  case normal =>
    intro harm hfault hboot hdeg
    simp [stsLed_of_noFault harm hfault hboot, hdeg]

end Sys2Proof.Machine
end

section
/-! PROOFS. The recorder's archive: what a recorder may add to and never takes back (R378, R388), the order in which one
archive follows another, and the operations on the recorder that move it along that order. -/

namespace Sys2Proof.Machine

/-- What the recorder keeps for good: the vault, the clear ledger and the ledger's next sequence. -/
structure Archive where
  vault : List SeedRec
  ledger : List (Nat × LedgerEntry)
  nextLseq : Nat

/-- The archive of a recorder. -/
def Seed.archive (d : Seed) : Archive := ⟨d.vault, d.ledger, d.nextLseq⟩

/-- Nothing of an archive is taken back: the vault keeps its records in place by SEQ and takes none once it is full (R378), the
sequence never falls, and the entries of clears 1 to 32 stay but for their mark of damage (R388). -/
structure Archive.Grows (a b : Archive) : Prop where
  vault : a.vault.map (fun r => r.seq) <+: b.vault.map (fun r => r.seq)
  full : 1024 ≤ a.vault.length → b.vault.length = a.vault.length
  lseq : a.nextLseq ≤ b.nextLseq
  ledger : ∀ k e, k < 32 → k + 1 < a.nextLseq → aget? a.ledger k = some e →
    ∃ e', aget? b.ledger k = some e' ∧ e' = { e with damaged := e'.damaged }

@[simp, refl] theorem Archive.Grows.refl (a : Archive) : a.Grows a :=
  ⟨List.prefix_refl _, fun _ => rfl, le_refl _, fun _ e _ _ h => ⟨e, h, rfl⟩⟩

@[trans] theorem Archive.Grows.trans {a b c : Archive} (h : a.Grows b) (h' : b.Grows c) : a.Grows c where
  vault := h.vault.trans h'.vault
  full hfull := by
    have hb := h.full hfull
    rw [h'.full (by omega), hb]
  lseq := h.lseq.trans h'.lseq
  ledger k e hk hn he := by
    obtain ⟨e₁, he₁, hd₁⟩ := h.ledger k e hk hn he
    obtain ⟨e₂, he₂, hd₂⟩ := h'.ledger k e₁ hk (hn.trans_le h.lseq) he₁
    exact ⟨e₂, he₂, by rw [hd₂, hd₁]⟩

/-! ## Tables -/

theorem aget?_aput_of_lt {α : Type} {k k' : Nat} (v : α) (h : k < k') : ∀ l, aget? (aput l k' v) k = aget? l k
  | [] => by simp [aput, aget?, h.ne']
  | (j, w) :: t => by
    unfold aput
    split
    · simp [aget?, h.ne']
    · split
      · subst_vars; simp [aget?, h.ne']
      · simp [aget?, aget?_aput_of_lt v h t]

theorem aget?_map {α β : Type} (g : α → β) (k : Nat) : ∀ l : List (Nat × α),
    aget? (l.map fun p => (p.1, g p.2)) k = (aget? l k).map g
  | [] => rfl
  | (j, v) :: t => by
    simp only [List.map_cons, aget?, aget?_map g k t]
    split <;> rfl

/-! ## Slots of the ledger (R388) -/

theorem ledgerSlot_of_le {n : Nat} (h : n ≤ 32) : ledgerSlot n = n - 1 := by simp [ledgerSlot, h]

theorem ledgerSlot_of_lt {n : Nat} (h : 32 < n) : ledgerSlot n = 32 + (n - 33) % 32 := by simp [ledgerSlot, Nat.not_le.2 h]

theorem ledgerSlot_turn {n : Nat} (h : 32 < n) : 32 ≤ ledgerSlot n ∧ ledgerSlot n < 64 ∧
    ledgerSlot (n + 32) = ledgerSlot n ∧ ∀ k, n < k → k < n + 32 → ledgerSlot k ≠ ledgerSlot n := by
  rw [ledgerSlot_of_lt h, ledgerSlot_of_lt (Nat.lt_add_right 32 h)]
  refine ⟨by omega, by omega, by omega, fun k hk hk' => ?_⟩
  rw [ledgerSlot_of_lt (h.trans hk)]
  omega

/-- No later clear writes the slot of a clear among the first 32. -/
theorem lt_ledgerSlot {k n : Nat} (hk : k < 32) (hn : k + 1 < n) : k < ledgerSlot n := by
  rcases Nat.lt_or_ge 32 n with h | h
  · rw [ledgerSlot_of_lt h]; omega
  · rw [ledgerSlot_of_le h]; omega

/-! ## Storing, committing and clearing -/

theorem Seed.store_getLast? (d : Seed) (r : SeedRec) : (d.store r).ring.getLast? = some r := by
  unfold Seed.store
  dsimp only
  split <;> exact List.getLast?_concat

theorem Seed.store_grows (d : Seed) (r : SeedRec) : d.archive.Grows (d.store r).archive := by
  by_cases hroom : d.vault.length < 1024
  · exact ⟨by simp [Seed.store, Seed.archive, hroom], fun hfull => absurd hroom (Nat.not_lt.2 hfull), le_refl _,
      fun _ e _ _ he => ⟨e, he, rfl⟩⟩
  · have hkeep : (d.store r).archive = d.archive := by simp [Seed.store, Seed.archive, hroom]
    rw [hkeep]

theorem Seed.foldl_store_grows : ∀ (l : List SeedRec) (d : Seed), d.archive.Grows (l.foldl Seed.store d).archive
  | [], _ => .refl _
  | r :: l, d => (d.store_grows r).trans (Seed.foldl_store_grows l (d.store r))

theorem Seed.commitAll_grows (d : Seed) : d.archive.Grows d.commitAll.archive := Seed.foldl_store_grows d.staging d

theorem Seed.commitOne_grows (d : Seed) : d.archive.Grows d.commitOne.archive := by
  unfold Seed.commitOne
  split
  · exact .refl _
  · exact d.store_grows _

theorem Seed.finishClear_grows (d : Seed) (c : SeedClear) : d.archive.Grows (d.finishClear c).archive := by
  unfold Seed.finishClear
  refine Archive.Grows.trans ?_ (Seed.store_grows _ _)
  exact ⟨List.prefix_refl _, fun _ => rfl, Nat.le_succ _, fun k e hk hn he =>
    ⟨e, (aget?_aput_of_lt _ (lt_ledgerSlot hk hn) _).trans he, rfl⟩⟩

/-! ## What the status and the ledger's bytes show (R388, R391) -/

theorem bitIf_zero (b : Bool) : bitIf 0 b = b.toNat := by cases b <;> rfl

theorem bitIf_succ_mod_two (i : Nat) (b : Bool) : bitIf (i + 1) b % 2 = 0 := by
  cases b
  · rfl
  · exact Nat.mod_eq_zero_of_dvd (Dvd.intro_left (2 ^ i) rfl)

/-- VAULT_FULL: bit 0 alone of the status is odd. -/
theorem seedStatus_bit_zero (m : Mach) : bit m.seedStatus 0 = decide (1024 ≤ m.seed.vault.length) := by
  have hodd : m.seedStatus % 2 = (decide (1024 ≤ m.seed.vault.length)).toNat := by
    simp [Mach.seedStatus, Nat.add_mod, bitIf_succ_mod_two, bitIf_zero, Bool.toNat_le]
  rw [bit, Nat.testBit_zero, hodd]
  cases decide (1024 ≤ m.seed.vault.length) <;> rfl

theorem leBytes_length : ∀ n v : Nat, (leBytes n v).length = n
  | 0, _ => rfl
  | n + 1, v => congrArg Nat.succ (leBytes_length n (v / 256))

theorem LedgerEntry.bytes_of_not_damaged {e : LedgerEntry} (he : e.damaged = false) : ∃ b : List Nat, b.length = 28 ∧
    b = u64 e.time ++ u32 e.lseq ++ u8 e.what ++ u8 e.iface ++ u16 0 ++ u32 e.cert ++ u32 e.firstSeq ++ u32 e.lastSeq ∧
    e.bytes = b ++ u32 (crc32c b) := by
  refine ⟨_, ?_, rfl, ?_⟩
  · simp [u8, u16, u32, u64, leBytes_length]
  · simp only [LedgerEntry.bytes, he]
    rfl

end Sys2Proof.Machine
end

section
/-! PROOFS. What the operations on the machine leave of the archive: all of it, for every operation but those that commit, clear
or replay the recorder. A record is staged before it is committed, so even writing records leaves the archive as it is. One
lemma per operation that several commands share or that branches on its way, in the order of the model's files. -/

namespace Sys2Proof.Machine

variable (m : Mach)

/-! ## Branches and runs -/

@[simp] theorem Seed.archive_ite (c : Prop) [Decidable c] (a b : Seed) :
    (if c then a else b).archive = if c then a.archive else b.archive := apply_ite _ _ _ _

@[simp] theorem Mach.seed_ite (c : Prop) [Decidable c] (a b : Mach) :
    (if c then a else b).seed = if c then a.seed else b.seed := apply_ite _ _ _ _

@[simp] theorem Mach.each_archive {α : Type} (l : List α) (f : α → Mach → Mach)
    (h : ∀ x y, (f x y).seed.archive = y.seed.archive) : (m.each l f).seed.archive = m.seed.archive :=
  Mach.each_keep (fun x => x.seed.archive) h l m

/-! ## Staging and resets -/

@[simp] theorem Seed.enter_archive (d : Seed) (r : SeedRec) : (d.enter r).archive = d.archive := by
  unfold Seed.enter; split <;> rfl

@[simp] theorem Mach.snapshot_archive (r : SeedRec) : (m.snapshot r).1.seed.archive = m.seed.archive := by
  unfold Mach.snapshot Mach.updSeed Seed.archive
  dsimp only
  (repeat' split) <;> rfl

@[simp] theorem Mach.stageRec_archive (r : SeedRec) : (m.stageRec r).seed.archive = m.seed.archive := by
  simp [Mach.stageRec]

@[simp] theorem Mach.recordCls_archive (code source : Nat) (params : List Nat) (cls : Nat) :
    (m.recordCls code source params cls).seed.archive = m.seed.archive := by
  simp [Mach.recordCls]

@[simp] theorem Mach.recordC_archive (src : Nat) (params : List Nat) (injected : Bool) :
    (m.recordC src params injected).seed.archive = m.seed.archive := by
  have hsup (x : Mach) (g : Seed → List Suppress) :
      (x.updSeed fun d => { d with suppress := g d }).seed.archive = x.seed.archive := rfl
  unfold Mach.recordC
  dsimp only
  split
  · split
    · rfl
    · exact (hsup _ _).trans (Mach.recordCls_archive ..)
  · exact (hsup _ _).trans (Mach.recordCls_archive ..)

@[simp] theorem Mach.record_archive (code source : Nat) (params : List Nat) :
    (m.record code source params).seed.archive = m.seed.archive := by
  simp [Mach.record]

@[simp] theorem Mach.reportLost_archive : m.reportLost.seed.archive = m.seed.archive := by
  unfold Mach.reportLost
  split
  · exact Mach.record_archive ..
  · rfl

@[simp] theorem Mach.damagedRegion_archive (region count : Nat) :
    (m.damagedRegion region count).seed.archive = m.seed.archive := by
  unfold Mach.damagedRegion
  split
  · rfl
  · exact Mach.record_archive ..

@[simp] theorem Mach.procReset_archive (cause : RCause) : (m.procReset cause).seed.archive = m.seed.archive := rfl

@[simp] theorem Mach.powerDown_archive : m.powerDown.seed.archive = m.seed.archive := rfl

@[simp] theorem Mach.trace_archive (type src : Nat) (data : List Nat) :
    (m.trace type src data).seed.archive = m.seed.archive := by simp

/-! ## Records -/

@[simp] theorem Mach.foxRecord_archive (code source : Nat) (params : List Nat) :
    (m.foxRecord code source params).seed.archive = m.seed.archive := by simp [Mach.foxRecord]

@[simp] theorem Mach.replayFox_archive : m.replayFox.seed.archive = m.seed.archive := by simp [Mach.replayFox]

@[simp] theorem Mach.noteDegraded_archive : m.noteDegraded.seed.archive = m.seed.archive := by simp [Mach.noteDegraded]

/-! ## Reactions -/

@[simp] theorem Mach.pairFrame_archive (ogen : Nat) (f : Mach → Mach) (hf : ∀ y, (f y).seed.archive = y.seed.archive) :
    (m.pairFrame ogen f).seed.archive = m.seed.archive := by simp [Mach.pairFrame, hf]

@[simp] theorem Mach.assertTrip_archive (ch : Nat) : (m.assertTrip ch).seed.archive = m.seed.archive := by
  simp [Mach.assertTrip]

@[simp] theorem Mach.openCoil_archive (k : Nat) : (m.openCoil k).seed.archive = m.seed.archive := by
  simp [Mach.openCoil, Mach.openSide]

@[simp] theorem Mach.convEnter_archive (dest : Mode) : (m.convEnter dest).seed.archive = m.seed.archive := by
  unfold Mach.convEnter
  (repeat' split) <;> simp

@[simp] theorem Mach.enterMode_archive (dest : Mode) (cause : Cause) :
    (m.enterMode dest cause).seed.archive = m.seed.archive := by
  unfold Mach.enterMode
  (repeat' split) <;> simp

@[simp] theorem Mach.react_archive (dest : Mode) (cause : Cause) : (m.react dest cause).seed.archive = m.seed.archive := by
  unfold Mach.react
  (repeat' split) <;> simp

@[simp] theorem Mach.abortInjection_archive (func : Nat) : (m.abortInjection func).seed.archive = m.seed.archive := by
  unfold Mach.abortInjection
  (repeat' split) <;> simp

@[simp] theorem Mach.demand_archive (chan func : Nat) (re : Reaction) (dest : Option Mode) (value : Int) :
    (m.demand chan func re dest value).seed.archive = m.seed.archive := by
  unfold Mach.demand
  (repeat' split) <;> simp

@[simp] theorem Mach.endDemand_archive (chan func : Nat) : (m.endDemand chan func).seed.archive = m.seed.archive := by
  simp [Mach.endDemand]

@[simp] theorem Mach.siDemand_archive (chan k : Nat) : (m.siDemand chan k).seed.archive = m.seed.archive := by
  simp [Mach.siDemand]

@[simp] theorem Mach.inputDemand_archive (chan k : Nat) : (m.inputDemand chan k).seed.archive = m.seed.archive := by
  simp [Mach.inputDemand]

@[simp] theorem Mach.ventilation_archive (chan : Nat) : (m.ventilation chan).seed.archive = m.seed.archive := by
  simp [Mach.ventilation]

@[simp] theorem Mach.raiseAs_archive (s : Src) (k : FClass) (params : List Nat) :
    (m.raiseAs s k params).seed.archive = m.seed.archive := by simp [Mach.raiseAs]

@[simp] theorem Mach.raiseFault_archive (s : Src) (params : List Nat) :
    (m.raiseFault s params).seed.archive = m.seed.archive := by
  unfold Mach.raiseFault
  (repeat' split) <;> simp

@[simp] theorem Mach.raiseC_archive (s : Src) (params : List Nat) : (m.raiseC s params).seed.archive = m.seed.archive := by
  simp [Mach.raiseC]

@[simp] theorem Mach.countWindow_archive (s : Src) (params : List Nat) :
    (m.countWindow s params).seed.archive = m.seed.archive := by simp [Mach.countWindow]

@[simp] theorem Mach.countSource_archive (s : Src) (params : List Nat) :
    (m.countSource s params).seed.archive = m.seed.archive := by simp [Mach.countSource]

@[simp] theorem Mach.c6Fail_archive : m.c6Fail.seed.archive = m.seed.archive := by simp [Mach.c6Fail]

@[simp] theorem Mach.orderShutdown_archive (cause : Cause) : (m.orderShutdown cause).seed.archive = m.seed.archive := by
  simp [Mach.orderShutdown]

/-! ## Chapter 1, architecture -/

@[simp] theorem Mach.busTransaction_archive (cls master tReq tGrant beats : Nat) :
    (m.busTransaction cls master tReq tGrant beats).seed.archive = m.seed.archive := by simp [Mach.busTransaction]

@[simp] theorem Mach.movePartition_archive (p : Nat) : (m.movePartition p).seed.archive = m.seed.archive := by
  unfold Mach.movePartition
  (repeat' split) <;> simp

@[simp] theorem Mach.coreLost_archive (core : Nat) : (m.coreLost core).seed.archive = m.seed.archive := by simp [Mach.coreLost]

/-! ## The power stage -/

@[simp] theorem Mach.updPhase_archive (k : Nat) (f : Phase → Phase) : (m.updPhase k f).seed.archive = m.seed.archive := by
  simp [Mach.updPhase]

@[simp] theorem Mach.dutyCommand_archive (k tag ogen : Nat) (duty : Rat) (early : Bool) :
    (m.dutyCommand k tag ogen duty early).seed.archive = m.seed.archive := by simp [Mach.dutyCommand]

@[simp] theorem Mach.streamFault_archive (k : Nat) : (m.streamFault k).seed.archive = m.seed.archive := by
  simp [Mach.streamFault]

@[simp] theorem Mach.releaseMask_archive (mask : Nat) : (m.releaseMask mask).seed.archive = m.seed.archive := by
  simp [Mach.releaseMask]

@[simp] theorem Mach.acquireMask_archive (mask : Nat) : (m.acquireMask mask).seed.archive = m.seed.archive := by
  simp [Mach.acquireMask]

@[simp] theorem Mach.setLatch_archive (mask : Nat) : (m.setLatch mask).seed.archive = m.seed.archive := by
  simp [Mach.setLatch, Mach.reportTrip]

@[simp] theorem Mach.applySettings_archive : m.applySettings.seed.archive = m.seed.archive := by
  simp [Mach.applySettings, Mach.countPhases]

/-! ## The converter -/

@[simp] theorem Mach.setTarget_archive : m.setTarget.seed.archive = m.seed.archive := by
  unfold Mach.setTarget
  (repeat' split) <;> simp [Mach.voltageLoop]

@[simp] theorem Mach.dropFloor_archive : m.dropFloor.seed.archive = m.seed.archive := by simp [Mach.dropFloor]

@[simp] theorem Mach.countActive_archive (recent : Bool) : (m.countActive recent).seed.archive = m.seed.archive := by
  simp [Mach.countActive]

@[simp] theorem Mach.outerRun_archive (k : Nat) (iMean : Int) (recent : Bool) :
    (m.outerRun k iMean recent).seed.archive = m.seed.archive := by simp [Mach.outerRun, Mach.reference, Mach.outerLoop]

@[simp] theorem Mach.outerPrecharge_archive (recent : Bool) : (m.outerPrecharge recent).seed.archive = m.seed.archive := by
  unfold Mach.outerPrecharge
  (repeat' split) <;> simp

@[simp] theorem Mach.outerPeriod_archive (k : Nat) (iMean : Int) (recent : Bool) :
    (m.outerPeriod k iMean recent).seed.archive = m.seed.archive := by
  unfold Mach.outerPeriod
  (repeat' split) <;> simp

@[simp] theorem Mach.recount_archive : m.recount.seed.archive = m.seed.archive := by
  unfold Mach.recount
  (repeat' split) <;> simp

@[simp] theorem Mach.phaseLoop_archive (k : Nat) : (m.phaseLoop k).seed.archive = m.seed.archive := by
  unfold Mach.phaseLoop
  (repeat' split) <;> simp

@[simp] theorem Mach.partnerPhase_archive (k state ogen : Nat) : (m.partnerPhase k state ogen).seed.archive = m.seed.archive :=
  Mach.pairFrame_archive m ogen _ fun _ => rfl

@[simp] theorem Mach.softStart_archive : m.softStart.seed.archive = m.seed.archive := by
  unfold Mach.softStart
  (repeat' split) <;> simp

@[simp] theorem Mach.phasesOn_archive : m.phasesOn.seed.archive = m.seed.archive := by simp [Mach.phasesOn]

@[simp] theorem Mach.stageComplete_archive : m.stageComplete.seed.archive = m.seed.archive := by
  unfold Mach.stageComplete
  (repeat' split) <;> simp

@[simp] theorem Mach.preStep_archive : m.preStep.seed.archive = m.seed.archive := by
  unfold Mach.preStep
  (repeat' split) <;> simp [Mach.beginP1, Mach.beginP2, Mach.c6Closed]

@[simp] theorem Mach.lossCheck_archive (iShunt : Int) (iPh ripple : List Int) :
    (m.lossCheck iShunt iPh ripple).seed.archive = m.seed.archive := by
  simp [Mach.lossCheck, Mach.disablePhase, Mach.setUnresolved]

/-! ## Modes and commissioning -/

@[simp] theorem Mach.queueMode_archive (p : PendMode) : (m.queueMode p).seed.archive = m.seed.archive := by
  simp [Mach.queueMode]

@[simp] theorem Mach.requestMode_archive (dest : Mode) (role : Nat) :
    (m.requestMode dest role).seed.archive = m.seed.archive := by simp [Mach.requestMode]

@[simp] theorem Mach.modeRequest_archive (code role : Nat) : (m.modeRequest code role).seed.archive = m.seed.archive := by
  unfold Mach.modeRequest
  (repeat' split) <;> simp

@[simp] theorem Mach.hostOutcome_archive (p : PendMode) (applied : Bool) :
    (m.hostOutcome p applied).seed.archive = m.seed.archive := by
  unfold Mach.hostOutcome
  (repeat' split) <;> simp

@[simp] theorem Mach.openStep_archive : m.openStep.seed.archive = m.seed.archive := by simp [Mach.openStep, Mach.c6Open]

@[simp] theorem Mach.armClear_archive (role : Nat) (direct : Bool) :
    (m.armClear role direct).seed.archive = m.seed.archive := by simp [Mach.armClear]

@[simp] theorem Mach.taskComplete_archive : m.taskComplete.seed.archive = m.seed.archive := by
  unfold Mach.taskComplete
  (repeat' split) <;> simp

@[simp] theorem Mach.setStep_archive (n : Nat) (failed : Bool) : (m.setStep n failed).seed.archive = m.seed.archive := by
  simp [Mach.setStep]

@[simp] theorem Mach.stepC1_archive : m.stepC1.seed.archive = m.seed.archive := by simp [Mach.stepC1]

@[simp] theorem Mach.enterC5_archive : m.enterC5.seed.archive = m.seed.archive := by simp [Mach.enterC5, Mach.stepC5]

@[simp] theorem Mach.enterC4_archive : m.enterC4.seed.archive = m.seed.archive := by simp [Mach.enterC4]

@[simp] theorem Mach.expertWrite_archive (role : Nat) (unlocked : Bool) (f : Mach → Mach)
    (hf : ∀ y, (f y).seed.archive = y.seed.archive) :
    (m.expertWrite role unlocked f).seed.archive = m.seed.archive := by simp [Mach.expertWrite, hf]

@[simp] theorem Mach.deferBaseline_archive : m.deferBaseline.seed.archive = m.seed.archive := by simp [Mach.deferBaseline]

@[simp] theorem Mach.acceptCommissioning_archive (role : Nat) : (m.acceptCommissioning role).seed.archive = m.seed.archive := by
  simp [Mach.acceptCommissioning]

@[simp] theorem Mach.stepRetry_archive : m.stepRetry.seed.archive = m.seed.archive := by
  unfold Mach.stepRetry
  (repeat' split) <;> simp

/-! ## The cell chain -/

@[simp] theorem Mach.sendTo_archive (a : Nat) (f : ChainCmd) : (m.sendTo a f).seed.archive = m.seed.archive := by
  simp [Mach.sendTo]

@[simp] theorem Mach.countDiscards_archive (bad : Nat × Nat) : (m.countDiscards bad).seed.archive = m.seed.archive := by
  simp [Mach.countDiscards]

@[simp] theorem Mach.lineFrame_archive (near : Bool) (hit : Nat → Bool) (f : ChainCmd) :
    (m.lineFrame near hit f).seed.archive = m.seed.archive := by simp [Mach.lineFrame]

@[simp] theorem Mach.echoRun_archive (near : Bool) (hit : Nat → Bool) (a : Nat) :
    (m.echoRun near hit a).seed.archive = m.seed.archive := by simp [Mach.echoRun]

@[simp] theorem Mach.enumerate_archive (near far : List (Bool × Nat)) (check fwd rev : List Nat) (closure : Bool) :
    (m.enumerate near far check fwd rev closure).seed.archive = m.seed.archive := by
  simp [Mach.enumerate, Mach.noteList, Mach.identAssign]

@[simp] theorem Mach.ladderEight_archive : m.ladderEight.seed.archive = m.seed.archive := by
  simp [Mach.ladderEight, Mach.takeInputs, Mach.takeInput]

@[simp] theorem Mach.endBreak_archive : m.endBreak.seed.archive = m.seed.archive := by
  unfold Mach.endBreak
  (repeat' split) <;> simp

@[simp] theorem Mach.openSweep_archive (epoch : Nat) : (m.openSweep epoch).seed.archive = m.seed.archive := by
  simp [Mach.openSweep, Mach.nameWires]

@[simp] theorem Mach.putReply_archive (a port : Nat) (r : PodReply) (start : OwState) :
    (m.putReply a port r start).seed.archive = m.seed.archive := by simp [Mach.putReply, Mach.openWire, Mach.limitEcho]

@[simp] theorem Mach.deliver_archive : m.deliver.seed.archive = m.seed.archive := by simp [Mach.deliver]

@[simp] theorem Mach.keepReply_archive (a port : Nat) (r : PodReply) :
    (m.keepReply a port r).seed.archive = m.seed.archive := by simp [Mach.keepReply]

@[simp] theorem Mach.replaceReply_archive (a : Nat) (r : PodReply) : (m.replaceReply a r).seed.archive = m.seed.archive := by
  simp [Mach.replaceReply]

@[simp] theorem Mach.takeReply_archive (a port : Nat) (r : PodReply) :
    (m.takeReply a port r).seed.archive = m.seed.archive := by
  unfold Mach.takeReply
  dsimp only
  (repeat' split) <;> simp

@[simp] theorem Mach.locateBreak_archive (sw : List (Nat × SweepPod)) : (m.locateBreak sw).seed.archive = m.seed.archive := by
  simp [Mach.locateBreak]

@[simp] theorem Mach.sweepStale_archive : m.sweepStale.seed.archive = m.seed.archive := by simp [Mach.sweepStale]

@[simp] theorem Mach.binSweep_archive (sw : List (Nat × SweepPod)) : (m.binSweep sw).seed.archive = m.seed.archive := by
  unfold Mach.binSweep
  (repeat' split) <;> simp

@[simp] theorem Mach.baselineSweep_archive (sw : List (Nat × SweepPod)) :
    (m.baselineSweep sw).seed.archive = m.seed.archive := by simp [Mach.baselineSweep]

@[simp] theorem Mach.stringSumCheck_archive (sw : List (Nat × SweepPod)) :
    (m.stringSumCheck sw).seed.archive = m.seed.archive := by simp [Mach.stringSumCheck]

@[simp] theorem Mach.sweepClose_archive : m.sweepClose.seed.archive = m.seed.archive := by
  unfold Mach.sweepClose
  dsimp only
  split
  · rfl
  · rw [Mach.trace_archive, Mach.updMeas_seed, Mach.baselineSweep_archive, Mach.binSweep_archive,
      Mach.stringSumCheck_archive, Mach.sweepStale_archive, Mach.updChain_seed]
    simp

@[simp] theorem Mach.giveBack_archive : m.giveBack.seed.archive = m.seed.archive := by simp [Mach.giveBack]

@[simp] theorem Mach.masterEpoch_archive : m.masterEpoch.seed.archive = m.seed.archive := by
  unfold Mach.masterEpoch
  (repeat' split) <;> simp

@[simp] theorem Mach.podsExpire_archive : m.podsExpire.seed.archive = m.seed.archive := by simp [Mach.podsExpire]

@[simp] theorem Mach.chainEpoch_archive : m.chainEpoch.seed.archive = m.seed.archive := by simp [Mach.chainEpoch]

/-! ## Measurement -/

@[simp] theorem Mach.dropDemand_archive (func : Nat) (cause : Bool) :
    (m.dropDemand func cause).seed.archive = m.seed.archive := by simp [Mach.dropDemand]

@[simp] theorem Mach.sfOc_archive (i hall : Int) : (m.sfOc i hall).seed.archive = m.seed.archive := by
  unfold Mach.sfOc
  (repeat' split) <;> simp

@[simp] theorem Mach.growBounds_archive (f : GroupEst → Rat) : (m.growBounds f).seed.archive = m.seed.archive := by
  simp [Mach.growBounds]

@[simp] theorem Mach.bridgeOsc_archive (dq : Nat) : (m.bridgeOsc dq).seed.archive = m.seed.archive := by simp [Mach.bridgeOsc]

@[simp] theorem Mach.sectionReturn_archive : m.sectionReturn.seed.archive = m.seed.archive := by simp [Mach.sectionReturn]

@[simp] theorem Mach.bridgeHeld_archive : m.bridgeHeld.seed.archive = m.seed.archive := by
  unfold Mach.bridgeHeld
  (repeat' split) <;> simp

@[simp] theorem Mach.comparator_archive (line : Nat) (x : Int) : (m.comparator line x).seed.archive = m.seed.archive := by
  unfold Mach.comparator
  (repeat' split) <;> simp

@[simp] theorem Mach.measEpoch_archive : m.measEpoch.seed.archive = m.seed.archive := by
  unfold Mach.measEpoch
  dsimp only
  (repeat' split) <;> simp [Mach.bridgeGap, Mach.bridgeRestart, Mach.hallCheck]

@[simp] theorem Mach.halfPeriod_archive (corr uncorr : Nat) (reading : Option Nat) :
    (m.halfPeriod corr uncorr reading).seed.archive = m.seed.archive := by
  unfold Mach.halfPeriod
  (repeat' split) <;> simp [Mach.isoReading]

/-! ## Protection -/

@[simp] theorem Mach.siEnds_archive : m.siEnds.seed.archive = m.seed.archive := by simp [Mach.siEnds]

@[simp] theorem Mach.sampleSi_archive (high k : Nat) : (m.sampleSi high k).seed.archive = m.seed.archive := by
  simp [Mach.sampleSi]

@[simp] theorem Mach.sampleEstop_archive : m.sampleEstop.seed.archive = m.seed.archive := by simp [Mach.sampleEstop]

@[simp] theorem Mach.inputSample_archive (si fb node : Nat) : (m.inputSample si fb node).seed.archive = m.seed.archive := by
  simp [Mach.inputSample]

@[simp] theorem Mach.testPulse_archive (lows : Nat) : (m.testPulse lows).seed.archive = m.seed.archive := by
  simp [Mach.testPulse, Mach.frameEnd]

@[simp] theorem Mach.si6Cancelled_archive : m.si6Cancelled.seed.archive = m.seed.archive := by
  simp only [Mach.si6Cancelled]
  split <;> simp

@[simp] theorem Mach.walnutSweep_archive : m.walnutSweep.seed.archive = m.seed.archive := by
  unfold Mach.walnutSweep
  (repeat' split) <;> simp [Mach.sweepRuns, Mach.uvDemand]

@[simp] theorem Mach.ptFoxglove_archive (pt : Nat) (temp : Int) : (m.ptFoxglove pt temp).seed.archive = m.seed.archive := by
  simp only [Mach.ptFoxglove]
  split <;> simp

@[simp] theorem Mach.ptOver_archive (pt : Nat) (temp : Int) : (m.ptOver pt temp).seed.archive = m.seed.archive := by
  unfold Mach.ptOver
  (repeat' split) <;> simp

@[simp] theorem Mach.sealEvent_archive (func : Nat) : (m.sealEvent func).seed.archive = m.seed.archive := by
  simp [Mach.sealEvent]

@[simp] theorem Mach.openChan_archive (chan : Nat) : (m.openChan chan).seed.archive = m.seed.archive := by simp [Mach.openChan]

@[simp] theorem Mach.endHold_archive (chan : Nat) : (m.endHold chan).seed.archive = m.seed.archive := by
  unfold Mach.endHold
  (repeat' split) <;> simp

/-! ## Impedance -/

@[simp] theorem Mach.exciteRef_archive (heard : Option (Nat × Nat)) : (m.exciteRef heard).seed.archive = m.seed.archive := by
  unfold Mach.exciteRef
  (repeat' split) <;> simp

@[simp] theorem Mach.binStart_archive : m.binStart.seed.archive = m.seed.archive := by
  unfold Mach.binStart
  (repeat' split) <;> simp

@[simp] theorem Mach.baselineRequest_archive : m.baselineRequest.seed.archive = m.seed.archive := by simp [Mach.baselineRequest]

@[simp] theorem Mach.fitAll_archive : m.fitAll.seed.archive = m.seed.archive := Mach.each_archive m _ _ fun _ _ => rfl

@[simp] theorem Mach.passCheck_archive : m.passCheck.seed.archive = m.seed.archive := by
  simp [Mach.passCheck, Mach.baselineStage, Mach.baselineEnd]

@[simp] theorem Mach.binWindowEnd_archive : m.binWindowEnd.seed.archive = m.seed.archive := by
  unfold Mach.binWindowEnd
  (repeat' split) <;> simp

@[simp] theorem Mach.corrRead_archive (a : Nat) : (m.corrRead a).seed.archive = m.seed.archive := by
  unfold Mach.corrRead
  (repeat' split) <;> simp

@[simp] theorem Mach.corrTake_archive (a : Nat) (valid : Bool) (bin status excId samples : Nat) (vals : List
    (Int × Int × Int × Int)) :
    (m.corrTake a valid bin status excId samples vals).seed.archive = m.seed.archive := by
  unfold Mach.corrTake
  (repeat' split) <;> simp [Mach.podRejected]

@[simp] theorem Mach.binWrite_archive : m.binWrite.seed.archive = m.seed.archive := by
  unfold Mach.binWrite
  (repeat' split) <;> simp [Mach.writeEntry, Mach.allTInt]

@[simp] theorem Mach.ageingUpdate_archive (g : Nat) : (m.ageingUpdate g).seed.archive = m.seed.archive := by
  unfold Mach.ageingUpdate
  (repeat' split) <;> simp

@[simp] theorem Mach.impEpoch_archive : m.impEpoch.seed.archive = m.seed.archive := by simp [Mach.impEpoch, Mach.waitsOver]

/-! ## Estimation -/

@[simp] theorem Mach.sendFull_archive : m.sendFull.seed.archive = m.seed.archive := by simp [Mach.sendFull]

@[simp] theorem Mach.modelStep_archive (irms : Nat) : (m.modelStep irms).seed.archive = m.seed.archive := by
  simp only [Mach.modelStep]
  split <;> simp [Mach.equilEpoch, Mach.estSend, Mach.estLimits, Mach.restRequest, Mach.runModel]

@[simp] theorem Mach.learn_archive (g : Nat) (e : GroupEst) (t : Nat) : (m.learn g e t).seed.archive = m.seed.archive := by
  unfold Mach.learn
  (repeat' split) <;> simp

@[simp] theorem Mach.restGroup_archive (t g : Nat) : (m.restGroup t g).seed.archive = m.seed.archive := by
  unfold Mach.restGroup
  (repeat' split) <;> simp

@[simp] theorem Mach.restCorrect_archive : m.restCorrect.seed.archive = m.seed.archive := by simp [Mach.restCorrect]

@[simp] theorem Mach.estimator_archive (values : Option LeadValues) (full : Option (List (Nat × GroupEst))) :
    (m.estimator values full).seed.archive = m.seed.archive := by
  unfold Mach.estimator
  (repeat' split) <;> simp

@[simp] theorem Mach.leadMissing_archive : m.leadMissing.seed.archive = m.seed.archive := by
  unfold Mach.leadMissing
  (repeat' split) <;> simp

@[simp] theorem Mach.estRole_archive : m.estRole.seed.archive = m.seed.archive := by simp [Mach.estRole]

@[simp] theorem Mach.throughputEpoch_archive : m.throughputEpoch.seed.archive = m.seed.archive := by simp [Mach.throughputEpoch]

/-! ## Balancing -/

@[simp] theorem Mach.exclusions_archive (now : Mach) : (m.exclusions now).seed.archive = m.seed.archive := rfl

@[simp] theorem Mach.bleedApply_archive (now : Mach) : (m.bleedApply now).seed.archive = m.seed.archive := by
  simp [Mach.bleedApply]

/-! ## The fabric -/

@[simp] theorem Mach.updPort_archive (p : Nat) (f : Port → Port) : (m.updPort p f).seed.archive = m.seed.archive := by
  simp [Mach.updPort]

@[simp] theorem Mach.flood_archive (type : Nat) (o : Nat → Out) : (m.flood type o).seed.archive = m.seed.archive := by
  simp [Mach.flood]

@[simp] theorem Mach.recompute_archive : m.recompute.seed.archive = m.seed.archive := by simp [Mach.recompute]

@[simp] theorem Mach.originate_archive (plane : Nat) : (m.originate plane).seed.archive = m.seed.archive := by
  simp [Mach.originate]

@[simp] theorem Mach.pdelay_archive (p pseq : Nat) (resp : Option (Nat × Nat × Nat)) :
    (m.pdelay p pseq resp).seed.archive = m.seed.archive := by
  unfold Mach.pdelay
  (repeat' split) <;> simp [Mach.portUp]

@[simp] theorem Mach.setDb_archive (plane : Nat) (f : List LsaRec → List LsaRec) :
    (m.setDb plane f).seed.archive = m.seed.archive := by simp [Mach.setDb]

@[simp] theorem Mach.claimStart_archive : m.claimStart.seed.archive = m.seed.archive := by simp [Mach.claimStart]

@[simp] theorem Mach.claimFlood_archive : m.claimFlood.seed.archive = m.seed.archive := by simp [Mach.claimFlood]

@[simp] theorem Mach.takeAddr_archive (a : Nat) (t : Tier) : (m.takeAddr a t).seed.archive = m.seed.archive := by
  simp [Mach.takeAddr]

@[simp] theorem Mach.setConn_archive (c : SafeConn) : (m.setConn c).seed.archive = m.seed.archive := by simp [Mach.setConn]

@[simp] theorem Mach.plantStopCheck_archive : m.plantStopCheck.seed.archive = m.seed.archive := by simp [Mach.plantStopCheck]

@[simp] theorem Mach.safeDeliver_archive (conn : Nat) (sdata : List Nat) :
    (m.safeDeliver conn sdata).seed.archive = m.seed.archive := by simp [Mach.safeDeliver, Mach.pairSafe]

@[simp] theorem Mach.safeAccept_archive (c : SafeConn) (plane sseq : Nat) (sdata : List Nat) :
    (m.safeAccept c plane sseq sdata).seed.archive = m.seed.archive := by
  unfold Mach.safeAccept
  dsimp only
  split
  · (repeat' split)
    · rfl
    · rw [Mach.safeDeliver_archive, Mach.setConn_archive]
    · rw [Mach.setConn_archive]
  · (repeat' split)
    · rfl
    · rfl
    · rw [Mach.setConn_archive]
    · rw [Mach.raiseFault_archive, Mach.updSafe_seed, Mach.setConn_archive]
    · rw [Mach.safeDeliver_archive, Mach.setConn_archive, Mach.updSafe_seed]
    · rw [Mach.safeDeliver_archive, Mach.setConn_archive, Mach.updSafe_seed]
    · rw [Mach.setConn_archive, Mach.updSafe_seed]
    · rw [Mach.setConn_archive, Mach.updSafe_seed]
    · rw [Mach.updSafe_seed]

/-! ## Plant records and views -/

@[simp] theorem Mach.summarySend_archive : m.summarySend.seed.archive = m.seed.archive := by
  unfold Mach.summarySend
  (repeat' split) <;> simp

@[simp] theorem Mach.takeSummary_archive (src : Nat) (s : Summary) : (m.takeSummary src s).seed.archive = m.seed.archive := by
  unfold Mach.takeSummary
  dsimp only
  (repeat' split) <;> simp [Mach.consume]

@[simp] theorem Mach.bodyRequest_archive (src epoch : Nat) : (m.bodyRequest src epoch).seed.archive = m.seed.archive := by
  simp only [Mach.bodyRequest]
  split <;> simp

@[simp] theorem Mach.headRequest_archive (src epoch : Nat) : (m.headRequest src epoch).seed.archive = m.seed.archive := by
  unfold Mach.headRequest
  (repeat' split) <;> simp

@[simp] theorem Mach.recordRequest_archive (src epoch : Nat) : (m.recordRequest src epoch).seed.archive = m.seed.archive := by
  unfold Mach.recordRequest
  (repeat' split) <;> simp

@[simp] theorem Mach.planRest_archive (k : Nat) (l : List (Member × Option SlowHead)) :
    (m.planRest k l).seed.archive = m.seed.archive := by simp [Mach.planRest]

@[simp] theorem Mach.slowClose_archive : m.slowClose.seed.archive = m.seed.archive := by
  unfold Mach.slowClose
  dsimp only
  (repeat' split) <;> simp [Mach.isoView]

@[simp] theorem Mach.slowRepair_archive (k : Nat) : (m.slowRepair k).seed.archive = m.seed.archive := by
  unfold Mach.slowRepair
  (repeat' split) <;> simp

/-! ## Plant commands and dispatch -/

@[simp] theorem Mach.issueCmd_archive (ctype target : Nat) (arg0 arg1 : Int) (effect role : Nat) :
    (m.issueCmd ctype target arg0 arg1 effect role).seed.archive = m.seed.archive := by simp [Mach.issueCmd]

@[simp] theorem Mach.plantRequest_archive (ctype target : Nat) (arg0 arg1 : Int) (role : Nat) :
    (m.plantRequest ctype target arg0 arg1 role).seed.archive = m.seed.archive := by simp [Mach.plantRequest]

@[simp] theorem Mach.join_archive (mv founder : Nat) (members : List Member) (st : PlantState) :
    (m.join mv founder members st).seed.archive = m.seed.archive := by simp [Mach.join]

@[simp] theorem Mach.leave_archive : m.leave.seed.archive = m.seed.archive := by simp [Mach.leave]

@[simp] theorem Mach.found_archive : m.found.seed.archive = m.seed.archive := by simp [Mach.found]

@[simp] theorem Mach.admitIssue_archive (a : Nat) : (m.admitIssue a).seed.archive = m.seed.archive := by
  unfold Mach.admitIssue
  (repeat' split) <;> simp

@[simp] theorem Mach.takeEffect_archive (c : PlantCmd) (next : Nat) : (m.takeEffect c next).seed.archive = m.seed.archive := by
  unfold Mach.takeEffect
  (repeat' split) <;> simp [Mach.viewChanged]

@[simp] theorem Mach.dueCmd_archive (n : Nat) (c : PlantCmd) : (m.dueCmd n c).seed.archive = m.seed.archive := by
  unfold Mach.dueCmd
  (repeat' split) <;> simp [Mach.dropCmd]

@[simp] theorem Mach.admitted_archive (ctype issuer cseq : Nat) :
    (m.admitted ctype issuer cseq).seed.archive = m.seed.archive := by
  unfold Mach.admitted
  (repeat' split) <;> simp

@[simp] theorem Mach.commandRequest_archive (src cseq : Nat) : (m.commandRequest src cseq).seed.archive = m.seed.archive := by
  unfold Mach.commandRequest
  (repeat' split) <;> simp

@[simp] theorem Mach.provisional_archive : m.provisional.seed.archive = m.seed.archive := by
  unfold Mach.provisional
  dsimp only
  (repeat' split)
  · rfl
  · rfl
  · exact Mach.each_archive _ _ _ fun _ _ => rfl

@[simp] theorem Mach.coverView_archive (v : FastView) : (m.coverView v).seed.archive = m.seed.archive := by
  refine Mach.each_archive m _ _ fun e x => ?_
  split
  · rfl
  · exact Mach.each_archive _ _ _ fun _ _ => rfl

@[simp] theorem Mach.holdView_archive (v : FastView) (late : Bool) : (m.holdView v late).seed.archive = m.seed.archive := by
  simp [Mach.holdView]

@[simp] theorem Mach.sendViews_archive (n : Nat) : (m.sendViews n).seed.archive = m.seed.archive :=
  Mach.each_archive m _ _ fun _ _ => rfl

@[simp] theorem Mach.viewClose_archive : m.viewClose.seed.archive = m.seed.archive := by
  unfold Mach.viewClose
  dsimp only
  (repeat' split)
  · rfl
  · rfl
  · simp
  · rw [Mach.each_archive, Mach.updPlantCnt_seed, Mach.updPlant_seed, Mach.updPlant_seed]
    exact fun _ _ => rfl

@[simp] theorem Mach.repair_archive (src : Nat) (s : Summary) : (m.repair src s).seed.archive = m.seed.archive := by
  unfold Mach.repair
  dsimp only
  (repeat' split) <;> simp

@[simp] theorem Mach.allocCompute_archive (missed : Bool) : (m.allocCompute missed).seed.archive = m.seed.archive := by
  unfold Mach.allocCompute
  dsimp only
  (repeat' split) <;> simp

@[simp] theorem Mach.hashCheck_archive : m.hashCheck.seed.archive = m.seed.archive := by
  unfold Mach.hashCheck
  dsimp only
  (repeat' split) <;> simp

@[simp] theorem Mach.restStart_archive : m.restStart.seed.archive = m.seed.archive := by
  simp only [Mach.restStart]
  split <;> simp

@[simp] theorem Mach.restEnd_archive : m.restEnd.seed.archive = m.seed.archive := by
  unfold Mach.restEnd
  (repeat' split) <;> simp

@[simp] theorem Mach.allocInForce_archive (n : Nat) : (m.allocInForce n).seed.archive = m.seed.archive := by
  unfold Mach.allocInForce
  (repeat' split) <;> simp

@[simp] theorem Mach.joinAt_archive (n : Nat) : (m.joinAt n).seed.archive = m.seed.archive := by
  unfold Mach.joinAt
  (repeat' split) <;> simp

/-! ## The redundant pair -/

@[simp] theorem Mach.declareLost_archive : m.declareLost.seed.archive = m.seed.archive := by simp [Mach.declareLost]

@[simp] theorem Mach.checkpoint_archive (c : Option Checkpoint) (crcOk : Bool) (ogen : Nat) :
    (m.checkpoint c crcOk ogen).seed.archive = m.seed.archive := by
  unfold Mach.checkpoint
  (repeat' split) <;> simp

@[simp] theorem Mach.contentFrame_archive (epoch : Nat) (c : Summary) (ogen : Nat) :
    (m.contentFrame epoch c ogen).seed.archive = m.seed.archive := by
  unfold Mach.contentFrame
  split
  · rfl
  · exact Mach.pairFrame_archive m ogen _ fun _ => rfl

@[simp] theorem Mach.forwarded_archive (code effect task dur : Nat) (due : Bool) (ogen : Nat) :
    (m.forwarded code effect task dur due ogen).seed.archive = m.seed.archive := by
  unfold Mach.forwarded
  (repeat' split) <;> simp

@[simp] theorem Mach.pairConfig_archive (settings : List Nat) (inMode pcrc ogen : Nat) :
    (m.pairConfig settings inMode pcrc ogen).seed.archive = m.seed.archive := by
  unfold Mach.pairConfig
  split
  · rfl
  · exact Mach.pairFrame_archive m ogen _ fun _ => rfl

@[simp] theorem Mach.partnerAccept_archive : m.partnerAccept.seed.archive = m.seed.archive := by simp [Mach.partnerAccept]

@[simp] theorem Mach.takeback_archive (start ogen : Nat) : (m.takeback start ogen).seed.archive = m.seed.archive := by
  unfold Mach.takeback
  split
  · rfl
  · exact Mach.pairFrame_archive m ogen _ fun _ => rfl

@[simp] theorem Mach.releaseFrame_archive (start ogen : Nat) : (m.releaseFrame start ogen).seed.archive = m.seed.archive := by
  unfold Mach.releaseFrame
  split
  · rfl
  · exact Mach.pairFrame_archive m ogen _ fun _ => rfl

@[simp] theorem Mach.phaseRelease_archive (on : Bool) : (m.phaseRelease on).seed.archive = m.seed.archive := by
  unfold Mach.phaseRelease
  (repeat' split) <;> simp [Mach.startRelease]

@[simp] theorem Mach.handOver_archive (t : Takeback) : (m.handOver t).seed.archive = m.seed.archive := by simp [Mach.handOver]

@[simp] theorem Mach.takebackOver_archive (t : Takeback) : (m.takebackOver t).seed.archive = m.seed.archive := by
  simp [Mach.takebackOver]

@[simp] theorem Mach.takebackStart_archive : m.takebackStart.seed.archive = m.seed.archive := by
  unfold Mach.takebackStart
  (repeat' split) <;> simp

@[simp] theorem Mach.takebackHandover_archive : m.takebackHandover.seed.archive = m.seed.archive := by
  unfold Mach.takebackHandover
  (repeat' split) <;> simp

@[simp] theorem Mach.takebackEnd_archive : m.takebackEnd.seed.archive = m.seed.archive := by
  unfold Mach.takebackEnd
  (repeat' split) <;> simp

@[simp] theorem Mach.sigmaEpoch_archive : m.sigmaEpoch.seed.archive = m.seed.archive := by
  unfold Mach.sigmaEpoch
  (repeat' split) <;> simp

@[simp] theorem Mach.pairSlow_archive : m.pairSlow.seed.archive = m.seed.archive := by
  simp [Mach.pairSlow, Mach.announceTakeback]

/-! ## Thermal -/

@[simp] theorem Mach.ptConvert_archive (pt : Nat) (temp : Option Int) :
    (m.ptConvert pt temp).seed.archive = m.seed.archive := by
  unfold Mach.ptConvert
  (repeat' split) <;> simp

@[simp] theorem Mach.newDemand_archive (d : Rat) : (m.newDemand d).seed.archive = m.seed.archive := by simp [Mach.newDemand]

@[simp] theorem Mach.coolRole_archive (ff : Bool) : (m.coolRole ff).seed.archive = m.seed.archive := by
  unfold Mach.coolRole
  (repeat' split) <;> simp [Mach.coolLaw]

@[simp] theorem Mach.thermalDemand_archive : m.thermalDemand.seed.archive = m.seed.archive := by
  unfold Mach.thermalDemand
  (repeat' split) <;> simp

@[simp] theorem Mach.loseUnit_archive (u : Nat) : (m.loseUnit u).seed.archive = m.seed.archive := by simp [Mach.loseUnit]

@[simp] theorem Mach.coolStatus_archive (u : Nat) (data : List Nat) : (m.coolStatus u data).seed.archive = m.seed.archive := by
  unfold Mach.coolStatus
  (repeat' split) <;> simp

/-! ## CAN -/

@[simp] theorem Mach.updObj_archive (k : Nat) (f : CanObj → CanObj) : (m.updObj k f).seed.archive = m.seed.archive := by
  simp [Mach.updObj]

@[simp] theorem Mach.updChan_archive (ch : Nat) (f : CanChan → CanChan) : (m.updChan ch f).seed.archive = m.seed.archive := by
  simp [Mach.updChan]

@[simp] theorem Mach.canPend_archive (k : Nat) (data : List Nat) (due : Bool) :
    (m.canPend k data due).seed.archive = m.seed.archive := by simp [Mach.canPend]

@[simp] theorem Mach.canQueue_archive (ch : Nat) (f : CanFrame) : (m.canQueue ch f).seed.archive = m.seed.archive := by
  simp [Mach.canQueue]

@[simp] theorem Mach.canDeliver_archive (ch : Nat) (f : CanFrame) : (m.canDeliver ch f).seed.archive = m.seed.archive := by
  unfold Mach.canDeliver
  (repeat' split) <;> simp

@[simp] theorem Mach.canTransmit_archive (ch : Nat) (r : TxOutcome) : (m.canTransmit ch r).seed.archive = m.seed.archive := by
  unfold Mach.canTransmit
  (repeat' split) <;> simp [Mach.canFailed]

/-! ## Faults -/

@[simp] theorem Mach.reportFault_archive (s : Src) (params : List Nat) :
    (m.reportFault s params).seed.archive = m.seed.archive := by
  unfold Mach.reportFault
  (repeat' split) <;> simp

@[simp] theorem Mach.faultAck_archive (seq : Nat) : (m.faultAck seq).seed.archive = m.seed.archive := by simp [Mach.faultAck]

@[simp] theorem Mach.operatorWrite_archive (role : Nat) (f : Mach → Mach) (hf : ∀ y, (f y).seed.archive = y.seed.archive) :
    (m.operatorWrite role f).seed.archive = m.seed.archive := by simp [Mach.operatorWrite, hf]

@[simp] theorem Mach.afterClear_archive (s : Src) : (m.afterClear s).seed.archive = m.seed.archive := by
  unfold Mach.afterClear
  (repeat' split) <;> simp

@[simp] theorem Mach.faultClear_archive (seq : Nat) : (m.faultClear seq).seed.archive = m.seed.archive := by
  simp [Mach.faultClear]

@[simp] theorem Mach.injectWrite_archive (src chan dur role : Nat) :
    (m.injectWrite src chan dur role).seed.archive = m.seed.archive := by simp [Mach.injectWrite, Mach.inject]

@[simp] theorem Mach.finishInjection_archive (i : Injection) (result response : Nat) :
    (m.finishInjection i result response).seed.archive = m.seed.archive := by simp [Mach.finishInjection]

@[simp] theorem Mach.injectEnd_archive (response : Option Nat) : (m.injectEnd response).seed.archive = m.seed.archive := by
  unfold Mach.injectEnd
  (repeat' split) <;> simp

@[simp] theorem Mach.injectAbort_archive : m.injectAbort.seed.archive = m.seed.archive := by
  unfold Mach.injectAbort
  (repeat' split) <;> simp

/-! ## Firmware update -/

@[simp] theorem Mach.refuseImage_archive (k res fw : Nat) : (m.refuseImage k res fw).seed.archive = m.seed.archive := by
  simp [Mach.refuseImage]

@[simp] theorem Mach.imageHeader_archive (sid : Nat) (h : ImgHeader) (signerOk sigOk unwrapOk : Bool) :
    (m.imageHeader sid h signerOk sigOk unwrapOk).seed.archive = m.seed.archive := by
  unfold Mach.imageHeader
  (repeat' split) <;> simp

@[simp] theorem Mach.abandonLoad_archive : m.abandonLoad.seed.archive = m.seed.archive := by simp [Mach.abandonLoad]

@[simp] theorem Mach.confirmTrial_archive : m.confirmTrial.seed.archive = m.seed.archive := by
  simp only [Mach.confirmTrial]
  split <;> simp

@[simp] theorem Mach.bootRom_archive (authA authB : Bool) : (m.bootRom authA authB).seed.archive = m.seed.archive := by
  simp [Mach.bootRom, Mach.emptyLoading, Mach.rollBack, Mach.altSlot, Mach.recoveryLoader]

/-! ## The mailbox -/

@[simp] theorem Mach.updSession_archive (sid : Nat) (f : Session → Session) :
    (m.updSession sid f).seed.archive = m.seed.archive := by simp [Mach.updSession]

@[simp] theorem Mach.endSession_archive (sid : Nat) : (m.endSession sid).seed.archive = m.seed.archive := by
  simp [Mach.endSession]

@[simp] theorem Mach.sendFrame_archive (sid cmd status seg : Nat) (first more : Bool) (body : List Nat) :
    (m.sendFrame sid cmd status seg first more body).seed.archive = m.seed.archive := by
  unfold Mach.sendFrame
  (repeat' split) <;> simp

@[simp] theorem Mach.closeWrap_archive (sid : Nat) : (m.closeWrap sid).seed.archive = m.seed.archive := by
  unfold Mach.closeWrap
  (repeat' split) <;> simp

@[simp] theorem Mach.discardFrame_archive : m.discardFrame.seed.archive = m.seed.archive := by simp [Mach.discardFrame]

@[simp] theorem Mach.onFrame_archive (cmd : Nat) (f : MbxFrame) (k : Session → Mach → Mach)
    (hk : ∀ x y, (k x y).seed.archive = y.seed.archive) :
    (m.onFrame cmd f k).seed.archive = m.seed.archive := by
  unfold Mach.onFrame
  (repeat' split) <;> simp [hk]

@[simp] theorem Mach.authFailed_archive (source iface : Nat) : (m.authFailed source iface).seed.archive = m.seed.archive := by
  simp only [Mach.authFailed]
  split <;> simp

@[simp] theorem Mach.finish_archive (f : MbxFrame) (c : HostCert) : (m.finish f c).seed.archive = m.seed.archive := by
  unfold Mach.finish
  (repeat' split) <;> simp

@[simp] theorem Mach.sendSeg_archive (sid k : Nat) (again : Bool) : (m.sendSeg sid k again).seed.archive = m.seed.archive := by
  unfold Mach.sendSeg
  (repeat' split) <;> simp

@[simp] theorem Mach.respond_archive (sid : Nat) (r : Resp) (pool : Nat) :
    (m.respond sid r pool).seed.archive = m.seed.archive := by simp [Mach.respond]

@[simp] theorem Mach.respondStatus_archive (sid cmd status : Nat) :
    (m.respondStatus sid cmd status).seed.archive = m.seed.archive := by simp [Mach.respondStatus]

@[simp] theorem Mach.onRequest_archive (cmd : Nat) (f : MbxFrame) (k : Mach → Mach)
    (hk : ∀ y, (k y).seed.archive = y.seed.archive) :
    (m.onRequest cmd f k).seed.archive = m.seed.archive := by simp [Mach.onRequest, hk]

@[simp] theorem Mach.readRequest_archive (sid idx sub offset length : Nat) :
    (m.readRequest sid idx sub offset length).seed.archive = m.seed.archive := by
  unfold Mach.readRequest
  (repeat' split) <;> simp

@[simp] theorem Mach.takeCaptures_archive : m.takeCaptures.seed.archive = m.seed.archive := by
  refine Mach.each_archive m _ _ fun s x => ?_
  split <;> simp [Mach.captureOne, Mach.readDone]

@[simp] theorem Mach.captureBusy_archive : m.captureBusy.seed.archive = m.seed.archive := by
  refine Mach.each_archive m _ _ fun s x => ?_
  (repeat' split) <;> simp

@[simp] theorem Mach.relayFrame_archive (host port target : Nat) :
    (m.relayFrame host port target).seed.archive = m.seed.archive := by
  unfold Mach.relayFrame
  (repeat' split) <;> simp [Mach.relayRefuse]

@[simp] theorem Mach.relayReply_archive (id : Nat) : (m.relayReply id).seed.archive = m.seed.archive := by
  unfold Mach.relayReply
  (repeat' split) <;> simp

/-! ## Host writes -/

@[simp] theorem Mach.conditional_archive (ok : Bool) (f : Mach → Mach) (hf : ∀ y, (f y).seed.archive = y.seed.archive) :
    (m.conditional ok f).seed.archive = m.seed.archive := by simp [Mach.conditional, hf]

@[simp] theorem Mach.modeWrite_archive (f : Mach → Mach) (hf : ∀ y, (f y).seed.archive = y.seed.archive) :
    (m.modeWrite f).seed.archive = m.seed.archive := by simp [Mach.modeWrite, hf]

@[simp] theorem Mach.keepUnlock_archive (sid : Nat) (w : WriteVal) : (m.keepUnlock sid w).seed.archive = m.seed.archive := by
  unfold Mach.keepUnlock
  (repeat' split) <;> simp

@[simp] theorem Mach.deferWrites_archive (sid : Nat) (vals : List (Nat × Nat)) :
    (m.deferWrites sid vals).seed.archive = m.seed.archive := by simp [Mach.deferWrites]

@[simp] theorem Mach.respondWrite_archive (sid cmd status effect : Nat) :
    (m.respondWrite sid cmd status effect).seed.archive = m.seed.archive := by simp [Mach.respondWrite]

@[simp] theorem Mach.acceptValues_archive (s : Session) (cmd : Nat) (ws : List WriteVal) :
    (m.acceptValues s cmd ws).seed.archive = m.seed.archive := by simp [Mach.acceptValues]

@[simp] theorem Mach.setSelect_archive (v : Nat) : (m.setSelect v).seed.archive = m.seed.archive := by simp [Mach.setSelect]

@[simp] theorem Mach.parEffect_archive (idx sub v : Nat) : (m.parEffect idx sub v).seed.archive = m.seed.archive := by
  unfold Mach.parEffect
  (repeat' split) <;> simp [Mach.setUnits, Mach.canRestartDue, Mach.canTableEffect]

@[simp] theorem Mach.inForce_archive (w : PendWrite) : (m.inForce w).seed.archive = m.seed.archive := by
  unfold Mach.inForce
  (repeat' split) <;> simp [Mach.canHostData, Mach.canResume]

@[simp] theorem Mach.performAfter_archive (a : After) : (m.performAfter a).seed.archive = m.seed.archive := by
  unfold Mach.performAfter
  (repeat' split) <;> simp

/-! ## The nonvolatile store -/

@[simp] theorem Mach.commitPending_archive : m.commitPending.seed.archive = m.seed.archive := by
  unfold Mach.commitPending
  (repeat' split) <;> simp

@[simp] theorem Mach.journalCommit_archive : m.journalCommit.seed.archive = m.seed.archive := by
  unfold Mach.journalCommit
  (repeat' split) <;> simp

@[simp] theorem Mach.compactionDone_archive : m.compactionDone.seed.archive = m.seed.archive := by
  unfold Mach.compactionDone
  (repeat' split) <;> simp

/-! ## Clocks and resets -/

@[simp] theorem Mach.pressReset_archive (btn held : Bool) : (m.pressReset btn held).seed.archive = m.seed.archive := by
  simp [Mach.pressReset]

@[simp] theorem Mach.press_archive (btn : Bool) : (m.press btn).seed.archive = m.seed.archive := by simp [Mach.press]

@[simp] theorem Mach.unpress_archive (btn : Bool) (t : Nat) : (m.unpress btn t).seed.archive = m.seed.archive := by
  simp [Mach.unpress]

@[simp] theorem Mach.button_archive (pressed : Bool) : (m.button pressed).seed.archive = m.seed.archive := by
  unfold Mach.button
  (repeat' split) <;> simp

@[simp] theorem Mach.resetNPin_archive (low : Bool) : (m.resetNPin low).seed.archive = m.seed.archive := by
  unfold Mach.resetNPin
  (repeat' split) <;> simp

@[simp] theorem Mach.inputStuck_archive (btn : Bool) : (m.inputStuck btn).seed.archive = m.seed.archive := by
  unfold Mach.inputStuck
  (repeat' split) <;> simp

@[simp] theorem Mach.deferredPress_archive : m.deferredPress.seed.archive = m.seed.archive := by simp [Mach.deferredPress]

@[simp] theorem Mach.deferredDue_archive : m.deferredDue.seed.archive = m.seed.archive := by simp [Mach.deferredDue]

@[simp] theorem Mach.powerFail_archive (torn : Bool) : (m.powerFail torn).seed.archive = m.seed.archive := by
  unfold Mach.powerFail
  (repeat' split) <;> simp

/-! ## Observation -/

@[simp] theorem Mach.sendTrace_archive : m.sendTrace.seed.archive = m.seed.archive := by
  unfold Mach.sendTrace
  (repeat' split) <;> simp


/-! ## Boot -/

@[simp] theorem Mach.startDomain_archive : m.startDomain.seed.archive = m.seed.archive := by simp [Mach.startDomain]

@[simp] theorem Mach.countResets_archive (first : Bool) : (m.countResets first).seed.archive = m.seed.archive := by
  simp [Mach.countResets]

@[simp] theorem Mach.bootTests_archive (tests : Nat) : (m.bootTests tests).seed.archive = m.seed.archive := by
  simp [Mach.bootTests]

@[simp] theorem Mach.chargeStart_archive (gap : Nat) : (m.chargeStart gap).seed.archive = m.seed.archive := by
  simp [Mach.chargeStart, Mach.bridgePowerOn]

@[simp] theorem Mach.bootSettings_archive : m.bootSettings.seed.archive = m.seed.archive := by simp [Mach.bootSettings]

@[simp] theorem Mach.bootSeal_archive : m.bootSeal.seed.archive = m.seed.archive := by simp [Mach.bootSeal, Mach.siteClear]

@[simp] theorem Mach.standingDemands_archive : m.standingDemands.seed.archive = m.seed.archive := by
  refine Mach.each_archive m _ _ fun f x => ?_
  (repeat' split) <;> simp

@[simp] theorem Mach.bootDemands_archive : m.bootDemands.seed.archive = m.seed.archive := by simp [Mach.bootDemands]

/-! ## Epoch boundaries -/

theorem Mach.seed_withNow (t : Nat) : ({ m with now := t } : Mach).seed = m.seed := rfl

@[simp] theorem Mach.nextMilli_archive : m.nextMilli.seed.archive = m.seed.archive := by
  unfold Mach.nextMilli
  exact congrArg Seed.archive (Mach.seed_withNow m _)

@[simp] theorem Mach.supplyMeans_archive (supply power : Nat) : (m.supplyMeans supply power).seed.archive = m.seed.archive := by
  simp [Mach.supplyMeans]

@[simp] theorem Mach.procEpoch_archive (n : Nat) : (m.procEpoch n).seed.archive = m.seed.archive := by
  simp [Mach.procEpoch, Mach.captureEpoch, Mach.modeEpoch, Mach.applyPending, Mach.applyMode, Mach.commitCommissioning,
      Mach.plantEpoch, Mach.dueCmds, Mach.pwmEpoch, Mach.convEpoch, Mach.canCapture, Mach.pairEpoch, Mach.fabEpoch,
      Mach.restEpoch, Mach.zeroEpoch]

@[simp] theorem Mach.fastBoundary_archive (supply power : Nat) :
    (m.fastBoundary supply power).seed.archive = m.seed.archive := by
  have hstart : (m.nextMilli.supplyMeans supply power).deferredDue.podsExpire.seed.archive = m.seed.archive := by
    rw [Mach.podsExpire_archive, Mach.deferredDue_archive, Mach.supplyMeans_archive, Mach.nextMilli_archive]
  unfold Mach.fastBoundary
  dsimp only
  split
  · rw [Mach.procEpoch_archive, hstart]
  · exact hstart

@[simp] theorem Mach.minuteCommit_archive : m.minuteCommit.seed.archive = m.seed.archive := by simp [Mach.minuteCommit]

@[simp] theorem Mach.slowBoundary_archive : m.slowBoundary.seed.archive = m.seed.archive := by
  unfold Mach.slowBoundary
  dsimp only
  split
  · rfl
  · rw [Mach.minuteCommit_archive, Mach.updTherm_seed, Mach.pairSlow_archive, Mach.throughputEpoch_archive,
      Mach.updIso_seed, Mach.estRole_archive, Mach.impEpoch_archive, Mach.chainEpoch_archive]

end Sys2Proof.Machine
end

section
/-! PROOFS. The operations that do change the archive only add to it: the recorder's commit, clear and replay, the resets and the
flush that commit what is staged, and the host's writes, which reach three of them through their request objects. -/

namespace Sys2Proof.Machine

/-- An operation takes nothing of the archive back. -/
def Gathers (f : Mach → Mach) : Prop := ∀ m : Mach, m.seed.archive.Grows (f m).seed.archive

theorem gathers_of_keeps {f : Mach → Mach} (h : ∀ m, (f m).seed.archive = m.seed.archive) : Gathers f := fun m => by rw [h]

theorem Gathers.ite {p : Prop} [Decidable p] {f g : Mach → Mach} (hf : Gathers f) (hg : Gathers g) :
    Gathers (if p then f else g) := by
  split
  · exact hf
  · exact hg

theorem Mach.seed_grows_of_keeps {m m' : Mach} (h : m'.seed.archive = m.seed.archive) :
    m.seed.archive.Grows m'.seed.archive := h ▸ .refl _

theorem each_gathers {α : Type} {f : α → Mach → Mach} {l : List α} (h : ∀ x ∈ l, Gathers (f x)) :
    Gathers fun m => m.each l f := by
  induction l with
  | nil => exact fun m => .refl _
  | cons x l ih =>
    exact fun m => (h x List.mem_cons_self m).trans (ih (fun y hy => h y (List.mem_cons_of_mem x hy)) (f x m))

/-! ## The recorder's own commands (R379, R387) -/

theorem Mach.commitRecord_grows (m : Mach) : m.seed.archive.Grows m.commitRecord.seed.archive := by
  unfold Mach.commitRecord
  split
  · exact .refl _
  · rw [Mach.reportLost_archive]
    exact m.seed.commitOne_grows

theorem Mach.clearStart_grows (m : Mach) (what iface cert : Nat) :
    m.seed.archive.Grows (m.clearStart what iface cert).seed.archive := m.seed.commitAll_grows

theorem Mach.clearWrite_grows (m : Mach) (what role iface cert : Nat) :
    m.seed.archive.Grows (m.clearWrite what role iface cert).seed.archive := by
  unfold Mach.clearWrite
  dsimp only
  (repeat' split)
  · exact .refl _
  · exact .refl _
  · exact .refl _
  · exact (m.updSeed fun d => { d with clearRequest := what }).clearStart_grows what iface cert

theorem Mach.clearDone_grows (m : Mach) : m.seed.archive.Grows m.clearDone.seed.archive := by
  unfold Mach.clearDone
  split
  · exact .refl _
  · exact m.seed.finishClear_grows _

/-! ## Resets, the flush and the release (R384, R401, R450, R467) -/

theorem Mach.activate_grows (m : Mach) : m.seed.archive.Grows m.activate.seed.archive := by
  unfold Mach.activate
  dsimp only
  split
  · rw [Mach.procReset_archive, Mach.emit_seed, Mach.updSeed_seed]
    refine Archive.Grows.trans ?_ (Seed.commitAll_grows _)
    rw [Mach.record_archive, Mach.updUpd_seed]
  · exact .refl _

theorem Mach.resetRequest_grows (m : Mach) : m.seed.archive.Grows m.resetRequest.seed.archive := by
  unfold Mach.resetRequest
  rw [Mach.procReset_archive]
  exact m.seed.commitAll_grows

theorem Mach.flushDone_grows (m : Mach) (dur : Nat) : m.seed.archive.Grows (m.flushDone dur).seed.archive := by
  unfold Mach.flushDone
  split
  · rw [Mach.deferredPress_archive]
    unfold Mach.flush
    dsimp only
    rw [Mach.updNv_seed, Mach.updNv_seed, Mach.each_archive _ _ _ fun _ x => x.commitPending_archive]
    exact m.seed.commitAll_grows
  · exact .refl _

theorem Mach.seedReplay_grows (m : Mach) (r : BootReport) : m.seed.archive.Grows (m.seedReplay r).seed.archive := by
  unfold Mach.seedReplay
  simp only [Mach.damagedRegion_archive, Mach.updSeed_seed]
  refine ⟨?_, ?_, le_refl _, fun k e _ _ he => ?_⟩
  · simp [Seed.archive, Function.comp_def]
  · simp [Seed.archive]
  · refine ⟨{ e with damaged := e.damaged || r.badLedger.contains e.lseq }, ?_, rfl⟩
    have hmap := aget?_map (fun e : LedgerEntry => { e with damaged := e.damaged || r.badLedger.contains e.lseq }) k
      m.seed.ledger
    rw [show aget? m.seed.ledger k = some e from he] at hmap
    exact hmap

theorem Mach.chargeStart_when_archive (m : Mach) (b : Bool) (gap : Nat) :
    (m.when b fun x => x.chargeStart gap).seed.archive = m.seed.archive := by
  cases b
  · rfl
  · exact m.chargeStart_archive gap

theorem Mach.release_grows (m : Mach) (r : BootReport) : m.seed.archive.Grows (m.release r).seed.archive := by
  unfold Mach.release
  dsimp only
  (repeat' split)
  · exact .refl _
  · rw [Mach.bootSettings_archive, Mach.updMode_seed, Mach.chargeStart_when_archive]
    refine Archive.Grows.trans ?_ (Mach.seedReplay_grows _ r)
    simp
  · rw [Mach.updMode_seed, Mach.standingDemands_archive, Mach.bootDemands_archive, Mach.bootSeal_archive,
      Mach.bridgeHeld_archive, Mach.bootSettings_archive, Mach.bootTests_archive, Mach.injTest, Mach.updIso_seed,
      Mach.chainRole, Mach.updChain_seed, Mach.chargeStart_when_archive]
    refine Archive.Grows.trans ?_ (Mach.seedReplay_grows _ r)
    simp

/-! ## Requests of the host (R421, R422) -/

theorem plantWrite_gathers {role : Nat} {w : WriteVal} {f : Mach → Mach} (h : Mach.plantWrite role w = some f) : Gathers f := by
  unfold Mach.plantWrite at h
  dsimp only at h
  split at h
  case h_8 => cases h
  all_goals
    cases h
    exact gathers_of_keeps fun m => m.plantRequest_archive ..

theorem unitRequest_gathers {s : Session} {w : WriteVal} {f : Mach → Mach} (h : Mach.unitRequest s w = some f) : Gathers f := by
  have hid : Gathers id := fun _ => .refl _
  unfold Mach.unitRequest at h
  dsimp only at h
  split at h
  case h_11 => cases h; exact fun m => m.clearWrite_grows ..
  case h_14 => cases h; exact Gathers.ite Mach.activate_grows hid
  case h_16 => cases h; exact Gathers.ite Mach.resetRequest_grows hid
  case h_17 => cases h
  case h_2 | h_3 | h_4 | h_5 | h_7 | h_15 => 
    cases h
    exact Gathers.ite (gathers_of_keeps fun m => by simp [Mach.acceptWrite, Mach.confirm]) hid
  all_goals
    cases h
    exact gathers_of_keeps fun m => by simp [Mach.imageChunk]

theorem requestOf_gathers {s : Session} {w : WriteVal} {f : Mach → Mach} (h : requestOf s w = some f) : Gathers f := by
  unfold requestOf at h
  split at h
  · cases h; exact unitRequest_gathers ‹_›
  · exact plantWrite_gathers h

theorem Mach.makeRequest_grows {f : Mach → Mach} (hf : Gathers f) (m : Mach) (sid cmd : Nat) :
    m.seed.archive.Grows (m.makeRequest sid cmd f).seed.archive := by
  have hanswer (x : Mach) (st e : Nat) : (if statusOk st = true then x.respondWrite sid cmd st e
      else x.respondStatus sid cmd st).seed.archive = x.seed.archive := by simp
  unfold Mach.makeRequest
  dsimp only
  split
  · rw [hanswer]; exact hf m
  · exact Archive.Grows.trans (Mach.seed_grows_of_keeps (hanswer ..)) (hf _)

theorem Mach.onFrame_grows {k : Session → Mach → Mach} (hk : ∀ s, Gathers (k s)) (m : Mach) (cmd : Nat) (f : MbxFrame) :
    m.seed.archive.Grows (m.onFrame cmd f k).seed.archive := by
  unfold Mach.onFrame
  (repeat' split)
  · exact .refl _
  · rw [Mach.closeWrap_archive]
    refine Archive.Grows.trans ?_ (hk _ _)
    rw [Mach.updSession_archive]
  · exact Mach.seed_grows_of_keeps (by simp)

theorem Mach.onRequest_grows {k : Mach → Mach} (hk : Gathers k) (m : Mach) (cmd : Nat) (f : MbxFrame) :
    m.seed.archive.Grows (m.onRequest cmd f k).seed.archive := by
  refine Mach.onFrame_grows (fun s x => ?_) m cmd f
  dsimp only
  (repeat' split)
  case isTrue.isFalse.isFalse =>
    refine Archive.Grows.trans ?_ (hk _)
    rw [Mach.updSession_archive]
  all_goals exact Mach.seed_grows_of_keeps (by simp)

theorem Mach.write_grows (m : Mach) (sid : Nat) (w : WriteVal) : m.seed.archive.Grows (m.write sid w).seed.archive := by
  unfold Mach.write
  dsimp only
  (repeat' split)
  · exact .refl _
  · exact Mach.seed_grows_of_keeps (by simp)
  · have h := Mach.makeRequest_grows (requestOf_gathers ‹_›) (m.keepUnlock sid w) sid 0x12
    rwa [Mach.keepUnlock_archive] at h
  · exact Mach.makeRequest_grows (requestOf_gathers ‹_›) m sid 0x12
  · exact Mach.seed_grows_of_keeps (by simp)

theorem Mach.writeFrame_grows (m : Mach) (f : MbxFrame) (w : WriteVal) :
    m.seed.archive.Grows (m.writeFrame f w).seed.archive :=
  Mach.onRequest_grows (fun x => x.write_grows f.sid w) m 0x12 f

theorem Mach.writeSet_grows (m : Mach) (sid : Nat) (ws : List WriteVal) :
    m.seed.archive.Grows (m.writeSet sid ws).seed.archive := by
  unfold Mach.writeSet
  split
  case h_1 => exact .refl _
  rename_i s _
  have hact : Gathers fun x => x.each (ws.filterMap fun w => requestOf s w) fun f y => f y :=
    each_gathers fun f hf => by
      obtain ⟨w, -, hw⟩ := List.mem_filterMap.1 hf
      exact requestOf_gathers hw
  have hunlock : (m.each ws fun w x => x.keepUnlock sid w).seed.archive = m.seed.archive :=
    Mach.each_archive _ _ _ fun w x => x.keepUnlock_archive sid w
  dsimp only
  (repeat' split)
  · exact Mach.seed_grows_of_keeps (by simp)
  · exact Mach.seed_grows_of_keeps (by simp)
  · rw [← hunlock]; exact Mach.makeRequest_grows hact _ sid 0x13
  · rw [Mach.acceptValues_archive, ← hunlock]; exact hact _
  · refine Archive.Grows.trans ?_ (hact _)
    rw [Mach.acceptValues_archive, hunlock]

end Sys2Proof.Machine
end

section
/-! PROOFS. Every command adds to the archive and takes nothing back; what O58 and O59 say of the vault and the ledger follows. -/

namespace Sys2Proof.Machine

variable {f : Mach → Mach} {s t : State}

/-! ## Under the wrappers -/

theorem grows_of_onFox (h : onFox f s = .next t) (hf : Gathers f) : s.m.seed.archive.Grows t.m.seed.archive := by
  cases h
  simpa using hf { s.m with out := [] }

theorem grows_of_onPowered (h : onPowered f s = .next t) (hf : Gathers f) : s.m.seed.archive.Grows t.m.seed.archive := by
  refine grows_of_onFox (f := fun m => if m.clk.powered then f m else m) h fun m => ?_
  by_cases hp : m.clk.powered = true
  · simpa [hp] using hf m
  · simp [hp]

theorem grows_of_onProc (h : onProc f s = .next t) (hf : Gathers f) : s.m.seed.archive.Grows t.m.seed.archive := by
  refine grows_of_onFox (f := fun m => if m.clk.procRunning then f m else m) h fun m => ?_
  by_cases hp : m.clk.procRunning = true
  · simpa [hp] using hf m
  · simp [hp]

theorem grows_of_onHeartbeat {present : Bool} (h : onHeartbeat present f s = .next t) (hf : Gathers f) :
    s.m.seed.archive.Grows t.m.seed.archive := by
  refine grows_of_onPowered (f := fun m =>
    (m.when m.paired fun x => x.heartbeatLine present).when m.clk.procRunning f) h fun m => ?_
  have hline : (m.when m.paired fun x => x.heartbeatLine present).seed.archive = m.seed.archive := by
    simp [Mach.heartbeatLine]
  dsimp only
  by_cases hp : m.clk.procRunning = true
  · rw [hp, Mach.when_true, ← hline]; exact hf _
  · rw [eq_false_of_ne_true hp, Mach.when_false, hline]

/-! ## The commands, by chapter and wrapper -/

theorem exec_grows {c : Instr} (h : exec c s = .next t) : s.m.seed.archive.Grows t.m.seed.archive := by
  unfold exec at h
  cases c with
  | busTransaction | memoryEccError | almondCoreLost | mergeResult =>
    exact grows_of_onProc h fun m => by simp [Mach.eccError, Mach.mergeResult]
  | bootExit | slowEpochBoundary | modeRequest | prechargeTimeout | shutdownOpen | shutdownTimeout | lockoutClearArm
  | maintenanceTaskComplete | commissionC6Start | baselineDeferral | commissioningAccept | stepRetry =>
    exact grows_of_onProc h fun m => by
      simp [Mach.bootExit, Mach.exitFour, Mach.bootFaults, Mach.standingFaults, Mach.bootTrip, Mach.prechargeTimeout,
        Mach.shutdownOpen, Mach.shutdownTimeout, Mach.c6Start]
  | powerOnResetRelease | fastEpochBoundary | lockoutArmExpired =>
    exact grows_of_onFox h fun m => by simp [Mach.powerOn, Mach.loopRole, Mach.armExpired]
  | processorDomainRelease r => exact grows_of_onFox h fun m => m.release_grows r
  | chainEnumeration | commissionC4Check | sample | read | dataReply | readOne | sweepClose | echo | config | reverseSample
  | farEndReadout | chainReplyRelay | lineTakeover | lineMastershipReturn =>
    exact grows_of_onProc h fun m => by
      simp [Mach.chainEnumeration, Mach.bootList, Mach.stepC2, Mach.c4Check, Mach.sample, Mach.readAll, Mach.dataReply,
        Mach.readOne, Mach.echo, Mach.config, Mach.reverseSample, Mach.farReadout, Mach.replyRelay, Mach.lineTakeover,
        Mach.lineReturn]
  | streamFrame | isolatedStreamLoss | streamRecovered | hallLost | hallRecovered | injectorStart | injectorStop
  | injectionHalfPeriod | isoBackoffEnd =>
    exact grows_of_onProc h fun m => by
      simp [Mach.streamFrame, Mach.takeCounts, Mach.streamLoss, Mach.streamRecovered, Mach.hallGone, Mach.hallBack,
        Mach.injStart, Mach.injStop, Mach.backoffEnd]
  | chargeSample | sectionClockHoldover | sectionClockReturn | sectionRestart | currentComparator =>
    exact grows_of_onPowered h fun m => by simp [Mach.sectionHoldover, Mach.sectionRestart]
  | binStart | exciteRef | binWindowEnd | corrRead | correlationReply | binWrite | passStart | ageingUpdate | baselineRequest =>
    exact grows_of_onProc h fun m => by simp [Mach.corrReply, Mach.passStart]
  | modelStep | qualifyingRest | restCorrection | referenceAged | estimatorInit | estimator | leadValuesMissing =>
    exact grows_of_onProc h fun m => by simp [Mach.qualifyRest, Mach.restAgain, Mach.referenceAged, Mach.estInit]
  | bleed | balancingDecision | masks =>
    exact grows_of_onProc h fun m => by simp [Mach.bleedSend, Mach.sweepNow, Mach.balDecide, Mach.takeMasks]
  | dutyCommand | pwmCommandStale | carrierValley | ownershipRelease | ownershipAcquire | fastTripRearm | bitstreamFault
  | bitstreamValid | offsetZero | cycleByCycleLimit | syncInEdge | syncHoldover | syncGlide | syncGlideEnd =>
    exact grows_of_onProc h fun m => by
      simp [Mach.commandStale, Mach.valley, Mach.acquireReq, Mach.rearmRequest, Mach.refuseRearm, Mach.rearm, Mach.streamValid,
        Mach.offsetZero, Mach.cbcLimit, Mach.syncEdge, Mach.syncHoldover, Mach.syncGlide, Mach.syncGlideEnd]
  | interlockBlock =>
    exact grows_of_onPowered h fun m => by simp [Mach.interlockBlock]
  | ownLineDeassert | pwmGateRelease | fastTrip =>
    exact grows_of_onFox h fun m => by simp [Mach.lineOff, Mach.gateOpen, Mach.gateRelease, Mach.fastTrip]
  | outerPeriod | phaseLoopUpdate | phaseState | softStart | softStopRamp | dipPulseEnd | dipFloorRelease
  | prechargeStageComplete | kPreRelease | fastTripRestart | phaseLossCheck | phaseReenable | senseMismatchTimeout =>
    exact grows_of_onProc h fun m => by
      simp [Mach.softStopRamp, Mach.dipRelease, Mach.preRelease, Mach.orderRestart, Mach.reenable, Mach.senseTimeout]
  | busDip =>
    exact grows_of_onPowered h fun m => by simp [Mach.busDip, Mach.dipRise]
  | transceiverInserted | transceiverCheck | blockLock | helloSend | helloFrame | portDown | portHoldDownEnd | pdelaySend
  | pdelay | lsa | lsaRefresh | lsaAged | addressClaim | claimListenEnd | claimWaitEnd | claim | addressEstablished
  | frameForward | sync | announceSend | announce | grandmasterElection | timeHoldover | ptpSync | safeMessageSend | safeFrame
  | safeCopyMissing | safeConnectionTimeout =>
    exact grows_of_onProc h fun m => by
      simp [Mach.inserted, Mach.pageRead, Mach.helloSend, Mach.helloFrame, Mach.pairHello, Mach.portDown, Mach.pdelaySend,
        Mach.lsa, Mach.lsaAged, Mach.addressClaim, Mach.listenEnd, Mach.waitEnd, Mach.claim, Mach.established,
        Mach.frameForward, Mach.syncFrame, Mach.announce, Mach.gmElection, Mach.becomeGm, Mach.toHoldover, Mach.ptpSync,
        Mach.safeSend, Mach.safeFrame, Mach.plantStopEnd, Mach.safeCopyMissing, Mach.safeTimeout]
  | plantJoinTimeout | tieMaskRequest | fastSummarySend | fastSummary | slowRecordSend | slowRecordHead | bodyRequest
  | bodyPart | headRequest | provisionalView | viewClose | recordRequest | slowViewClose | allocationCompute | hashCheck
  | allocHoldWithdraw | viewFounding | admitIssue | removeIssue | membershipLeave | membershipViewTransfer
  | plantCommandReceived | commandRequest | mode | plantPower | stringLimit | tieMask | busVoltage | plantParam | admitMember
  | remove | plantPowerRequest | balancingGainRequest | restConcurrencyRequest | stringLimitRequest | plantModeRequest
  | plantBusVoltageRequest | restSlotStart | restSlotEnd =>
    exact grows_of_onProc h fun m => by
      simp [Mach.joinTimeout, Mach.takeAlone, Mach.fastSummary, Mach.slowSend, Mach.slowHead, Mach.bodyPart, Mach.holdWithdraw,
        Mach.viewFounding, Mach.removeIssue, Mach.membershipLeave, Mach.viewTransfer, Mach.plantCommand]
  | heartbeatToggle | takeoverAcquisition | alive | aliveTimeout | checkpoint | content | takebackReady | takeback
  | takebackStart | takebackHandover | takebackEnd | phaseRelease | release | partnerAccept | request | pairConfig =>
    exact grows_of_onProc h fun m => by
      simp [Mach.heartbeat, Mach.takeoverAcquire, Mach.startFrom, Mach.alive, Mach.partnerCommissioned, Mach.aliveTimeout,
        Mach.takebackReady]
  | partnerHeartbeatLost | heartbeatPresent =>
    exact grows_of_onHeartbeat h fun m => by simp [Mach.heartbeatLost, Mach.heartbeatPresent]
  | heartbeatLapse =>
    exact grows_of_onFox h fun m => by simp [Mach.heartbeatLapse]
  | walnutSweepEvaluation | siDiscrepancy | si6Cancelled | uvEscalation | dischargeStopRelease | coilSwitchTest
  | contactorPickup | contactorDropout | contactorLost | contactorHeld =>
    exact grows_of_onProc h fun m => by
      simp [Mach.siDiscrepancy, Mach.uvEscalate, Mach.dischargeRelease, Mach.coilTest, Mach.pickupFail, Mach.dropoutFail,
        Mach.contactorLost, Mach.contactorHeld]
  | alarmLoopBroken | loopSourceTakeover | inputSample | foxgloveOcDemand | ptOvertemp | testPulse | safetyInputDemand
  | ventilationDemand | switchRead | weldedContact =>
    exact grows_of_onPowered h fun m => by
      simp [Mach.loopBreak, Mach.takeSource, Mach.foxOc, Mach.switchRead, Mach.weldedContact]
  | coilOpen | holdRelease | contactorForcedOpen | tripRelease | alarmLoopRestored =>
    exact grows_of_onFox h fun m => by
      simp [Mach.coilOpen, Mach.holdRelease, Mach.forcedOpen, Mach.tripRelease, Mach.loopRestored]
  | thermalDemand | thermalFallback | fanSpeed | fanLost | fanRecovered | coolDemand | coolStatus | coolantUnitLost =>
    exact grows_of_onProc h fun m => by
      simp [Mach.thermalFallback, Mach.fanSpeed, Mach.loseFan, Mach.recoverFan, Mach.coolDemand, Mach.unitTimeout]
  | ptConversion =>
    exact grows_of_onPowered h fun m => by simp
  | faultRaise | countingEvent | faultAcknowledge | faultClear | collectorSelf | faultInjection | injectionEnd | injectionAbort =>
    exact grows_of_onProc h fun m => by simp [Mach.collectorSelf]
  | recordCreate =>
    exact grows_of_onProc h fun m => by simp [Mach.createRecord]
  | recordCommit => exact grows_of_onProc h Mach.commitRecord_grows
  | recorderClear what role iface cert => exact grows_of_onProc h fun m => m.clearWrite_grows what role iface cert
  | recorderClearDone => exact grows_of_onProc h Mach.clearDone_grows
  | journalCommit | compactionStart | compactionComplete =>
    exact grows_of_onProc h fun m => by simp [Mach.compactionStart]
  | hello | finish | close | keepalive | mailboxRead | readSet | ack | abort | relayFrame | relayReply | relayEntryExpiry
  | sessionTimeout | expertUnlockExpiry | transferTimeout | capture | captureBusy | writeEffect | addressConfigEffect
  | fragmentTimeout =>
    exact grows_of_onProc h fun m => by
      simp [Mach.hello, Mach.refuseHello, Mach.closeFrame, Mach.keepalive, Mach.readSet, Mach.ack, Mach.abortFrame,
        Mach.relayExpiry, Mach.sessionTimeout, Mach.unlockExpiry, Mach.transferTimeout, Mach.writeEffect, Mach.addrEffect,
        Mach.fragTimeout]
  | hostPortLinkChange =>
    exact grows_of_onPowered h fun m => by simp [Mach.linkChange]
  | write | expertUnlock =>
    exact grows_of_onProc h fun m => m.writeFrame_grows _ _
  | writeSet f ws => exact grows_of_onProc h fun m => Mach.onRequest_grows (fun x => x.writeSet_grows f.sid ws) m 0x13 f
  | canFrameReceived | canQueueDrain | canPeriodic | canTransmit | canBusOffRecovery | canChannelRestart | canIntegration =>
    exact grows_of_onProc h fun m => by
      simp [Mach.canReceive, Mach.canDrain, Mach.canPeriodic, Mach.canRecover, Mach.canRestart, Mach.canIntegrate]
  | canObjectDataWrite | canObjectTableWrite | canObjectResume =>
    exact grows_of_onProc h fun m => m.writeFrame_grows _ _
  | imageBodyCheck | loadAbandoned | trialTimeExpiry =>
    exact grows_of_onProc h fun m => by simp [Mach.bodyCheck, Mach.loadTimeout, Mach.trialTime]
  | bootstrapWindowEnd =>
    exact grows_of_onFox h fun m => by simp [Mach.bootstrapEnd]
  | imageHeader | imageChunk | activate | confirm | trustAnchorsWrite =>
    exact grows_of_onProc h fun m => m.writeFrame_grows _ _
  | watchdogReset =>
    exact grows_of_onProc h fun m => by simp
  | clockFail | clockRecovery | resetButton | resetN | resetInputStuck | stuckInputClear | brownOutWarning | supplyRecovery
  | powerFail | supplyHigh =>
    exact grows_of_onFox h fun m => by
      simp [Mach.clockFailed, Mach.clockBack, Mach.stuckClear, Mach.brownOut, Mach.capConverter, Mach.supplyBack]
  | resetRequest =>
    exact grows_of_onProc h fun m => m.writeFrame_grows _ _
  | brownOutFlushDone dur => exact grows_of_onProc h fun m => m.flushDone_grows dur
  | traceRecord entry =>
    exact grows_of_onProc h fun m => by cases entry <;> simp

theorem step_grows (h : step s = .next t) : s.m.seed.archive.Grows t.m.seed.archive := by
  unfold step at h
  split at h
  · cases h; exact .refl _
  · rename_i c rest _
    exact exec_grows (s := { s with pending := rest }) h

/-- Settles O58: a store by its two cases, VAULT_FULL as the status's lowest bit, and every step by what it does to the
archive. -/
theorem vaultKeepsTheFirstRecords : Obligations.VaultKeepsTheFirstRecords := by
  unfold Obligations.VaultKeepsTheFirstRecords
  refine ⟨fun d r => ⟨d.store_getLast? r, fun hroom => ?_, fun hfull => ?_⟩, seedStatus_bit_zero, fun s t h => ?_⟩
  · simp [Seed.store, hroom]
  · simp [Seed.store, Nat.not_lt.2 hfull]
  · obtain ⟨hvault, hfull, -, -⟩ := step_grows h
    exact ⟨hvault, hfull⟩

/-- Settles O59: the slots by arithmetic, every step by what it does to the archive, and a clear and an entry's bytes by their
definitions. -/
theorem firstLedgerEntriesArePermanent : Obligations.FirstLedgerEntriesArePermanent := by
  unfold Obligations.FirstLedgerEntriesArePermanent
  refine ⟨fun n _ h => ledgerSlot_of_le h, fun n h => ledgerSlot_turn h, fun s t h => ?step, rfl, fun d c => ?clear,
    fun e he => LedgerEntry.bytes_of_not_damaged he⟩
  case step =>
    obtain ⟨-, -, hseq, hledger⟩ := step_grows h
    exact ⟨hseq, hledger⟩
  case clear =>
    refine ⟨rfl, rfl, rfl, rfl, rfl, rfl, rfl, fun first last hring hfirst hlast => ?_, fun hkept => ?_⟩
    · simp [SeedClear.entry, hring, hfirst, hlast]
    · simp [SeedClear.entry, hkept]

end Sys2Proof.Machine
end
